-- ==== Sys2Proof/Word.lean ====
section
/-! DEFINITION. Bytes, words and the small containers the state is made of (00 R7: little-endian structures). -/

namespace Sys2Proof.Machine

/-- One byte. -/
abbrev Byte := BitVec 8

/-- One 32-bit word of the host bus (02 R23). -/
abbrev Word := BitVec 32

/-- A run of bytes, lowest address first. -/
abbrev Bytes := List Byte

/-- A table from numbers to records, sorted by number, in which an unlisted number reads as the table's default. -/
abbrev Tab (α : Type) := List (Nat × α)

/-- One value for each of the three radios. -/
structure Tri (α : Type) where
  lb : α
  mb : α
  hb : α
  deriving DecidableEq, Repr

/-- One value for each of two: the two client networks, or the two pipelines. -/
structure Duo (α : Type) where
  fst : α
  snd : α
  deriving DecidableEq, Repr

/-- The three radios (03 R57). -/
inductive Radio where
  | lb | mb | hb
  deriving DecidableEq, Repr

/-- The two client networks (06 R162). -/
inductive Net where
  | lb | mb
  deriving DecidableEq, Repr

/-- The two router pipelines (12 R339). -/
inductive Pipe where
  | wire | air
  deriving DecidableEq, Repr

/-- The device's power states; OFF is the absence of VDD_AON (16 R446). -/
inductive PState where
  | active | doze | nap | hibernate | off
  deriving DecidableEq, Repr

end Sys2Proof.Machine
end

