-- ==== Sys2Proof/Types.lean ====
section
/-! DEFINITION. The kinds of value that commands carry and the state holds. -/

namespace Sys2Proof.Machine

/-- The types of parameters, in the order of their codes (02 R495). -/
inductive PType where
  | u8 | s8 | u16 | s16 | u32 | s32 | u64 | bool | enum | mac | bytes
  deriving DecidableEq, Repr

/-- Parameter access (02 R43). -/
inductive Access where
  | rw | ro | wo
  deriving DecidableEq, Repr

/-- Commit classes, in the order of their codes (02). -/
inductive CommitClass where
  | immediate | slotframe | superframe | spanEvent | gateCycle | time | reset
  deriving DecidableEq, Repr

/-- A parameter's value: a number, or bytes for the type BYTES. A MAC address is the number its octets spell, first octet
most significant. -/
inductive PVal where
  | num (i : Int)
  | bytes (b : Bytes)
  deriving DecidableEq, Repr

/-- A parameter's default: a value, none, or one that a strap or a factory item sets (02 R495). -/
inductive PDefault where
  | val (v : PVal)
  | absent
  | strapHostif
  | strapMaster
  | macBase
  | linkAddr
  | hopSeq
  | dscp
  deriving DecidableEq, Repr

/-- An in-band request frame as it arrives on a port (02 R28). -/
structure InbandReq where
  port : Nat
  etype : Nat
  vlan : Nat
  src : Nat
  seq : Nat
  addr : Nat
  len : Nat
  data : Bytes
  deriving DecidableEq, Repr

/-- An in-band message as the device sends it: a response or a notify (02 R28). -/
structure InbandMsg where
  op : Nat
  dst : Nat
  seq : Nat
  addr : Nat
  len : Nat
  status : Nat
  data : Bytes
  deriving DecidableEq, Repr

/-- The six straps (18 R482). -/
structure Straps where
  boot : Nat := 0
  cascId : Nat := 0
  masterPref : Bool := false
  hostif : Bool := false
  deriving DecidableEq, Repr

/-- The units that execute operations (11 R315). -/
inductive UnitKind where
  | core | cipher | hash | mover | delay
  deriving DecidableEq, Repr

/-- A node of a graph template (11 R315). `outs` names the input, as (node, input), that each output arrives at. -/
structure TplNode where
  inputs : Nat
  outs : List (Nat × Nat)
  kind : UnitKind
  prio : Nat
  mask : Nat
  completion : Bool
  delay : Nat
  deriving DecidableEq, Repr

/-- A resident template: its version tag and nodes (11 R315). -/
structure Template where
  version : Nat
  nodes : List TplNode
  deriving DecidableEq, Repr

/-- An interrupt source as Eotre sets it up (11 R326). -/
structure IrqCfg where
  level : Nat
  targets : Nat
  home : Nat
  group : Option Nat
  deriving DecidableEq, Repr

/-- A coalescing group as Eotre sets it up (11 R331). -/
structure GroupCfg where
  count : Nat
  timeUs : Nat
  deriving DecidableEq, Repr

/-- What the Eotre image brings: templates by slot, interrupt sources, coalescing groups (11). -/
structure EotreImage where
  templates : Tab Template
  irqs : Tab IrqCfg
  groups : Tab GroupCfg
  deriving DecidableEq, Repr

/-- What a core finishes: an operation of an instance, or the handler it runs (11 R319, R328). -/
inductive JobRef where
  | op (inst node : Nat)
  | handler (core : Nat)
  deriving DecidableEq, Repr

/-- The two real-time DRAM ports (15 R427). -/
inductive RtPort where
  | firn | txf
  deriving DecidableEq, Repr

/-- The wake sources (16 R450). -/
inductive WakeSource where
  | scheduled | aonTimer | mser | thaw | mainsRise | mainsFall | holdup
  deriving DecidableEq, Repr

/-- What an SRAM or DRAM word that is found in error holds (15 R422, 17 R463). -/
inductive EccContent where
  | rime (inst : Nat)
  | frame (inst : Nat)
  | firnContext (ctx : Nat)
  | eotreCode (inst node : Nat)
  | instanceData (inst : Nat)
  | sharedData
  | runningImage
  | nvRecord (id : Nat) (copyB : Bool)
  deriving DecidableEq, Repr

/-- The memories that check their words (15 R422, R434, R440), in the order of EV_ECC_UNCORRECTED's codes. -/
inductive MemKind where
  | sram | dram | nv
  deriving DecidableEq, Repr

/-- An error found by a memory read (15 R422, R434, R440). -/
structure EccError where
  mem : MemKind
  double : Bool
  addr : Nat
  unit : Nat
  bank : Nat
  content : EccContent
  deriving DecidableEq, Repr

/-- What a cipher graph node's request belongs to (10 R289-R299). -/
inductive GraphKind where
  /-- a request that no counter rule binds, for a use of bit `use_` of the usage byte -/
  | other (use_ : Nat)
  /-- a transmitting graph that takes its slot's counter -/
  | transmit (use_ : Nat)
  /-- a transmitting graph of a network whose nonces carry the ASN (10 R299) -/
  | transmitAsn (net : Net)
  /-- a receiving or opening graph, for `octets` of plaintext -/
  | receive (use_ : Nat) (octets : Nat)
  deriving DecidableEq, Repr

/-- A request to the block pipeline (10 R288). -/
structure CipherReq where
  slot : Nat
  decrypt : Bool
  chained : Bool
  blocks : Nat
  tag : Nat
  src : Nat
  dst : Nat
  completion : Nat
  graph : GraphKind
  /-- the instance that placed it, set when it takes its place -/
  inst : Nat := 0
  deriving DecidableEq, Repr

/-- An enhanced beacon of another coordinator: the time correction it gives and its sender's bound, in ns; whether its sender is the
parent that the network follows, and the link address by which the neighbour list names the sender (06 R193, R194). -/
structure Beacon where
  corr : Int
  bound : Nat
  parent : Bool := true
  link : Nat := 0
  deriving DecidableEq, Repr

/-- The DSME-GTS commands (06 R163). -/
inductive GtsCmd where
  | request | reply | notify
  deriving DecidableEq, Repr

/-- The addressing fields of a received client frame (04 R117, 06 R163, 10 R291). -/
structure RxHdr where
  pan : Nat
  /-- the destination is one the device serves -/
  dstOk : Bool
  srcExt : Option Nat
  srcShort : Nat
  /-- needs a MAC feature that R163 does not list -/
  unsupported : Bool
  level : Nat
  keyIdx : Nat
  counter : Nat
  ackReq : Bool
  /-- an enhanced beacon of another coordinator -/
  beacon : Option Beacon
  /-- a DSME-GTS command, which the slot engine serves (06 R163) -/
  gts : Option GtsCmd := none
  deriving DecidableEq, Repr

/-- What the receive path reports of a span frame beside its octets: its frozen RSSI in 0.25 dBm, SNR in 0.5 dB and offset in Hz
(04 R124), and the ns since its first symbol (13 R387). -/
structure RxMeas where
  rssi : Int
  snr : Int
  offset : Int
  ago : Nat
  deriving DecidableEq, Repr

/-- What a lane's detector reports of a preamble: its level in 0.25 dBm as measured, and its metric ρ² in hundredths (04 R112). -/
structure PreambleSeen where
  level : Int
  rho : Nat
  deriving DecidableEq, Repr

/-- Samples of a radio that have reached full scale since the last count (04 R110). -/
structure ClipSamples where
  radio : Radio
  /-- the converter, by its antenna port -/
  chain : Nat
  samples : Nat
  deriving DecidableEq, Repr

/-- A receiving graph whose tag comparison is done (10 R292): of a client frame, by its number, with the verdict and which of the
context's two keys it is under; of a span frame, by its number. -/
inductive TagCheck where
  | client (id : Nat) (pass keyB : Bool) (inst : Nat)
  | span (id inst : Nat)
  deriving DecidableEq, Repr

/-- A PHR as decoded: of a client PHY, the PSDU length it states, none where it is invalid, and the mode of the frame, coded or not by its
SFD or at the MCS that it states (05 R132, R136); of the span PHY, the 48 bits of its
signal header, bit 0 lowest (05 R144). -/
inductive Phr where
  | client (len : Option Nat) (mode : Nat)
  | span (bits : Nat)
  deriving DecidableEq, Repr

/-- Where a packet enters a pipeline (12 R339): a frame at E0 to E3, DA to FCS, with the ns since the first bit behind its SFD;
or the oldest accepted packet of the client networks and spans. -/
inductive IngressSrc where
  | wire (port : Nat) (octets : Bytes) (ago : Nat)
  | air
  deriving DecidableEq, Repr

/-- The three health tests of the entropy source (10 R308). -/
inductive EntropyTest where
  | repetition | proportion | startup
  deriving DecidableEq, Repr

end Sys2Proof.Machine
end

