-- ==== Sys2Proof/Machine/MacParts.lean ====
section
/-! DEFINITION. The pieces of the state of the radios, the receive array, the slot engine, the spans, ablation and Firn
(03 to 09). -/

namespace Sys2Proof.Machine

/-! ### Queued frames (12 R362, R363) -/

/-- A frame in an egress queue: an Ethernet frame without FCS, an IPv6 or 6LoWPAN payload for a client, or a span payload. -/
structure QFrame where
  octets : Bytes
  /-- octets that limits, shapers and air times count -/
  len : Nat
  cls : Nat := 0
  tries : Nat := 0
  /-- ingress port code -/
  port : Nat := 5
  /-- the host transmit ring entry that asked for a timestamp (13 R388) -/
  desc : Option (Nat × Nat) := none
  status : Nat := 0
  /-- shared cells that it still lets pass (06 R163; log entry 3) -/
  backoff : Nat := 0
  /-- context of a client, or 0xFFFF -/
  ctx : Nat := 0xFFFF
  /-- receive timestamp (13 R388) -/
  time : Option Nat := none
  /-- receive trailer of an air or span frame (04 R125) -/
  trailer : Option (Radio × Bytes) := none
  vlan : Nat := 0
  /-- trapped: for a receive ring whatever the attachment of H (13 R389) -/
  trapped : Bool := false
  /-- the key slot under which its stored bytes are sealed (10 R297) -/
  sealed : Option Nat := none
  deriving DecidableEq, Repr

/-! ### Emissions (03, 05) -/

/-- What an emission carries and for whom. -/
inductive EmOwner where
  /-- the head frame of an access class of a client's queues, in a TX client cell -/
  | client (ctx cls cell : Nat)
  | ack (ctx lane : Nat)
  | beacon (net : Net) (cell : Nat)
  | broadcast (net : Net) (cell : Nat)
  /-- a span frame on the member of a band, by its number in the span's list of sent frames -/
  | span (span band frame : Nat)
  | test
  deriving DecidableEq, Repr

/-- A pending emission: one frame on one carrier (03 R63, 05 R153). -/
structure Emission where
  id : Nat
  owner : EmOwner
  /-- class of the table of R82 -/
  cls : Nat
  /-- nominal first symbol, network time in ns -/
  nominal : Int
  /-- its receiver uses it as a time reference (03 R64) -/
  sync : Bool
  khz : Nat
  /-- PHY mode code; a test tone without modulation has none -/
  mode : Option Nat
  chains : Nat
  air : Nat
  power : Int
  /-- lane of the frame being answered -/
  lane : Nat
  /-- its lateness limit in µs, held from the moment its REQ or its deferral began (03 R97) -/
  late : Option Nat := none
  deriving DecidableEq, Repr

/-- One admitted carrier of a group, with its power decision (03 R68). -/
structure Carrier where
  em : Emission
  /-- target in 0.001 dBm -/
  target : Int
  /-- chosen PA setting, and its predicted power in 0.001 dBm -/
  setting : Nat
  applied : Int
  /-- of an emission on both chains, the second one's PA setting and predicted power (05 R149) -/
  second : Option (Nat × Int) := none
  sub : Nat
  deriving DecidableEq, Repr

/-- Why a group has not started (03 R63, R78, R83, R85). -/
inductive HoldCause where
  | synth | coex | yielded | selfcoex
  deriving DecidableEq, Repr

/-- The group that holds a radio (05 R153). -/
structure EmGroup where
  carriers : List Carrier
  /-- first symbol -/
  start : Int
  /-- deferred, with the cause -/
  hold : Option HoldCause := none
  /-- the first symbol that ablation projected it from, which a deferral leaves as it is (05 R156) -/
  due : Int := 0
  extPa : Bool := false
  onAir : Bool := false
  /-- when the first symbol left -/
  stamped : Int := 0
  /-- cut short, with its status -/
  cut : Option Nat := none
  /-- on the air: it blanks every MB lane, by the policy in force at its start (03 R78) -/
  blanksMb : Bool := false
  deriving DecidableEq, Repr

/-! ### Radios (03) -/

inductive RState where
  | off | standby | settle | rx | tx | calSynth | calBg | calFg
  deriving DecidableEq, Repr

/-- A calibration due on a radio (03 R65, R66, R94): 0 synthesiser, 1 foreground, 2 background, 3 all. -/
structure CalDue where
  set : Nat
  /-- always-on tick at which it fell due -/
  since : Nat
  /-- it is the set of a radio's first use, which runs before its first cell (03 R89) -/
  first : Bool := false
  /-- RF_CAL_RUN has asked for it (03 R94) -/
  asked : Bool := false
  deriving DecidableEq, Repr

/-- The state of one background item (03 R86, R87). -/
structure BgItem where
  lastAon : Option Nat := none
  lastTemp : Int := 0
  fails : Nat := 0
  deriving DecidableEq, Repr

structure RadioState where
  st : RState := .off
  /-- where a settling radio goes -/
  next : RState := .rx
  locked : Bool := false
  verified : Bool := false
  /-- network time at which it last came to be locked, verified and in service (03 R63) -/
  lockedAt : Option Int := none
  lo : Nat := 0
  /-- die temperature at the last synthesiser calibration, 0.1 °C; none before the first after reset -/
  calTemp : Option Int := none
  fgDone : Bool := false
  bg : List BgItem := [{}, {}, {}]
  /-- failures in a row of the four foreground items -/
  fgFails : List Nat := [0, 0, 0, 0]
  /-- the gap that R66 has made: start and end, network time in ns -/
  gap : Option (Int × Int) := none
  cals : List CalDue := []
  calRun : Option CalDue := none
  /-- a re-lock under way: the state at the unlock, cells lost so far -/
  relock : Option (RState × Nat) := none
  /-- out of service after a failed re-lock (03 R67) -/
  failed : Bool := false
  paMv : Nat := 0
  antenna : Nat := 0
  /-- a scheduled reception of the timeslot has detected no preamble (03 R59) -/
  missed : Bool := false
  blanked : Bool := false
  /-- network time from which its lanes are blanked by its state -/
  blankAt : Option Int := none
  /-- its lanes stay blanked until this network time: 20 µs after a ramp-down (03 R78, 04 R106) -/
  blankTill : Int := 0
  /-- re-locked after an unlock: it resumes at its next cell (01 R22, 03 R67) -/
  resume : Bool := false
  /-- code of the FEM state (03 R73) -/
  fem : Nat := 0
  /-- the FEM state that the lines other than the PA lines still hold, and until when, network time (03 R75) -/
  femTail : Option (Nat × Int) := none
  /-- status of the emission that ended or was skipped last; 0 where it was sent whole (03 R94, 05 R154) -/
  txStatus : Nat := 0
  pend : List Emission := []
  group : Option EmGroup := none
  /-- the groups locked after it, in order: the radio takes the first of them once it is free (05 R154, R156) -/
  follow : List EmGroup := []
  deriving DecidableEq, Repr

/-- One coexistence port's wires, true where asserted (03 R82-R85). -/
structure CoexPort where
  req : Bool := false
  pri : Bool := false
  gnt : Bool := false
  /-- granting: a grant ran to its limit, so GNT waits for REQ to fall and rise -/
  spent : Bool := false
  /-- granting: the raw tick at which GNT rose (03 R85) -/
  rose : Nat := 0
  /-- requesting: REQ is asserted for a receive window as well (03 R82) -/
  rx : Bool := false
  /-- requesting: whether a revoked grant cuts the emission, as it stood when REQ rose (03 R84, R97) -/
  revoke : Bool := false
  /-- requesting: how long before the first symbol GNT is sampled, in µs, as it stood when REQ rose (03 R82, R97) -/
  sample : Nat := 0
  /-- requesting: network time from which the grant holds, where it came after the sampling point (03 R83) -/
  gntAt : Option Int := none
  /-- granting: the limit of the grant in µs, as it stood when GNT rose (03 R85, R97) -/
  limit : Nat := 0
  deriving DecidableEq, Repr

/-- The Thaw parameters that a frame is matched by (03 R92, R97). -/
structure ThawSet where
  enable : Bool
  rate : Nat
  wake : Nat
  group : Nat
  retune : Nat
  deriving DecidableEq, Repr

structure Thaw where
  blanked : Bool := false
  /-- the bitstream is ignored until this time, and a retune lasts until that one: ns of the always-on counter (03 R80, R93) -/
  blankTill : Nat := 0
  retuneTill : Nat := 0
  /-- parameters replaced during the last 32 ms, each with the time of its end, newest first: a frame is matched by those of its
  start (03 R97) -/
  past : List (Nat × ThawSet) := []
  retunedAon : Nat := 0
  retunedTemp : Int := 0
  deriving DecidableEq, Repr

structure Rf where
  /-- the MB oscillator stays at 2441.75 MHz (03 R58) -/
  radios : Tri RadioState := ⟨{}, { lo := 2441750 }, {}⟩
  dieTemp : Int := 0
  /-- die temperature at the entry of NAP, until the first sample after it (01 R18) -/
  napTemp : Option Int := none
  coexA : CoexPort := {}
  coexB : CoexPort := {}
  thaw : Thaw := {}
  emSeq : Nat := 0
  deriving DecidableEq, Repr

/-! ### The receive array (04) -/

/-- A frame in reception on a lane. -/
structure RxFrame where
  /-- level of the preamble in 0.25 dBm -/
  level : Int
  /-- network time of its detection -/
  at_ : Int := 0
  sfd : Bool := false
  rssi : Int := 0
  snr : Int := 0
  offset : Int := 0
  stamp : Int := 0
  len : Option Nat := none
  /-- the PHY mode that its SFD and header show (05 R132, R136) -/
  mode : Option Nat := none
  /-- network time of its last soft bits so far (04 R118) -/
  lastPost : Option Int := none
  hdr : Option RxHdr := none
  ctx : Option Nat := none
  /-- the header is matched to a resident context (04 R116) -/
  matched : Bool := false
  join : Bool := false
  forked : Bool := false
  switched : Bool := false
  wide : Bool := false
  /-- its level differs from the expected one by more than the limit (04 R111) -/
  dev : Bool := false
  /-- an enhanced acknowledgement, in a TX cell (06 R164) -/
  isAck : Bool := false
  /-- the bits of its signal header (05 R144) -/
  sig : Nat := 0
  /-- the lane from which a fork has taken it (04 R116) -/
  origin : Option Nat := none
  deriving DecidableEq, Repr

structure Lane where
  khz : Nat
  /-- LB: first bin and bins of the window -/
  bin : Nat := 0
  bins : Nat := 0
  /-- LB: shift of the fine oscillator in Hz, the frozen offset estimate included (04 R100) -/
  nco : Int := 0
  /-- first opening and last closing of its receive windows, network time -/
  window : Option (Int × Int) := none
  /-- network time from which it occupies its bins (04 R105) -/
  since : Option Int := none
  wide : Bool := false
  /-- the cells it serves -/
  cells : List Nat := []
  shared : Bool := false
  /-- a receive window is open -/
  open_ : Bool := false
  /-- a preamble has been detected in it -/
  detected : Bool := false
  /-- taken by a fork (04 R116) -/
  forked : Bool := false
  /-- its window is a scanning one, which nothing has scheduled (07 R220) -/
  scan : Bool := false
  frame : Option RxFrame := none
  deriving DecidableEq, Repr

/-- A block queued for a trellis decoder (04 R118). -/
structure SoftBlock where
  id : Nat
  lane : Nat
  bytes : Nat
  postedAt : Int
  deriving DecidableEq, Repr

/-- A frame after its end, until its MIC graph is done (10 R292, 09 R260). -/
structure RxCheck where
  id : Nat
  net : Net
  ctx : Nat
  /-- its context's load is under way -/
  waits : Bool
  lane : Nat
  khz : Nat
  rx : RxFrame
  hdr : RxHdr
  payload : Bytes
  asn : Nat
  shared : Bool
  /-- it is acknowledged where the rest of R14 holds: it asks, and its cell acknowledges (06 R171; log entry 35) -/
  ack : Bool
  /-- its acknowledgement serves the partner as a time reference: its cell has [3] set (03 R64, 06 R171) -/
  sync : Bool := false
  clipped : Bool
  fs : Int
  /-- end of the frame, network time -/
  ended : Int
  /-- its receive trailer (04 R125) -/
  trailer : Bytes := []
  /-- its MIC has passed, and it waits for the void summary (09 R274) -/
  voidWait : Bool := false
  /-- its MIC passed under the context's key slot B -/
  keyB : Bool := false
  /-- the graph that checked it, which holds its rime units until it is released or discarded (10 R295) -/
  inst : Option Nat := none
  deriving DecidableEq, Repr

/-- Noise-floor entries of a radio (04 R123). -/
structure NfCfg where
  off : Nat
  entries : Nat
  dec : Nat
  mode : Nat
  seq : Nat := 0
  /-- timeslots since the last entry -/
  count : Nat := 0
  clipped : Bool := false
  own : Bool := false
  /-- the level codes of those timeslots, newest first: (means, peaks) -/
  acc : List (Bytes × Bytes) := []
  deriving DecidableEq, Repr

/-- What BB_SLOT_STATUS_GET reports of a timeslot (04 R126). -/
structure SlotStat where
  asn : Nat := 0xFFFFFFFFFF
  fs : Int := 0
  lanes : Nat := 0
  forks : Nat := 0
  clipped : Bool := false
  softPeak : Nat := 0
  decPeak : Nat := 0
  deriving DecidableEq, Repr

structure BbRadio where
  /-- full scale in dBm, held for the timeslot; on HB the gain of the frame in reception, as a full scale -/
  fs : Int := 0
  /-- setting of the converter in dBm: below `fs` by the LNA gain in a bypassed timeslot (04 R108) -/
  conv : Int := 0
  bypass : Bool := false
  /-- samples of the timeslot that have reached full scale, by converter (04 R110) -/
  clipCount : Tab Nat := []
  /-- timeslots of clip hold left (04 R110) -/
  clipHold : Nat := 0
  /-- the baseband parameters in force since the gain was set, by ID (04 R128) -/
  par : Tab Nat := []
  /-- network time at which the gain was set, or the report period began (04 R121, R122) -/
  gainAt : Int := 0
  /-- network time at which a lane of it last stopped receiving a frame (03 R78) -/
  frameEnd : Option Int := none
  /-- intervals of the period in which bins were not measured: first bin, bins, from, to (04 R121) -/
  busy : List (Nat × Nat × Int × Int) := []
  clipped : Bool := false
  own : Bool := false
  /-- L_block measurements, newest first: (oscillator, linear power) -/
  block : List (Nat × Nat) := []
  /-- the last measured periods, newest first -/
  nf : List Bytes := []
  nfCfg : Option NfCfg := none
  cur : SlotStat := {}
  last : Option SlotStat := none
  /-- frames abandoned for a full soft-bit buffer in the timeslot (04 R119) -/
  overflow : Nat := 0
  /-- the frame of a span that ended last and its lane, until SPAN_FRAME_RECEIVE takes it (04 R125) -/
  ended : Option (Nat × Lane × RxFrame) := none
  /-- which of the standard's four scrambler seeds the next SUN OFDM frame takes, in rotation (05 R136; log entry 1) -/
  ofdmSeed : Nat := 0
  deriving DecidableEq, Repr

structure Bb where
  lanes : Tab Lane := []
  radios : Tri BbRadio := ⟨{}, {}, {}⟩
  soft : List SoftBlock := []
  running : Tab SoftBlock := []
  checks : List RxCheck := []
  rxSeq : Nat := 0
  softSeq : Nat := 0
  deriving DecidableEq, Repr

/-! ### The slot engine (06) -/

/-- A cell (06 R170), with the ASNs from which it is served and, once deleted, no longer is. -/
structure Cell where
  net : Nat
  handle : Nat
  slot : Nat
  chan : Nat
  kind : Nat
  opts : Nat
  span : Nat
  ctx : Nat
  slotMin : Nat
  slotMax : Nat
  from_ : Nat := 0
  until_ : Option Nat := none
  deriving DecidableEq, Repr

/-- The lengths of a slotframe by the ASN from which each is in force, newest first; none deletes it (06 R169). -/
abbrev FrameLens := List (Nat × Option Nat)

/-- A cell of a planned timeslot. -/
structure PlannedCell where
  cell : Nat
  khz : Nat
  /-- widening in ns (06 R187) -/
  widen : Nat
  deriving DecidableEq, Repr

/-- A planned timeslot (06 R173). -/
structure SlotPlan where
  asn : Nat
  tx : Bool
  lo : Nat
  cells : List PlannedCell
  /-- the span whose cell takes the timeslot -/
  span : Option Nat := none
  lanes : Tab Lane := []
  /-- the inputs of the gain: expected level and frequency of each receive cell whose partner has one and is resident at the plan point
  (04 R107, 06 R173) -/
  inputs : List (Int × Nat) := []
  /-- cells whose frame waits for its counter, with their channels (10 R302) -/
  waits : List (Nat × Nat) := []
  deriving DecidableEq, Repr

/-- A frame whose acknowledgement is awaited: its client, its class, and when its wait ends, network time (06 R164, R187). -/
structure AwaitedAck where
  ctx : Nat
  cls : Nat
  till : Int
  deriving DecidableEq, Repr

/-- A join request in the backlog or released (06 R183, R184). -/
structure JoinReq where
  eui : Nat
  payload : Bytes
  /-- network time of its arrival, then of its release -/
  at_ : Int
  /-- its receive trailer, where one is written (04 R125) -/
  trailer : Bytes := []
  deriving DecidableEq, Repr

/-- A time parent followed by a network or a span (06 R193). -/
structure Parent where
  misses : Nat := 0
  /-- a beacon or announcement has been accepted in the present interval or event -/
  heard : Bool := false
  lost : Bool := false
  lostAt : Int := 0
  /-- the bound at the last beacon or announcement (06 R194) -/
  bound : Nat := 0
  deriving DecidableEq, Repr

structure NetState where
  running : Bool := false
  /-- the ASN of the timeslot in force, or of the first one before it starts -/
  asn : Nat := 0
  begun : Bool := false
  slotStart : Int := 0
  frames : Tab FrameLens := []
  plan : Option SlotPlan := none
  cur : Option SlotPlan := none
  backlog : List JoinReq := []
  released : List JoinReq := []
  lastRelease : Option Int := none
  /-- requests dropped in the present slotframe (06 R183) -/
  joinDrops : Nat := 0
  /-- network key slots named at the start -/
  keys : List Nat := []
  /-- a mark whose write is pending -/
  markDue : Option Nat := none
  holdRaised : Bool := false
  parent : Option Parent := none
  /-- broadcast frames that wait, the oldest first -/
  bcast : List QFrame := []
  /-- frames discarded for a full miss queue in the present timeslot (09 R262) -/
  missqDrops : Nat := 0
  /-- clients whose acknowledgement is awaited in the timeslot, with the class of the frame -/
  awaiting : List AwaitedAck := []
  /-- content of the last enhanced beacon's segment IE (06 R186) -/
  beaconIe : Bytes := []
  /-- shared cells that the next beacon still lets pass (06 R163; log entry 3) -/
  beaconBackoff : Nat := 0
  /-- the placement audit of the present slotframe is done (06 R182) -/
  audited : Bool := false
  /-- the first timeslot waits for its fresh mark (06 R192) -/
  waitMark : Bool := false
  /-- the IMMEDIATE parameters as of the last plan point, by ID (06 R196) -/
  par : Tab Int := []
  /-- EV_FIRN_LOOKAHEAD_SHORT has been raised in the present slotframe (09 R257) -/
  shortRaised : Bool := false
  deriving DecidableEq, Repr

/-! ### Spans (07) -/

inductive SpanPhase where
  | closed | acquire | up | resync
  deriving DecidableEq, Repr

/-- A member record (07 R199). -/
structure Member where
  mode : Nat
  nss : Nat
  gi : Nat
  offUs : Nat
  lenUs : Nat
  power : Int
  hop : Nat
  lbBase : Nat
  lbSpacing : Nat
  map : Bytes
  deriving DecidableEq, Repr

/-- A replay window (07 R210): the highest accepted counter and the map of the 256 counters up to it. -/
structure Window where
  high : Option Nat := none
  map : Nat := 0
  deriving DecidableEq, Repr

/-- A data frame sent and not yet delivered (07 R211). -/
structure SentFrame where
  frame : QFrame
  counter : Nat
  sel : Nat
  lastEvent : Nat
  tries : Nat
  /-- by band, the bytes of its first transmission on that band: a combination of key, counter and band is encrypted once (07 R209) -/
  octets : Tab Bytes
  deriving DecidableEq, Repr

/-- A span frame built for a member's sub-event, until its emission ends. -/
structure SpanTx where
  id : Nat
  band : Nat
  /-- 0 data, 1 keep-alive, 2 resync burst, 3 resync reply -/
  ty : Nat
  octets : Bytes
  /-- what a descriptor of the host's transmit ring waits for (13 R388) -/
  desc : Option (Nat × Nat) := none
  deriving DecidableEq, Repr

structure MemberState where
  rec_ : Member
  up : Bool := false
  /-- misses in a row -/
  misses : Nat := 0
  /-- event in which it went DOWN -/
  downSince : Nat := 0
  /-- of the weighted round-robin (07 R213) -/
  credit : Int := 0
  /-- the sub-event under way: accepted a frame from the peer -/
  heard : Bool := false
  inSub : Bool := false
  /-- by event, the sub-events that are skipped, of the present event and the planned one, with the row of the span's counter that says
  why (07 R204), or 0 where its radio cannot serve it, which counts under the radio's CAL_FORCED_SKIP (03 R66, R67, R89) -/
  skip : Tab Nat := []
  /-- the events, the present one and the planned one, for whose half a frame of its own has been made -/
  spoke : List Nat := []
  /-- level of the last frame accepted on it, in 0.25 dBm (04 R107; log entry 28) -/
  level : Option Int := none
  deriving DecidableEq, Repr

/-- A change of members waiting for its event (07 R224). -/
structure MemberChange where
  band : Nat
  rec_ : Option Member
  event : Nat
  deriving DecidableEq, Repr

structure SpanState where
  phase : SpanPhase := .closed
  isT : Bool := false
  peer : Nat := 0
  mic : Nat := 8
  /-- drift estimate of the peer in ppm -/
  drift : Nat := 40
  members : Tab MemberState := []
  changes : List MemberChange := []
  /-- the event counter; before the first anchor, that of the first event -/
  event : Nat := 0
  /-- network time of the anchor of `event` -/
  anchor : Int := 0
  /-- its first anchor has come -/
  begun : Bool := false
  /-- the event whose frames are planned -/
  planned : Option Nat := none
  /-- interval in force, in 0.5 ms -/
  interval : Nat := 40
  /-- key slot by selector -/
  keys : Tab Nat := []
  sel : Nat := 0
  /-- replay window by selector -/
  windows : Tab Window := []
  /-- the event at which a rollover starts, and its key slot; until the end of its overlap (07 R225) -/
  roll : Option (Nat × Nat) := none
  rolled : Bool := false
  queue : List QFrame := []
  sent : List SentFrame := []
  retx : List SentFrame := []
  txs : List SpanTx := []
  txSeq : Nat := 0
  /-- data is held, every ordinary budget being used (07 R216) -/
  held : Bool := false
  /-- network time at which the supervision timer was last restarted -/
  heardAt : Int := 0
  /-- the timer has expired since (07 R218) -/
  expired : Bool := false
  /-- last synchronisation with the peer: its network time and the bound then (06 R187) -/
  lastSync : Option Int := none
  syncBound : Nat := 0
  /-- R: the challenge sent, and the network time at which it is forgotten (07 R221) -/
  challenge : Option (Bytes × Int) := none
  /-- T: the challenge to return in the first frame of the next event (07 R221) -/
  echo : Option Bytes := none
  /-- T: counters of the burst frames of the present event (07 R221) -/
  bursts : List Nat := []
  /-- R: the band on which a keep-alive is owed in the coming event (07 R222) -/
  owesAlive : Option Nat := none
  /-- the IMMEDIATE parameters as of the last plan point (07 R227) -/
  par : Tab Nat := []
  outSync : Option Int := none
  parent : Parent := {}
  deriving DecidableEq, Repr

/-- A received span frame that waits for its MIC graph (07 R208). -/
structure SpanRx where
  id : Nat
  span : Nat
  band : Nat
  octets : Bytes
  meas : RxMeas
  /-- network time of its first symbol -/
  stamp : Int
  trailer : Bytes
  deriving DecidableEq, Repr

/-! ### Ablation (08) -/

structure SubUse where
  open_ : Nat := 0
  /-- newest first, at most 60 -/
  closed : List Nat := []
  /-- always-on tick of the next boundary -/
  due : Nat := 0
  /-- the ordinary and the whole budget have been reported used (08 R243) -/
  spent : Bool := false
  spentAll : Bool := false
  /-- first reason and number of the refusals of this bucket -/
  refused : Option (Nat × Nat) := none
  deriving DecidableEq, Repr

structure DwellUse where
  sub : Nat
  khz : Nat
  open_ : Nat := 0
  /-- newest first, at most 20 -/
  closed : List Nat := []
  /-- five times the always-on tick of the next boundary -/
  due5 : Nat := 0
  deriving DecidableEq, Repr

structure Abl where
  subs : Tab SubUse := []
  dwell : List DwellUse := []
  /-- sub-bands closed after a restore: always-on tick at which they open (08 R247) -/
  closures : Tab Nat := []
  /-- refusals that no duty bucket holds, by sub-band or 0xFF: first reason and number -/
  refused : Tab (Nat × Nat) := []
  restored : Bool := false
  /-- the always-on counter has run since the snapshot in NV (08 R246) -/
  snapLive : Bool := false
  /-- minutes of the always-on counter up to which snapshots have fallen due (08 R245) -/
  snapMin : Nat := 0
  deriving DecidableEq, Repr

/-! ### Firn (09) -/

/-- A datagram in reassembly, in the adaptation area of its context (12 R361). -/
structure Reasm where
  size : Nat
  tag : Nat
  /-- always-on tick of its first fragment -/
  began : Nat
  /-- the octets received, each run with its offset in the datagram -/
  pieces : List (Nat × Bytes)
  /-- its UDP checksum was elided, and is computed when it is complete -/
  noCheck : Bool := false
  deriving DecidableEq, Repr

/-- A client context (09 R249, R250). -/
structure Ctx where
  eui : Nat
  short : Nat
  net : Nat
  sleepy : Bool := false
  pinned : Bool := false
  joined : Bool := false
  outSync : Option Int := none
  keyA : Nat
  keyB : Nat := 0xFFFF
  idxA : Nat := 0
  idxB : Nat := 0
  txB : Bool := false
  highA : Option Nat := none
  mapA : Nat := 0
  highB : Option Nat := none
  mapB : Nat := 0
  level : Option Int := none
  offset : Option Int := none
  /-- carrier in kHz of the frame that gave the offset; 0 where no frame of this device has (04 R114) -/
  offKhz : Nat := 0
  drift : Nat := 0
  narrowMiss : Nat := 0
  /-- network time of the last synchronisation; none before the first (06 R187) -/
  lastSync : Option Int := none
  /-- bound at the last synchronisation (06 R187) -/
  syncBound : Nat := 0
  lastAsn : Nat := 0
  queues : Tab (List QFrame) := []
  ctrs : List Nat := List.replicate 12 0
  /-- reassemblies under way, the older first (12 R361) -/
  reasm : List Reasm := []
  host : Bytes := []
  corrupt : Bool := false
  /-- no frame has been accepted since the last SCHED_JOIN_ACCEPT (04 R111) -/
  fresh : Bool := false
  deriving DecidableEq, Repr

/-- A cache slot in use (09 R264). -/
structure FirnSlot where
  ctx : Nat
  ref : Bool := true
  /-- held until the end of this timeslot of its network -/
  held : Option Nat := none
  dirty : Bool := false
  /-- evicted: the slot is free, once no write-back is under way, and until its reuse the eviction can be cancelled (09 R265) -/
  evicted : Bool := false
  /-- its write-back is under way -/
  writing : Bool := false
  deriving DecidableEq, Repr

structure FirnLoad where
  ctx : Nat
  miss : Bool
  slot : Option Nat := none
  /-- network time of its start -/
  started : Option Int := none
  stalled : Bool := false
  held : Option Nat := none
  owners : List Nat := []
  deriving DecidableEq, Repr

structure Firn where
  ctxs : Tab Ctx := []
  slots : Tab FirnSlot := []
  loads : List FirnLoad := []
  hand : Nat := 0
  missPeak : Nat := 0
  /-- always-on tick of the last image sweep (09 R271) -/
  sweptAt : Nat := 0
  /-- contexts restored, contexts cleared and whether the summary was final, until the event is raised (09 R275) -/
  restoring : Option (Nat × Nat × Bool) := none
  /-- EV_FIRN_RESTORED has been raised since the reset -/
  restored : Bool := false
  deriving DecidableEq, Repr

end Sys2Proof.Machine
end

