-- ==== Sys2Proof/Syntax.lean ====
section
/-! DEFINITION. The commands of the block: one constructor per row of spec/opcode_table.json, with the operands that the
row's rule leaves to the outside. `ch` is the command channel whose next request the row consumes (02 R34). -/

namespace Sys2Proof

open Sys2Proof.Machine

/-- The commands, in the order of the table. -/
inductive Instr where
  /-- HSPI_BAD_OPCODE (R23): An HSPI frame with an unknown opcode is ignored, HSPI_IO stays high-impedance and HIF_ERR.BAD_OP counts it. -/
  | hspiBadOpcode (opcode : Byte)
  /-- HIF_ERR_READ (R24): A read that completes all four bytes of HIF_ERR returns its counts and clears them. -/
  | hifErrRead (clocked : Nat)
  /-- UNMAPPED_ACCESS (R24): An access to a word outside every block, or at an unaligned address, reads zero, writes nothing and counts under HIF_ERR.UNMAPPED. -/
  | unmappedAccess (write : Option Word) (addr : Nat)
  /-- REGISTER_WRITE (R6): A write to a register without its own row takes the effect of its access code and nothing more. -/
  | registerWrite (addr : Nat) (value : Word)
  /-- WAKE_WRITE (R26): A write to WAKE over the management serial interface sets the wake latch and requests an exit to ACTIVE. -/
  | wakeWrite
  /-- MSER_WRITE (R27): A management serial write transaction sets the pointer and writes SYS_SCRATCH or WAKE word by word; all other registers ignore the writes. -/
  | mserWrite (dev : Nat) (pointer : Byte) (data : Bytes)
  /-- MSER_READ (R27): A management serial read transaction returns registers from the pointer upward; HIF_ERR clears once all four of its bytes are sent. -/
  | mserRead (dev : Nat) (pointer : Option Byte) (sent : Nat)
  /-- MSER_ADDRESS_MATCH (R453): In NAP or HIBERNATE the address matcher recognises sys.mser_addr and stretches SCL until the AOC serves the transaction. -/
  | mserAddressMatch (dev : Nat)
  /-- INBAND_READ (R28): An in-band READ request is checked and answered with a read response within 20 µs. -/
  | inbandRead (req : InbandReq)
  /-- INBAND_WRITE (R28): An in-band WRITE request is checked, executed as host bus writes and answered within 20 µs. -/
  | inbandWrite (req : InbandReq)
  /-- MBX_REQ_PI_WRITE (R33): A request producer index write rings the doorbell, or is ignored and counted when it would put more than 16 requests outstanding. -/
  | mbxReqPiWrite (ch : Nat) (value : Word)
  /-- MBX_RSP_CI_WRITE (R35): A response consumer index write frees response slots, so a stalled channel resumes consuming requests; a write that passes the producer is ignored. -/
  | mbxRspCiWrite (ch : Nat) (value : Word)
  /-- EVT_CI_WRITE (R38): An event consumer index write frees event slots; a write that passes the producer index is ignored. -/
  | evtCiWrite (value : Word)
  /-- EVT_LOST_READ (R38): A read of EVT_LOST returns the dropped-event count and clears it. -/
  | evtLostRead (clocked : Nat)
  /-- RING_BASE_WRITE (R40): A RING_BASE write takes effect only while the ring is disabled. -/
  | ringBaseWrite (ring : Nat) (value : Word)
  /-- RING_CFG_WRITE (R40): A RING_CFG write enables a ring after its placement checks, or disables it so that HEAD and TAIL return to 0 after the frame in progress. -/
  | ringCfgWrite (ring : Nat) (value : Word)
  /-- RING_TAIL_WRITE (R41): A RING_TAIL write posts or fills ring entries, unless it is out of range or adds more entries than are free. -/
  | ringTailWrite (ring : Nat) (value : Word)
  /-- HOST_TX_RING_FRAME (R341): The ZK48 consumes a frame from a host transmit ring into the air pipeline, as its port field selects, and advances RING_HEAD. -/
  | hostTxRingFrame (ring : Nat)
  /-- EVS_RING_RX_WRITE (R334): Writing 1s to EVS_RING_RX clears ring causes and can release HOST_IRQ_N. -/
  | evsRingRxWrite (value : Word)
  /-- EVS_RING_TX_WRITE (R334): Writing 1s to EVS_RING_TX clears ring causes and can release HOST_IRQ_N. -/
  | evsRingTxWrite (value : Word)
  /-- EVS_BOOT_CLEAR (R334): Writing 1 to EVS_SUMMARY.BOOT clears the boot cause and can release HOST_IRQ_N. -/
  | evsBootClear
  /-- EVS_ENABLE_WRITE (R334): A write of EVS_ENABLE changes which causes assert the line, and can release HOST_IRQ_N. -/
  | evsEnableWrite (value : Word)
  /-- TBL_READ (R354): The table command reads an entry by key or by index into TBL_DATA. -/
  | tblRead
  /-- TBL_WRITE (R354): The table command replaces an entry in one step, or stages the write. -/
  | tblWrite
  /-- TBL_INSERT (R354): The table command inserts an FDB or route entry by key, or stages the insertion. -/
  | tblInsert
  /-- TBL_DELETE (R354): The table command deletes an entry or marks it invalid, or stages the deletion. -/
  | tblDelete
  /-- TBL_SEARCH (R354): The table command searches an FDB by exact key, or the route table by longest match. -/
  | tblSearch
  /-- TBL_AGE_SCAN (R357): The table command returns, and optionally deletes, the next learned FDB entry at least THRESHOLD ticks old. -/
  | tblAgeScan
  /-- TBL_OVERRUN (R353): A write to the table command block while BUSY is ignored and sets OVERRUN. -/
  | tblOverrun
  /-- SYS_PING (R36): The command checks the request and returns OK. -/
  | sysPing (ch : Nat)
  /-- SYS_INFO_GET (R36): The command returns part, revision, Eotre version, serial number, active slot and MAC address base. -/
  | sysInfoGet (ch : Nat)
  /-- PARAM_GET (R44): The command returns the values in force, or the staged values, of the named parameters. -/
  | paramGet (ch gpio : Nat)
  /-- PARAM_SET (R44): The command writes parameters by commit class, writing the NV records that offsets and RESET-class values need. -/
  | paramSet (ch : Nat)
  /-- PARAM_DESCRIBE (R495): The command returns the type, ranges, default, access, class and step of one parameter. -/
  | paramDescribe (ch : Nat)
  /-- STAGE_OPEN (R45): The command opens a staging set of a class and domain and returns its handle. -/
  | stageOpen (ch : Nat)
  /-- STAGE_WRITE (R45): The command adds parameter writes to an open staging set. -/
  | stageWrite (ch : Nat)
  /-- STAGE_ABORT (R49): The command discards an open set, or cancels a committed set until the lead time before its boundary. -/
  | stageAbort (ch : Nat)
  /-- COMMIT_AT (R47): The command validates a set and chooses its boundary, or applies it at once for IMMEDIATE sets and idle domains. -/
  | commitAt (ch : Nat)
  /-- STAGE_STATUS (R45): The command reports the class, domain, writes, target, boundary and state of a set. -/
  | stageStatus (ch : Nat)
  /-- COMMIT_BOUNDARY (R48): At a committed set's boundary, its state-dependent checks are repeated and all its writes take effect in one step, or none do. -/
  | commitBoundary (handle : Nat)
  /-- BOARD_DECLARE (R51): The command declares the board, and on first acceptance enables the units and starts DRAM training. -/
  | boardDeclare (ch sense : Nat)
  /-- SITE_DECLARE (R52): The command declares the site, sets time on its first acceptance, and assigns the client and neighbour lists. -/
  | siteDeclare (ch : Nat)
  /-- NV_STORE (R442): The command copies a host record from the host windows and writes it to NV under the hold-up check. -/
  | nvStore (ch : Nat)
  /-- NV_READ (R54): The command copies the newest valid copy of a host record into the host windows. -/
  | nvRead (ch : Nat)
  /-- NV_DELETE (R443): The command invalidates both copies of a host record and frees its space. -/
  | nvDelete (ch : Nat)
  /-- NV_STATUS_GET (R442): The command reports free space in the user area, host record count and queued NV writes. -/
  | nvStatusGet (ch : Nat)
  /-- FACTORY_READ (R36): The command returns one factory item. -/
  | factoryRead (ch : Nat)
  /-- NV_WRITE_START (R441): A queued NV write starts once its hold-up check passes and the NV is free. -/
  | nvWriteStart (sense : Nat)
  /-- NV_WRITE_COMPLETE (R54): A record copy finishes with its CRC word and becomes the copy in force, releasing whatever waited on it. -/
  | nvWriteComplete
  /-- MAINS_FALL (R56): A falling MAINS_SENSE starts the flush of pending critical records in priority order within 100 µs. -/
  | mainsFall
  /-- MAINS_RISE (R454): A MAINS_SENSE rise that has held for pwr.mains_rise_ms is recognised, sets the wake latch and raises EV_MAINS. -/
  | mainsRise
  /-- HOLDUP_WARNING_FALL (R454): HOLDUP_SENSE falling below the warning level sets the wake latch, raises EV_HOLDUP_WARNING and triggers the Firn final summary. -/
  | holdupWarningFall (sense : Nat)
  /-- HOLDUP_WARNING_RISE (R454): HOLDUP_SENSE rising through the hysteresis raises EV_HOLDUP_WARNING with below 0 and re-arms fall detection. -/
  | holdupWarningRise (sense : Nat)
  /-- RF_CAL_RUN (R94): The command starts or queues a calibration set on a radio. -/
  | rfCalRun (ch : Nat)
  /-- RF_STATUS_GET (R94): The command reports a radio's state, lock, temperatures, PA supply and calibration validity. -/
  | rfStatusGet (ch : Nat)
  /-- RF_COUNTERS_GET (R96): The command returns and optionally clears a radio's or Thaw's counters. -/
  | rfCountersGet (ch : Nat)
  /-- RF_TEST_TX (R94): The command starts a test emission through ablation and power control. -/
  | rfTestTx (ch : Nat)
  /-- DIE_TEMP_SAMPLE (R62): Every 1 ms the die temperature is sampled, and a synthesiser calibration falls due when it has moved past the step. -/
  | dieTempSample (temp : Int)
  /-- PA_SUPPLY_SAMPLE (R70): Every 100 µs the PA supply is sensed for power prediction. -/
  | paSupplySample (lb : Nat) (hi : Nat)
  /-- CAL_GAP_START (R65): A due calibration starts once its radio has a gap free of cells for its maximum duration plus the guard. -/
  | calGapStart (radio : Radio)
  /-- CAL_FORCED (R66): A calibration that has waited rf.cal_max_wait_s makes its gap by skipping the fewest cells. -/
  | calForced (radio : Radio)
  /-- CALIBRATION_COMPLETE (R88): A calibration set completes, keeping previous results for failed items. -/
  | calibrationComplete (radio : Radio) (failed : Nat) (us : Nat)
  /-- BG_CAL_ITEM (R86): A background calibration item that is due runs in an idle gap long enough for it. -/
  | bgCalItem (radio : Radio) (item : Nat) (pass : Bool)
  /-- TRANSITION_DONE (R60): A transceiver completes a transition between states within its maximum time. -/
  | transitionDone (radio : Radio) (target : RState)
  /-- SYNTH_LOCK_VERIFIED (R61): A synthesiser counts as locked and verified after 8 µs of lock with its frequency within ±0.5 ppm. -/
  | synthLockVerified (radio : Radio)
  /-- SYNTH_UNLOCK (R67): A synthesiser unlock mutes the PA, blanks the radio's lanes and starts the re-lock. -/
  | synthUnlock (radio : Radio)
  /-- SYNTH_RELOCK_DONE (R67): The re-lock of an unlocked synthesiser completes or fails, with calibration where needed. -/
  | synthRelockDone (radio : Radio) (result : Nat)
  /-- EMISSION_DEFERRED_START (R63): A deferred emission starts once its synthesiser is verified and its ramp can end on a symbol boundary. -/
  | emissionDeferredStart (radio : Radio)
  /-- EMISSION_LATEST_START (R63): An emission not ready by its latest permissible start is skipped with its status, and its pending ablation time is released. -/
  | emissionLatestStart (radio : Radio) (emission : Nat)
  /-- COEX_REQ_LEAD (R82): A requesting coexistence port asserts REQ, and PRI for classes in the mask, at the lead before an emission or receive window. -/
  | coexReqLead (portB : Bool) (receive : Bool)
  /-- COEX_GNT_SAMPLE (R82): GNT is sampled before the first symbol; without a grant the emission is deferred. -/
  | coexGntSample (portB : Bool) (gnt : Bool)
  /-- COEX_GNT_RISE (R83): A grant that arrives and holds for the sample time lets a deferred emission start. -/
  | coexGntRise (portB : Bool)
  /-- COEX_GNT_FALL (R84): GNT falling during an emission aborts it with COEX_REVOKED or lets it complete. -/
  | coexGntFall (portB : Bool)
  /-- COEX_REQ_RISE (R85): REQ rising on a granting port is decided within 5 µs, and GNT is asserted unless an emission takes precedence. -/
  | coexReqRise (portB : Bool) (pri : Bool)
  /-- COEX_REQ_FALL (R85): REQ falling on a granting port releases GNT within 2 µs. -/
  | coexReqFall (portB : Bool)
  /-- COEX_MAX_GRANT_EXPIRY (R85): A grant held for coex.x_max_grant_us is withdrawn until REQ falls and rises again. -/
  | coexMaxGrantExpiry (portB : Bool)
  /-- THAW_FRAME_RX (R92): A complete Thaw frame is checked; on a match it enters the wake latch, and it is counted. -/
  | thawFrameRx (sync : Nat) (addr : Nat) (cmd : Nat) (check : Nat)
  /-- THAW_RETUNE (R93): The AOC retunes the Thaw receiver every thaw.retune_s, and after a 10 °C temperature move. -/
  | thawRetune
  /-- TIMESLOT_PLAN (R173): 500 µs before a timeslot, its served cells, direction, oscillator, lanes, gain inputs and windows are fixed. -/
  | timeslotPlan (net : Net)
  /-- TIMESLOT_START (R107): At the start of a timeslot, the AGC full scale is set and held. -/
  | timeslotStart (net : Net)
  /-- CCA_MEASURE (R163): At TsCCAOffset energy detection runs over TsCCA, and a busy channel defers the frame. -/
  | ccaMeasure (net : Net) (khz : Nat) (level : Int)
  /-- RX_WINDOW_OPEN (R164): A widened receive window opens, and the lane's detector runs. -/
  | rxWindowOpen (lane : Nat)
  /-- RX_WINDOW_CLOSE (R105): A receive window closes with no preamble, so the lane is released and the miss is counted. -/
  | rxWindowClose (lane : Nat)
  /-- PREAMBLE_DETECT (R112): A lane's detector fires on a preamble, estimates its level and starts the SFD search. -/
  | preambleDetect (lane : Nat) (seen : PreambleSeen)
  /-- SFD_SEARCH_FAIL (R112): No SFD is found within the search length, so the detection is counted and the lane returns to detection. -/
  | sfdSearchFail (lane : Nat)
  /-- AFC_FREEZE (R114): At its freeze point, the lane freezes its frequency estimate and the time unit stamps the frame. -/
  | afcFreeze (lane : Nat) (offset : Int) (rssi : Int) (snr : Int)
  /-- SECOND_PREAMBLE (R116): A new preamble on a busy lane leads within 2 µs to a fork, a switch or a stay. -/
  | secondPreamble (lane : Nat) (seen : PreambleSeen)
  /-- PHR_DECODE (R145): A frame's PHR or signal header is checked, and the frame is abandoned if invalid. -/
  | phrDecode (lane : Nat) (phr : Phr)
  /-- HEADER_DECODE (R260): A frame's MAC addressing fields are decoded and looked up, making it a hit, miss, foreign, unknown or join frame. -/
  | headerDecode (lane : Nat) (hdr : RxHdr)
  /-- SOFT_BLOCK_POST (R118): A lane posts a block of soft bits to the decoder pool. -/
  | softBlockPost (lane : Nat) (bytes : Nat)
  /-- DECODER_BLOCK_DONE (R118): A decoder finishes a block and takes the next queued block of highest priority. -/
  | decoderBlockDone (decoder : Nat)
  /-- FRAME_END (R105): A received frame ends, its FCS is checked and its lane is released. -/
  | frameEnd (lane : Nat) (fcs : Bool) (payload : Bytes)
  /-- CLIP_LIMIT_EXCEEDED (R110): The clip count of a timeslot exceeds bb.clip_limit, so the timeslot is marked clipped and a clip hold starts. -/
  | clipLimitExceeded (clip : ClipSamples)
  /-- TIMESLOT_END (R121): At a timeslot's end, the noise-floor means and peaks are formed, and an entry is written every d-th timeslot. -/
  | timeslotEnd (radio : Radio) (means : Bytes) (peaks : Bytes)
  /-- BB_COUNTERS_GET (R127): The command returns and optionally clears a radio's baseband counters. -/
  | bbCountersGet (ch : Nat)
  /-- BB_NF_CONFIG (R123): The command configures the circular noise-floor entries in the host windows and restarts seq. -/
  | bbNfConfig (ch : Nat)
  /-- BB_NF_GET (R122): The command returns the running noise-floor means. -/
  | bbNfGet (ch : Nat)
  /-- BB_SLOT_STATUS_GET (R126): The command reports the status of the last completed timeslot. -/
  | bbSlotStatusGet (ch : Nat)
  /-- BB_TX_COUNTERS_GET (R160): The command returns and optionally clears the transmit counters. -/
  | bbTxCountersGet (ch : Nat)
  /-- PHY_AIRTIME_GET (R158): The command returns the air time of a frame in a PHY mode. -/
  | phyAirtimeGet (ch : Nat)
  /-- PLAN_LOCK (R156): At the plan lock, emissions are grouped, frame data are fetched, ablation projects each group and power targets are set. -/
  | planLock (radio : Radio) (late : List Nat)
  /-- EMISSION_START (R157): The PA ramps, the first symbol of every carrier leaves at T, the radio's lanes are blanked and the time is stamped. -/
  | emissionStart (radio : Radio)
  /-- EMISSION_END (R239): The PA ramps down and ablation charges the union air time to the open buckets. -/
  | emissionEnd (radio : Radio)
  /-- BUCKET_BOUNDARY (R238): At each duty bucket boundary, the open bucket closes and the oldest is cleared. -/
  | bucketBoundary
  /-- DWELL_BUCKET_BOUNDARY (R238): At each dwell bucket boundary a channel's buckets age, and emptied entries are freed. -/
  | dwellBucketBoundary
  /-- DWELL_CLOSURE_END (R247): The post-restore closure of dwell channels ends. -/
  | dwellClosureEnd
  /-- ABLATION_SNAPSHOT_DUE (R245): Every 60 s of the always-on counter, the ablation snapshot write falls due. -/
  | ablationSnapshotDue
  /-- ABL_PROFILE_WRITE (R231): The command validates and writes the regulatory profile before the lock. -/
  | ablProfileWrite (ch : Nat)
  /-- ABL_PROFILE_LOCK (R232): The command writes the permanent lock record and raises EV_ABL_LOCKED. -/
  | ablProfileLock (ch : Nat)
  /-- ABL_PROFILE_GET (R233): The command copies the profile to the host windows and returns the lock record. -/
  | ablProfileGet (ch : Nat)
  /-- ABL_BUDGET_GET (R237): The command reports a sub-band's limits, use and remaining budgets. -/
  | ablBudgetGet (ch : Nat)
  /-- ABL_DWELL_GET (R247): The command reports a channel's dwell use and closure. -/
  | ablDwellGet (ch : Nat)
  /-- ABL_COUNTERS_GET (R248): The command returns and optionally clears ablation counters. -/
  | ablCountersGet (ch : Nat)
  /-- SCHED_NET_START (R192): The command starts a network, checking its start ASN against the stored ASN mark. -/
  | schedNetStart (ch : Nat)
  /-- SCHED_NET_STOP (R162): The command stops a network and returns its last ASN. -/
  | schedNetStop (ch : Nat)
  /-- SCHED_SLOTFRAME_ADD (R169): The command adds a slotframe, at once or in a staging set. -/
  | schedSlotframeAdd (ch : Nat)
  /-- SCHED_SLOTFRAME_DEL (R169): The command deletes a slotframe, at once or in a staging set. -/
  | schedSlotframeDel (ch : Nat)
  /-- SCHED_CELL_ADD (R170): The command adds a cell, placing it automatically if asked, after the conflict and limit checks. -/
  | schedCellAdd (ch : Nat)
  /-- SCHED_CELL_DEL (R172): The command deletes a cell from an effective ASN. -/
  | schedCellDel (ch : Nat)
  /-- SCHED_CELL_GET (R170): The command returns the cell records in use in a range of IDs. -/
  | schedCellGet (ch : Nat)
  /-- SCHED_JOIN_ACCEPT (R185): The command binds a released join to a context and key slot. -/
  | schedJoinAccept (ch : Nat)
  /-- SCHED_JOIN_REJECT (R184): The command rejects a released join request. -/
  | schedJoinReject (ch : Nat)
  /-- SCHED_STATUS_GET (R162): The command reports a network's ASN, mark, backlog, time quality and parent state. -/
  | schedStatusGet (ch : Nat)
  /-- SCHED_COUNTERS_GET (R195): The command returns and optionally clears the slot engine counters. -/
  | schedCountersGet (ch : Nat)
  /-- JOIN_RELEASE (R184): A backlog request is released to the host ring at its rate-limited time. -/
  | joinRelease (net : Net)
  /-- JOIN_TIMEOUT (R184): A released request unanswered within sched.join_timeout_s is forgotten. -/
  | joinTimeout (net : Net)
  /-- ASN_MARK_CROSS (R190): The ASN crosses a multiple of 2^19 and the ASN mark record write falls due. -/
  | asnMarkCross (net : Net)
  /-- ASN_MARK_HOLD (R191): The ASN reaches the mark plus 2^20 − 2^16 without a newer mark, so transmission is held. -/
  | asnMarkHold (net : Net)
  /-- PLACEMENT_AUDIT (R182): Once per slotframe each offset's spread is checked, and EV_PLACEMENT_STALE is raised where it is too wide. -/
  | placementAudit (net : Net)
  /-- TIME_PARENT_LOST (R193): After sched.parent_miss_limit consecutive misses, the parent is declared lost and the clock goes into holdover. -/
  | timeParentLost (domain : Nat)
  /-- SPAN_OPEN (R198): The command opens a span in ACQUIRE with its role, key, MIC and members. -/
  | spanOpen (ch : Nat)
  /-- SPAN_CLOSE (R226): The command closes a span and drops its queue. -/
  | spanClose (ch : Nat)
  /-- SPAN_MEMBER_SET (R224): The command adds or replaces a member at the next anchor or a set's boundary. -/
  | spanMemberSet (ch : Nat)
  /-- SPAN_MEMBER_DROP (R224): The command removes a member at the next anchor or a set's boundary. -/
  | spanMemberDrop (ch : Nat)
  /-- SPAN_KEY_ROLL (R225): The command binds a key slot to the unused selector from event E. -/
  | spanKeyRoll (ch : Nat)
  /-- SPAN_STATUS_GET (R198): The command reports span state, role, event counter, members, supervision and windows. -/
  | spanStatusGet (ch : Nat)
  /-- SPAN_COUNTERS_GET (R226): The command returns and optionally clears a span's counters. -/
  | spanCountersGet (ch : Nat)
  /-- SPAN_EVENT_PLAN (R212): 500 µs before an anchor, queued span frames are assigned to eligible members by the policy. -/
  | spanEventPlan (span : Nat)
  /-- SPAN_ANCHOR (R201): A span event's anchor falls, and events of the next interval are timed from it. -/
  | spanAnchor (span : Nat)
  /-- SUBEVENT_START (R202): A member's sub-event starts, or is skipped on a collision. -/
  | subeventStart (span : Nat) (radio : Radio)
  /-- SUBEVENT_END (R217): A sub-event ends, the miss is counted, and undelivered frames are judged lost. -/
  | subeventEnd (span : Nat) (radio : Radio)
  /-- SPAN_FRAME_RECEIVE (R207): A received span frame's header is checked and foreign frames are discarded. -/
  | spanFrameReceive (radio : Radio) (octets : Bytes) (meas : RxMeas)
  /-- RESYNC_BURST_SEND (R220): T sends a resync burst at its period in ACQUIRE or RESYNC. -/
  | resyncBurstSend (span : Nat)
  /-- ACQUIRE_ECHO_TIMEOUT (R221): R receives no echo within two events, so it discards its challenge and scans again. -/
  | acquireEchoTimeout (span : Nat)
  /-- SUPERVISION_EXPIRY (R218): The span supervision timer expires, so the queue is dropped, RESYNC is entered and EV_SPAN_LOST is raised. -/
  | supervisionExpiry (span : Nat)
  /-- KEY_OVERLAP_END (R225): At E plus the overlap, the old selector is unbound and EV_SPAN_KEY_ROLLED is raised. -/
  | keyOverlapEnd (span : Nat)
  /-- FIRN_CTX_READ (R268): The command copies a consistent image of a context into the host windows. -/
  | firnCtxRead (ch : Nat)
  /-- FIRN_CTX_WRITE (R268): The command changes one field of a context atomically. -/
  | firnCtxWrite (ch : Nat)
  /-- FIRN_PIN (R267): The command loads a context and keeps it resident. -/
  | firnPin (ch : Nat)
  /-- FIRN_UNPIN (R267): The command ends a context's pinning. -/
  | firnUnpin (ch : Nat)
  /-- FIRN_RELEASE (R269): The command frees a context that no cell names and drops its queued frames. -/
  | firnRelease (ch : Nat)
  /-- FIRN_SYNC (R276): The command writes every stale image record, then the final summary. -/
  | firnSync (ch : Nat)
  /-- FIRN_LOOKUP (R249): The command finds a context by extended or short address. -/
  | firnLookup (ch : Nat)
  /-- FIRN_STATUS_GET (R249): The command reports Firn occupancy, miss queue and summary state. -/
  | firnStatusGet (ch : Nat)
  /-- FIRN_COUNTERS_GET (R277): The command returns and optionally clears the Firn counters. -/
  | firnCountersGet (ch : Nat)
  /-- FIRN_LOAD_START (R258): A lookahead or miss load starts on the FIRN port once a slot is free and fewer than 8 loads are outstanding. -/
  | firnLoadStart
  /-- FIRN_LOAD_COMPLETE (R258): All 16 bursts of a load arrive, so the context becomes resident and waiting miss frames proceed. -/
  | firnLoadComplete (ctx : Nat) (sre : Bool) (bad : Bool)
  /-- FIRN_EVICT (R264): With too few free slots, the clock hand evicts a context whose reference bit is clear. -/
  | firnEvict
  /-- WRITEBACK_COMPLETE (R265): A changed evicted context has been written back and its slot becomes free. -/
  | writebackComplete (slot : Nat)
  /-- FIRN_IMAGE_SWEEP (R271): Every firn.image_period_s, the stale image records fall due for writing. -/
  | firnImageSweep
  /-- FIRN_IMAGE_URGENT (R271): An image record made urgent is written within 1 s. -/
  | firnImageUrgent
  /-- CIPHER_KEY_LOAD (R303): The command loads a plain or wrapped key into an empty slot, sets its start counter and writes its mark entry. -/
  | cipherKeyLoad (ch : Nat)
  /-- CIPHER_KEY_ERASE (R286): The command stops new requests for a slot that is not in use and starts its erasure. -/
  | cipherKeyErase (ch : Nat)
  /-- KEY_ERASE_DONE (R286): Once the queued requests of a slot complete, its shares, usage and counter are zeroed. -/
  | keyEraseDone (slot : Nat)
  /-- CIPHER_KEY_INFO (R285): The command reports a slot's state, usage, check value, counter and mark. -/
  | cipherKeyInfo (ch : Nat)
  /-- CIPHER_RAW (R305): The command encrypts or decrypts independent blocks for the host. -/
  | cipherRaw (ch : Nat)
  /-- CIPHER_CTR (R305): The command runs CTR from a host-supplied counter block. -/
  | cipherCtr (ch : Nat)
  /-- CIPHER_CMAC (R290): The command computes a CMAC tag. -/
  | cipherCmac (ch : Nat)
  /-- CIPHER_SEAL (R306): The command runs CCM seal with a counter-derived or host nonce. -/
  | cipherSeal (ch : Nat)
  /-- CIPHER_OPEN (R306): The command runs CCM open through the rime buffer and releases the plaintext only if its tag passes. -/
  | cipherOpen (ch : Nat)
  /-- CIPHER_RANDOM (R309): The command returns DRBG output. -/
  | cipherRandom (ch : Nat)
  /-- CIPHER_COUNTERS_GET (R310): The command returns and optionally clears the cipher counters. -/
  | cipherCountersGet (ch : Nat)
  /-- CIPHER_REQUEST_COMPLETE (R288): The last block of a pipeline request leaves, and its completion record is written. -/
  | cipherRequestComplete (queue : Nat)
  /-- RIME_UNITS_RESERVED (R296): A waiting decrypt graph reserves its rime units once they are free. -/
  | rimeUnitsReserved (inst : Nat)
  /-- TAG_CHECK_DONE (R292): A receiving graph compares its tag and applies the replay check; on a pass it releases the plaintext, otherwise it zeroes it. -/
  | tagCheckDone (check : TagCheck)
  /-- MASK_RESEED (R280): After every 4,096 blocks, the mask generator takes conditioned entropy, or continues and counts a late reseed. -/
  | maskReseed
  /-- KEY_SHARE_REFRESH (R281): After 65,536 requests on a slot, its shares are re-randomised. -/
  | keyShareRefresh (slot : Nat)
  /-- ENTROPY_STARTUP_PASS (R307): 4,096 raw bits pass the start-up tests, and the source output may be used. -/
  | entropyStartupPass
  /-- ENTROPY_TEST_FAIL (R308): A health test fails and the source repeats its start-up test; three failures in 1 s enter ENTROPY_FAIL. -/
  | entropyTestFail (test : EntropyTest)
  /-- DRBG_RESEED (R309): The DRBG reseeds after 65,536 requests or cipher.drbg_reseed_s. -/
  | drbgReseed
  /-- DRBG_RESEED_WAIT_EXPIRY (R309): Requests that have waited 10 ms for a reseed are refused with ERR_ENTROPY. -/
  | drbgReseedWaitExpiry
  /-- CC_STATUS_GET (R320): The command reports core, AOC, store, instance and delay list state. -/
  | ccStatusGet (ch : Nat)
  /-- CC_COUNTERS_GET (R337): The command returns and optionally clears the control cluster counters. -/
  | ccCountersGet (ch : Nat)
  /-- DFS_TEMPLATE_LIST (R315): The command lists the resident templates. -/
  | dfsTemplateList (ch : Nat)
  /-- TRIGGER_START (R316): A trigger starts an instance once an instance number and store room are free. -/
  | triggerStart (tpl : Nat) (roots : List (Nat × Nat))
  /-- NODE_FIRE (R318): A node whose inputs are present and whose unit and store room allow fires as an operation. -/
  | nodeFire (inst : Nat) (node : Nat) (req : Option CipherReq)
  /-- OPERATION_COMPLETE (R319): An operation completes; its outputs enter the store and its inputs are freed in one step. -/
  | operationComplete (job : JobRef)
  /-- INSTANCE_CANCEL (R317): An instance is cancelled; its operands are freed and its number is freed after its running operations end. -/
  | instanceCancel (inst : Nat)
  /-- DELAY_NODE_FIRE (R323): A delay node takes a delay list entry with its due time once an entry is free. -/
  | delayNodeFire (inst : Nat) (node : Nat)
  /-- DELAY_ENTRY_DUE (R324): At a scan, every due delay entry delivers its operand to the store. -/
  | delayEntryDue
  /-- OP_WATCHDOG_EXPIRY (R322): An operation that runs cc.op_watchdog_us is withdrawn, its core is reset and it is restarted on another core. -/
  | opWatchdogExpiry (inst : Nat) (node : Nat)
  /-- CORE_RESET_END (R312): A core held in reset after a watchdog action returns to IDLE within 3 µs. -/
  | coreResetEnd (core : Nat)
  /-- CORE_PARK (R313): Eotre parks or unparks an idle core, keeping cc.cores_min unparked. -/
  | corePark (core : Nat) (park : Bool)
  /-- IRQ_SOURCE_ASSERT (R326): An interrupt source asserts and becomes pending, or is held in its coalescing group. -/
  | irqSourceAssert (source : Nat)
  /-- COALESCE_TIMER_EXPIRY (R331): A group's timer reaches its time and every held source becomes pending. -/
  | coalesceTimerExpiry (group : Nat)
  /-- IRQ_ARBITRATE (R327): Each arbitration cycle routes pending unmasked sources to target cores, moving or withdrawing signals. -/
  | irqArbitrate
  /-- IRQ_ACKNOWLEDGE (R328): A core acknowledges and receives its signalled source, or an empty acknowledgement. -/
  | irqAcknowledge (core : Nat)
  /-- IRQ_SOURCE_MASK (R329): Masking or unmasking a source withdraws or restores its signal. -/
  | irqSourceMask (source : Nat) (mask : Bool)
  /-- FRAME_INGRESS (R343): A packet enters a pipeline and passes admission, metering, learning, bridging or routing, and queueing. -/
  | frameIngress (src : IngressSrc)
  /-- REASM_TIMEOUT (R361): A datagram incomplete after rt.lowpan_reasm_s is discarded. -/
  | reasmTimeout
  /-- EGRESS_SEND (R364): At a frame boundary, a port sends the head frame of the lowest eligible queue. -/
  | egressSend (port : Nat)
  /-- GATE_ENTRY (R370): The next gate control list entry takes effect at its time. -/
  | gateEntry (port : Nat)
  /-- AGE_TICK (R348): The age clock advances and both FDBs are swept for aged entries. -/
  | ageTick
  /-- RT_COUNTERS_GET (R372): The command returns and optionally clears a pipeline's counters. -/
  | rtCountersGet (ch : Nat)
  /-- LOWPAN_CTX_SET (R359): The command sets a 6LoWPAN compression context. -/
  | lowpanCtxSet (ch : Nat)
  /-- TM_SHAPER_SET (R366): The command attaches, changes or detaches a shaper. -/
  | tmShaperSet (ch : Nat)
  /-- TM_METER_SET (R367): The command configures a meter with full buckets. -/
  | tmMeterSet (ch : Nat)
  /-- GATE_LIST_SET (R371): The command replaces a port's gate list at once or stages it for a gate cycle. -/
  | gateListSet (ch : Nat)
  /-- TM_STATUS_GET (R364): The command reports queue occupancy, gate state and buffer space. -/
  | tmStatusGet (ch : Nat)
  /-- TM_COUNTERS_GET (R373): The command returns and optionally clears a port's traffic manager counters. -/
  | tmCountersGet (ch : Nat)
  /-- TIME_GET (R385): The command returns network time, the bound, raw and always-on counters, and the servo state. -/
  | timeGet (ch : Nat)
  /-- TIME_ADJUST (R381): The command slews or steps the clock from the host source and sets the bound. -/
  | timeAdjust (ch : Nat)
  /-- TIME_COUNTERS_GET (R392): The command returns and optionally clears the time counters. -/
  | timeCountersGet (ch : Nat)
  /-- RAW_REF_FOLD (R376): At least every 2^40 ticks the elapsed time is folded into offset. -/
  | rawRefFold
  /-- TRIGGER_COMPARE_FIRE (R378): A compare trigger fires when its target is reached. -/
  | triggerCompareFire
  /-- TIME_SOURCE_LOSS (R382): A lost source puts the clock into holdover and raises EV_TIME_HOLDOVER. -/
  | timeSourceLoss
  /-- TIME_BOUND_ALARM (R384): The bound crosses time.bound_alarm_ns, raising EV_TIME_BOUND. -/
  | timeBoundAlarm
  /-- PPS_IN_EDGE (R390): A PPS_IN rising edge is timestamped and accepted or rejected. -/
  | ppsInEdge
  /-- PPS_OUT_EDGE (R391): PPS_OUT rises at a whole second and falls after its width. -/
  | ppsOutEdge
  /-- LANE_STATUS_GET (R395): The command reports a lane's state, rate and inversion. -/
  | laneStatusGet (ch invalid : Nat)
  /-- LANE_TEST (R397): The command starts or ends a test mode on a lane. -/
  | laneTest (ch : Nat)
  /-- LANE_PRBS_GET (R398): The command reads and optionally clears the PRBS checker counters. -/
  | lanePrbsGet (ch bits errors : Nat)
  /-- LANE_RETRAIN (R418): The command takes a lane through ACQUIRE and bring-up. -/
  | laneRetrain (ch : Nat)
  /-- ETH_STATUS_GET (R399): The command reports a port's link, speed and partner abilities. -/
  | ethStatusGet (ch : Nat)
  /-- ETH_COUNTERS_GET (R419): The command returns and optionally clears a port's counters. -/
  | ethCountersGet (ch : Nat)
  /-- MDIO_READ (R401): The command makes one MDIO read of a declared PHY. -/
  | mdioRead (ch : Nat) (reply : Option Nat)
  /-- MDIO_WRITE (R401): The command makes one MDIO write to a declared PHY. -/
  | mdioWrite (ch : Nat)
  /-- CASC_STATUS_GET (R412): The command reports cascade role, epoch, holder and lanes. -/
  | cascStatusGet (ch : Nat)
  /-- CASC_COUNTERS_GET (R419): The command returns and optionally clears the cascade counters. -/
  | cascCountersGet (ch : Nat)
  /-- CASC_RELEASE (R414): The command makes the holder yield the cap token. -/
  | cascRelease (ch : Nat)
  /-- LANE_CDR_LOCK (R395): The lane's CDR locks, and it moves from ACQUIRE to ALIGN. -/
  | laneCdrLock (lane : Nat)
  /-- LANE_COMMA_FOUND (R395): A K28.5 comma is found in either polarity, and the lane enters SYNC. -/
  | laneCommaFound (lane : Nat) (inverted : Bool)
  /-- LANE_SYNC_DONE (R395): 64 consecutive valid code groups bring the lane UP and raise EV_LANE_UP. -/
  | laneSyncDone (lane : Nat)
  /-- LANE_SYNC_LOSS (R396): Four invalid code groups in 32, or loss of lock, take the lane to ACQUIRE. -/
  | laneSyncLoss (lane : Nat) (lockLost : Bool) (lost : Nat)
  /-- LANE_TEST_END (R397): A timed test reaches its duration and the lane returns to ACQUIRE. -/
  | laneTestEnd (lane : Nat)
  /-- PRBS_LOCK (R398): The checker locks after 64 error-free bits. -/
  | prbsLock (lane : Nat)
  /-- PRBS_LOCK_LOSS (R398): 64 consecutive bit errors make the checker report loss and relock. -/
  | prbsLockLoss (lane bits errors : Nat)
  /-- ETH_LINK_CHANGE (R399): A port goes up or down and raises EV_ETH_LINK. -/
  | ethLinkChange (port : Nat) (up : Bool) (speed abilities : Nat) (anFail : Bool)
  /-- CASC_MARKER_RX (R405): Alignment markers received on a lane deskew the link and bring it up. -/
  | cascMarkerRx (lane far : Nat)
  /-- CASC_DATA_RX (R408): A DATA packet is handled as a frame arriving on K and its source is learned. -/
  | cascDataRx (peer : Nat) (packet : Bytes)
  /-- CASC_ANNOUNCE_RX (R416): An ANNOUNCE with the holder flag makes a holder enter DISPUTE and compare claims. -/
  | cascAnnounceRx (peer : Nat) (packet : Bytes)
  /-- CASC_TIME_SYNC_RX (R411): The holder answers a TIME_SYNC with a TIME_REPLY, except in DISPUTE. -/
  | cascTimeSyncRx (peer : Nat) (packet : Bytes) (ago : Nat)
  /-- CASC_TIME_REPLY_RX (R411): A TIME_REPLY yields a phase error that is applied if the round trip is short enough. -/
  | cascTimeReplyRx (peer : Nat) (packet : Bytes) (ago : Nat)
  /-- CASC_PAUSE_RX (R410): A PAUSE stops or releases K queues toward the sender. -/
  | cascPauseRx (peer : Nat) (packet : Bytes)
  /-- CASC_LINK_RX (R406): A LINK message changes the active lanes at the next marker boundary. -/
  | cascLinkRx (peer : Nat) (packet : Bytes) (lost : Nat)
  /-- CASC_PAUSE_TIMEOUT (R410): A stopped queue resumes after 100 µs. -/
  | cascPauseTimeout (peer queue : Nat)
  /-- CASC_TIME_SYNC_SEND (R411): A device with source 5 sends TIME_SYNC each casc.time_interval_ms. -/
  | cascTimeSyncSend
  /-- CASC_ANNOUNCE_SEND (R413): Every casc.announce_us, each device sends ANNOUNCE on every up link. -/
  | cascAnnounceSend
  /-- CASC_HOLD_SAMPLE (R413): The holder releases CASC_HOLD for 1 µs and yields if it finds the line low. -/
  | cascHoldSample (high : Bool)
  /-- CASC_TAKE_WAIT_MET (R415): Once the line has been high and no holder announced for the wait, the device stores a new epoch. -/
  | cascTakeWaitMet
  /-- CASC_TAKE_DRIVE (R415): After the epoch store completes, the device drives CASC_HOLD low and announces as holder. -/
  | cascTakeDrive (high : Bool)
  /-- DISPUTE_CLEAR (R416): After casc.dispute_clear quiet intervals, the holder leaves DISPUTE. -/
  | disputeClear
  /-- MEM_STATUS_GET (R421): The command reports bank uses, the retain mask and packet buffer space. -/
  | memStatusGet (ch : Nat)
  /-- DDR_STATUS_GET (R437): The command reports DRAM channel state, rate, refresh and eyes. -/
  | ddrStatusGet (ch : Nat)
  /-- MEM_COUNTERS_GET (R444): The command returns and optionally clears the memory counters. -/
  | memCountersGet (ch : Nat)
  /-- DRAM_REFRESH (R429): An all-bank refresh falls due at its interval, or is postponed during panic. -/
  | dramRefresh (chan : Nat)
  /-- MR4_READ (R429): Every 16 ms the MR4 codes set the refresh interval and timings. -/
  | mr4Read (chan : Nat) (codes : List Nat)
  /-- RH_THRESHOLD_REFRESH (R430): A row's activate count reaches the threshold, so its neighbours are refreshed. -/
  | rhThresholdRefresh (chan : Nat) (bank : Nat) (row : Nat)
  /-- RH_TABLE_CLEAR (R430): Every 32 ms the row activate tables are cleared. -/
  | rhTableClear (chan : Nat)
  /-- PANIC_ENTRY (R428): A real-time port's backlog reaches its threshold and it is served first. -/
  | panicEntry (port : RtPort) (level : Nat)
  /-- SELF_REFRESH_ENTRY (R432): After ddr.sr_idle_us idle, a channel issues SRE and stops CK. -/
  | selfRefreshEntry (chan : Nat)
  /-- SELF_REFRESH_EXIT (R433): A request or panic during self-refresh starts the exit; one before SRE cancels the entry. -/
  | selfRefreshExit (chan : Nat) (beforeSre : Bool)
  /-- DQS_OSC_CHECK (R438): The DQS oscillator drift is read and the write delays are recentred. -/
  | dqsOscCheck (chan : Nat) (rank : Nat) (drift : Int)
  /-- SCRUB_PASS (R435): A DRAM patrol scrub pass completes. -/
  | scrubPass
  /-- SRAM_SCRUB (R422): An SRAM bank is scrubbed hourly. -/
  | sramScrub (bank : Nat) (corrected : Nat)
  /-- ECC_ERROR_DETECTED (R422): A memory read finds a correctable or uncorrectable error and handles it by content. -/
  | eccErrorDetected (err : EccError)
  /-- TRAINING_STEP_DONE (R436): A DRAM training step passes or fails, retrying at a lower rate on failure. -/
  | trainingStepDone (pass : Bool) (chan : Nat) (eyes : Bytes)
  /-- DOZE_ENTRY (R446): Every unparked core idle for pwr.doze_idle_us gates the cores. -/
  | dozeEntry
  /-- NAP_ENTRY (R447): With no blocker and no near event for pwr.nap_idle_us, the device stops the fast clocks. -/
  | napEntry (during : List WakeSource)
  /-- NAP_EXIT (R451): A wake restarts the PLLs and domains, advances the raw counter and readies the radios within 180 µs. -/
  | napExit (src : WakeSource)
  /-- HIBERNATE_PREPARE (R449): The HIBERNATE idle timer runs out, preparation runs, then the entry sequence powers down all but AON. -/
  | hibernatePrepare (during : List WakeSource)
  /-- HIBERNATE_EXIT (R452): A wake from HIBERNATE takes the warm, DRAM lost or cold path. -/
  | hibernateExit (src : WakeSource)
  /-- AON_TIMER_FIRE (R450): The AON timer fires, sets its latch bit and wakes unless masked. -/
  | aonTimerFire
  /-- PWR_STATUS_GET (R456): The command reports state, blockers, wake latch and supply, and can clear the latch. -/
  | pwrStatusGet (ch : Nat)
  /-- PWR_COUNTERS_GET (R460): The command returns and optionally clears the power counters. -/
  | pwrCountersGet (ch : Nat)
  /-- POWER_ON_RESET (R484): VDD_AON returns after OFF, so the device resets with cause POWER_ON. -/
  | powerOnReset
  /-- BROWNOUT_RESET (R484): VDD_CORE falls below range while VDD_AON holds, so the device resets with cause BROWNOUT. -/
  | brownoutReset
  /-- VDD_AON_LOSS (R446): VDD_AON below range puts the device in OFF. -/
  | vddAonLoss
  /-- RESET_PIN (R485): A RESET_N low pulse of 1 µs or more resets the device. -/
  | resetPin (lowNs : Nat)
  /-- RESET_RELEASE (R485): After release and 4,096 reference cycles, the straps are sampled and the boot ROM starts. -/
  | resetRelease (straps : Straps)
  /-- BOOT_IMAGE_CHECK_DONE (R471): The boot ROM finishes reading and verifying the chosen slot and starts Eotre or falls back. -/
  | bootImageCheckDone (okA : Bool) (okB : Bool)
  /-- EOTRE_READY (R485): Eotre opens the mailboxes at BOOT 3, asserts HOST_IRQ_N and raises EV_READY. -/
  | eotreReady (image : EotreImage)
  /-- SYS_RESET (R468): The command schedules a device reset 10 ms after its response. -/
  | sysReset (ch : Nat)
  /-- SYS_RESET_TAKES_EFFECT (R468): 10 ms after the response, the device resets with cause HOST. -/
  | sysResetTakesEffect
  /-- SYS_WATCHDOG_EXPIRY (R464): No operation completes for flt.sys_watchdog_ms, so the AOC logs and resets. -/
  | sysWatchdogExpiry
  /-- FAULT_LOG_ENTRY (R465): A fault is written into the fault log record within 100 ms, or waits. -/
  | faultLogEntry
  /-- FW_STAGE (R469): The command copies part of an image into the DRAM staging region. -/
  | fwStage (ch : Nat)
  /-- FW_COMMIT (R469): The command checks the staged image and writes it into the inactive slot. -/
  | fwCommit (ch : Nat)
  /-- FW_ACTIVATE (R470): The command switches every core and the AOC to the committed image without a reset. -/
  | fwActivate (ch : Nat)
  /-- FW_OLD_IMAGE_RELEASE (R470): When the last old-version instance ends, the old image and its template slots are released. -/
  | fwOldImageRelease
  /-- FW_CONFIRM (R471): The command marks the trial slot confirmed. -/
  | fwConfirm (ch : Nat)
  /-- FW_STATUS_GET (R471): The command reports slot versions and states. -/
  | fwStatusGet (ch : Nat)
  /-- FLT_LOG_GET (R465): The command copies the fault log into the host windows. -/
  | fltLogGet (ch : Nat)
  /-- FLT_INJECT (R474): The command injects a single fault for test while enabled. -/
  | fltInject (ch : Nat)
  /-- FLT_COUNTERS_GET (R475): The command returns and optionally clears the fault counters. -/
  | fltCountersGet (ch : Nat)
  /-- JTAG_RESET (R467): A reset through the test access port resets the device with cause JTAG, keeping SYS_SCRATCH and pending log entries. -/
  | jtagReset
  /-- VDD_IO18_BELOW_THRESHOLD (R484): VDD_IO18 falling below its 1.50 V monitor threshold holds the device in reset until the rail returns. -/
  | vddIo18BelowThreshold
  /-- TBL_CMD_COMPLETION (R353): A table command completes within its bound, writing its result words, then TBL_RESULT, and only then clearing BUSY. -/
  | tblCmdCompletion
  /-- ACTIVATION_COMPLETED (R470): A firmware activation ends once every core and the AOC run the new image; the new slot is marked trial and EV_FW_ACTIVATED is raised. -/
  | activationCompleted (changed : Tab Template)
  /-- PANIC_EXIT (R428): A real-time DRAM port leaves panic when its level falls below half its threshold, and the postponed refreshes are issued back to back. -/
  | panicExit (port : RtPort) (level : Nat)
  deriving DecidableEq, Repr

end Sys2Proof
end

