-- ==== Sys2Proof/Config.lean ====
section
/-! DEFINITION. What one device or board fixes and the spec leaves to it, and the free values. A constant without a body:
nothing can be proved of its value, so a statement holds for every value. -/

namespace Sys2Proof.Config

/-- Whether the part is a ZK4832; otherwise it is a ZK4816 (00 R1). -/
opaque isZk4832 : Bool

/-- The device serial number of the factory area (02 R32). -/
opaque serial : Nat

/-- The MAC address base of the factory area, first octet most significant (02 R36). -/
opaque macBase : Nat

/-- The factory crystal calibration in ppb (13 R376). -/
opaque xoCalPpb : Int

/-- The factory RSSI offset of a radio in 0.25 dB (02 R53). -/
opaque rssiCal (radio : Nat) : Int

/-- The factory-stated physical range of the quantity that user offset `id` corrects: 0.001 dBm for the power offsets, 0.25 dB
for the RSSI offsets, ppb for the crystal (02 R53). -/
opaque calRange (id : Nat) : Int × Int

/-- The vendor's OUI, factory item 0x0031, first octet most significant (06 R186). -/
opaque oui : Nat

/-- The other items of the factory area, each in its own length and format; none where no item has the number (02 R36). -/
opaque factoryItem : Nat → Option (List (BitVec 8))

/-- The vendor key hash of the factory area (17 R469). -/
opaque vendorKeyHash : List (BitVec 8)

/-- The Eotre version that slot A holds when the device leaves the factory (17 R471). -/
opaque factoryEotre : Nat

/-- The factory power table: predicted power in 0.001 dBm of the first PA setting of a radio, at the die temperature −40 °C + 5 °C × `t` and the
PA supply 3.0 V + 0.1 V × `v` (03 R70). -/
opaque paFirst (radio t v : Nat) : Int

/-- From PA setting `k` of a radio to the next: 250 more than the step in 0.001 dB, taken modulo 501 (03 R68). -/
opaque paStep (radio k t v : Nat) : Nat

/-- The same at a die temperature outside the table, in 0.1 °C, and a PA supply in mV: the rule gives an edge value for the supply alone
(03 R70). -/
opaque paFirstOutside (radio : Nat) (temp : Int) (mv : Nat) : Int
opaque paStepOutside (radio k : Nat) (temp : Int) (mv : Nat) : Nat

/-- The sum of the steps below a PA setting: adjacent settings lie at most 0.25 dB apart (03 R68, R98). -/
def paClimb (step : Nat → Nat) : Nat → Int
  | 0 => 0
  | k + 1 => paClimb step k + ((step k % 501 : Nat) : Int) - 250

/-- The factory power table in 0.001 dBm (03 R68, R70). -/
def paTable (radio setting t v : Nat) : Int := paFirst radio t v + paClimb (fun k => paStep radio k t v) setting

/-- Predicted power outside the table's temperatures in 0.001 dBm (03 R68, R70). -/
def paOutside (radio setting : Nat) (temp : Int) (mv : Nat) : Int :=
  paFirstOutside radio temp mv + paClimb (fun k => paStepOutside radio k temp mv) setting

/-- How long the PA ramps up before the first symbol, in ns beyond 2 µs, taken modulo 2,001 (03 R60: 2 µs to 4 µs). -/
opaque rampUp : Nat

/-- How long a Thaw retune takes in ns, taken modulo 1,500,001 (03 R93: at most 1.5 ms). -/
opaque retuneNs : Nat

/-- How many PA settings a radio has (03 R68). -/
opaque paSettings (radio : Nat) : Nat

/-- The retries after which a client's frame is dropped (09 R250 TX_DROPPED; the spec gives no number). -/
opaque frameRetries : Nat

/-- Octets of MAC header and security header that a frame of a network carries beside its payload, MIC and FCS: the standard
gives them, the spec does not. -/
opaque macOverhead (net : Nat) : Nat

/-- Which of the supported security levels a context's frames have, by context number, and those of a network's key set, by 0x10000 and the
network's number: the spec names no field or command that sets them (10 R291; log entry 196). -/
opaque secLevel (id : Nat) : Nat

/-- PSDU octets without MIC and FCS of an enhanced beacon and of an enhanced acknowledgement of a network: the standard's IEs fix them,
the spec gives no number. -/
opaque beaconLen (net : Nat) : Nat
opaque ackLen (net : Nat) : Nat

/-- Bandwidth of an MB O-QPSK lane in Hz, for its quantisation noise (04 R109 gives none). -/
opaque mbLaneHz : Nat

/-- The frequency offset in Hz that an LB lane window of a mode's narrow width still covers; no rule gives it (04 R115). -/
opaque narrowRoom (mode : Nat) : Nat

/-- Octets of a DSME-GTS reply; the standard fixes them, the spec does not give them (06 R163). -/
opaque gtsReply (net : Nat) : List (BitVec 8)

/-- Channel adaptation: the hopping-list index that the slot engine moves a DSME-GTS to, where it moves it; no rule gives its choice
(06 R163). -/
opaque gtsMove (turn cell : Nat) : Option Nat

/-- The superframe within its beacon interval whose beacon slot the parent coordinator uses, before its remainder by their number;
the spec does not give it (06 R193). -/
opaque parentBeacon (net : Nat) : Nat

/-- The bucket, before its remainder by 8,192, that the fixed hash chooses for a VID and MAC address (12 R349). -/
opaque fdbHash (vid mac : Nat) : Nat

/-- The fixed hash of link aggregation over the octets of the fields it covers (14 R402). -/
opaque lagHash : List (BitVec 8) → Nat

/-- The device's own extended address on the client networks; the spec does not give it. -/
opaque ownEui : Nat

/-- Free values: a fresh number for each use, numbered by State.freeCtr. No rule gives these values. -/
opaque free : Nat → Nat

end Sys2Proof.Config
end

