-- ==== Sys2Proof/Machine/Bytes.lean ====
section
/-! DEFINITION. Byte order, sign extension, alignment, CRCs: the conversions every structure of the spec uses (00 R7). -/

namespace Sys2Proof.Machine

/-- The number a little-endian run of bytes spells (00 R7). -/
def leNat : Bytes → Nat
  | [] => 0
  | b :: bs => b.toNat + 256 * leNat bs

/-- The `n` low bytes of a number, least significant first. -/
def leBytes : Nat → Nat → Bytes
  | 0, _ => []
  | n + 1, v => BitVec.ofNat 8 v :: leBytes n (v / 256)

/-- The number a big-endian run of bytes spells (MAC addresses, network headers). -/
def beNat (bs : Bytes) : Nat := leNat bs.reverse

/-- The `n` low bytes of a number, most significant first. -/
def beBytes (n v : Nat) : Bytes := (leBytes n v).reverse

/-- A two's-complement reading of `n` bits. -/
def signed (n v : Nat) : Int := if v % 2 ^ n < 2 ^ (n - 1) then (v % 2 ^ n : Nat) else (v % 2 ^ n : Nat) - (2 ^ n : Nat)

/-- The `n`-bit two's-complement code of a number. -/
def unsigned (n : Nat) (i : Int) : Nat := (i % (2 ^ n : Nat)).toNat

/-- A signed number as `n` little-endian bytes. -/
def leInt (n : Nat) (i : Int) : Bytes := leBytes n (unsigned (8 * n) i)

/-- One byte 0 or 1 (02 R494). -/
def boolByte (b : Bool) : Bytes := [if b then 1#8 else 0#8]

def u8 (v : Nat) : Bytes := leBytes 1 v
def u16 (v : Nat) : Bytes := leBytes 2 v
def u32 (v : Nat) : Bytes := leBytes 4 v
def u64 (v : Nat) : Bytes := leBytes 8 v

/-- Rounded up to a multiple of `k`. -/
def alignUp (k v : Nat) : Nat := (v + (k - 1)) / k * k

/-- Quotient rounded up. -/
def ceilDiv (a b : Nat) : Nat := (a + (b - 1)) / b

/-- A count that stops at its largest value (00 R6: counters saturate). -/
def satAdd (top a n : Nat) : Nat := min top (a + n)

/-- The signed difference of two `n`-bit counters (13 R378, 02 R47). -/
def sdiff (n a b : Nat) : Int := signed n (a + 2 ^ n - b % 2 ^ n)

/-- `bs` cut to `n` bytes, or filled up to them with zeros. -/
def padTo (n : Nat) (bs : Bytes) : Bytes := (bs.take n) ++ List.replicate (n - bs.length) 0#8

/-- One step of a bitwise CRC, most significant bit first: `poly` below bit `w`. -/
def crcStep (w poly acc : Nat) (bit : Bool) : Nat :=
  let top := acc.testBit (w - 1) != bit
  let sh := (acc * 2) % 2 ^ w
  if top then sh ^^^ poly else sh

/-- A CRC over bits given in the order they enter. -/
def crcBits (w poly init : Nat) (bits : List Bool) : Nat := bits.foldl (crcStep w poly) init

/-- The bits of a byte, most significant first. -/
def msbBits (b : Byte) : List Bool := [b.getLsbD 7, b.getLsbD 6, b.getLsbD 5, b.getLsbD 4, b.getLsbD 3, b.getLsbD 2, b.getLsbD 1, b.getLsbD 0]

/-- The bits of a byte, least significant first. -/
def lsbBits (b : Byte) : List Bool := (msbBits b).reverse

/-- CRC-8 with polynomial 0x07 and a given start value over whole bytes, most significant bit first (03 R92). -/
def crc8 (init : Nat) (bs : Bytes) : Nat := crcBits 8 0x07 init (bs.flatMap msbBits)

/-- CRC-16 with polynomial 0x1021 and start value 0xFFFF (14 R407). -/
def crc16 (bs : Bytes) : Nat := crcBits 16 0x1021 0xFFFF (bs.flatMap msbBits)

/-- The reflected CRC-32 of IEEE 802.3 (02 R54): bytes enter least significant bit first, start and final value inverted. -/
def crc32Step (acc : Nat) (bit : Bool) : Nat :=
  let low := acc.testBit 0 != bit
  if low then (acc / 2) ^^^ 0xEDB88320 else acc / 2

def crc32 (bs : Bytes) : Nat := ((bs.flatMap lsbBits).foldl crc32Step 0xFFFFFFFF) ^^^ 0xFFFFFFFF

/-- A value held within `lo` and `hi`. -/
def clampInt (lo hi v : Int) : Int := max lo (min hi v)

/-- A signed quotient of the rate arithmetic, its fraction dropped downward (log entry 12). -/
def rateDiv (num : Int) (den : Nat) : Int := num / (den : Int)

/-- 2^40 / 10^9 of a rate in ppb, over `den` (13 R376, R380). -/
def rateOf (ppb : Int) (den : Nat) : Int := rateDiv (ppb * 2 ^ 40) (1000000000 * den)

/-- A calibrated quantity: factory value plus the user offset of parameter `id`, within its physical range (02 R53). -/
def calSum (id : Nat) (factory offset : Int) : Int := clampInt (Config.calRange id).1 (Config.calRange id).2 (factory + offset)

end Sys2Proof.Machine
end

