-- ==== Sys2Proof/Machine/ParamTable.lean ====
section
/-! DEFINITION. The parameter tables of every chapter, one row per parameter or per family of equal parameters (02 R43, R44). -/

namespace Sys2Proof.Machine

/-- A row of a parameter table: the parameter of identity `id`, and `count - 1` more, `stride` apart (one per span,
sub-band, port or network), whose domains follow that of the first. -/
structure ParamRow where
  id : Nat
  ty : PType
  ranges : List (Int × Int)
  dflt : PDefault
  access : Access
  cls : CommitClass
  domain : Nat
  count : Nat
  stride : Nat
  step : Nat
  deriving DecidableEq, Repr

/-- Parameters of group 0 (02 R44, 18 R483). -/
def paramsSys : List ParamRow := [
  ⟨0x0010, .bool, [(0, 1)], .strapHostif, .rw, .immediate, 0x0000, 1, 0, 0⟩ /- sys.inband_enable -/,
  ⟨0x0011, .enum, [(0, 3)], .val (.num 0), .rw, .immediate, 0x0000, 1, 0, 0⟩ /- sys.inband_port -/,
  ⟨0x0012, .u16, [(1536, 65535)], .val (.num 34997), .rw, .immediate, 0x0000, 1, 0, 0⟩ /- sys.inband_ethertype -/,
  ⟨0x0013, .u16, [(0, 4094)], .val (.num 0), .rw, .immediate, 0x0000, 1, 0, 0⟩ /- sys.inband_vlan -/,
  ⟨0x0014, .mac, [], .val (.num 0), .rw, .immediate, 0x0000, 1, 0, 0⟩ /- sys.inband_host_mac -/,
  ⟨0x0018, .u8, [(8, 119)], .val (.num 74), .rw, .reset, 0x0000, 1, 0, 0⟩ /- sys.mser_addr -/,
  ⟨0x0020, .u32, [(500, 50000)], .val (.num 2000), .rw, .immediate, 0x0000, 1, 0, 0⟩ /- sys.commit_lead_us -/,
  ⟨0x0030, .u32, [(0, 16777215)], .val (.num 0), .rw, .immediate, 0x0000, 1, 0, 0⟩ /- sys.gpio_dir -/,
  ⟨0x0031, .u32, [(0, 16777215)], .val (.num 0), .rw, .immediate, 0x0000, 1, 0, 0⟩ /- sys.gpio_out -/,
  ⟨0x0032, .u32, [(0, 16777215)], .val (.num 0), .rw, .immediate, 0x0000, 1, 0, 0⟩ /- sys.gpio_od -/,
  ⟨0x0033, .u32, [(0, 16777215)], .absent, .ro, .immediate, 0x0000, 1, 0, 0⟩ /- sys.gpio_in -/]

/-- Parameters of group 1 (03 R97, 02 R53). -/
def paramsRf : List ParamRow := [
  ⟨0x1001, .enum, [(0, 2)], .val (.num 0), .rw, .immediate, 0x0000, 1, 0, 0⟩ /- rf.lb_rx_antenna -/,
  ⟨0x1002, .enum, [(0, 2)], .val (.num 0), .rw, .immediate, 0x0000, 1, 0, 0⟩ /- rf.mb_rx_antenna -/,
  ⟨0x1010, .u8, [(2, 40)], .val (.num 12), .rw, .immediate, 0x0000, 1, 0, 0⟩ /- rf.synth_cal_step_c -/,
  ⟨0x1011, .u16, [(0, 1000)], .val (.num 100), .rw, .immediate, 0x0000, 1, 0, 0⟩ /- rf.tx_lateness_us -/,
  ⟨0x1012, .u16, [(0, 100)], .val (.num 0), .rw, .immediate, 0x0000, 1, 0, 0⟩ /- rf.tx_lateness_sync_us -/,
  ⟨0x1013, .u16, [(150, 2000)], .val (.num 150), .rw, .immediate, 0x0000, 1, 0, 0⟩ /- rf.bg_cal_min_gap_us -/,
  ⟨0x1014, .u8, [(1, 15)], .val (.num 3), .rw, .immediate, 0x0000, 1, 0, 0⟩ /- rf.bg_fail_limit -/,
  ⟨0x1015, .u16, [(200, 5000)], .val (.num 200), .rw, .immediate, 0x0000, 1, 0, 0⟩ /- rf.cal_guard_us -/,
  ⟨0x1016, .u16, [(1, 600)], .val (.num 10), .rw, .immediate, 0x0000, 1, 0, 0⟩ /- rf.cal_max_wait_s -/,
  ⟨0x1020, .enum, [(0, 1)], .val (.num 0), .rw, .immediate, 0x0000, 1, 0, 0⟩ /- rf.selfcoex_policy -/,
  ⟨0x1030, .u16, [(50, 500)], .val (.num 100), .rw, .immediate, 0x0000, 2, 8, 0⟩ /- coex.a_req_lead_us -/,
  ⟨0x1031, .u16, [(5, 50)], .val (.num 10), .rw, .immediate, 0x0000, 2, 8, 0⟩ /- coex.a_gnt_sample_us -/,
  ⟨0x1032, .u8, [(0, 63)], .val (.num 7), .rw, .immediate, 0x0000, 2, 8, 0⟩ /- coex.a_pri_mask -/,
  ⟨0x1033, .bool, [(0, 1)], .val (.num 0), .rw, .immediate, 0x0000, 2, 8, 0⟩ /- coex.a_req_on_rx -/,
  ⟨0x1034, .bool, [(0, 1)], .val (.num 1), .rw, .immediate, 0x0000, 2, 8, 0⟩ /- coex.a_revoke_abort -/,
  ⟨0x1035, .u16, [(0, 2000)], .val (.num 200), .rw, .immediate, 0x0000, 2, 8, 0⟩ /- coex.a_grant_guard_us -/,
  ⟨0x1036, .u32, [(1000, 100000)], .val (.num 20000), .rw, .immediate, 0x0000, 2, 8, 0⟩ /- coex.a_max_grant_us -/,
  ⟨0x1040, .s8, [(-32, 8)], .val (.num 0), .rw, .immediate, 0x0000, 1, 0, 0⟩ /- rf.lb_txpwr_offset_qdb -/,
  ⟨0x1041, .s8, [(-32, 8)], .val (.num 0), .rw, .immediate, 0x0000, 1, 0, 0⟩ /- rf.mb_txpwr_offset_qdb -/,
  ⟨0x1042, .s8, [(-32, 8)], .val (.num 0), .rw, .immediate, 0x0000, 1, 0, 0⟩ /- rf.hb_txpwr_offset_qdb -/,
  ⟨0x1044, .s16, [(-80, 120)], .val (.num 120), .rw, .immediate, 0x0000, 1, 0, 0⟩ /- rf.lb_txpwr_max_qdb -/,
  ⟨0x1045, .s16, [(-80, 80)], .val (.num 80), .rw, .immediate, 0x0000, 1, 0, 0⟩ /- rf.mb_txpwr_max_qdb -/,
  ⟨0x1046, .s16, [(-80, 84)], .val (.num 84), .rw, .immediate, 0x0000, 1, 0, 0⟩ /- rf.hb_txpwr_max_qdb -/,
  ⟨0x1050, .bool, [(0, 1)], .val (.num 0), .rw, .immediate, 0x0000, 1, 0, 0⟩ /- thaw.enable -/,
  ⟨0x1051, .u32, [(425000, 445000), (860000, 930000)], .val (.num 433920), .rw, .immediate, 0x0000, 1, 0, 10⟩ /- thaw.freq_khz -/,
  ⟨0x1052, .enum, [(0, 1)], .val (.num 0), .rw, .immediate, 0x0000, 1, 0, 0⟩ /- thaw.rate -/,
  ⟨0x1053, .u16, [(0, 65535)], .val (.num 65535), .rw, .immediate, 0x0000, 1, 0, 0⟩ /- thaw.wake_addr -/,
  ⟨0x1054, .u16, [(0, 65535)], .val (.num 65535), .rw, .immediate, 0x0000, 1, 0, 0⟩ /- thaw.group_addr -/,
  ⟨0x1055, .u16, [(60, 3600)], .val (.num 600), .rw, .immediate, 0x0000, 1, 0, 0⟩ /- thaw.retune_s -/]

/-- Parameters of group 2 (04 R128, 05 R161, 02 R53). -/
def paramsBb : List ParamRow := [
  ⟨0x2001, .u8, [(3, 15)], .val (.num 6), .rw, .immediate, 0x0000, 1, 0, 0⟩ /- bb.capture_margin_db -/,
  ⟨0x2002, .bool, [(0, 1)], .val (.num 1), .rw, .immediate, 0x0000, 1, 0, 0⟩ /- bb.fork_enable -/,
  ⟨0x2003, .u8, [(0, 15)], .val (.num 3), .rw, .immediate, 0x0000, 1, 0, 0⟩ /- bb.fork_margin_db -/,
  ⟨0x2010, .u8, [(4, 20)], .val (.num 8), .rw, .immediate, 0x0000, 1, 0, 0⟩ /- bb.lb_agc_headroom_db -/,
  ⟨0x2011, .u8, [(4, 20)], .val (.num 8), .rw, .immediate, 0x0000, 1, 0, 0⟩ /- bb.mb_agc_headroom_db -/,
  ⟨0x2012, .u8, [(0, 12)], .val (.num 3), .rw, .immediate, 0x0000, 1, 0, 0⟩ /- bb.agc_level_margin_db -/,
  ⟨0x2013, .u8, [(1, 64)], .val (.num 8), .rw, .immediate, 0x0000, 1, 0, 0⟩ /- bb.agc_blocker_slots -/,
  ⟨0x2014, .u16, [(1, 65535)], .val (.num 64), .rw, .immediate, 0x0000, 1, 0, 0⟩ /- bb.clip_limit -/,
  ⟨0x2015, .u8, [(0, 12)], .val (.num 6), .rw, .immediate, 0x0000, 1, 0, 0⟩ /- bb.clip_backoff_db -/,
  ⟨0x2016, .u16, [(1, 1000)], .val (.num 16), .rw, .immediate, 0x0000, 1, 0, 0⟩ /- bb.clip_hold_slots -/,
  ⟨0x2017, .u8, [(0, 30)], .val (.num 0), .rw, .immediate, 0x0000, 1, 0, 0⟩ /- bb.lb_ext_lna_db -/,
  ⟨0x2018, .u8, [(0, 30)], .val (.num 0), .rw, .immediate, 0x0000, 1, 0, 0⟩ /- bb.mb_ext_lna_db -/,
  ⟨0x2019, .u8, [(0, 30)], .val (.num 0), .rw, .immediate, 0x0000, 1, 0, 0⟩ /- bb.hb_ext_lna_db -/,
  ⟨0x2020, .enum, [(0, 2)], .val (.num 1), .rw, .immediate, 0x0000, 1, 0, 0⟩ /- bb.lb_pd_preset -/,
  ⟨0x2021, .enum, [(0, 2)], .val (.num 1), .rw, .immediate, 0x0000, 1, 0, 0⟩ /- bb.mb_pd_preset -/,
  ⟨0x2022, .enum, [(0, 2)], .val (.num 1), .rw, .immediate, 0x0000, 1, 0, 0⟩ /- bb.hb_pd_preset -/,
  ⟨0x2024, .u8, [(1, 16)], .val (.num 4), .rw, .immediate, 0x0000, 1, 0, 0⟩ /- bb.afc_narrow_miss_limit -/,
  ⟨0x2025, .u8, [(6, 40)], .val (.num 20), .rw, .immediate, 0x0000, 1, 0, 0⟩ /- bb.level_dev_db -/,
  ⟨0x2030, .u16, [(1, 4096)], .val (.num 100), .rw, .immediate, 0x0000, 1, 0, 0⟩ /- bb.nf_avg_slots -/,
  ⟨0x2031, .bool, [(0, 1)], .val (.num 0), .rw, .immediate, 0x0000, 1, 0, 0⟩ /- bb.rx_meta_trailer -/,
  ⟨0x2040, .s8, [(-24, 24)], .val (.num 0), .rw, .immediate, 0x0000, 1, 0, 0⟩ /- bb.lb_rssi_offset_qdb -/,
  ⟨0x2041, .s8, [(-24, 24)], .val (.num 0), .rw, .immediate, 0x0000, 1, 0, 0⟩ /- bb.mb_rssi_offset_qdb -/,
  ⟨0x2050, .u8, [(0, 127)], .val (.num 19), .rw, .slotframe, 0x0100, 1, 0, 0⟩ /- phy.lb_mode -/,
  ⟨0x2051, .enum, [(0, 1)], .val (.num 0), .rw, .slotframe, 0x0100, 1, 0, 0⟩ /- phy.lb_fec_type -/,
  ⟨0x2052, .u16, [(4, 1000)], .val (.num 8), .rw, .slotframe, 0x0100, 1, 0, 0⟩ /- phy.lb_preamble_octets -/,
  ⟨0x2053, .u16, [(4, 1000)], .val (.num 12), .rw, .slotframe, 0x0100, 1, 0, 0⟩ /- phy.lb_join_preamble_octets -/,
  ⟨0x2054, .enum, [(0, 1)], .val (.num 1), .rw, .slotframe, 0x0100, 1, 0, 0⟩ /- phy.lb_fcs_len -/,
  ⟨0x2055, .bool, [(0, 1)], .val (.num 1), .rw, .slotframe, 0x0100, 1, 0, 0⟩ /- phy.lb_whitening -/,
  ⟨0x2058, .u16, [(0, 200)], .val (.num 150), .rw, .immediate, 0x0000, 1, 0, 0⟩ /- phy.mc_align_us -/,
  ⟨0x2059, .u8, [(1, 4)], .val (.num 4), .rw, .immediate, 0x0000, 1, 0, 0⟩ /- phy.lb_max_carriers -/,
  ⟨0x205A, .u8, [(1, 4)], .val (.num 4), .rw, .immediate, 0x0000, 1, 0, 0⟩ /- phy.mb_max_carriers -/,
  ⟨0x205B, .u16, [(0, 400)], .val (.num 200), .rw, .immediate, 0x0000, 1, 0, 25⟩ /- phy.hb_cyclic_shift_ns -/]

/-- Parameters of group 3 (06 R196, R164). -/
def paramsSched : List ParamRow := [
  ⟨0x3001, .enum, [(0, 1)], .val (.num 0), .rw, .slotframe, 0x0100, 2, 512, 0⟩ /- sched.mode -/,
  ⟨0x3002, .u16, [(0, 65534)], .val (.num 65534), .rw, .slotframe, 0x0100, 2, 512, 0⟩ /- sched.pan_id -/,
  ⟨0x3004, .u32, [(2000, 40000)], .val (.num 10000), .rw, .slotframe, 0x0100, 2, 512, 0⟩ /- sched.timeslot_us -/,
  ⟨0x3005, .u32, [(0, 40000)], .val (.num 1800), .rw, .slotframe, 0x0100, 2, 512, 0⟩ /- sched.ts_cca_offset_us -/,
  ⟨0x3006, .u32, [(0, 40000)], .val (.num 128), .rw, .slotframe, 0x0100, 2, 512, 0⟩ /- sched.ts_cca_us -/,
  ⟨0x3007, .u32, [(0, 40000)], .val (.num 2120), .rw, .slotframe, 0x0100, 2, 512, 0⟩ /- sched.ts_tx_offset_us -/,
  ⟨0x3008, .u32, [(0, 40000)], .val (.num 1020), .rw, .slotframe, 0x0100, 2, 512, 0⟩ /- sched.ts_rx_offset_us -/,
  ⟨0x3009, .u32, [(0, 40000)], .val (.num 800), .rw, .slotframe, 0x0100, 2, 512, 0⟩ /- sched.ts_rx_ack_delay_us -/,
  ⟨0x300A, .u32, [(0, 40000)], .val (.num 1000), .rw, .slotframe, 0x0100, 2, 512, 0⟩ /- sched.ts_tx_ack_delay_us -/,
  ⟨0x300B, .u32, [(0, 40000)], .val (.num 2200), .rw, .slotframe, 0x0100, 2, 512, 0⟩ /- sched.ts_rx_wait_us -/,
  ⟨0x300C, .u32, [(0, 40000)], .val (.num 400), .rw, .slotframe, 0x0100, 2, 512, 0⟩ /- sched.ts_ack_wait_us -/,
  ⟨0x300D, .u32, [(0, 40000)], .val (.num 192), .rw, .slotframe, 0x0100, 2, 512, 0⟩ /- sched.ts_rx_tx_us -/,
  ⟨0x300E, .u32, [(0, 40000)], .val (.num 2400), .rw, .slotframe, 0x0100, 2, 512, 0⟩ /- sched.ts_max_ack_us -/,
  ⟨0x300F, .u32, [(0, 40000)], .val (.num 4256), .rw, .slotframe, 0x0100, 2, 512, 0⟩ /- sched.ts_max_tx_us -/,
  ⟨0x3010, .bytes, [(1, 128)], .hopSeq, .rw, .slotframe, 0x0100, 2, 512, 0⟩ /- sched.hop_seq -/,
  ⟨0x3011, .u32, [(410000, 510000), (779000, 960000)], .val (.num 863100), .rw, .slotframe, 0x0100, 1, 0, 0⟩ /- sched.ch0_khz -/,
  ⟨0x3012, .u32, [(100, 2000)], .val (.num 200), .rw, .slotframe, 0x0100, 1, 0, 0⟩ /- sched.ch_spacing_khz -/,
  ⟨0x3013, .u32, [(0, 0), (410000, 510000), (779000, 960000)], .val (.num 0), .rw, .slotframe, 0x0100, 1, 0, 0⟩ /- sched.lo_khz -/,
  ⟨0x3014, .s8, [(-100, -40)], .val (.num (-75)), .rw, .immediate, 0x0100, 2, 512, 0⟩ /- sched.cca_threshold_dbm -/,
  ⟨0x3018, .u8, [(0, 14)], .val (.num 2), .rw, .superframe, 0x0100, 2, 512, 0⟩ /- sched.dsme_so -/,
  ⟨0x3019, .u8, [(0, 14)], .val (.num 4), .rw, .superframe, 0x0100, 2, 512, 0⟩ /- sched.dsme_mo -/,
  ⟨0x301A, .u8, [(0, 14)], .val (.num 6), .rw, .superframe, 0x0100, 2, 512, 0⟩ /- sched.dsme_bo -/,
  ⟨0x301B, .bool, [(0, 1)], .val (.num 1), .rw, .superframe, 0x0100, 2, 512, 0⟩ /- sched.dsme_cap_reduction -/,
  ⟨0x3020, .u8, [(1, 100)], .val (.num 20), .rw, .immediate, 0x0100, 2, 512, 0⟩ /- sched.join_rate -/,
  ⟨0x3021, .u16, [(1, 512)], .val (.num 256), .rw, .immediate, 0x0100, 2, 512, 0⟩ /- sched.join_backlog_max -/,
  ⟨0x3022, .u8, [(16, 31)], .val (.num 16), .rw, .immediate, 0x0100, 2, 512, 0⟩ /- sched.join_ring -/,
  ⟨0x3023, .u16, [(1, 600)], .val (.num 30), .rw, .immediate, 0x0100, 2, 512, 0⟩ /- sched.join_timeout_s -/,
  ⟨0x3024, .bool, [(0, 1)], .val (.num 0), .rw, .immediate, 0x0100, 2, 512, 0⟩ /- sched.join_unlisted -/,
  ⟨0x3028, .u8, [(3, 40)], .val (.num 12), .rw, .immediate, 0x0100, 2, 512, 0⟩ /- sched.place_class_db -/,
  ⟨0x3029, .u8, [(20, 95)], .val (.num 60), .rw, .immediate, 0x0100, 2, 512, 0⟩ /- sched.place_spread_db -/,
  ⟨0x302A, .s8, [(-120, -20)], .val (.num (-90)), .rw, .immediate, 0x0100, 2, 512, 0⟩ /- sched.place_default_level_dbm -/,
  ⟨0x302B, .bool, [(0, 1)], .val (.num 0), .rw, .immediate, 0x0100, 2, 512, 0⟩ /- sched.place_audit -/,
  ⟨0x3030, .u8, [(1, 100)], .val (.num 40), .rw, .immediate, 0x0100, 2, 512, 0⟩ /- sched.default_drift_ppm -/,
  ⟨0x3031, .u16, [(1000, 20000)], .val (.num 5000), .rw, .immediate, 0x0100, 2, 512, 0⟩ /- sched.widen_cap_us -/,
  ⟨0x3038, .u8, [(1, 15)], .val (.num 3), .rw, .immediate, 0x0100, 2, 512, 0⟩ /- sched.parent_miss_limit -/]

/-- Parameters of group 4 (07 R227). -/
def paramsSpan : List ParamRow := [
  ⟨0x4001, .bytes, [(5, 5)], .linkAddr, .rw, .immediate, 0x0000, 1, 0, 0⟩ /- span.link_addr -/,
  ⟨0x4002, .u16, [(40, 200)], .val (.num 64), .rw, .immediate, 0x0000, 1, 0, 0⟩ /- span.ifs_us -/,
  ⟨0x4003, .u8, [(0, 7)], .val (.num 3), .rw, .immediate, 0x0000, 1, 0, 0⟩ /- span.retx_max -/,
  ⟨0x4004, .u8, [(1, 64)], .val (.num 8), .rw, .immediate, 0x0000, 1, 0, 0⟩ /- span.member_miss_limit -/,
  ⟨0x4005, .u8, [(1, 8)], .val (.num 4), .rw, .immediate, 0x0000, 1, 0, 0⟩ /- span.burst_frames -/,
  ⟨0x4006, .u16, [(1, 256)], .val (.num 1), .rw, .immediate, 0x0000, 1, 0, 0⟩ /- span.acquire_period_events -/,
  ⟨0x4007, .u16, [(1, 4096)], .val (.num 16), .rw, .immediate, 0x0000, 1, 0, 0⟩ /- span.key_overlap_events -/,
  ⟨0x4008, .u16, [(16, 4096)], .val (.num 256), .rw, .immediate, 0x0000, 1, 0, 0⟩ /- span.queue_frames -/,
  ⟨0x4100, .u16, [(4, 8000)], .val (.num 40), .rw, .spanEvent, 0x0200, 32, 32, 0⟩ /- span.s0.interval -/,
  ⟨0x4101, .u16, [(100, 32000)], .val (.num 2000), .rw, .spanEvent, 0x0200, 32, 32, 0⟩ /- span.s0.supervision_ms -/,
  ⟨0x4102, .enum, [(0, 2)], .val (.num 2), .rw, .spanEvent, 0x0200, 32, 32, 0⟩ /- span.s0.policy -/,
  ⟨0x4103, .bool, [(0, 1)], .val (.num 0), .rw, .spanEvent, 0x0200, 32, 32, 0⟩ /- span.s0.time_parent -/]

/-- Parameters of group 5 (08). -/
def paramsAbl : List ParamRow := [
  ⟨0x5001, .u8, [(0, 20)], .val (.num 5), .rw, .immediate, 0x0000, 1, 0, 0⟩ /- abl.reserve_pct -/,
  ⟨0x5100, .u16, [(0, 1000)], .val (.num 1000), .rw, .immediate, 0x0000, 16, 16, 0⟩ /- abl.sb0.duty_pm -/,
  ⟨0x5101, .u16, [(0, 65535)], .val (.num 65535), .rw, .immediate, 0x0000, 16, 16, 0⟩ /- abl.sb0.dwell_ms -/,
  ⟨0x5102, .s16, [(-400, 360)], .val (.num 360), .rw, .immediate, 0x0000, 16, 16, 0⟩ /- abl.sb0.pcond_dd -/,
  ⟨0x5103, .s16, [(-400, 360)], .val (.num 360), .rw, .immediate, 0x0000, 16, 16, 0⟩ /- abl.sb0.peirp_dd -/]

/-- Parameters of group 6 (09 R278). -/
def paramsFirn : List ParamRow := [
  ⟨0x6001, .u16, [(0, 448)], .val (.num 256), .rw, .immediate, 0x0000, 1, 0, 0⟩ /- firn.pin_max -/,
  ⟨0x6002, .u8, [(4, 64)], .val (.num 16), .rw, .immediate, 0x0000, 1, 0, 0⟩ /- firn.free_target -/,
  ⟨0x6003, .u16, [(60, 3600)], .val (.num 600), .rw, .immediate, 0x0000, 1, 0, 0⟩ /- firn.image_period_s -/,
  ⟨0x6004, .u16, [(1024, 65000)], .val (.num 32768), .rw, .immediate, 0x0000, 1, 0, 0⟩ /- firn.image_urgent_adv -/,
  ⟨0x6005, .bool, [(0, 1)], .val (.num 1), .rw, .immediate, 0x0000, 1, 0, 0⟩ /- firn.sleepy_evict -/]

/-- Parameters of group 7 (10 R311). -/
def paramsCipher : List ParamRow := [
  ⟨0x7001, .u8, [(0, 15)], .val (.num 12), .rw, .immediate, 0x0000, 1, 0, 0⟩ /- cipher.host_queue -/,
  ⟨0x7002, .u16, [(1, 3600)], .val (.num 60), .rw, .immediate, 0x0000, 1, 0, 0⟩ /- cipher.drbg_reseed_s -/,
  ⟨0x7010, .bool, [(0, 1)], .val (.num 0), .rw, .slotframe, 0x0100, 1, 0, 0⟩ /- cipher.lb_asn_nonce -/,
  ⟨0x7011, .bool, [(0, 1)], .val (.num 0), .rw, .slotframe, 0x0101, 1, 0, 0⟩ /- cipher.mb_asn_nonce -/]

/-- Parameters of group 8 (11 R338). -/
def paramsCc : List ParamRow := [
  ⟨0x8001, .u16, [(1, 256)], .val (.num 4), .rw, .immediate, 0x0000, 1, 0, 0⟩ /- cc.dfs_tick_qus -/,
  ⟨0x8002, .u8, [(4, 12)], .val (.num 8), .rw, .immediate, 0x0000, 1, 0, 0⟩ /- cc.op_watchdog_us -/,
  ⟨0x8003, .u8, [(1, 8)], .val (.num 4), .rw, .reset, 0x0000, 1, 0, 0⟩ /- cc.irq_group_bits -/,
  ⟨0x8004, .u8, [(1, 8)], .val (.num 2), .rw, .immediate, 0x0000, 1, 0, 0⟩ /- cc.cores_min -/]

/-- Parameters of group 9 (12 R374). -/
def paramsRt : List ParamRow := [
  ⟨0x9001, .mac, [], .macBase, .rw, .immediate, 0x0000, 1, 0, 0⟩ /- rt.router_mac -/,
  ⟨0x9002, .u8, [(1, 60)], .val (.num 1), .rw, .immediate, 0x0000, 1, 0, 0⟩ /- rt.age_tick_s -/,
  ⟨0x9003, .u16, [(0, 32767)], .val (.num 300), .rw, .immediate, 0x0000, 1, 0, 0⟩ /- rt.age_limit_ticks -/,
  ⟨0x9004, .enum, [(0, 1)], .val (.num 0), .rw, .immediate, 0x0000, 1, 0, 0⟩ /- rt.h_attach -/,
  ⟨0x9005, .u16, [(1536, 65535)], .val (.num 34998), .rw, .immediate, 0x0000, 1, 0, 0⟩ /- rt.h_data_ethertype -/,
  ⟨0x9006, .bytes, [(8, 8)], .val (.bytes [16, 17, 18, 19, 20, 21, 22, 23]), .rw, .immediate, 0x0000, 1, 0, 0⟩ /- rt.h_rx_ring -/,
  ⟨0x9010, .bytes, [(8, 8)], .val (.bytes [7, 6, 5, 4, 3, 2, 1, 0]), .rw, .immediate, 0x0000, 1, 0, 0⟩ /- rt.pcp_to_queue -/,
  ⟨0x9011, .bytes, [(64, 64)], .dscp, .rw, .immediate, 0x0000, 1, 0, 0⟩ /- rt.dscp_to_queue -/,
  ⟨0x9020, .u8, [(1, 120)], .val (.num 60), .rw, .immediate, 0x0000, 1, 0, 0⟩ /- rt.lowpan_reasm_s -/,
  ⟨0x9021, .u16, [(1280, 1500)], .val (.num 1280), .rw, .immediate, 0x0000, 1, 0, 0⟩ /- rt.lowpan_max_datagram -/]

/-- Parameters of group 10 (12 R374). -/
def paramsTm : List ParamRow := [
  ⟨0xA001, .u16, [(16, 4096)], .val (.num 256), .rw, .immediate, 0x0000, 1, 0, 0⟩ /- tm.queue_limit_kib -/,
  ⟨0xA002, .u8, [(1, 64)], .val (.num 8), .rw, .immediate, 0x0000, 1, 0, 0⟩ /- tm.client_queue_frames -/,
  ⟨0xA003, .u8, [(0, 64)], .val (.num 20), .rw, .immediate, 0x0000, 1, 0, 0⟩ /- tm.shaper_overhead -/,
  ⟨0xA010, .bool, [(0, 1)], .val (.num 0), .rw, .gateCycle, 0x0300, 4, 1, 0⟩ /- tm.e0.gate_enable -/]

/-- Parameters of group 11 (13 R393, 02 R53). -/
def paramsTime : List ParamRow := [
  ⟨0xB001, .enum, [(0, 5)], .val (.num 0), .rw, .immediate, 0x0000, 1, 0, 0⟩ /- time.source -/,
  ⟨0xB002, .u16, [(1, 1024)], .val (.num 16), .rw, .immediate, 0x0000, 1, 0, 0⟩ /- time.servo_tau_s -/,
  ⟨0xB003, .u16, [(10, 20000)], .val (.num 2000), .rw, .immediate, 0x0000, 1, 0, 0⟩ /- time.slew_max_ppb -/,
  ⟨0xB004, .u32, [(0, 1000000)], .val (.num 1000), .rw, .immediate, 0x0000, 1, 0, 0⟩ /- time.step_max_ns -/,
  ⟨0xB005, .u16, [(1, 10000)], .val (.num 50), .rw, .immediate, 0x0000, 1, 0, 0⟩ /- time.wander_ppb -/,
  ⟨0xB006, .u16, [(1, 20000)], .val (.num 500), .rw, .immediate, 0x0000, 1, 0, 0⟩ /- time.holdover_ppb -/,
  ⟨0xB007, .u32, [(100, 4294967295)], .val (.num 1000000), .rw, .immediate, 0x0000, 1, 0, 0⟩ /- time.bound_alarm_ns -/,
  ⟨0xB008, .u16, [(1, 3600)], .val (.num 10), .rw, .immediate, 0x0000, 1, 0, 0⟩ /- time.host_timeout_s -/,
  ⟨0xB009, .u16, [(0, 33000)], .val (.num 3400), .rw, .immediate, 0x0000, 1, 0, 0⟩ /- time.span_path_ns -/,
  ⟨0xB010, .s32, [(-2000, 2000)], .val (.num 0), .rw, .immediate, 0x0000, 1, 0, 0⟩ /- time.xo_offset_ppb -/,
  ⟨0xB020, .u32, [(100, 500000000)], .val (.num 1000), .rw, .immediate, 0x0000, 1, 0, 0⟩ /- time.pps_in_window_ns -/,
  ⟨0xB021, .u32, [(0, 1000000)], .val (.num 100), .rw, .immediate, 0x0000, 1, 0, 0⟩ /- time.pps_in_uncertainty_ns -/,
  ⟨0xB022, .enum, [(0, 2)], .val (.num 0), .rw, .immediate, 0x0000, 1, 0, 0⟩ /- time.pps_out_mode -/,
  ⟨0xB023, .u32, [(1, 500000)], .val (.num 100000), .rw, .immediate, 0x0000, 1, 0, 0⟩ /- time.pps_width_us -/,
  ⟨0xB024, .u32, [(100, 4294967295)], .val (.num 10000), .rw, .immediate, 0x0000, 1, 0, 0⟩ /- time.pps_bound_ns -/,
  ⟨0xB030, .u16, [(0, 10000)], .val (.num 0), .rw, .immediate, 0x0000, 4, 1, 0⟩ /- time.eN.rx_lat_ns -/,
  ⟨0xB034, .u16, [(0, 10000)], .val (.num 0), .rw, .immediate, 0x0000, 4, 1, 0⟩ /- time.eN.tx_lat_ns -/,
  ⟨0xB040, .bool, [(0, 1)], .val (.num 1), .rw, .immediate, 0x0000, 1, 0, 0⟩ /- time.ptp_trap -/]

/-- Parameters of group 12 (14 R420). -/
def paramsLanes : List ParamRow := [
  ⟨0xC010, .enum, [(0, 2)], .val (.num 0), .rw, .immediate, 0x0000, 4, 1, 0⟩ /- eth.e0.mode -/,
  ⟨0xC014, .u16, [(1518, 9216)], .val (.num 1522), .rw, .immediate, 0x0000, 4, 1, 0⟩ /- eth.e0.max_frame -/,
  ⟨0xC018, .bool, [(0, 1)], .val (.num 1), .rw, .immediate, 0x0000, 4, 1, 0⟩ /- eth.e0.an_enable -/,
  ⟨0xC01C, .bool, [(0, 1)], .val (.num 0), .rw, .immediate, 0x0000, 4, 1, 0⟩ /- eth.e0.pause_rx -/,
  ⟨0xC020, .u16, [(100, 12500)], .val (.num 2500), .rw, .immediate, 0x0000, 1, 0, 0⟩ /- eth.mdc_khz -/,
  ⟨0xC021, .enum, [(0, 1)], .val (.num 1), .rw, .immediate, 0x0000, 1, 0, 0⟩ /- lag.hash -/,
  ⟨0xC030, .bool, [(0, 1)], .strapMaster, .rw, .immediate, 0x0000, 1, 0, 0⟩ /- casc.master_pref -/,
  ⟨0xC031, .u16, [(20, 10000)], .val (.num 100), .rw, .immediate, 0x0000, 1, 0, 0⟩ /- casc.announce_us -/,
  ⟨0xC032, .u8, [(2, 64)], .val (.num 3), .rw, .immediate, 0x0000, 1, 0, 0⟩ /- casc.master_timeout -/,
  ⟨0xC033, .u8, [(2, 64)], .val (.num 8), .rw, .immediate, 0x0000, 1, 0, 0⟩ /- casc.dispute_clear -/,
  ⟨0xC034, .u16, [(1, 1000)], .val (.num 125), .rw, .immediate, 0x0000, 1, 0, 0⟩ /- casc.time_interval_ms -/,
  ⟨0xC035, .u32, [(100, 100000)], .val (.num 2000), .rw, .immediate, 0x0000, 1, 0, 0⟩ /- casc.rtt_max_ns -/,
  ⟨0xC036, .u16, [(0, 1000)], .val (.num 0), .rw, .immediate, 0x0000, 1, 0, 0⟩ /- casc.asym_ns -/,
  ⟨0xC037, .u16, [(16, 1024)], .val (.num 64), .rw, .immediate, 0x0000, 1, 0, 0⟩ /- casc.xoff_kib -/]

/-- Parameters of group 13 (15 R445, 02 R44). -/
def paramsMem : List ParamRow := [
  ⟨0xD001, .u8, [(1, 8)], .val (.num 4), .rw, .reset, 0x0000, 1, 0, 0⟩ /- mem.host_window_banks -/,
  ⟨0xD002, .u16, [(32, 1024)], .val (.num 128), .rw, .reset, 0x0000, 1, 0, 0⟩ /- mem.pkt_dram_mib -/,
  ⟨0xD003, .u32, [(0, 4294967295)], .val (.num 2147483648), .rw, .immediate, 0x0000, 1, 0, 0⟩ /- mem.retain_mask -/,
  ⟨0xD010, .bytes, [(8, 8)], .val (.bytes [4, 8, 8, 4, 2, 1, 1, 1]), .rw, .immediate, 0x0000, 1, 0, 0⟩ /- ddr.port_weights -/,
  ⟨0xD011, .u8, [(4, 128)], .val (.num 32), .rw, .immediate, 0x0000, 1, 0, 0⟩ /- ddr.firn_panic_bursts -/,
  ⟨0xD012, .u8, [(1, 64)], .val (.num 8), .rw, .immediate, 0x0000, 1, 0, 0⟩ /- ddr.txf_panic_kib -/,
  ⟨0xD013, .u16, [(512, 65535)], .val (.num 4096), .rw, .immediate, 0x0000, 1, 0, 0⟩ /- ddr.rh_threshold -/,
  ⟨0xD014, .u16, [(0, 10000)], .val (.num 20), .rw, .immediate, 0x0000, 1, 0, 0⟩ /- ddr.sr_idle_us -/,
  ⟨0xD015, .u16, [(10, 1000)], .val (.num 50), .rw, .immediate, 0x0000, 1, 0, 0⟩ /- ddr.dqsosc_ms -/,
  ⟨0xD016, .u8, [(0, 168)], .val (.num 24), .rw, .immediate, 0x0000, 1, 0, 0⟩ /- ddr.scrub_hours -/,
  ⟨0xD020, .u16, [(100, 1000)], .val (.num 200), .rw, .immediate, 0x0000, 1, 0, 0⟩ /- nv.holdup_margin_pct -/]

/-- Parameters of group 14 (16 R461). -/
def paramsPwr : List ParamRow := [
  ⟨0xE001, .u16, [(1, 1000)], .val (.num 5), .rw, .immediate, 0x0000, 1, 0, 0⟩ /- pwr.doze_idle_us -/,
  ⟨0xE002, .bool, [(0, 1)], .val (.num 1), .rw, .immediate, 0x0000, 1, 0, 0⟩ /- pwr.nap_enable -/,
  ⟨0xE003, .u16, [(10, 10000)], .val (.num 50), .rw, .immediate, 0x0000, 1, 0, 0⟩ /- pwr.nap_idle_us -/,
  ⟨0xE004, .bool, [(0, 1)], .val (.num 0), .rw, .immediate, 0x0000, 1, 0, 0⟩ /- pwr.hibernate_permit -/,
  ⟨0xE005, .u32, [(100, 3600000)], .val (.num 1000), .rw, .immediate, 0x0000, 1, 0, 0⟩ /- pwr.hibernate_idle_ms -/,
  ⟨0xE006, .bool, [(0, 1)], .val (.num 0), .rw, .immediate, 0x0000, 1, 0, 0⟩ /- pwr.hibernate_lanes -/,
  ⟨0xE007, .u8, [(0, 31)], .val (.num 31), .rw, .immediate, 0x0000, 1, 0, 0⟩ /- pwr.wake_mask -/,
  ⟨0xE008, .u32, [(0, 86400)], .val (.num 0), .rw, .immediate, 0x0000, 1, 0, 0⟩ /- pwr.aon_timer_s -/,
  ⟨0xE009, .bool, [(0, 1)], .val (.num 1), .rw, .immediate, 0x0000, 1, 0, 0⟩ /- pwr.ddr_hibernate_kept -/,
  ⟨0xE00A, .u16, [(0, 10000)], .val (.num 0), .rw, .immediate, 0x0000, 1, 0, 0⟩ /- pwr.mains_rise_ms -/]

/-- Parameters of group 15 (17 R476). -/
def paramsFlt : List ParamRow := [
  ⟨0xF001, .u16, [(10, 10000)], .val (.num 100), .rw, .immediate, 0x0000, 1, 0, 0⟩ /- flt.sys_watchdog_ms -/,
  ⟨0xF002, .bool, [(0, 1)], .val (.num 0), .rw, .immediate, 0x0000, 1, 0, 0⟩ /- flt.inject_enable -/]

/-- Every parameter row. -/
def paramRows : List ParamRow := paramsSys ++ paramsRf ++ paramsBb ++ paramsSched ++ paramsSpan ++ paramsAbl ++ paramsFirn ++ paramsCipher ++ paramsCc ++ paramsRt ++ paramsTm ++ paramsTime ++ paramsLanes ++ paramsMem ++ paramsPwr ++ paramsFlt

/-- The row that holds parameter `id`, with which instance of it that is. -/
def paramRow? (id : Nat) : Option (ParamRow × Nat) :=
  paramRows.findSome? (fun r => ((List.range r.count).find? (fun k => r.id + k * r.stride = id)).map (fun k => (r, k)))

/-- The domain code of instance `k` of a row (02 commit classes and domain codes). -/
def ParamRow.domainOf (r : ParamRow) (k : Nat) : Nat := if r.domain = 0 then 0 else r.domain + k

end Sys2Proof.Machine
end

