-- ==== Sys2Proof/Machine/RtParts.lean ====
section
/-! DEFINITION. The pieces of the state of the router, the traffic manager, the serial lanes, the Ethernet ports and the
cascade (12, 14). -/

namespace Sys2Proof.Machine

/-! ### Tables (12 R350) -/

/-- An FDB entry; flags: bit 1 static, 2 drop as destination, 3 drop as source. A listed entry is valid. -/
structure FdbEntry where
  mac : Nat
  vlan : Nat
  port : Nat
  flags : Nat
  stamp : Nat
  meter : Nat
  deriving DecidableEq, Repr

/-- A route; the prefix is the number its 16 bytes spell, first byte most significant. -/
structure Route where
  pfx : Nat
  family : Nat
  len : Nat
  hop : Nat
  deriving DecidableEq, Repr

structure NextHop where
  port : Nat := 0
  flags : Nat := 0
  vlan : Nat := 0
  mac : Nat := 0
  ctx : Nat := 0
  meter : Nat := 0
  queue : Nat := 0
  deriving DecidableEq, Repr

structure VlanEntry where
  members : Nat := 0
  untagged : Nat := 0
  flags : Nat := 0
  deriving DecidableEq, Repr

structure PortEntry where
  pvid : Nat := 0
  flags : Nat := 0
  queue : Nat := 0
  meter : Nat := 0
  deriving DecidableEq, Repr

/-- A table operation as the host latches or stages it (12 R353, R356). -/
structure TblOp where
  op : Nat
  table : Nat
  byIndex : Bool
  index : Nat
  data : Bytes
  threshold : Nat
  del : Bool
  deriving DecidableEq, Repr

/-- What a table operation answers (12 R353). -/
structure TblRes where
  code : Nat
  index : Nat := 0xFFFF
  data : Option Bytes := none
  cursor : Option Nat := none
  deriving DecidableEq, Repr

/-- The table command block (12 R352). -/
structure TblBlock where
  op : Nat := 0
  table : Nat := 0
  byIndex : Bool := false
  stage : Bool := false
  handle : Nat := 0
  busy : Bool := false
  code : Nat := 0
  overrun : Bool := false
  resIndex : Nat := 0
  index : Nat := 0
  threshold : Nat := 0
  del : Bool := false
  data : Bytes := List.replicate 32 0#8
  /-- the command that has started, with the set it is staged in -/
  latched : Option (TblOp × Option Nat) := none
  /-- its answer, once it has acted -/
  answer : Option TblRes := none
  deriving DecidableEq, Repr

/-! ### Traffic management (12 R365-R371) -/

/-- A shaper: its target, rate in kb/s, burst in bytes, and its bucket in 2,000,000ths of a byte at a raw tick: the unit that
1 kb/s gives in one tick. -/
structure Shaper where
  port : Nat
  queue : Nat
  rate : Nat
  burst : Nat
  level : Int
  at_ : Nat
  deriving DecidableEq, Repr

/-- A meter: kind 0 RFC 2697, 1 RFC 2698; buckets in 2,000,000ths of a byte at a raw tick; an action and value per colour. -/
structure Meter where
  kind : Nat
  aware : Bool
  cir : Nat
  pir : Nat
  cbs : Nat
  pbs : Nat
  acts : List (Nat × Nat)
  tc : Nat
  tp : Nat
  at_ : Nat
  deriving DecidableEq, Repr

/-- A gate control list: mask and interval in ns of each entry, cycle time and base time (12 R369). -/
structure GateList where
  entries : List (Nat × Nat)
  cycle : Nat
  base : Nat
  deriving DecidableEq, Repr

/-- A 6LoWPAN compression context (12 R359). -/
structure LowCtx where
  pfx : Nat
  len : Nat
  valid : Bool
  compress : Bool
  deriving DecidableEq, Repr

/-! ### Packets -/

/-- An accepted air frame or span payload on its way into the air pipeline (10 R292, 07 R210). -/
structure InPkt where
  octets : Bytes
  /-- ingress port code: 0x10 + network, or 0x20 + span -/
  port : Nat
  cls : Nat
  ctx : Nat := 0xFFFF
  /-- short source address, where the frame carried one -/
  short : Option Nat := none
  time : Option Nat := none
  trailer : Option (Radio × Bytes) := none
  deriving DecidableEq, Repr

structure Rt where
  /-- packets that wait to enter the air pipeline, the oldest first -/
  inbox : List InPkt := []
  /-- the FDBs of the wire and the air pipeline, by entry index -/
  fdb : Duo (Tab FdbEntry) := ⟨[], []⟩
  routes : List Route := []
  hops : Tab NextHop := []
  vlans : Tab VlanEntry := []
  ports : Tab PortEntry := []
  blk : TblBlock := {}
  /-- the age clock, and the raw time of its last tick (12 R348) -/
  age : Nat := 0
  ageAt : Nat := 0
  /-- always-on ticks of the learns that a full FDB refused in the last second, and of the last EV_FDB_FULL -/
  full : Duo (List Nat) := ⟨[], []⟩
  fullAt : Duo (Option Nat) := ⟨none, none⟩
  shapers : Tab Shaper := []
  meters : Tab Meter := []
  gates : Tab GateList := []
  /-- always-on tick of the last EV_GATE_TOO_BIG, per port -/
  gateBig : Tab Nat := []
  /-- egress queues of E0 to E3, K and H, by port code × 8 + queue -/
  queues : Tab (List QFrame) := []
  lowpan : Duo (Tab LowCtx) := ⟨[], []⟩
  /-- datagram tags (12 R360) -/
  tags : Duo Nat := ⟨0, 0⟩
  /-- network time at which the frame in transmission on a lane of an Ethernet port ends -/
  sending : Tab Int := []
  /-- the last frame sent on each Ethernet port, DA to FCS -/
  sent : Tab Bytes := []
  deriving DecidableEq, Repr

/-! ### Serial lanes and Ethernet ports (14 R395-R403) -/

/-- Lane states, in the order of their table (14 R395). -/
inductive LaneState where
  | disabled | acquire | align | sync | up | test
  deriving DecidableEq, Repr

structure SerLane where
  st : LaneState := .disabled
  inverted : Bool := false
  /-- invalid code groups since the last read -/
  invalid : Nat := 0
  /-- mode and pattern of the test, and whether it has a duration -/
  mode : Nat := 0
  pattern : Nat := 0
  timed : Bool := false
  /-- the always-on tick at which the test began, and its duration in ms (14 R397) -/
  testAt : Nat := 0
  testMs : Nat := 0
  /-- the PRBS checker -/
  locked : Bool := false
  errors : Nat := 0
  bits : Nat := 0
  /-- consecutive alignment markers delivered, up to 2 (14 R405) -/
  markers : Nat := 0
  /-- the far transmitter's number of the lane, as its markers carry it -/
  far : Nat := 0
  deriving DecidableEq, Repr

structure EthPort where
  up : Bool := false
  speed : Nat := 0
  abilities : Nat := 0
  /-- member of the active set of the aggregation group (14 R403) -/
  active : Bool := false
  /-- network time until which a pause frame holds it (14 R400) -/
  paused : Int := 0
  deriving DecidableEq, Repr

/-! ### The cascade (14 R404-R417) -/

/-- The link to one peer. -/
structure CascLink where
  /-- lanes on which data is sent and received, bit i for SD(4 + i) -/
  tx : Nat := 0
  rx : Nat := 0
  /-- next sequence number by packet type -/
  seqs : Tab Nat := []
  /-- K queues that its PAUSE has stopped, with the network time at which each resumes (14 R410) -/
  stopped : Tab Int := []
  deriving DecidableEq, Repr

/-- A peer table entry (14 R409). -/
structure PeerEntry where
  vlan : Nat
  mac : Nat
  peer : Nat
  stamp : Nat
  deriving DecidableEq, Repr

/-- A DISPUTE under way: network time of its entry, of the last ANNOUNCE of another holder, and per network the
network time from which no timeslot carries a beacon (14 R416, R417). -/
structure Dispute where
  since : Int
  heard : Int
  limits : Tab Int
  deriving DecidableEq, Repr

structure Casc where
  links : Tab CascLink := []
  peers : List PeerEntry := []
  holder : Bool := false
  dispute : Option Dispute := none
  /-- highest cap token epoch known, and the epoch of the own claim -/
  epoch : Nat := 0
  claim : Nat := 0
  holderId : Option Nat := none
  /-- time quality byte of the holder's last ANNOUNCE (14 R407) -/
  holderTq : Nat := 0
  /-- network time of the last ANNOUNCE with flag [0] set -/
  heardHolder : Option Int := none
  /-- epoch whose store is under way, and whether it has completed (14 R415) -/
  taking : Option (Nat × Bool) := none
  /-- CASC_HOLD driven low -/
  driving : Bool := false
  /-- PAUSE has been sent and not released -/
  pausing : Bool := false
  /-- raw ticks of the last ANNOUNCE, of the holder's last sample and of the last TIME_SYNC sent; none before the first (14 R411, R413) -/
  announced : Option Nat := none
  sampled : Option Nat := none
  asked : Option Nat := none
  /-- network time of the last applied time measurement (14 R411) -/
  applied : Option Int := none
  /-- the packets last sent, header and payload -/
  sent : List (Nat × Bytes) := []
  deriving DecidableEq, Repr

structure Serial where
  lanes : Tab SerLane := []
  eth : Tab EthPort := []
  casc : Casc := {}
  deriving DecidableEq, Repr

end Sys2Proof.Machine
end

