-- ==== Sys2Proof/Machine/Parts.lean ====
section
/-! DEFINITION. The pieces of the state: one record per unit, each field with the rule of spec/ that names it. -/

namespace Sys2Proof.Machine

/-! ### Reset, boot and identification (02 R32, 17 R466, 18 R482-R485) -/

/-- What holds the device in reset (18 R484, R485). -/
structure ResetHold where
  aonLost : Bool := false
  coreLow : Bool := false
  io18Low : Bool := false
  pinLow : Bool := false
  /-- in reset: from the reset event until RESET_RELEASE -/
  held : Bool := false
  deriving DecidableEq, Repr

structure Sys where
  hold : ResetHold := {}
  pstate : PState := .active
  boot : Nat := 0
  fwSlot : Nat := 0
  fwVersion : Nat := 0
  boardOk : Bool := false
  siteOk : Bool := false
  scratch : Word := 0#32
  cause : Nat := 1
  rollback : Bool := false
  count : Nat := 0
  straps : Straps := {}
  /-- raw ticks since the straps were sampled, until the boot ROM checks an image (18 R485) -/
  romTicks : Nat := 0
  /-- a SYS_RESET has been answered and takes effect later (17 R468) -/
  resetPending : Bool := false
  /-- the always-on tick at which it does, 10 ms after the response -/
  resetAt : Nat := 0
  deriving DecidableEq, Repr

/-! ### Host interface (02 R23-R30, R32) -/

/-- A kept in-band response (02 R29). -/
structure InbandEntry where
  src : Nat
  seq : Nat
  resp : InbandMsg
  deriving DecidableEq, Repr

structure Hif where
  badOp : Nat := 0
  unmapped : Nat := 0
  mbxOverrun : Nat := 0
  inbandReject : Nat := 0
  mserPtr : Nat := 0
  /-- the AOC's copy of HIF_ERR has been read in NAP or HIBERNATE, so the counts clear at the next ACTIVE (16 R453) -/
  mserCleared : Bool := false
  /-- SCL held low by the address matcher until the AOC serves the transaction (16 R453) -/
  sclHeld : Bool := false
  /-- kept responses, the source of the oldest last request first (02 R29) -/
  cache : List InbandEntry := []
  /-- the last word driven on HSPI_IO; none while high-impedance (02 R23) -/
  hspiOut : Option Word := none
  /-- the bytes last sent on MSER_SDA (02 R27) -/
  mserOut : Bytes := []
  /-- the last in-band message sent (02 R28, R30) -/
  inbandOut : Option InbandMsg := none
  deriving DecidableEq, Repr

/-! ### Mailboxes, events and rings (02 R33-R42) -/

/-- A TLV as read or written in a message (02 R36). -/
structure Tlv where
  ty : Nat
  val : Bytes
  deriving DecidableEq, Repr

/-- A response that waits for record writes: what it will carry when the last of them completes (02 R37, R55). -/
structure HeldResp where
  opcode : Nat
  tag : Nat
  status : Nat
  tlvs : List Tlv
  deriving DecidableEq, Repr

structure Chan where
  reqPi : Nat := 0
  reqCi : Nat := 0
  rspPi : Nat := 0
  rspCi : Nat := 0
  held : Option HeldResp := none
  deriving DecidableEq, Repr

structure EvtRing where
  pi : Nat := 0
  ci : Nat := 0
  lost : Nat := 0
  /-- the seq of the next event -/
  seq : Nat := 0
  dropped : Nat := 0
  lastDropped : Nat := 0
  /-- events whose causes came in NAP or HIBERNATE: they are raised once the device is ACTIVE (log entry 159) -/
  late : List (Nat × List Tlv) := []
  deriving DecidableEq, Repr

structure Ring where
  base : Nat := 0
  log2 : Nat := 6
  enable : Bool := false
  head : Nat := 0
  tail : Nat := 0
  /-- the entry at the head has been consumed and waits for its timestamp (13 R388) -/
  waiting : Bool := false
  /-- disabled while that entry waited: both indices return to 0 when it is done with, enabled again or not (02 R41) -/
  ending : Bool := false
  deriving DecidableEq, Repr

/-- The event summary and interrupt block (11 R332). -/
structure Evs where
  enable : Word := 0x3000#32
  ringRx : Word := 0#32
  ringTx : Word := 0#32
  ringMask : Word := 0#32
  boot : Bool := false
  cfg : Word := 0x00640001#32
  line : Bool := false
  held : Nat := 0
  /-- group 63: the raw tick of the first cause held, and the time in µs that HIRQ_CFG gave with the last (11 R333) -/
  start : Nat := 0
  timeUs : Nat := 1
  deriving DecidableEq, Repr

/-! ### Network time (13) -/

inductive SourceState where
  | root | locked | holdover
  deriving DecidableEq, Repr

/-- A compare trigger on network time: its target and what it belongs to (13 R378). -/
structure Trigger where
  id : Nat
  target : Int
  deriving DecidableEq, Repr

structure TimeUnit where
  raw : Nat := 0
  aon : Nat := 0
  /-- the model's own: the part of a slow tick that has passed, in 32,768ths of 250,000,000 (log entry 5) -/
  aonPhase : Nat := 0
  offset : Int := 0
  rawRef : Nat := 0
  cf : Int := 0
  cp : Int := 0
  cStart : Int := 0
  state : SourceState := .root
  hadSource : Bool := false
  bound : Nat := 0
  /-- the part of a ns of the bound that has accrued, in 10^-9 ns -/
  boundFrac : Nat := 0
  aboveAlarm : Bool := false
  wallTime : Bool := false
  /-- raw ticks counted over the last 2,048 always-on ticks (13 R386) -/
  q : Nat := 15625000
  /-- always-on tick of the last measurement applied (13 R379) -/
  heard : Nat := 0
  ppsOut : Bool := false
  /-- network time at which PPS_OUT falls (13 R391) -/
  ppsFall : Int := 0
  triggers : List Trigger := []
  fired : List Trigger := []
  deriving DecidableEq, Repr

/-! ### Power (16) -/

structure Pwr where
  /-- bits 0 to 6 of the wake latch (16 R456) -/
  latch : Nat := 0
  latchState : Option PState := none
  thawAddr : Nat := 0
  thawCmd : Nat := 0
  /-- rate of the latched frame (03 R95) -/
  thawRate : Nat := 0
  thawPending : Bool := false
  /-- the always-on tick at which the AON timer next fires (16 R450) -/
  aonDue : Option Nat := none
  /-- the sense input has fallen below the warning level and not yet risen (16 R454) -/
  below : Bool := false
  /-- raw ticks since which every core has been idle in ACTIVE, and since which R447 has been met in DOZE (16 R446) -/
  dozeSince : Option Nat := none
  napSince : Option Nat := none
  /-- the always-on tick since which no HIBERNATE blocker has been set (16 R448) -/
  hibSince : Option Nat := none
  /-- the AON wake timer of a NAP (16 R451) -/
  napWake : Option Nat := none
  /-- always-on ticks at the entry of the present NAP or HIBERNATE -/
  sleptFrom : Nat := 0
  lastExitUs : Nat := 0
  deriving DecidableEq, Repr

/-- Levels and codes at the balls that the device reads (02 R55, R56, 18). -/
structure Pins where
  /-- HOLDUP_SENSE as the 10-bit code over 1.2 V -/
  holdup : Nat := 0
  mains : Bool := false
  /-- the last access on MDC and MDIO: clause, PHY address, device, register, and the value of a write (14 R401) -/
  mdio : Option (Nat × Nat × Nat × Nat × Option Nat) := none
  /-- MDC has been driven, after the first MDIO command (18 R480) -/
  mdcDriven : Bool := false
  /-- DRAM signals driven, from the start of training (18 R480) -/
  ddrDriven : Bool := false
  /-- PPS_OUT driven, from BOOT 2 (18 R480) -/
  ppsDriven : Bool := false
  /-- outputs held by isolation cells: GPIO and PPS_OUT at their levels in NAP, high-impedance in HIBERNATE (16 R457) -/
  outputsHiZ : Bool := false
  deriving DecidableEq, Repr

/-! ### Memory (15) -/

inductive DdrPhase where
  | undeclared | training | ready | failed
  deriving DecidableEq, Repr

/-- The DRAM declaration, TLV 0x0106 (15 R424). -/
structure DdrDecl where
  channels : Nat
  ranks : Nat
  density : Nat
  ecc : Bool
  maxMts : Nat
  deriving DecidableEq, Repr

/-- One entry of a row activate table (15 R430). -/
structure RhEntry where
  row : Nat
  count : Nat
  deriving DecidableEq, Repr

structure DdrChan where
  selfRefresh : Bool := false
  mr4 : Tab Nat := []
  refreshNs : Nat := 3904
  /-- the interval of the refresh that comes next: a change applies from it on (15 R429) -/
  refreshWait : Nat := 3904
  slowTimings : Bool := false
  postponed : Nat := 0
  eyes : Bytes := []
  drift : Tab Int := []
  driftMoved : Tab Int := []
  overtempAt : Option Nat := none
  /-- row activate tables, by rank × 8 + bank, and the raw tick at which they were last cleared -/
  rh : Tab (List RhEntry) := []
  rhAt : Nat := 0
  /-- raw ticks of the last due refresh, the last MR4 read, the last request seen, and per rank the last oscillator check, none since
  training or NAP (15 R429, R432, R438) -/
  refAt : Nat := 0
  mr4At : Option Nat := none
  busyAt : Nat := 0
  dqsAt : Tab Nat := []
  deriving DecidableEq, Repr

structure Ddr where
  phase : DdrPhase := .undeclared
  rate : Nat := 0
  trainRate : Nat := 0
  trainRank : Nat := 0
  trainStep : Nat := 0
  chans : Tab DdrChan := []
  panicFirn : Bool := false
  panicTxf : Bool := false
  /-- always-on ticks of the last completed patrol scrub, and of the last scrub of each SRAM bank (15 R422, R435) -/
  scrubAt : Nat := 0
  bankAt : Tab Nat := []
  deriving DecidableEq, Repr

/-! ### Control cluster (11) -/

inductive CoreState where
  | running | idle | gated | parked | reset
  deriving DecidableEq, Repr

/-- What a core runs: an operation of an instance, or an interrupt handler (11 R321). -/
inductive CoreJob where
  | op (inst node prio : Nat)
  | handler (source level : Nat)
  deriving DecidableEq, Repr

structure Core where
  st : CoreState := .idle
  /-- innermost first -/
  jobs : List CoreJob := []
  signal : Option Nat := none
  /-- the acknowledgement word last returned (11 R328) -/
  ack : Nat := 0
  deriving DecidableEq, Repr

structure DfsInst where
  tpl : Nat
  version : Nat
  cancelled : Bool := false
  deriving DecidableEq, Repr

/-- A matching store entry: one operand (11 R318). -/
structure Operand where
  inst : Nat
  node : Nat
  input : Nat
  deriving DecidableEq, Repr

/-- An operation under way (11 R319). -/
structure RunningOp where
  inst : Nat
  node : Nat
  core : Option Nat
  /-- raw ticks for which it has run, without those spent pre-empted (11 R322) -/
  ran : Nat := 0
  deriving DecidableEq, Repr

/-- A trigger that waits for an instance number or store room (11 R316). -/
structure WaitTrigger where
  tpl : Nat
  roots : List (Nat × Nat)
  deriving DecidableEq, Repr

/-- A node that cannot fire yet, with the cipher request it will place (11 R318). -/
structure WaitNode where
  inst : Nat
  node : Nat
  req : Option CipherReq
  /-- counters of the cipher engine under which its wait has been counted -/
  seen : List Nat := []
  deriving DecidableEq, Repr

structure DelayEntry where
  list : Nat
  due : Nat
  inst : Nat
  node : Nat
  input : Nat
  deriving DecidableEq, Repr

structure IrqSource where
  level : Nat := 0
  targets : Nat := 0
  home : Nat := 0
  masked : Bool := false
  pending : Bool := false
  group : Option Nat := none
  deriving DecidableEq, Repr

structure Group where
  count : Nat := 1
  timeUs : Nat := 1
  held : List Nat := []
  /-- the raw tick of the first assertion held -/
  start : Nat := 0
  deriving DecidableEq, Repr

structure Cc where
  cores : Tab Core := []
  aocRunning : Bool := true
  templates : Tab Template := []
  insts : Tab DfsInst := []
  store : List Operand := []
  lowFree : Nat := 8192
  running : List RunningOp := []
  ready : List RunningOp := []
  waitTriggers : List WaitTrigger := []
  waitNodes : List WaitNode := []
  delays : List DelayEntry := []
  /-- per kind of EV_DFS_PRESSURE, the always-on tick of the last one (11 R320) -/
  pressure : Tab Nat := []
  irqs : Tab IrqSource := []
  groups : Tab Group := []
  /-- the raw tick of the last scan of the delay lists (11 R324) -/
  scanned : Nat := 0
  /-- raw ticks in ACTIVE and DOZE since a core last completed an operation (17 R464) -/
  quiet : Nat := 0
  deriving DecidableEq, Repr

/-! ### Faults and firmware (17) -/

/-- A fault log entry (17 R465). -/
structure FaultEntry where
  seq : Nat
  kind : Nat
  unit : Nat
  detail : Nat
  time : Nat
  deriving DecidableEq, Repr

inductive SlotState where
  | empty | confirmed | committed | trial
  deriving DecidableEq, Repr

structure FwSlot where
  version : Nat := 0
  sec : Nat := 0
  state : SlotState := .empty
  deriving DecidableEq, Repr

/-- An image being written into the inactive slot (17 R469). -/
structure FwWrite where
  slot : Nat
  version : Nat
  sec : Nat
  pieces : Nat
  chan : Nat
  deriving DecidableEq, Repr

structure Fw where
  slots : Tab FwSlot := [(0, ⟨0, 0, .confirmed⟩)]
  /-- the staging region of DRAM (15 R425); an unlisted offset reads as 0 -/
  staged : List Host.Cell := []
  writing : Option FwWrite := none
  activating : Bool := false
  /-- template slots of the old image still bound by instances -/
  oldSlots : List Nat := []
  /-- changed templates that found no free slot, each with the slot of its old version (17 R470) -/
  tplWait : List (Nat × Template) := []
  deriving DecidableEq, Repr

structure Flt where
  /-- entries that wait to be written, the oldest first, at most 16 (17 R465) -/
  waiting : List FaultEntry := []
  /-- always-on tick of the last logged single-bit correction, per memory (17 R465) -/
  lastCe : Tab Nat := []
  deriving DecidableEq, Repr

/-! ### Counters (00 R6, and the counter rule of every chapter) -/

/-- The counter groups; a counter is its group and its row number, from 1, in the group's table. -/
inductive CtrBank where
  | radio (x : Radio) | thaw | bb (x : Radio) | bbtx (x : Radio) | sched (n : Net) | span (n : Nat) | ablSub (i : Nat) | abl
  | firn | cipher | cc | rt (p : Pipe) | tm (port : Nat) | time | eth (p : Nat) | casc | mem | pwr | flt
  deriving DecidableEq, Repr

/-- One counter that is not zero. -/
structure Ctr where
  bank : CtrBank
  row : Nat
  value : Nat
  deriving DecidableEq, Repr

/-! ### Cipher engine (10) -/

/-- A counter mark entry (10 R300). -/
structure MarkEntry where
  mark : Nat
  check : Nat
  deriving DecidableEq, Repr

/-- A key slot that is not empty (10 R281). -/
structure KeySlot where
  key : Bytes
  usage : Nat
  counter : Nat := 0
  lowRaised : Bool := false
  /-- requests since the last refresh of its shares -/
  requests : Nat := 0
  /-- the channel of a CIPHER_KEY_ERASE under way: the slot takes no further request (10 R286) -/
  erasing : Option Nat := none
  /-- the mark whose write is pending (10 R301) -/
  markDue : Option Nat := none
  holdRaised : Bool := false
  deriving DecidableEq, Repr

/-- A key whose load waits for its mark entry (10 R303). -/
structure KeyLoad where
  slot : KeySlot
  entry : MarkEntry
  deriving DecidableEq, Repr

/-- A reservation of rime units, or a graph that waits for one (10 R294, R296). -/
structure RimeUse where
  inst : Nat
  units : Nat
  prio : Nat
  /-- what the instance's requests have written into the buffer: address and length -/
  areas : List (Nat × Nat) := []
  deriving DecidableEq, Repr

/-- A completion record (10 R288). -/
structure CipherDone where
  tag : Nat
  status : Nat
  blocks : Nat
  deriving DecidableEq, Repr

/-- A request as its command sees it. -/
structure Req where
  ch : Nat
  opcode : Nat
  tag : Nat
  tlvs : List Tlv
  deriving DecidableEq, Repr

structure Cipher where
  keys : Tab KeySlot := []
  loads : Tab KeyLoad := []
  /-- request queues, by number; the oldest request first -/
  queues : Tab (List CipherReq) := []
  done : List CipherDone := []
  rimeUsed : List RimeUse := []
  rimeWait : List RimeUse := []
  rimeRaised : Option Nat := none
  /-- key slots that have sent a frame in the present timeslot, per network (10 R299) -/
  asnUsed : Duo (List Nat) := ⟨[], []⟩
  entropyReady : Bool := false
  entropyFailed : Bool := false
  /-- always-on ticks of the failures of the last second -/
  entropyFails : List Nat := []
  drbgSeeded : Bool := false
  drbgUses : Nat := 0
  drbgSeededAt : Nat := 0
  /-- requests that wait for a reseed, the oldest first, each with the raw tick at which it began to wait (10 R309) -/
  drbgWait : List (Nat × Req) := []
  /-- host requests that wait for rime units or for room on their queue, the oldest first (10 R287, R296) -/
  hostWait : List Req := []
  maskBlocks : Nat := 0
  /-- a mask seed that the entropy source still owes (10 R280) -/
  maskLate : Bool := false
  /-- key slots whose ASN nonce of the planned timeslot is taken (10 R299) -/
  asnNext : Duo (List Nat) := ⟨[], []⟩
  deriving DecidableEq, Repr

/-! ### Non-volatile records (02 R54-R56, 15 R441-R443) -/

/-- A context image entry (09 R270). -/
structure FirnImage where
  eui : Nat
  keyA : Nat
  keyB : Nat
  highA : Nat
  highB : Nat
  level : Int
  offset : Int
  drift : Nat
  joined : Bool
  levelOk : Bool
  offsetOk : Bool
  txB : Bool
  net : Nat
  deriving DecidableEq, Repr

/-- What a record holds, by kind of record. -/
inductive NvData where
  | params (l : Tab PVal)
  | bytes (b : Bytes)
  | faults (l : List FaultEntry)
  | number (n : Nat)
  | marks (l : Tab MarkEntry)
  /-- mark, PAN, and the network key slots with their check values (06 R190) -/
  | asn (mark pan : Nat) (keys : List (Nat × Nat))
  | images (l : Tab FirnImage)
  /-- the dirty list summary: void, or the advance of each context that is not unassigned (09 R273) -/
  | summary (l : Option (Tab Nat))
  deriving DecidableEq, Repr

structure NvCopy where
  seq : Nat
  data : NvData
  deriving DecidableEq, Repr

/-- A record: its two copies, an invalid one absent. A host record has its place and length in the user area. -/
structure NvRec where
  a : Option NvCopy := none
  b : Option NvCopy := none
  place : Nat := 0
  len : Nat := 0
  deriving DecidableEq, Repr

/-- What a completed write brings about beyond the record itself. -/
inductive NvEffect where
  | none
  /-- values of a command, which come into force but for those of class RESET; `multi`: it writes a second record (R55) -/
  | params (l : List (Nat × PVal)) (multi : Bool)
  /-- values that a commit boundary has already put into force (R48) -/
  | calve (l : List (Nat × PVal))
  | stored
  /-- the lower of the valid copies becomes invalid (15 R443) -/
  | invalidate
  | fwPiece
  | ablLocked (profile : Nat)
  | keyLoad (slot : Nat)
  deriving DecidableEq, Repr

/-- Who waits for a write: the channel that answers when it is complete, if any, and what it brings about. -/
structure NvOwner where
  chan : Option Nat
  eff : NvEffect
  deriving DecidableEq, Repr

/-- A record write: queued, or under way. `data` is absent for a device record, whose content is taken when the write starts. -/
structure NvWrite where
  id : Nat
  data : Option NvData
  size : Nat
  urgent : Bool
  owners : List NvOwner
  /-- EV_HOLDUP_SHORT has been raised for it (02 R55) -/
  heldRaised : Bool := false
  /-- under way: it was started as a record of the mains flush (02 R56) -/
  ofFlush : Bool := false
  deriving DecidableEq, Repr

structure Nv where
  recs : Tab NvRec := []
  queue : List NvWrite := []
  busy : Option NvWrite := none
  /-- the mains flush under way: records written so far, and those still to write, in order (02 R56) -/
  flush : Option (Nat × List Nat) := none
  deriving DecidableEq, Repr

/-! ### Staging sets (02 R45-R50) -/

/-- One staged write. -/
inductive Staged where
  | param (id : Nat) (v : PVal)
  /-- a slotframe of a network added, or deleted (06 R169) -/
  | frame (net handle : Nat) (len : Option Nat)
  /-- a cell added, or deleted (06 R172) -/
  | cell (id : Nat) (c : Option Cell)
  /-- a member of a span set, or dropped (07 R224) -/
  | member (span band : Nat) (rec_ : Option Member)
  /-- a table operation (12 R356) -/
  | table (op : TblOp)
  /-- a shaper attached, changed or detached: target port and queue, rate, burst, and whether its bucket starts full (12 R366) -/
  | shaper (id port queue rate burst : Nat) (full : Bool)
  /-- a meter (12 R367) -/
  | meter (id : Nat) (m : Meter)
  /-- a port's gate control list (12 R371) -/
  | gates (port : Nat) (list : GateList)
  deriving DecidableEq, Repr

structure StageSet where
  cls : CommitClass
  domain : Nat
  writes : List Staged := []
  committed : Bool := false
  target : Nat := 0
  boundary : Nat := 0
  slips : Nat := 0
  /-- the rank of its COMMIT_AT among all accepted (02 R49) -/
  order : Nat := 0
  deriving DecidableEq, Repr

/-! ### Declarations (02 R51, R52) -/

/-- Hold-up values, TLV 0x0105 (02 R51). -/
structure HoldupDecl where
  cUf : Nat
  vminMv : Nat
  ratio : Nat
  eta : Nat
  warnMv : Nat
  deriving DecidableEq, Repr

/-- A port's role and PHY address, TLV 0x0101 (02 R51). -/
structure PortDecl where
  role : Nat
  phy : Nat
  deriving DecidableEq, Repr

/-- The cascade, TLV 0x0107: own ID, members present, lanes wired per member (14 R404). -/
structure CascDecl where
  own : Nat
  members : Nat
  lanes : List Nat
  deriving DecidableEq, Repr

/-- A coexistence port, of TLV 0x0108 (03 R81): its radio byte and direction byte. -/
structure CoexDecl where
  radio : Nat
  dir : Nat
  deriving DecidableEq, Repr

/-- A FEM record, TLV 0x0102 (03 R73), with its state entries by state code. -/
structure FemDecl where
  radio : Nat
  kind : Nat
  used : Nat
  paLines : Nat
  openDrain : Nat
  lead : Nat
  lag : Nat
  extGain : Int
  extMax : Int
  states : Tab Nat
  deriving DecidableEq, Repr

/-- What SITE_DECLARE assigns (02 R52). -/
structure Site where
  cls : Nat := 0
  /-- extended address and network of each client list record -/
  clients : List (Nat × Nat) := []
  /-- link address, span, members and flags of each neighbour list record -/
  neighbours : List (Nat × Nat × Nat × Nat) := []
  deriving DecidableEq, Repr

structure Board where
  ports : List PortDecl
  fems : List FemDecl
  gains : List Int
  tol40 : Nat
  tol32 : Nat
  holdup : HoldupDecl
  ddr : DdrDecl
  casc : Option CascDecl
  coex : List CoexDecl
  deriving DecidableEq, Repr

end Sys2Proof.Machine
end

