-- ==== Sys2Proof/Machine/State.lean ====
section
/-! DEFINITION. The state of the block, its reasons to stop, and the state right after reset. -/

namespace Sys2Proof.Machine

/-- Why the block stops with a fault. The spec gives every command of the table an effect, so nothing raises this: it is
kept so that the interface has a fault type. Safe: no run ends in it. -/
inductive Fault where
  /-- raised by no command; safe -/
  | unreachable
  deriving DecidableEq, Repr

/-- Why the block refuses a command. -/
inductive Refusal where
  /-- raised by an arm of exec whose command has no meaning yet; safe: nothing can be proved of its effect -/
  | notModelled (mnemonic : String)
  deriving DecidableEq, Repr

/-- The state: every register, ring, buffer, record, counter, mode and pin of the block, and the commands that wait. -/
structure State where
  pending : List Instr := []
  /-- the model's own: the number of the next free value (log entry 3) -/
  freeCtr : Nat := 0
  /-- host windows (15 R421), by host address; an unlisted byte reads as 0 (log entry 2) -/
  mem : List Host.Cell := []
  /-- the SRAM banks besides the host windows (15 R421), by SRAM byte address; an unlisted byte reads as 0 (log entry 2) -/
  sram : List Host.Cell := []
  sys : Sys := {}
  hif : Hif := {}
  chans : Tab Chan := []
  evt : EvtRing := {}
  rings : Tab Ring := []
  evs : Evs := {}
  params : Tab PVal := []
  sets : Tab StageSet := []
  setOrder : Nat := 0
  board : Option Board := none
  site : Site := {}
  nv : Nv := {}
  ctrs : List Ctr := []
  time : TimeUnit := {}
  pwr : Pwr := {}
  pins : Pins := {}
  ddr : Ddr := {}
  cc : Cc := {}
  cipher : Cipher := {}
  fw : Fw := {}
  flt : Flt := {}
  nets : Duo NetState := ⟨{}, {}⟩
  spans : Tab SpanState := []
  cells : Tab Cell := []
  rf : Rf := {}
  bb : Bb := {}
  abl : Abl := {}
  firn : Firn := {}
  spanRx : List SpanRx := []
  rt : Rt := {}
  serial : Serial := {}
  deriving DecidableEq, Repr

/-- The machine right after a power-on reset: the boot ROM runs (02 R32, 18 R485). -/
def State.reset : State :=
  let c := rateOf (calSum 0xB010 Config.xoCalPpb 0) 1
  { time := { cf := c, cStart := c } , fw := { slots := [(0, ⟨Config.factoryEotre, 0, .confirmed⟩)] } }

end Sys2Proof.Machine
end

