-- ==== Sys2Proof/Machine/Tab.lean ====
section
/-! DEFINITION. Reading and writing the sorted tables of the state, and the three-radio and two-network records. -/

namespace Sys2Proof.Machine

/-- The record of number `k`, or the default where the table lists none. -/
def tget {α : Type} (d : α) : Tab α → Nat → α
  | [], _ => d
  | (j, v) :: t, k => if j = k then v else tget d t k

/-- The record of number `k`, if the table lists one. -/
def tfind {α : Type} : Tab α → Nat → Option α
  | [], _ => none
  | (j, v) :: t, k => if j = k then some v else tfind t k

/-- Whether number `k` is listed. -/
def thas {α : Type} (t : Tab α) (k : Nat) : Bool := (tfind t k).isSome

/-- The table with number `k` set, kept in rising order of number. -/
def tset {α : Type} : Tab α → Nat → α → Tab α
  | [], k, v => [(k, v)]
  | (j, w) :: t, k, v => if k = j then (k, v) :: t else if k < j then (k, v) :: (j, w) :: t else (j, w) :: tset t k v

/-- The table without number `k`. -/
def tdel {α : Type} (t : Tab α) (k : Nat) : Tab α := t.filter (fun p => p.1 != k)

/-- The table with number `k` changed by `f`, from the default where it is not listed. -/
def tmod {α : Type} (d : α) (t : Tab α) (k : Nat) (f : α → α) : Tab α := tset t k (f (tget d t k))

/-- The lowest number below `n` that the table does not list. -/
def tfree {α : Type} (t : Tab α) (n : Nat) : Option Nat := (List.range n).find? (fun k => ! thas t k)

def Tri.get {α : Type} (t : Tri α) : Radio → α
  | .lb => t.lb
  | .mb => t.mb
  | .hb => t.hb

def Tri.set {α : Type} (t : Tri α) (x : Radio) (v : α) : Tri α :=
  match x with
  | .lb => { t with lb := v }
  | .mb => { t with mb := v }
  | .hb => { t with hb := v }

def Duo.net {α : Type} (t : Duo α) : Net → α
  | .lb => t.fst
  | .mb => t.snd

def Duo.setNet {α : Type} (t : Duo α) (n : Net) (v : α) : Duo α :=
  match n with
  | .lb => { t with fst := v }
  | .mb => { t with snd := v }

def Duo.pipe {α : Type} (t : Duo α) : Pipe → α
  | .wire => t.fst
  | .air => t.snd

def Duo.setPipe {α : Type} (t : Duo α) (p : Pipe) (v : α) : Duo α :=
  match p with
  | .wire => { t with fst := v }
  | .air => { t with snd := v }

/-- Radio numbers as every command counts them: 0 LB, 1 MB, 2 HB (03 R94). -/
def Radio.ix : Radio → Nat
  | .lb => 0
  | .mb => 1
  | .hb => 2

def Radio.ofNat? : Nat → Option Radio
  | 0 => some .lb
  | 1 => some .mb
  | 2 => some .hb
  | _ => none

/-- Network numbers: 0 N.LB, 1 N.MB (06 R162). -/
def Net.ix : Net → Nat
  | .lb => 0
  | .mb => 1

def Net.ofNat? : Nat → Option Net
  | 0 => some .lb
  | 1 => some .mb
  | _ => none

/-- The radio that carries a network. -/
def Net.radio : Net → Radio
  | .lb => .lb
  | .mb => .mb

/-- Pipeline numbers: 0 wire, 1 air (12 R372). -/
def Pipe.ofNat? : Nat → Option Pipe
  | 0 => some .wire
  | 1 => some .air
  | _ => none

/-- The element of a list that no later one betters. -/
def bestBy {α : Type} (better : α → α → Bool) : List α → Option α
  | [] => none
  | a :: t => some (t.foldl (fun best x => if better x best then x else best) a)

end Sys2Proof.Machine
end

