-- ==== Sys2Proof/Machine/Params.lean ====
section
/-! DEFINITION. Parameter values: defaults, values in force, ranges, and how a value travels (02 R43, R44, R495). -/

namespace Sys2Proof.Machine

/-- The default of instance `k` of a row: for one that a strap sets, as sampled at the last reset (02 R495, 18 R482). -/
def defaultOf (s : State) (r : ParamRow) (k : Nat) : PVal :=
  match r.dflt with
  | .val v => v
  | .absent => .num 0
  | .strapHostif => .num (if s.sys.straps.hostif then 1 else 0)
  | .strapMaster => .num (if s.sys.straps.masterPref then 1 else 0)
  | .macBase => .num (Config.macBase % 2 ^ 48 : Nat)
  | .linkAddr => .bytes (leBytes 5 Config.macBase)
  | .hopSeq => .bytes (if k = 0 then [0] else (List.range 16).map (fun i => BitVec.ofNat 8 (11 + i)))
  | .dscp => .bytes ((List.range 64).map (fun i => BitVec.ofNat 8 (7 - i / 8)))

/-- The value of parameter `id` in force (02 R44). -/
def State.pval (s : State) (id : Nat) : PVal :=
  match tfind s.params id with
  | some v => v
  | none =>
    match paramRow? id with
    | some (r, k) => defaultOf s r k
    | none => .num 0

/-- The value in force as a number. -/
def State.pint (s : State) (id : Nat) : Int :=
  match s.pval id with
  | .num i => i
  | .bytes b => leNat b

/-- The value in force as a count. -/
def State.pnat (s : State) (id : Nat) : Nat := (s.pint id).toNat

/-- The value in force as a flag. -/
def State.pbool (s : State) (id : Nat) : Bool := s.pint id != 0

/-- The value in force as bytes. -/
def State.pbytes (s : State) (id : Nat) : Bytes :=
  match s.pval id with
  | .num i => leInt 8 i
  | .bytes b => b

/-- How many bytes a value of a type takes; none for BYTES (02 R43). -/
def PType.size : PType → Option Nat
  | .u8 | .s8 | .bool | .enum => some 1
  | .u16 | .s16 => some 2
  | .u32 | .s32 => some 4
  | .u64 => some 8
  | .mac => some 6
  | .bytes => none

/-- The code of a type (02 R495). -/
def PType.code : PType → Nat
  | .u8 => 0 | .s8 => 1 | .u16 => 2 | .s16 => 3 | .u32 => 4 | .s32 => 5 | .u64 => 6 | .bool => 7 | .enum => 8 | .mac => 9 | .bytes => 10

def Access.code : Access → Nat
  | .rw => 0 | .ro => 1 | .wo => 2

def CommitClass.code : CommitClass → Nat
  | .immediate => 0 | .slotframe => 1 | .superframe => 2 | .spanEvent => 3 | .gateCycle => 4 | .time => 5 | .reset => 6

def CommitClass.ofCode? : Nat → Option CommitClass
  | 0 => some .immediate | 1 => some .slotframe | 2 => some .superframe | 3 => some .spanEvent | 4 => some .gateCycle
  | 5 => some .time | 6 => some .reset | _ => none

/-- The value that bytes of a message spell in a type (02 R43). -/
def decodeVal (t : PType) (b : Bytes) : PVal :=
  match t with
  | .s8 => .num (signed 8 (leNat b))
  | .s16 => .num (signed 16 (leNat b))
  | .s32 => .num (signed 32 (leNat b))
  | .mac => .num (beNat b : Nat)
  | .bytes => .bytes b
  | _ => .num (leNat b : Nat)

/-- The bytes a value takes in a message (02 R43). -/
def encodeVal (t : PType) (v : PVal) : Bytes :=
  match v with
  | .bytes b => b
  | .num i =>
    match t with
    | .mac => beBytes 6 i.toNat
    | .bytes => leInt 8 i
    | _ => leInt (t.size.getD 8) i

/-- The extreme values of a type. -/
def PType.full : PType → Int × Int
  | .u8 | .enum => (0, 255)
  | .bool => (0, 1)
  | .s8 => (-128, 127)
  | .u16 => (0, 65535)
  | .s16 => (-32768, 32767)
  | .u32 => (0, 4294967295)
  | .s32 => (-2147483648, 2147483647)
  | .u64 => (0, 18446744073709551615)
  | .mac => (0, 281474976710655)
  | .bytes => (0, 65535)

/-- Whether a value lies in the row's intervals and on its step (02 R495). -/
def ParamRow.inRange (r : ParamRow) (v : PVal) : Bool :=
  match v with
  | .bytes b => r.ranges.any (fun p => decide (p.1 ≤ b.length) && decide ((b.length : Int) ≤ p.2))
  | .num i =>
    (r.ranges.isEmpty || r.ranges.any (fun p => decide (p.1 ≤ i) && decide (i ≤ p.2)))
    && (r.step == 0 || i % r.step == 0)

end Sys2Proof.Machine
end

