-- ==== Sys2Proof/Machine/Flags.lean ====
section
/-! DEFINITION. The status words that are computed from the state: identification, power and boot state, error counts,
the event summary and the host line (02 R32, 11 R332, 17 R466). -/

namespace Sys2Proof.Machine

/-- One flag at a bit position. -/
def flag (b : Bool) (pos : Nat) : Nat := if b then 2 ^ pos else 0

/-- The PSTATE code of a power state (02 R32); OFF cannot be read. -/
def PState.code : PState → Nat
  | .active => 0
  | .doze => 1
  | .nap => 2
  | .hibernate => 3
  | .off => 0

/-- PART, REV and FAMILY (02 R32). -/
def State.sysId : Nat := (if Config.isZk4832 then 0x4832 else 0x4816) + 0xB0 * 2 ^ 16 + 0x5A * 2 ^ 24

/-- SYS_STATE (02 R32). -/
def State.sysState (s : State) : Nat :=
  s.sys.pstate.code + s.sys.boot % 16 * 2 ^ 4 + s.sys.fwSlot % 2 * 2 ^ 8 + flag (s.pbool 0x0010) 9
    + flag s.sys.boardOk 10 + flag s.sys.siteOk 11

/-- SYS_RESET_CAUSE (17 R466). -/
def State.resetCause (s : State) : Nat := s.sys.cause % 256 + flag s.sys.rollback 8 + s.sys.count % 65536 * 2 ^ 16

/-- HIF_ERR; in NAP and HIBERNATE the AOC's copy, cleared once it has been read (02 R32, 16 R453). -/
def State.hifErr (s : State) : Nat :=
  if s.hif.mserCleared then 0
  else s.hif.badOp % 256 + s.hif.unmapped % 256 * 2 ^ 8 + s.hif.mbxOverrun % 256 * 2 ^ 16 + s.hif.inbandReject % 256 * 2 ^ 24

/-- The registers of the identification and status block by number (02 R26, R32). -/
def State.idReg (s : State) : Nat → Nat
  | 0 => State.sysId
  | 1 => s.sys.fwVersion % 2 ^ 32
  | 2 => s.sysState
  | 3 => s.resetCause
  | 4 => s.hifErr
  | 5 => s.sys.scratch.toNat
  | 6 => Config.serial % 2 ^ 32
  | _ => 0

/-- No control core can run Eotre: all eight are held in reset (11 R332, HALT; log entry 8). -/
def State.coresDown (s : State) : Bool := (List.range 8).all (fun i => (tget {} s.cc.cores i).st == .reset)

/-- EVS_SUMMARY (11 R332). -/
def State.summary (s : State) : Word :=
  let rsp := (List.range 8).foldl (fun acc n => acc + flag ((tget {} s.chans n).rspPi != (tget {} s.chans n).rspCi) n) 0
  BitVec.ofNat 32 (rsp + flag (s.evt.pi != s.evt.ci) 8 + flag (s.evt.lost != 0) 9 + flag (s.evs.ringRx != 0#32) 10
    + flag (s.evs.ringTx != 0#32) 11 + flag s.evs.boot 12 + flag (s.sys.boot == 0xF || s.coresDown) 13)

/-- Whether an enabled cause is present (11 R333, R334). -/
def State.causePresent (s : State) : Bool := (s.summary &&& s.evs.enable) != 0#32

/-- HIRQ_STATUS (11 R332). -/
def State.hirqStatus (s : State) : Nat := flag s.evs.line 0 + flag (s.evs.held != 0) 1 + s.evs.held % 2048 * 2 ^ 2

/-- The count at which group 63 releases (11 R332, HIRQ_CFG). -/
def State.hirqCount (s : State) : Nat := min 1024 (max 1 (s.evs.cfg.toNat % 2048))

/-- HIRQ_CFG.TIME in µs as it acts (11 R332). -/
def State.hirqTime (s : State) : Nat := max 1 (s.evs.cfg.toNat / 65536)

end Sys2Proof.Machine
end

