-- ==== Sys2Proof/Machine/Memory.lean ====
section
/-! DEFINITION. Byte memories: the host windows and the staging region, as sorted lists without bytes equal to what an
unlisted address reads as (log entry 2). -/

namespace Sys2Proof.Machine

/-- What an address that nothing has written reads as (log entry 2). -/
def emptyByte : Byte := 0#8

/-- The byte at an address. -/
def readByte : List Host.Cell → Nat → Byte
  | [], _ => emptyByte
  | (j, v) :: t, a => if j = a then v else readByte t a

/-- A memory with one byte set; writing what an unlisted address reads as removes the entry. -/
def writeByte : List Host.Cell → Nat → Byte → List Host.Cell
  | [], a, b => if b = emptyByte then [] else [(a, b)]
  | (j, v) :: t, a, b =>
    if a = j then (if b = emptyByte then t else (a, b) :: t)
    else if a < j then (if b = emptyByte then (j, v) :: t else (a, b) :: (j, v) :: t)
    else (j, v) :: writeByte t a b

/-- `n` bytes from an address upward. -/
def readBytes (m : List Host.Cell) : Nat → Nat → Bytes
  | _, 0 => []
  | a, n + 1 => readByte m a :: readBytes m (a + 1) n

/-- Bytes written from an address upward. -/
def writeBytes : List Host.Cell → Nat → Bytes → List Host.Cell
  | m, _, [] => m
  | m, a, b :: bs => writeBytes (writeByte m a b) (a + 1) bs

/-- Whether a memory is in its one form: addresses rise strictly above `lo`, and no byte is the one an unlisted address reads as. -/
def wfFrom (lo : Nat) : List Host.Cell → Bool
  | [] => true
  | (j, v) :: t => decide (lo ≤ j) && decide (v ≠ emptyByte) && wfFrom (j + 1) t

/-- The canonical form of a memory. -/
def Memory.wf (m : List Host.Cell) : Bool := wfFrom 0 m

end Sys2Proof.Machine
end

