-- ==== Sys2Proof/Machine/Ops.lean ====
section
/-! DEFINITION. The named operations every command is built from: counters, free values, network time, the host line,
events, host windows, and the reset of the device. -/

namespace Sys2Proof.Machine

/-- What a command answers. -/
abbrev Out := Host.Outcome State Fault Refusal

/-! ### Counters -/

/-- The value of a counter. -/
def State.ctr (s : State) (b : CtrBank) (row : Nat) : Nat :=
  match s.ctrs.find? (fun c => c.bank == b && c.row == row) with
  | some c => c.value
  | none => 0

/-- A counter list with `n` added to one counter, which saturates at 0xFFFF_FFFF (00 R6). -/
def bumpCtr : List Ctr → CtrBank → Nat → Nat → List Ctr
  | [], b, row, n => if n = 0 then [] else [⟨b, row, satAdd 0xFFFFFFFF 0 n⟩]
  | c :: t, b, row, n =>
    if c.bank = b ∧ c.row = row then { c with value := satAdd 0xFFFFFFFF c.value n } :: t else c :: bumpCtr t b row n

/-- `n` added to a counter. -/
def State.bumpBy (s : State) (b : CtrBank) (row n : Nat) : State := { s with ctrs := bumpCtr s.ctrs b row n }

/-- One added to a counter. -/
def State.bump (s : State) (b : CtrBank) (row : Nat) : State := s.bumpBy b row 1

/-- A counter group cleared. -/
def State.clearBank (s : State) (b : CtrBank) : State := { s with ctrs := s.ctrs.filter (fun c => c.bank != b) }

/-- The first `n` counters of a group, in the order of its table. -/
def State.bankValues (s : State) (b : CtrBank) (n : Nat) : List Nat := (List.range n).map (fun i => s.ctr b (i + 1))

/-- A counter raised to at least `v`: for the rows that hold a peak. -/
def State.peakCtr (s : State) (b : CtrBank) (row v : Nat) : State := s.bumpBy b row (v - s.ctr b row)

/-! ### Free values -/

/-- The next free value, and the state in which it has been used (log entry 3). -/
def State.draw (s : State) : Nat × State := (Config.free s.freeCtr, { s with freeCtr := s.freeCtr + 1 })

/-- `n` bytes that no rule gives (log entry 3). -/
def State.drawBytes (s : State) (n : Nat) : Bytes × State :=
  ((List.range n).map (fun i => BitVec.ofNat 8 (Config.free (s.freeCtr + i))), { s with freeCtr := s.freeCtr + n })

/-- A signed quotient whose rounding the spec leaves open: exact where it divides, otherwise one of the two neighbours (log entry 4). -/
def State.roundOpenInt (s : State) (a : Int) (d : Nat) : Int × State :=
  if a % d = 0 then (a / d, s) else (a / d + (Config.free s.freeCtr % 2 : Nat), { s with freeCtr := s.freeCtr + 1 })

/-- A quotient whose rounding the spec leaves open: exact where it divides, otherwise one of the two neighbours (log entry 4). -/
def State.roundOpen (s : State) (num den : Nat) : Nat × State :=
  if num % den = 0 then (num / den, s)
  else ((num / den) + Config.free s.freeCtr % 2, { s with freeCtr := s.freeCtr + 1 })

/-! ### Running domains (02 R44, R50, 13 R380) -/

/-- A span's link is established: ACQUIRE has completed since it was opened (07 R219). -/
def SpanState.established (v : SpanState) : Bool := v.phase == .up || v.phase == .resync

/-- Whether a domain runs: a network started, a span established, a port's gate list enabled; the device always runs. -/
def State.domainRuns (s : State) (d : Nat) : Bool :=
  if d = 0x0100 then s.nets.fst.running
  else if d = 0x0101 then s.nets.snd.running
  else if 0x0200 ≤ d ∧ d < 0x0220 then (tget {} s.spans (d - 0x0200)).established
  else if 0x0300 ≤ d ∧ d < 0x0304 then s.pbool (0xA010 + (d - 0x0300))
  else true

/-- Whether any network, span member or enabled gate list runs (13 R380). -/
def State.scheduleRuns (s : State) : Bool :=
  s.nets.fst.running || s.nets.snd.running || s.spans.any (fun p => p.2.phase != .closed)
    || (List.range 4).any (fun p => s.pbool (0xA010 + p))

/-! ### Network time (13 R376) -/

/-- Elapsed raw ticks since raw_ref, as a signed 48-bit difference. -/
def State.rawDelta (s : State) : Int := sdiff 48 s.time.raw s.time.rawRef

/-- The network time in ns. -/
def State.now (s : State) : Int :=
  s.time.offset + 4 * s.rawDelta + (4 * s.rawDelta * (s.time.cf + s.time.cp)) / (2 ^ 40 : Int)

/-- The time of the always-on counter in ns, to the 4 ns of the block's clock (log entry 5). -/
def State.slowNs (s : State) : Nat := (s.time.aon * 250000000 + s.time.aonPhase) / 8192

/-- The network time as the 64-bit count that messages carry. -/
def State.now64 (s : State) : Nat := unsigned 64 s.now

/-- The time source in effect: the holder of the cap token reads 5 as 0 (13 R379, 14 R412). -/
def State.source (s : State) : Nat := if s.serial.casc.holder && s.pnat 0xB001 == 5 then 0 else s.pnat 0xB001

/-- The span that source 3 follows: the lowest-numbered UP one whose R end this is and whose time_parent is 1 (07 R219, 13 R379). -/
def State.timeSpan (s : State) : Option (Nat × SpanState) :=
  s.spans.find? (fun p => p.2.phase == .up && !p.2.isT && s.pbool (0x4103 + 0x20 * p.1))

/-- The elapsed time folded into offset, so that c can change without moving the present (13 R376). -/
def State.fold (s : State) : State := { s with time := { s.time with offset := s.now, rawRef := s.time.raw } }

/-- The device is out of reset, and its core domain runs (16 R446). -/
def State.awake (s : State) : Bool := !s.sys.hold.held && (s.sys.pstate == .active || s.sys.pstate == .doze)

/-- Eotre runs: the mailboxes are open (18 R485). -/
def State.eotre (s : State) : Bool := s.sys.boot == 3 || s.sys.boot == 4

/-- Awake, with Eotre running. -/
def State.live (s : State) : Bool := s.awake && s.eotre

/-- Networks, spans and DRAM users need BOOT 4 (15 R436). -/
def State.dramReady (s : State) : Bool := s.sys.boot == 4

/-! ### The host interrupt line (11 R333-R335) -/

/-- The notify message of an assertion (02 R30). -/
def State.notify (s : State) : State :=
  if s.pbool 0x0010 && s.pnat 0x0014 != 0 then
    let msg : InbandMsg := ⟨0x90, s.pnat 0x0014, Config.free s.freeCtr % 2 ^ 16, Config.free (s.freeCtr + 1) % 2 ^ 32, 4, 0,
      leBytes 4 s.summary.toNat⟩
    { s with freeCtr := s.freeCtr + 2, hif := { s.hif with inbandOut := some msg } }
  else s

/-- HOST_IRQ_N driven low, and the assertion counted. -/
def State.assertLine (s : State) : State :=
  ({ s with evs := { s.evs with line := true, held := 0 } }.bump .cc 14).notify

/-- Group 63 released: the line is asserted if an enabled cause is present. -/
def State.releaseHost (s : State) : State :=
  let s := { s with evs := { s.evs with held := 0 } }
  if s.causePresent then s.assertLine else s

/-- One cause of summary bit `bit` enters group 63, unless its enable bit is clear or the line is asserted (11 R333, R334). -/
def State.hostCause (s : State) (bit : Nat) : State :=
  if !s.evs.enable.getLsbD bit || s.evs.line then s
  else if s.hirqCount ≤ s.evs.held + 1 then (s.bump .cc 12).releaseHost
  else
    { s with evs := { s.evs with
        held := s.evs.held + 1
        start := if s.evs.held = 0 then s.time.raw else s.evs.start
        timeUs := s.hirqTime } }

/-- A cause that is never held: BOOT or HALT (11 R333). -/
def State.hostCauseNow (s : State) (bit : Nat) : State :=
  if !s.evs.enable.getLsbD bit || s.evs.line then s else s.releaseHost

/-- After a host access: the line is released once no enabled cause is present, and group 63 restarts empty (11 R334). -/
def State.hostRecheck (s : State) : State :=
  if s.evs.line && !s.causePresent then { s with evs := { s.evs with line := false, held := 0 } } else s

/-- SYS_STATE.BOOT set; reaching 3, 4 or 0xF is a cause (11 R332, R336). -/
def State.setBoot (s : State) (b : Nat) : State :=
  let s := { s with sys := { s.sys with boot := b } }
  if b = 3 ∨ b = 4 then { s with evs := { s.evs with boot := true } }.hostCauseNow 12
  else if b = 0xF then ({ s with evs := { s.evs with boot := true } }.hostCauseNow 12).hostCauseNow 13
  else s

/-! ### Host windows (02 R32, 15 R421) -/

/-- Host address of the first byte of the host windows. -/
def winBase : Nat := 0x10000000

/-- Bytes of the host windows. -/
def State.winSize (s : State) : Nat := 0x40000 * s.pnat 0xD001

/-- `n` bytes at a host window offset. -/
def State.winRead (s : State) (off n : Nat) : Bytes := readBytes s.mem (winBase + off) n

/-- Bytes written at a host window offset. -/
def State.winWrite (s : State) (off : Nat) (bs : Bytes) : State := { s with mem := writeBytes s.mem (winBase + off) bs }

/-- An area that a command may name (02 R496). -/
def State.areaOk (s : State) (off n : Nat) : Bool := decide (0x28000 ≤ off) && decide (off + n ≤ s.winSize)

/-! ### Timers -/

/-- A timer started at a raw tick has run for `us` µs. -/
def State.ranUs (s : State) (since : Option Nat) (us : Nat) : Bool :=
  match since with
  | some t => decide (1000 * (us : Int) ≤ 4 * sdiff 48 s.time.raw t)
  | none => false

/-- What was last done at a raw tick falls due again after `us` µs; at once where it has not been done yet. -/
def State.dueUs (s : State) (last : Option Nat) (us : Nat) : Bool := last.isNone || s.ranUs last us

/-- A timer started at an always-on tick has run for `ms` ms. -/
def State.ranMs (s : State) (since ms : Nat) : Bool := decide ((32768 * ms : Nat) ≤ 1000 * sdiff 48 s.time.aon since)

/-! ### Messages and events (02 R36, R38, R494) -/

/-- The bytes of a TLV area: padding between TLVs, none after the last value (02 R36). -/
def encodeTlvs : List Tlv → Bytes
  | [] => []
  | [t] => u16 t.ty ++ u16 t.val.length ++ t.val
  | t :: t' :: ts => u16 t.ty ++ u16 t.val.length ++ padTo (alignUp 4 t.val.length) t.val ++ encodeTlvs (t' :: ts)

/-- Event fields as TLVs of type 1, 2, … (02 R494). -/
def fieldTlvs (fields : List Bytes) : List Tlv := (fields.zip (List.range fields.length)).map (fun p => ⟨p.2 + 1, p.1⟩)

/-- The bytes of an event slot (02 event slot table). -/
def State.eventBytes (s : State) (code seq : Nat) (tlvs : List Tlv) : Bytes :=
  let area := encodeTlvs tlvs
  u16 code ++ u16 seq ++ u16 area.length ++ u16 (if s.time.wallTime then 1 else 0) ++ u64 s.now64 ++ u32 s.time.bound
    ++ u32 0 ++ area

/-- An event written into the next slot of the event ring. -/
def State.postEvent (s : State) (code : Nat) (tlvs : List Tlv) : State :=
  let bs := s.eventBytes code s.evt.seq tlvs
  let s := s.winWrite (0x20000 + 0x80 * (s.evt.pi % 256)) bs
  { s with evt := { s.evt with pi := (s.evt.pi + 1) % 65536, seq := (s.evt.seq + 1) % 65536 } }

/-- An event dropped for want of a slot (02 R38). -/
def State.dropEvent (s : State) : State :=
  { s with evt := { s.evt with
      lost := satAdd 65535 s.evt.lost 1
      dropped := satAdd 65535 s.evt.dropped 1
      lastDropped := s.evt.seq
      seq := (s.evt.seq + 1) % 65536 } }

/-- Event slots in use. -/
def State.evtUsed (s : State) : Nat := (s.evt.pi + 65536 - s.evt.ci) % 65536

/-- An event with its own TLV types: posted, or dropped when the ring is full (02 R38). -/
def State.raiseNow (s : State) (code : Nat) (tlvs : List Tlv) : State :=
  if 256 ≤ s.evtUsed then s.dropEvent.hostCause 9 else (s.postEvent code tlvs).hostCause 8

/-- The core domain is stopped or off (01 R17). -/
def State.asleep (s : State) : Bool := s.sys.pstate == .nap || s.sys.pstate == .hibernate

/-- An event with its own TLV types; one whose cause comes in NAP or HIBERNATE waits for ACTIVE (log entry 159). -/
def State.raiseTlvs (s : State) (code : Nat) (tlvs : List Tlv) : State :=
  if s.asleep then { s with evt := { s.evt with late := s.evt.late ++ [(code, tlvs)] } } else s.raiseNow code tlvs

/-- The events that have waited for ACTIVE, in order. -/
def State.raiseLate (s : State) : State :=
  s.evt.late.foldl (fun (s : State) e => s.raiseNow e.1 e.2) { s with evt := { s.evt with late := [] } }

/-- An event of plain fields (02 R494). -/
def State.raise (s : State) (code : Nat) (fields : List Bytes) : State := s.raiseTlvs code (fieldTlvs fields)

/-! ### DOZE -/

/-- A matched Thaw frame is reported once the device is ACTIVE and Eotre runs (03 R92). -/
def State.reportThaw (s : State) : State :=
  if s.pwr.thawPending && !s.sys.hold.held && s.sys.pstate == .active && s.eotre then
    { s with pwr := { s.pwr with thawPending := false } }.raise 0x1005 [u16 s.pwr.thawAddr, u8 s.pwr.thawCmd, u8 s.pwr.thawRate]
  else s

/-- ACTIVE again: gated cores run (16 R446). -/
def State.ungate (s : State) : State :=
  { s with
    sys := { s.sys with pstate := .active }
    cc := { s.cc with cores := s.cc.cores.map (fun p => if p.2.st = .gated then (p.1, { p.2 with st := .idle }) else p) } }

/-- The first dispatch, interrupt or host access ends DOZE (16 R446, 11 R313). -/
def State.leaveDoze (s : State) : State := if s.sys.pstate = .doze then s.ungate else s

/-! ### The declared board -/

/-- The reference and slow-crystal tolerances in 0.1 ppm; 0 before BOARD_DECLARE (log entry 9). -/
def State.tol40 (s : State) : Nat :=
  match s.board with
  | some b => b.tol40
  | none => 0

def State.tol32 (s : State) : Nat :=
  match s.board with
  | some b => b.tol32
  | none => 0

/-- Wall time in ns as messages carry it where they say 0 without wall time (17 R465). -/
def State.wallNow (s : State) : Nat := if s.time.wallTime then s.now64 else 0

/-- The supply voltage from HOLDUP_SENSE in mV, as a fraction over 1,024,000 (02 R55): a 10-bit code over 1.2 V (log entry 10). -/
def supplyFrac (code ratio : Nat) : Nat := code * 1200 * ratio

/-- The supply voltage in mV, rounded down; 0 before BOARD_DECLARE. -/
def State.supplyMv (s : State) : Nat :=
  match s.board with
  | some b => supplyFrac s.pins.holdup b.holdup.ratio / 1024000
  | none => 0

end Sys2Proof.Machine
end

