-- ==== Sys2Proof/Machine/Operands.lean ====
section
/-! DEFINITION. The operand forms of mailbox commands: the message header, the TLV area and the checks a request passes
before its command acts (02 R36). -/

namespace Sys2Proof.Machine

/-! ### Status codes (02 general status codes) -/

def stOk : Nat := 0x0000
def stUnknownOpcode : Nat := 0x0001
def stBadLength : Nat := 0x0002
def stBadTlv : Nat := 0x0003
def stUnknownParam : Nat := 0x0004
def stRange : Nat := 0x0005
def stAccess : Nat := 0x0006
def stState : Nat := 0x0007
def stWrongClass : Nat := 0x0008
def stNotDeclared : Nat := 0x0009
def stLocked : Nat := 0x000A
def stNoSet : Nat := 0x000B
def stSetFull : Nat := 0x000C
def stTargetRange : Nat := 0x000D
def stUnmapped : Nat := 0x0010
def stHoldupShort : Nat := 0xD101
def stNvArea : Nat := 0xD102

/-! ### TLV forms -/

/-- The lengths a TLV's value may have. -/
inductive TlvLen where
  | exact (n : Nat)
  | range (lo hi : Nat)
  | any
  deriving DecidableEq, Repr

def TlvLen.ok : TlvLen → Nat → Bool
  | .exact n, k => k == n
  | .range lo hi, k => decide (lo ≤ k) && decide (k ≤ hi)
  | .any, _ => true

/-- One row of a command's table of request TLVs. -/
structure TlvRow where
  ty : Nat
  len : TlvLen
  must : Bool := true
  multi : Bool := false
  deriving DecidableEq, Repr

/-- A command's request TLVs; `open_`: it also takes TLVs whose type is a parameter ID. -/
structure TlvSpec where
  rows : List TlvRow
  open_ : Bool := false
  deriving DecidableEq, Repr

def TlvSpec.row? (p : TlvSpec) (ty : Nat) : Option TlvRow := p.rows.find? (fun r => r.ty == ty)

/-- A fault of a request: its status, and the type its TLV 0xFFFF names, if any (02 R36). -/
abbrev ReqFault := Nat × Option Nat

/-- The checks of one TLV against the command's table and the TLVs before it (02 R36; a wrong length: log entry 11). -/
def tlvFault (p : TlvSpec) (seen : List Tlv) (t : Tlv) : Option ReqFault :=
  match p.row? t.ty with
  | some r =>
    if seen.any (fun u => u.ty == t.ty) && !r.multi then some (stBadTlv, some t.ty)
    else if !r.len.ok t.val.length then some (stBadLength, some t.ty)
    else none
  | none =>
    if !p.open_ then some (stBadTlv, some t.ty)
    else if seen.any (fun u => u.ty == t.ty) then some (stBadTlv, some t.ty)
    else none

/-- The TLV area read from its start: the TLVs, or the first fault (02 R36). -/
def parseTlvs (p : TlvSpec) : Nat → Bytes → List Tlv → Except ReqFault (List Tlv)
  | 0, _, seen => .ok seen
  | fuel + 1, area, seen =>
    if area = [] then .ok seen
    else
      let ty := leNat (area.take 2)
      if area.length < 4 then .error (stBadLength, if 2 ≤ area.length then some ty else none)
      else
        let n := leNat ((area.drop 2).take 2)
        if area.length < 4 + n then .error (stBadLength, some ty)
        else
          let t : Tlv := ⟨ty, (area.drop 4).take n⟩
          match tlvFault p seen t with
          | some f => .error f
          | none => parseTlvs p fuel (area.drop (4 + alignUp 4 n)) (seen ++ [t])

/-- A missing mandatory TLV, the first in the order of the table (02 R36, R51). -/
def missingTlv (p : TlvSpec) (ts : List Tlv) : Option Nat :=
  (p.rows.find? (fun r => r.must && !ts.any (fun t => t.ty == r.ty))).map (fun r => r.ty)

/-- The value bytes of TLV `ty`. -/
def Req.val? (q : Req) (ty : Nat) : Option Bytes := (q.tlvs.find? (fun t => t.ty == ty)).map (fun t => t.val)

def Req.has (q : Req) (ty : Nat) : Bool := q.tlvs.any (fun t => t.ty == ty)

/-- TLV `ty` as bytes; empty where absent. -/
def Req.bytes (q : Req) (ty : Nat) : Bytes := (q.val? ty).getD []

/-- TLV `ty` as an unsigned number; 0 where absent. -/
def Req.nat (q : Req) (ty : Nat) : Nat := leNat (q.bytes ty)

/-- TLV `ty` as a signed number of its own length. -/
def Req.int (q : Req) (ty : Nat) : Int := signed (8 * (q.bytes ty).length) (q.nat ty)

/-- The values of a TLV that may appear more than once. -/
def Req.all (q : Req) (ty : Nat) : List Bytes := (q.tlvs.filter (fun t => t.ty == ty)).map (fun t => t.val)

/-! ### Where messages lie (02 fixed layout of the host windows) -/

def reqSlot (ch i : Nat) : Nat := 0x4000 * ch + 0x200 * (i % 16)

def rspSlot (ch i : Nat) : Nat := 0x4000 * ch + 0x2000 + 0x200 * (i % 16)

/-- Requests outstanding on a channel (02 R33). -/
def Chan.outstanding (c : Chan) : Nat := (c.reqPi + 65536 - c.reqCi) % 65536

/-- Responses the host has not yet freed (02 R35). -/
def Chan.unread (c : Chan) : Nat := (c.rspPi + 65536 - c.rspCi) % 65536

def State.chan (s : State) (ch : Nat) : Chan := tget {} s.chans ch

/-- Whether the device can consume a request on a channel: Eotre runs, no SYS_RESET is under way, a request is
outstanding, none is being run and a response slot is free (02 R34, R35, 17 R468). -/
def State.canServe (s : State) (ch : Nat) : Bool :=
  decide (ch < 8) && s.live && !s.sys.resetPending && (s.chan ch).held.isNone
    && (s.chan ch).outstanding != 0 && decide ((s.chan ch).unread < 16)

/-- The first 8 bytes of the next request of a channel. -/
def State.reqHeader (s : State) (ch : Nat) : Bytes := s.winRead (reqSlot ch (s.chan ch).reqCi) 8

def State.reqOpcode (s : State) (ch : Nat) : Nat := leNat ((s.reqHeader ch).take 2)

def State.reqTag (s : State) (ch : Nat) : Nat := leNat (((s.reqHeader ch).drop 2).take 2)

def State.reqLength (s : State) (ch : Nat) : Nat := leNat (((s.reqHeader ch).drop 4).take 2)

/-- The next request of a channel after the checks of R36. -/
def State.checkedReq (s : State) (ch : Nat) (p : TlvSpec) : Except ReqFault Req :=
  if 504 < s.reqLength ch then .error (stBadLength, none)
  else
    match parseTlvs p 504 (s.winRead (reqSlot ch (s.chan ch).reqCi + 8) (s.reqLength ch)) [] with
    | .error f => .error f
    | .ok ts =>
      match missingTlv p ts with
      | some ty => .error (stBadTlv, some ty)
      | none => .ok ⟨ch, s.reqOpcode ch, s.reqTag ch, ts⟩

end Sys2Proof.Machine
end

