-- ==== Sys2Proof/Machine/Mailbox.lean ====
section
/-! DEFINITION. The mailboxes: consuming a request, answering it, and refusing an unknown opcode (02 R33-R37). -/

namespace Sys2Proof.Machine

/-- Every opcode of the command tables. -/
def knownOpcodes : List Nat := [
  0x0001, 0x0002, 0x0010, 0x0011, 0x0012, 0x0020, 0x0021, 0x0022, 0x0023, 0x0024,
  0x0030, 0x0031, 0x1001, 0x1002, 0x1003, 0x1004, 0x2001, 0x2002, 0x2003, 0x2004,
  0x2005, 0x2006, 0x3001, 0x3002, 0x3003, 0x3004, 0x3005, 0x3006, 0x3007, 0x3008,
  0x3009, 0x300A, 0x300B, 0x4001, 0x4002, 0x4003, 0x4004, 0x4005, 0x4006, 0x4007,
  0x5001, 0x5002, 0x5003, 0x5004, 0x5005, 0x5006, 0x6001, 0x6002, 0x6003, 0x6004,
  0x6005, 0x6006, 0x6007, 0x6008, 0x6009, 0x7001, 0x7002, 0x7003, 0x7004, 0x7005,
  0x7006, 0x7007, 0x7008, 0x7009, 0x700A, 0x8001, 0x8002, 0x8003, 0x9001, 0x9002,
  0xA001, 0xA002, 0xA003, 0xA004, 0xA005, 0xB001, 0xB002, 0xB003, 0xC001, 0xC002,
  0xC003, 0xC004, 0xC005, 0xC006, 0xC007, 0xC008, 0xC009, 0xC00A, 0xC00B, 0xD001,
  0xD002, 0xD003, 0xD010, 0xD011, 0xD012, 0xD013, 0xD014, 0xE001, 0xE002, 0xF001,
  0xF002, 0xF003, 0xF004, 0xF005, 0xF006, 0xF007, 0xF008, 0xF009]

/-- The TLVs that fit an area of 504 bytes, in order (02 message format; log entry 16). -/
def fitTlvs : Nat → List Tlv → List Tlv
  | _, [] => []
  | room, t :: ts => if room < 4 + t.val.length then [] else t :: fitTlvs (room - (4 + alignUp 4 t.val.length)) ts

/-- The bytes of a response (02 message format). -/
def responseBytes (opcode tag status : Nat) (tlvs : List Tlv) : Bytes :=
  let area := encodeTlvs (fitTlvs 504 tlvs)
  u16 opcode ++ u16 tag ++ u16 area.length ++ u16 status ++ area

/-- A response posted on a channel, which is a cause of the host line (02 R35, 11 R333). -/
def State.respond (s : State) (ch opcode tag status : Nat) (tlvs : List Tlv) : State :=
  let c := s.chan ch
  let s := s.winWrite (rspSlot ch c.rspPi) (responseBytes opcode tag status tlvs)
  { s with chans := tset s.chans ch { c with rspPi := (c.rspPi + 1) % 65536, held := none } }.hostCause ch

/-- The next request of a channel consumed (02 R34). -/
def State.consume (s : State) (ch : Nat) : State :=
  { s with chans := tset s.chans ch { s.chan ch with reqCi := ((s.chan ch).reqCi + 1) % 65536 } }

/-- What a command answers: a response at once, or one that is posted when its record writes are complete (02 R37, R55). -/
inductive Reply where
  | now (status : Nat) (tlvs : List Tlv)
  | wait (tlvs : List Tlv)
  deriving DecidableEq, Repr

/-- A response that names a TLV type or parameter in a TLV 0xFFFF. -/
def naming (status ty : Nat) : Reply := .now status [⟨0xFFFF, u16 ty⟩]

/-- A response of a status alone. -/
def plain (status : Nat) : Reply := .now status []

/-- A successful response. -/
def okReply (tlvs : List Tlv) : Reply := .now stOk tlvs

/-- What a command does with a checked request. -/
abbrev Body := Req → State → Reply × State

/-- A reply delivered on the channel of its request. -/
def deliver (ch opcode tag : Nat) (r : Reply × State) : State :=
  match r.1 with
  | .now st tlvs => r.2.respond ch opcode tag st tlvs
  | .wait tlvs => { r.2 with chans := tset r.2.chans ch { r.2.chan ch with held := some ⟨opcode, tag, stOk, tlvs⟩ } }

/-- The next request of channel `ch`, whose opcode is `opcode`, consumed, checked and run. -/
def State.runRequest (s : State) (ch opcode : Nat) (p : TlvSpec) (body : Body) : State :=
  let tag := s.reqTag ch
  match s.checkedReq ch p with
  | .error (st, ty) =>
    (s.leaveDoze.consume ch).respond ch opcode tag st (match ty with | some t => [⟨0xFFFF, u16 t⟩] | none => [])
  | .ok q => deliver ch opcode tag (body q (s.leaveDoze.consume ch))

/-- Requests with unknown opcodes at the front of a channel are answered with ERR_UNKNOWN_OPCODE (02 R36). -/
def State.refuseUnknown (ch : Nat) : Nat → State → State
  | 0, s => s
  | fuel + 1, s =>
    if s.canServe ch && !(knownOpcodes.contains (s.reqOpcode ch)) then
      State.refuseUnknown ch fuel
        ((s.leaveDoze.consume ch).respond ch (s.reqOpcode ch) (s.reqTag ch) stUnknownOpcode [])
    else s

/-- The row of a mailbox command: where the next request of the channel carries its opcode and can be consumed, it runs;
otherwise the moment has not come, and nothing happens (log entry 6). -/
def State.serve (s : State) (ch opcode : Nat) (p : TlvSpec) (body : Body) : State :=
  if s.canServe ch && s.reqOpcode ch == opcode then State.refuseUnknown ch 16 (s.runRequest ch opcode p body) else s

/-- A response that waited for record writes, posted with the TLVs it then carries. -/
def State.release (s : State) (ch status : Nat) (tlvs : List Tlv) : State :=
  match (s.chan ch).held with
  | none => s
  | some h => State.refuseUnknown ch 16 (s.respond ch h.opcode h.tag status (if status = stOk then h.tlvs ++ tlvs else tlvs))

/-- One U32 TLV per counter, of types 1, 2, … -/
def ctrTlvs (vs : List Nat) : List Tlv := fieldTlvs (vs.map (fun v => u32 v))

/-- The TLV 0x0001 clear (BOOL) that every counter command takes. -/
def clearSpec : TlvSpec := { rows := [{ ty := 1, len := .exact 1 }] }

/-- The shared meaning of the counter commands: `n` counters of a group, cleared if asked (00 R6). -/
def countersReply (s : State) (b : CtrBank) (n : Nat) (clear : Bool) : Reply × State :=
  (okReply (ctrTlvs (s.bankValues b n)), if clear then s.clearBank b else s)

/-- A TLV with a natural number of `n` bytes. -/
def tlvN (ty n v : Nat) : Tlv := ⟨ty, leBytes n v⟩

def noTlvs : TlvSpec := { rows := [] }

end Sys2Proof.Machine
end

