-- ==== Sys2Proof/Machine/NvOps.lean ====
section
/-! DEFINITION. Non-volatile records: the hold-up check, the two copies, the queue of writes and the user area
(02 R54-R56, 15 R441-R443). -/

namespace Sys2Proof.Machine

/-- The cost of a record write, in units of 1/1,024 µJ: 20 µJ + 35 µJ per KiB of payload (02 R55). -/
def writeCost (size : Nat) : Nat := 20480 + 35 * size

/-- Twice the available energy times 10^9 × 1,024,000², in µJ (02 R55): C · η · (V² − Vmin²), 0 below Vmin. -/
def energyFrac (h : HoldupDecl) (code : Nat) : Nat :=
  h.cUf * h.eta * (supplyFrac code h.ratio ^ 2 - (h.vminMv * 1024000) ^ 2)

/-- What `energyFrac` counts in one µJ. -/
def energyUnit : Nat := 2 * 1000000000 * 1024000 ^ 2

/-- The hold-up check for a cost: E ≥ margin × cost, at the present sense (02 R55). -/
def State.holdupOk (s : State) (cost : Nat) : Bool :=
  match s.board with
  | none => false
  | some b => decide (s.pnat 0xD020 * cost * energyUnit ≤ energyFrac b.holdup s.pins.holdup * 100 * 1024)

/-- Available energy in whole µJ; rounding open (02 R494). -/
def State.energyUj (s : State) : Nat :=
  match s.board with
  | none => 0
  | some b => energyFrac b.holdup s.pins.holdup / energyUnit

/-- The payload size of a device record (02 R54 table, 09, 14 R420, 17 R465). -/
def recSize (id : Nat) : Nat :=
  if id = 0x0010 then 256
  else if id = 0x0020 then 4096
  else if 0x0100 ≤ id ∧ id < 0x0140 then 1024
  else if id = 0x0200 ∨ id = 0x0201 then 64
  else if id = 0x0300 then 4096
  else if id = 0x0400 then 8192
  else if 0x0410 ≤ id ∧ id < 0x0430 then 4096
  else if id = 0x0501 then 64
  else if id = 0x0600 then 16
  else if id = 0x0700 then 1024
  else 0

/-- A critical record, which the flush of R56 and the mark rule put ahead of others (02 R56, 15 R441). -/
def isMarkRecord (id : Nat) : Bool := decide (0x0100 ≤ id) && decide (id < 0x0140)

/-- Whether copy sequence `x` is the greater, by signed 32-bit difference (02 R54). -/
def seqGreater (x y : Nat) : Bool := decide (0 < sdiff 32 x y)

/-- The copy in force: the valid one, or the one of greater sequence (02 R54). -/
def NvRec.newest (r : NvRec) : Option NvCopy :=
  match r.a, r.b with
  | some x, some y => if seqGreater x.seq y.seq then some x else some y
  | some x, none => some x
  | none, y => y

/-- The record with one more write: into the invalid copy, or the one of lower sequence; the sequence after the higher,
or 1 into copy A where neither is valid (02 R54). -/
def NvRec.write (r : NvRec) (d : NvData) : NvRec :=
  match r.a, r.b with
  | none, none => { r with a := some ⟨1, d⟩ }
  | some x, none => { r with b := some ⟨(x.seq + 1) % 2 ^ 32, d⟩ }
  | none, some y => { r with a := some ⟨(y.seq + 1) % 2 ^ 32, d⟩ }
  | some x, some y =>
    if seqGreater x.seq y.seq then { r with b := some ⟨(x.seq + 1) % 2 ^ 32, d⟩ }
    else { r with a := some ⟨(y.seq + 1) % 2 ^ 32, d⟩ }

/-- The record after a write cut short: the copy it went to is invalid (02 R54). -/
def NvRec.cut (r : NvRec) : NvRec :=
  match r.a, r.b with
  | some x, some y => if seqGreater x.seq y.seq then { r with b := none } else { r with a := none }
  | _, _ => r

/-- The record without its valid copy of lower sequence, or without its only one (15 R443). -/
def NvRec.drop (r : NvRec) : NvRec :=
  match r.a, r.b with
  | some x, some y => if seqGreater x.seq y.seq then { r with b := none } else { r with a := none }
  | _, _ => { r with a := none, b := none }

def State.nvRec (s : State) (id : Nat) : NvRec := tget {} s.nv.recs id

/-- What record `id` holds in NV. -/
def State.nvData (s : State) (id : Nat) : Option NvData := (s.nvRec id).newest.map (fun c => c.data)

/-- The epoch of record 0x0600 (14 R415). -/
def State.storedEpoch (s : State) : Nat :=
  match s.nvData 0x0600 with
  | some (.number n) => n
  | _ => 0

/-- The device record of a parameter list, as it lies in NV. -/
def State.nvParams (s : State) (id : Nat) : Tab PVal :=
  match s.nvData id with
  | some (.params l) => l
  | _ => []

/-- A write merged with one of the same device record that is queued and not yet started (15 R441). A final summary stays one: the void
summary that is asked for behind it follows its completion (09 R274-R276). -/
def mergeWrite (x w : NvWrite) : NvWrite :=
  { x with data := if x.id = 0x0400 ∧ x.data.isNone then none else w.data, urgent := x.urgent || w.urgent, owners := x.owners ++ w.owners }

/-- A write put into the queue: a counter mark behind the marks already there and ahead of every other write (10 R301); other urgent ones
behind the urgent ones already there and ahead of the others; a device record that is queued already is merged with the new write
(15 R441). -/
def pushWrite (q : List NvWrite) (w : NvWrite) : List NvWrite :=
  if w.id < 0x8000 ∧ q.any (fun x => x.id == w.id) then q.map (fun x => if x.id = w.id then mergeWrite x w else x)
  else if isMarkRecord w.id then q.takeWhile (fun x => isMarkRecord x.id) ++ w :: q.dropWhile (fun x => isMarkRecord x.id)
  else if w.urgent then q.takeWhile (fun x => x.urgent) ++ w :: q.dropWhile (fun x => x.urgent)
  else q ++ [w]

def State.pushNv (s : State) (w : NvWrite) : State := { s with nv := { s.nv with queue := pushWrite s.nv.queue w } }

/-- A device record falls due for writing, on behalf of an owner if there is one; its content is taken when the write
starts (15 R441). -/
def State.recordFor (s : State) (id : Nat) (urgent : Bool) (owners : List NvOwner) : State :=
  s.pushNv { id := id, data := none, size := recSize id, urgent := urgent, owners := owners }

/-- The owner of a write that the device itself asks for: nobody waits for it. -/
def deviceOwner : NvOwner := ⟨none, .none⟩

def State.recordDue (s : State) (id : Nat) (urgent : Bool) : State := s.recordFor id urgent [deviceOwner]

/-- The check before a command that must write: its failing status, if any (02 R55). -/
def State.writeRefused (s : State) (cost : Nat) : Option Nat :=
  if s.board.isNone then some stNotDeclared else if s.holdupOk cost then none else some stHoldupShort

/-- EV_HOLDUP_SHORT for a write held by the check (02 R55); an energy that its U32 cannot hold is told as the largest it can (DESIGN
CHOICE: log entry 139). -/
def State.raiseShort (s : State) (id size : Nat) : State :=
  let (e, s) := match s.board with
    | some b => s.roundOpen (energyFrac b.holdup s.pins.holdup) energyUnit
    | none => (0, s)
  let (c, s) := s.roundOpen (writeCost size) 1024
  s.raise 0xD002 [u16 id, u32 (min 0xFFFFFFFF e), u32 c]

/-! ### The fault log (17 R465) -/

/-- The entries of the fault log record, the oldest first. -/
def State.nvFaults (s : State) : List FaultEntry :=
  match s.nvData 0x0700 with
  | some (.faults l) => l
  | _ => []

/-- The number of the next entry: one more than the newest (log entry 17). -/
def State.nextFaultSeq (s : State) : Nat :=
  match (s.nvFaults ++ s.flt.waiting).getLast? with
  | some e => e.seq + 1
  | none => 1

/-- A fault enters the log's waiting entries, or is lost beyond 16 of them (17 R465). -/
def State.logFault (s : State) (kind unit detail : Nat) : State :=
  if 16 ≤ s.flt.waiting.length then s.bump .flt 3
  else { s with flt := { s.flt with waiting := s.flt.waiting ++ [⟨s.nextFaultSeq, kind, unit, detail, s.wallNow⟩] } }

/-! ### The user area (15 R442) -/

/-- The area's first address, its end, and the space of one copy. -/
def userBase : Nat := 0x0CD0000
def userEnd : Nat := 0x1000000
def copySpace (len : Nat) : Nat := alignUp 256 (16 + len)

/-- The places that host records take: (start, end), rising. -/
def State.userUsed (s : State) : List (Nat × Nat) :=
  ((s.nv.recs.filter (fun p => decide (0x8000 ≤ p.1))).map (fun p => (p.2.place, p.2.place + 2 * copySpace p.2.len))).mergeSort
    (fun a b => decide (a.1 ≤ b.1))

/-- The free spaces: (start, length), rising. -/
def gapsFrom : Nat → List (Nat × Nat) → List (Nat × Nat)
  | at_, [] => if at_ < userEnd then [(at_, userEnd - at_)] else []
  | at_, (a, b) :: t => (if at_ < a then [(at_, a - at_)] else []) ++ gapsFrom (max at_ b) t

def State.userGaps (s : State) : List (Nat × Nat) := gapsFrom userBase s.userUsed

/-- First-fit space for both copies of a record. -/
def State.userFit (s : State) (len : Nat) : Option Nat :=
  (s.userGaps.find? (fun g => decide (2 * copySpace len ≤ g.2))).map (fun g => g.1)

end Sys2Proof.Machine
end

