-- ==== Sys2Proof/Machine/Phy.lean ====
section
/-! DEFINITION. PHY mode codes, supported combinations, air times and limits (05 R129-R151). -/

namespace Sys2Proof.Machine

def stPsduLength : Nat := 0x2103
def stPhyMode : Nat := 0x2104

/-- The four air formats (05 R129). -/
inductive PhyFamily where
  | fsk | ofdm | oqpsk | span
  deriving DecidableEq, Repr

def phyFamily (code : Nat) : PhyFamily :=
  match code / 64 % 4 with
  | 0 => .fsk
  | 1 => .ofdm
  | 2 => .oqpsk
  | _ => .span

/-- SUN FSK symbol rates in ksymbol/s by code (05 R131). -/
def fskRate (code : Nat) : Nat := [50, 100, 150, 200, 300].getD (code % 8) 50

/-- Bits per SUN FSK symbol. -/
def fskBits (code : Nat) : Nat := if code.testBit 3 then 2 else 1

def ofdmMcs (code : Nat) : Nat := code / 4 % 8

def ofdmOption (code : Nat) : Nat := code % 4 + 1

def spanBw (code : Nat) : Nat := code / 16 % 4

def spanMcs (code : Nat) : Nat := code % 16

/-- Whether a code names a supported combination (05 R129, R131, R135, R150). -/
def phySupported (code : Nat) : Bool :=
  decide (code < 256) &&
  match phyFamily code with
  | .fsk => decide (code % 8 ≤ 4) && (!code.testBit 3 || decide (code % 8 ≤ 2)) && (!code.testBit 5 || code.testBit 4)
  | .ofdm => !code.testBit 5 && decide (ofdmMcs code ≤ [3, 5, 6, 6].getD (code % 4) 6)
  | .oqpsk => code == 0x80
  | .span => decide (spanBw code ≤ 2) && decide (spanMcs code ≤ 9)

/-- Largest PSDU of a mode (05 R139). -/
def psduMax (code : Nat) : Nat :=
  match phyFamily code with
  | .fsk | .ofdm => 2047
  | .oqpsk => 127
  | .span => 16383

/-- Twice N_DBPS of a SUN OFDM mode (05 R135). -/
def ofdmDbps2 (code : Nat) : Nat := [3, 6, 12, 24, 36, 48, 72].getD (ofdmMcs code) 3 * 2 ^ (4 - ofdmOption code)

/-- Data subcarriers by bandwidth code (05 R140). -/
def spanSd (code : Nat) : Nat := [52, 108, 234].getD (spanBw code) 52

/-- Bits per subcarrier, and the code rate's numerator and denominator, by MCS (05 R150). -/
def spanRate (code : Nat) : Nat × Nat × Nat :=
  [(1, 1, 2), (2, 1, 2), (2, 3, 4), (4, 1, 2), (4, 3, 4), (6, 2, 3), (6, 3, 4), (6, 5, 6), (8, 3, 4), (8, 5, 6)].getD
    (spanMcs code) (1, 1, 2)

/-- Data symbols of a SUN OFDM frame (05 R136). -/
def ofdmSymbols (code len : Nat) : Nat :=
  let n := ceilDiv (2 * (8 * len + 6)) (ofdmDbps2 code)
  if ofdmDbps2 code = 3 then n + n % 2 else n

/-- Data symbols of a span PHY frame (05 R146). -/
def spanSymbols (code len nss : Nat) : Nat :=
  let (b, n, d) := spanRate code
  ceilDiv ((8 * len + 6) * d) (spanSd code * b * n * nss)

/-- Air time in thirds of a nanosecond, the unit in which every one of R134 to R150 is whole. -/
def airThirds (code len preamble nss gi : Nat) : Nat :=
  match phyFamily code with
  | .fsk =>
    let c := if code.testBit 4 then 2 else 1
    24000000 * (preamble + 2 + c * (2 + len)) / (fskBits code * fskRate code)
  | .ofdm => 3000 * (720 + 120 * ((if ofdmOption code = 1 then 3 else 6) + ofdmSymbols code len))
  | .oqpsk => 3000 * (32 * (6 + len))
  | .span =>
    3 * (17600 + 4000 * (nss - 1) + 4800 * (if spanBw code = 0 then 2 else 1)
      + spanSymbols code len nss * (3200 + if gi = 0 then 800 else 1600))

/-- An air time rounded up to whole microseconds (08 R239). -/
def airUs (thirds : Nat) : Nat := ceilDiv thirds 3000

/-- An air time rounded up to whole nanoseconds. -/
def airNs (thirds : Nat) : Nat := ceilDiv thirds 3

/-- Minimum carrier spacing in kHz; a span PHY group has one carrier (05 R131, R135, R137, R152). -/
def carrierSpacing (code : Nat) : Nat :=
  match phyFamily code with
  | .fsk => [200, 400, 400, 400, 600].getD (code % 8) 200
  | .ofdm => [1200, 800, 400, 200].getD (code % 4) 200
  | .oqpsk => 5000
  | .span => 0

/-- Data rate for the choice of members: of SUN OFDM by R135, of the span PHY by R150 with its guard interval, times the streams
(07 R213); in ninths of a b/s, so that it is whole. -/
def memberRate (code nss gi : Nat) : Nat :=
  match phyFamily code with
  | .ofdm => ofdmDbps2 code * 37500
  | .span =>
    let (b, n, d) := spanRate code
    spanSd code * b * n * nss * ((if gi = 0 then 2250000 else 1875000) / d)
  | _ => 0

/-- Sixty symbol periods in ns: the superframe slot of order 0, a whole number at every symbol rate (06 R167). -/
def dsmeBaseNs (code : Nat) : Nat :=
  match phyFamily code with
  | .fsk => 60000000 / fskRate code
  | .ofdm => 7200000
  | .oqpsk => 960000
  | .span => 240000

/-- Whether a frame may come in a mode where a network uses another: SUN FSK with or without FEC, as its SFD shows, the interleaving as
configured, and SUN OFDM at any MCS of the option (05 R132, R136). -/
def modeAccepted (net got : Nat) : Bool :=
  phySupported got && phyFamily got == phyFamily net &&
  match phyFamily net with
  | .fsk => got % 16 == net % 16 && got.testBit 5 == (got.testBit 4 && net.testBit 5)
  | .ofdm => got % 4 == net % 4
  | _ => got == net

/-- The PHY mode of a client network (05 R130). -/
def State.netMode (s : State) : Net → Nat
  | .lb => s.pnat 0x2050
  | .mb => 0x80

/-- Octets of the FCS of a client network's frames (05 R132). -/
def State.fcsLen (s : State) : Net → Nat
  | .lb => if s.pnat 0x2054 = 0 then 2 else 4
  | .mb => 2

/-- Air time in thirds of a ns of a frame of a client network (05 R133, R158). -/
def State.clientAir (s : State) (n : Net) (len : Nat) (join : Bool) : Nat :=
  airThirds (s.netMode n) len (s.pnat (if join then 0x2053 else 0x2052)) 1 0

/-- Whether a frequency lies in a radio's band, in kHz (03 R57). -/
def inBand (x : Radio) (khz : Nat) : Bool :=
  match x with
  | .lb => (decide (410000 ≤ khz) && decide (khz ≤ 510000)) || (decide (779000 ≤ khz) && decide (khz ≤ 960000))
  | .mb => decide (2400000 ≤ khz) && decide (khz ≤ 2483500)
  | .hb => decide (5150000 ≤ khz) && decide (khz ≤ 5925000)

/-- Half the occupied bandwidth of a span PHY mode, in 0.05 MHz (05 R140). -/
def spanHalfBw (code : Nat) : Nat := [175, 356, 756].getD (spanBw code) 175

/-- Whether an MB or HB span channel number is valid for a mode (05 R151). -/
def spanChannelOk (x : Radio) (code ch : Nat) : Bool :=
  match x with
  | .lb => true
  | .mb => decide (ch ≤ 127)
  | .hb =>
    decide (5150 * 20 + spanHalfBw code ≤ (5000 + 5 * ch) * 20) && decide ((5000 + 5 * ch) * 20 + spanHalfBw code ≤ 5925 * 20)

/-- The centre of an MB or HB span channel in kHz (05 R151). -/
def spanChannelKhz (x : Radio) (ch : Nat) : Nat :=
  match x with
  | .hb => 5000000 + 5000 * ch
  | _ => 2410000 + 500 * ch

/-! ### Commands -/

def airtimeSpec : TlvSpec := { rows := [{ ty := 1, len := .exact 1 }, { ty := 2, len := .exact 2 },
  { ty := 3, len := .exact 2, must := false }, { ty := 4, len := .exact 1, must := false },
  { ty := 5, len := .exact 1, must := false }] }

/-- PHY_AIRTIME_GET (05 R158): TLVs of another family are not looked at; one that the family needs and that is absent is
missing (log entry 21); the preamble length, for which the table gives no range, takes that of the preamble parameters (DESIGN CHOICE, log entry 147). -/
def airtimeBody : Body := fun q s =>
  let code := q.nat 1
  let fam := phyFamily code
  if !phySupported code then (naming stPhyMode 1, s)
  else if psduMax code < q.nat 2 then (naming stPsduLength 2, s)
  else if fam = .fsk ∧ q.has 3 = false then (naming stBadTlv 3, s)
  else if fam = .span ∧ q.has 4 = false then (naming stBadTlv 4, s)
  else if fam = .span ∧ q.has 5 = false then (naming stBadTlv 5, s)
  else if fam = .fsk ∧ (q.nat 3 < 4 ∨ 1000 < q.nat 3) then (naming stRange 3, s)
  else if fam = .span ∧ (q.nat 4 = 0 ∨ 2 < q.nat 4) then (naming stRange 4, s)
  else if fam = .span ∧ 1 < q.nat 5 then (naming stRange 5, s)
  else
    let (ns, s) := s.roundOpen (airThirds code (q.nat 2) (q.nat 3) (q.nat 4) (q.nat 5)) 3
    (okReply [tlvN 6 4 ns], s)

def execPhyAirtimeGet (ch : Nat) (s : State) : Out := .next (s.serve ch 0x2006 airtimeSpec airtimeBody)

/-! ### Security levels (10 R291) -/

/-- The 802.15.4 security levels that the device supports. -/
def secLevels : List Nat := [1, 2, 3, 5, 6, 7]

/-- MIC octets of a security level. -/
def micLen (level : Nat) : Nat := if level % 4 = 1 then 4 else if level % 4 = 2 then 8 else 16

/-- The level of the frames to a context; 0xFFFF stands for a network's key set, whose level its beacons and broadcasts have (log entry
196). -/
def frameLevel (net : Net) (ctx : Nat) : Nat :=
  secLevels.getD (Config.secLevel (if ctx = 0xFFFF then 0x10000 + net.ix else ctx) % 6) 5

/-- The shared form of the counter commands that name a radio in TLV 1 and take clear in TLV 2. -/
def radioClearSpec : TlvSpec := { rows := [{ ty := 1, len := .exact 1 }, { ty := 2, len := .exact 1 }] }

def radioCountersBody (bank : Radio → CtrBank) (n : Nat) : Body := fun q s =>
  match Radio.ofNat? (q.nat 1) with
  | none => (naming stRange 1, s)
  | some x => if 1 < q.nat 2 then (naming stRange 2, s) else countersReply s (bank x) n (q.nat 2 == 1)

/-- BB_TX_COUNTERS_GET (05 R160). -/
def execBbTxCountersGet (ch : Nat) (s : State) : Out := .next (s.serve ch 0x2005 radioClearSpec (radioCountersBody .bbtx 7))

end Sys2Proof.Machine
end

