-- ==== Sys2Proof/Machine/Ablation.lean ====
section
/-! DEFINITION. Ablation: the regulatory profile and its lock, budgets and buckets, projection, charge and restore (08). -/

namespace Sys2Proof.Machine

def stAblated : Nat := 0x5101
def stProfileInvalid : Nat := 0x5102
def stNoProfile : Nat := 0x5103

/-! ### The profile (08 R228-R230) -/

/-- A sub-band entry. -/
structure SubBand where
  low : Nat
  high : Nat
  duty : Nat
  windowMin : Nat
  dwell : Nat
  dwellWin : Nat
  pcond : Int
  peirp : Int
  classes : Nat
  flags : Nat
  deriving DecidableEq, Repr

/-- `n` bytes of a record from offset `off`, as a number. -/
def fieldAt (b : Bytes) (off n : Nat) : Nat := leNat ((b.drop off).take n)

def subBandAt (b : Bytes) (i : Nat) : SubBand :=
  let o := 80 + 32 * i
  { low := fieldAt b o 4, high := fieldAt b (o + 4) 4, duty := fieldAt b (o + 8) 2, windowMin := fieldAt b (o + 10) 2,
    dwell := fieldAt b (o + 12) 2, dwellWin := fieldAt b (o + 14) 2, pcond := signed 16 (fieldAt b (o + 16) 2),
    peirp := signed 16 (fieldAt b (o + 18) 2), classes := fieldAt b (o + 20) 1, flags := fieldAt b (o + 21) 1 }

/-- The ranges of the radio bands, in kHz (03 R57). -/
def radioRanges : List (Nat × Nat) := [(410000, 510000), (779000, 960000), (2400000, 2483500), (5150000, 5925000)]

/-- The faults of sub-band `i` in offset order: (offset, whether it offends) (08 R229; which field of a relation offends:
log entry 22). -/
def subBandFaults (b : Bytes) (nClass i : Nat) : List (Nat × Bool) :=
  let o := 80 + 32 * i
  let e := subBandAt b i
  let prev := subBandAt b (i - 1)
  let inRange (lo hi : Int) (v : Int) : Bool := decide (lo ≤ v) && decide (v ≤ hi)
  [(o, !(radioRanges.any (fun r => decide (r.1 ≤ e.low) && decide (e.low ≤ r.2))) || (i != 0 && decide (e.low ≤ prev.high))),
   (o + 4, decide (e.high < e.low)
     || !(radioRanges.any (fun r => decide (r.1 ≤ e.low) && decide (e.high ≤ r.2)))),
   (o + 8, !inRange 1 1000 e.duty), (o + 10, !inRange 1 1440 e.windowMin),
   (o + 12, decide (e.dwell = 0) || decide (e.dwellWin * 1000 < e.dwell)), (o + 14, !inRange 1 3600 e.dwellWin),
   (o + 16, !inRange (-400) 360 e.pcond), (o + 18, !inRange (-400) 360 e.peirp),
   (o + 20, e.classes == 0 || decide (2 ^ nClass ≤ e.classes)), (o + 21, decide (3 < e.flags))]
    ++ (List.range 10).map (fun k => (o + 22 + k, fieldAt b (o + 22 + k) 1 != 0))

/-- The offset of the first offending field of a profile record (08 R229). -/
def profileFault (b : Bytes) : Option Nat :=
  let n := fieldAt b 2 1
  let c := fieldAt b 3 1
  let head : List (Nat × Bool) := [(0, fieldAt b 0 2 != 1), (2, n == 0 || decide (16 < n) || b.length != 80 + 32 * n),
    (3, c == 0 || decide (8 < c)), (4, fieldAt b 4 4 == 0)]
  ((head ++ (List.range n).flatMap (fun i => subBandFaults b c i)).find? (fun p => p.2)).map (fun p => p.1)

/-- The payload of the profile record in NV. -/
def State.profileBytes (s : State) : Option Bytes :=
  match s.nvData 0x0500 with
  | some (.bytes b) => some b
  | _ => none

/-- The payload of the lock record in NV: its presence is the lock (08 R232, R233). -/
def State.lockBytes (s : State) : Option Bytes :=
  match s.nvData 0x0501 with
  | some (.bytes b) => some b
  | _ => none

def profileId (b : Bytes) : Nat := fieldAt b 4 4

/-- A write of record `id` is queued or under way. -/
def State.writePending (s : State) (id : Nat) : Bool :=
  s.nv.queue.any (fun w => w.id == id) || (match s.nv.busy with | some w => w.id == id | none => false)

/-- The regulatory area takes no more writes: locked, or about to be (08 R233). -/
def State.regLocked (s : State) : Bool := s.lockBytes.isSome || s.writePending 0x0501

/-- The locked profile, where both records are valid and match (08 R234). -/
def State.lockedProfile (s : State) : Option Bytes :=
  match s.lockBytes, s.profileBytes with
  | some l, some p => if fieldAt l 0 4 = profileId p ∧ fieldAt l 4 4 = crc32 p then some p else none
  | _, _ => none

/-- Locked gain of antenna port `i`, 0 LB_ANT0 to 5 HB_ANT1, in 0.1 dB. -/
def State.lockedGain (s : State) (i : Nat) : Int :=
  match s.lockBytes with
  | some l => signed 16 (fieldAt l (8 + 2 * i) 2)
  | none => 0

/-! ### Effective limits (08 R235) -/

/-- A sub-band with its limits in force: its number, and whether duty and dwell are limited. -/
structure SubLimit where
  ix : Nat
  band : SubBand
  dutyOn : Bool
  dwellOn : Bool
  deriving DecidableEq, Repr

def State.effective (s : State) (i : Nat) (e : SubBand) : SubLimit :=
  let od := s.pnat (0x5100 + 0x10 * i)
  let ow := s.pnat (0x5101 + 0x10 * i)
  let duty := if e.flags.testBit 0 then min e.duty od else od
  let dwell := if e.flags.testBit 1 then min e.dwell ow else ow
  { ix := i,
    band := { e with duty := duty, dwell := dwell, pcond := min e.pcond (s.pint (0x5102 + 0x10 * i)),
                     peirp := min e.peirp (s.pint (0x5103 + 0x10 * i)) },
    dutyOn := e.flags.testBit 0 || decide (od < 1000), dwellOn := e.flags.testBit 1 || decide (ow < 65535) }

/-- The sub-bands of the locked profile: their use is kept and aged whatever class is declared (08 R238, R244-R247). -/
def State.allLimits (s : State) : List SubLimit :=
  match s.lockedProfile with
  | none => []
  | some p => (List.range (fieldAt p 2 1)).map (fun i => s.effective i (subBandAt p i))

def State.limit? (s : State) (i : Nat) : Option SubLimit := s.allLimits.find? (fun l => l.ix == i)

/-- The sub-bands that count in the declared location class (08 R230). -/
def State.subLimits (s : State) : List SubLimit := s.allLimits.filter (fun l => l.band.classes.testBit s.site.cls)

def State.subLimit? (s : State) (i : Nat) : Option SubLimit := s.subLimits.find? (fun l => l.ix == i)

/-- The sub-band that holds a carrier centre (08 R230). -/
def State.subOf (s : State) (khz : Nat) : Option SubLimit :=
  s.subLimits.find? (fun l => decide (l.band.low ≤ khz) && decide (khz ≤ l.band.high))

/-- B in µs (08 R237). -/
def SubLimit.budget (l : SubLimit) : Nat := l.band.duty * l.band.windowMin * 60000

/-- Always-on ticks of one bucket: 32,768 × b, with b = W / 60 (08 R238). -/
def SubLimit.width (l : SubLimit) : Nat := 32768 * l.band.windowMin

/-- Five times the always-on ticks of one dwell bucket: dwell_window_s / 20 (08 R238). -/
def SubLimit.dwellWidth5 (l : SubLimit) : Nat := 8192 * l.band.dwellWin

/-! ### Use and pending (08 R238, R240) -/

/-- The record of a sub-band; one that is first needed starts empty now (08 R238; log entry 23). -/
def State.subUse (s : State) (l : SubLimit) : SubUse := tget { due := s.time.aon + l.width } s.abl.subs l.ix

def State.setSub (s : State) (i : Nat) (u : SubUse) : State := { s with abl := { s.abl with subs := tset s.abl.subs i u } }

def SubUse.used (u : SubUse) : Nat := u.open_ + u.closed.sum

def DwellUse.used (d : DwellUse) : Nat := d.open_ + d.closed.sum

/-- The groups that hold admitted carriers not yet charged. -/
def State.groups (s : State) : List EmGroup :=
  [s.rf.radios.lb, s.rf.radios.mb, s.rf.radios.hb].flatMap (fun r => r.group.toList ++ r.follow)

/-- The union of the air times of a group's carriers in a sub-band, in µs: they start together (08 R239). -/
def unionUs (cs : List (Nat × Nat × Nat)) (i : Nat) : Nat :=
  ((cs.filter (fun c => c.1 == i)).map (fun c => c.2.2)).foldl max 0

def EmGroup.parts (g : EmGroup) : List (Nat × Nat × Nat) := g.carriers.map (fun c => (c.sub, c.em.khz, airUs c.em.air))

/-- Pending time of a sub-band in µs. -/
def State.pendingUs (s : State) (i : Nat) : Nat := (s.groups.map (fun g => unionUs g.parts i)).sum

/-- Pending dwell of a channel in µs. -/
def State.dwellPending (s : State) (i khz : Nat) : Nat :=
  (s.groups.map (fun g => ((g.parts.filter (fun c => c.1 == i && c.2.1 == khz)).map (fun c => c.2.2)).sum)).sum

def State.dwellOf (s : State) (i khz : Nat) : Option DwellUse := s.abl.dwell.find? (fun d => d.sub == i && d.khz == khz)

/-- The classes that may use the reserve floor: [0] to [2] of R82 (08 R237). -/
def reserveClass (cls : Nat) : Bool := decide (cls ≤ 2)

/-- The share of a limit that a class may use, in per cent (08 R237). -/
def State.share (s : State) (cls : Nat) : Nat := if reserveClass cls then 100 else 100 - s.pnat 0x5001

/-- Remaining ordinary budget in hundredths of a µs; none where no duty limit holds (08 R237). -/
def State.ordinary100 (s : State) (l : SubLimit) : Option Nat :=
  if l.dutyOn then
    some (l.budget * (100 - s.pnat 0x5001) - 100 * ((s.subUse l).used + s.pendingUs l.ix))
  else none

/-- Remaining ordinary dwell of a channel in hundredths of a µs; none where no dwell limit holds. -/
def State.dwellLeft100 (s : State) (l : SubLimit) (khz : Nat) : Option Nat :=
  if l.dwellOn then
    some (l.band.dwell * 1000 * (100 - s.pnat 0x5001)
      - 100 * ((match s.dwellOf l.ix khz with | some d => d.used | none => 0) + s.dwellPending l.ix khz))
  else none

/-- A sub-band is closed after a restore (08 R247). -/
def State.dwellClosed (s : State) (i : Nat) : Bool :=
  match tfind s.abl.closures i with
  | some t => decide (s.time.aon < t)
  | none => false

/-! ### Refusals and their events (08 R243, R248) -/

def reNoProfile : Nat := 1
def reNoSite : Nat := 2
def reNoSub : Nat := 3
def reDuty : Nat := 4
def reDwell : Nat := 5
def rePower : Nat := 6
def reDwellTable : Nat := 7

def countRefusal (o : Option (Nat × Nat)) (reason : Nat) : Option (Nat × Nat) :=
  match o with
  | none => some (reason, 1)
  | some (r, n) => some (r, satAdd 65535 n 1)

/-- The counter of a refusal: group and row (08 R248). -/
def refusalCtr (i reason : Nat) : CtrBank × Nat :=
  if reason = reDuty then (.ablSub i, 4) else if reason = reDwell then (.ablSub i, 5)
  else if reason = rePower then (.ablSub i, 6) else if reason = reNoSub then (.abl, 7)
  else if reason = reDwellTable then (.abl, 9) else (.abl, 8)

/-- A refusal counted, and kept for its EV_ABL_REFUSED: with the duty bucket of its sub-band, or beside it. -/
def State.refuse (s : State) (l : Option SubLimit) (reason : Nat) : State :=
  let i := match l with | some l => l.ix | none => 0xFF
  let s := let (b, r) := refusalCtr i reason; s.bump b r
  match l with
  | some l =>
    if l.dutyOn then s.setSub l.ix { s.subUse l with refused := countRefusal (s.subUse l).refused reason }
    else { s with abl := { s.abl with refused := match countRefusal (tfind s.abl.refused i) reason with
        | some p => tset s.abl.refused i p
        | none => s.abl.refused } }
  | none => { s with abl := { s.abl with refused := match countRefusal (tfind s.abl.refused i) reason with
      | some p => tset s.abl.refused i p
      | none => s.abl.refused } }

/-- EV_ABL_REFUSED of a finished bucket. -/
def State.raiseRefused (s : State) (i : Nat) (o : Option (Nat × Nat)) : State :=
  match o with
  | some (r, n) => s.raise 0x5006 [u8 i, u8 r, u16 n]
  | none => s

/-- The refusals that no duty bucket holds reported, once per period of the snapshot (log entry 23). -/
def State.reportRefused (s : State) : State :=
  let l := s.abl.refused
  l.foldl (fun (s : State) p => s.raiseRefused p.1 (some p.2)) { s with abl := { s.abl with refused := [] } }

/-- EV_ABL_EXHAUSTED and EV_ABL_REOPENED as the budgets of a sub-band stand (08 R243). -/
def State.ablWatch (s : State) (l : SubLimit) : State :=
  if !l.dutyOn then s
  else
    let u := s.subUse l
    let used := u.used + s.pendingUs l.ix
    let ordGone := decide (l.budget * (100 - s.pnat 0x5001) ≤ 100 * used)
    let allGone := decide (l.budget ≤ used)
    let s := s.setSub l.ix { u with spent := ordGone, spentAll := allGone }
    let s := if ordGone && !u.spent then s.raise 0x5004 [u8 l.ix, u8 0] else s
    let s := if allGone && !u.spentAll then s.raise 0x5004 [u8 l.ix, u8 1] else s
    if !ordGone && u.spent then s.raise 0x5005 [u8 l.ix] else s

def State.watchSubs (s : State) : State := s.allLimits.foldl (fun (s : State) l => s.ablWatch l) s

/-! ### Projection and charge (08 R231, R234, R239-R242) -/

/-- The reason for which every emission is refused, if any. -/
def State.ablShut (s : State) : Option Nat :=
  if s.lockedProfile.isNone then some reNoProfile else if !s.sys.siteOk then some reNoSite else none

/-- The verdict on one carrier beside those of its group already admitted (08 R241, R242, R247). -/
def State.verdict (s : State) (admitted : List (Nat × Nat × Nat)) (khz us cls : Nat) : Except (Option SubLimit × Nat) SubLimit :=
  match s.subOf khz with
  | none => .error (none, reNoSub)
  | some l =>
    let u := max (unionUs admitted l.ix) us
    let own := ((admitted.filter (fun c => c.1 == l.ix && c.2.1 == khz)).map (fun c => c.2.2)).sum
    if l.dutyOn && decide (l.budget * s.share cls < 100 * ((s.subUse l).used + s.pendingUs l.ix + u)) then .error (some l, reDuty)
    else if !l.dwellOn then .ok l
    else if s.dwellClosed l.ix then .error (some l, reDwell)
    else
      match s.dwellOf l.ix khz with
      | none =>
        if 512 ≤ s.abl.dwell.length then .error (some l, reDwellTable)
        else if l.band.dwell * 1000 * s.share cls < 100 * (s.dwellPending l.ix khz + own + us) then .error (some l, reDwell)
        else .ok l
      | some d =>
        if l.band.dwell * 1000 * s.share cls < 100 * (d.used + s.dwellPending l.ix khz + own + us) then .error (some l, reDwell)
        else .ok l

/-- A dwell entry taken for a channel that has none. -/
def State.takeDwell (s : State) (l : SubLimit) (khz : Nat) : State :=
  if !l.dwellOn || (s.dwellOf l.ix khz).isSome then s
  else { s with abl := { s.abl with dwell := s.abl.dwell ++
    [{ sub := l.ix, khz := khz, due5 := 5 * s.time.aon + l.dwellWidth5 }] } }

/-- The projection of a group, in the order given: the admitted emissions with their sub-bands (08 R241). -/
def State.project : List Emission → List (Emission × SubLimit) → State → List (Emission × SubLimit) × State
  | [], adm, s => (adm, s)
  | e :: es, adm, s =>
    match s.ablShut with
    | some r => State.project es adm (s.refuse none r)
    | none =>
      match s.verdict (adm.map (fun p => (p.2.ix, p.1.khz, airUs p.1.air))) e.khz (airUs e.air) e.cls with
      | .error (l, r) => State.project es adm (s.refuse l r)
      | .ok l => State.project es (adm ++ [(e, l)]) (s.takeDwell l e.khz)

/-- A channel charged with its own carrier's air time. -/
def chargeDwell (l : List DwellUse) (i khz us : Nat) : List DwellUse :=
  l.map (fun d => if d.sub = i ∧ d.khz = khz then { d with open_ := d.open_ + us } else d)

/-- The sub-bands that a group used, each once. -/
def EmGroup.subs (g : EmGroup) : List Nat := (g.carriers.map (fun c => c.sub)).eraseDups

/-- One sub-band charged with the union of the carriers of a group, and its counters. A charge counts as one of reserve classes where every
carrier that it covers is (DESIGN CHOICE, log entry 187) (08 R239, R248). -/
def State.chargeSub (s : State) (g : EmGroup) (i : Nat) : State :=
  match s.limit? i with
  | none => s
  | some l =>
    let us := unionUs g.parts i
    let s := if l.dutyOn then s.setSub i { s.subUse l with open_ := (s.subUse l).open_ + us } else s
    let s := if l.dwellOn then
        { s with abl := { s.abl with dwell :=
            (g.parts.filter (fun c => c.1 == i)).foldl (fun d c => chargeDwell d c.1 c.2.1 c.2.2) s.abl.dwell } }
      else s
    let s := (s.bump (.ablSub i) 1).bumpBy (.ablSub i) 2 (ceilDiv us 1000)
    if (g.carriers.filter (fun c => c.sub == i)).all (fun c => reserveClass c.em.cls) then s.bump (.ablSub i) 3 else s

/-- The charge of an ended group; the caller has taken the group off its radio, so that nothing of it stays pending. -/
def State.chargeGroup (s : State) (g : EmGroup) : State :=
  let s := g.subs.foldl (fun (s : State) i => s.chargeSub g i) s
  g.subs.foldl (fun (s : State) i => match s.limit? i with | some l => s.ablWatch l | none => s) s

/-! ### Aging (08 R238, R242, R244) -/

/-- Every boundary of a sub-band that has passed, one after the other; `fuel` bounds how many matter. -/
def ageSub : Nat → Nat → Nat → SubUse → SubUse
  | 0, _, _, u => u
  | fuel + 1, aon, width, u =>
    if aon < u.due then u
    else ageSub fuel aon width { u with open_ := 0, closed := (u.open_ :: u.closed).take 60, due := u.due + width }

/-- A sub-band aged to the present; beyond 61 boundaries every bucket is empty (08 R244). -/
def agedSub (aon width : Nat) (u : SubUse) : SubUse :=
  if width = 0 ∨ aon < u.due then u
  else
    let u' := ageSub 61 aon width u
    if aon < u'.due then u' else { u' with due := u'.due + ((aon - u'.due) / width + 1) * width }

def ageDwell : Nat → Nat → Nat → DwellUse → DwellUse
  | 0, _, _, u => u
  | fuel + 1, now5, width, u =>
    if now5 < u.due5 then u
    else ageDwell fuel now5 width { u with open_ := 0, closed := (u.open_ :: u.closed).take 20, due5 := u.due5 + width }

def agedDwell (now5 width : Nat) (u : DwellUse) : DwellUse :=
  if width = 0 ∨ now5 < u.due5 then u
  else
    let u' := ageDwell 21 now5 width u
    if now5 < u'.due5 then u' else { u' with due5 := u'.due5 + ((now5 - u'.due5) / width + 1) * width }

/-- The due boundaries of one sub-band: the finished bucket's refusals reported, the buckets aged. -/
def State.ageOne (s : State) (l : SubLimit) : State :=
  if !l.dutyOn then s
  else
    let u := s.subUse l
    if s.time.aon < u.due then s
    else
      let s := s.setSub l.ix { agedSub s.time.aon l.width u with refused := none }
      (s.raiseRefused l.ix u.refused).ablWatch l

def State.ageSubs (s : State) : State := s.allLimits.foldl (fun (s : State) l => s.ageOne l) s

/-- Every dwell entry aged; one whose buckets are all empty, and for which nothing is pending, is freed (08 R242). -/
def State.ageDwells (s : State) : State :=
  let d := s.abl.dwell.map (fun d => match s.limit? d.sub with
    | some l => agedDwell (5 * s.time.aon) l.dwellWidth5 d
    | none => d)
  { s with abl := { s.abl with dwell := d.filter (fun x => x.used != 0 || s.dwellPending x.sub x.khz != 0) } }

def State.endClosures (s : State) : State :=
  { s with abl := { s.abl with closures := s.abl.closures.filter (fun p => decide (s.time.aon < p.2)) } }

/-- Every boundary that a sleep has passed (08 R244). -/
def State.ablCatchUp (s : State) : State := s.ageSubs.ageDwells.endClosures

/-! ### Snapshot and restore (08 R245-R247) -/

/-- The 61 buckets of one sub-band in a snapshot; zero without a duty limit. -/
def State.snapshotBuckets (s : State) (i : Nat) : Bytes :=
  match (s.limit? i).filter (fun l => l.dutyOn) with
  | some l =>
    let b := (s.subUse l).open_ :: (s.subUse l).closed
    (List.range 61).flatMap (fun k => u32 (min 0xFFFFFFFF (b.getD k 0)))
  | none => padTo 244 []

/-- The content of a fresh snapshot, 4,096 bytes (08 R245). -/
def State.snapshotData (s : State) : NvData :=
  let p := s.profileBytes.getD []
  .bytes (u64 (s.time.aon % 2 ^ 48) ++ u64 s.wallNow ++ u32 (profileId p) ++ u8 (fieldAt p 2 1) ++ padTo 11 []
    ++ (List.range 16).flatMap s.snapshotBuckets ++ padTo 160 [])

/-- The buckets of sub-band `i` in a snapshot. -/
def bucketsIn (b : Bytes) (i : Nat) : List Nat := (List.range 61).map (fun k => fieldAt b (32 + 244 * i + 4 * k) 4)

/-- One sub-band restored from a snapshot's buckets, aged by `f` buckets (08 R246). -/
def restoredBuckets (l : SubLimit) (f : Nat) (b : List Nat) : List Nat :=
  (List.replicate f 0 ++ (match b with | o :: c => (o + l.band.duty * 60000) :: c | [] => [l.band.duty * 60000])).take 60

/-- The case of the restore, its A in ticks, and the snapshot's buckets (08 R246). -/
def State.restoreCase (s : State) (loss : Option Nat) : Nat × Nat × Tab (List Nat) :=
  match s.nvData 0x0300, s.lockedProfile with
  | some (.bytes b), some p =>
    if b.length = 4096 ∧ fieldAt b 16 4 = profileId p then
      let t := (List.range 16).map (fun i => (i, bucketsIn b i))
      if s.abl.snapLive then (1, s.time.aon - fieldAt b 0 8 - 60 * 32768, t)
      else
        match loss with
        | some a => (2, a * 32768, t)
        | none => (3, 0, [])
    else (3, 0, [])
  | _, _ => (3, 0, [])

def State.restoreSub (s : State) (c a : Nat) (b : Tab (List Nat)) (l : SubLimit) : State :=
  let s := if l.dutyOn then
      let closed := if c = 3 then List.replicate 60 (l.band.duty * l.band.windowMin * 1000)
        else restoredBuckets l (a / l.width) (tget [] b l.ix)
      s.setSub l.ix { due := s.time.aon + l.width, closed := closed }
    else s
  let left := if c = 3 then 32768 * l.band.dwellWin else 32768 * l.band.dwellWin - a
  if l.dwellOn && left != 0 then { s with abl := { s.abl with closures := tset s.abl.closures l.ix (s.time.aon + left) } } else s

/-- The restore at the first SITE_DECLARE after a reset, with the declared time since a power loss if it is valid. -/
def State.ablRestore (s : State) (loss : Option Nat) : State :=
  if s.lockedProfile.isNone then s
  else
    let (c, a, b) := s.restoreCase loss
    let s := { s with abl := { s.abl with subs := [], dwell := [], closures := [], restored := true } }
    let s := s.allLimits.foldl (fun (s : State) l => s.restoreSub c a b l) s
    (s.raise 0x5003 [u8 c, u32 (min 0xFFFFFFFF (a / 32768))]).watchSubs

/-! ### Commands -/

def profileWriteSpec : TlvSpec := { rows := [{ ty := 1, len := .exact 4 }, { ty := 2, len := .exact 4 }] }

/-- ABL_PROFILE_WRITE's checks and its write (08 R229, R231, R233). -/
def profileWriteBody : Body := fun q s =>
  if s.regLocked then (plain stLocked, s)
  else if !s.areaOk (q.nat 1) (q.nat 2) then (naming stRange 1, s)
  else
    let b := s.winRead (q.nat 1) (min (q.nat 2) 1024)
    match (if 1024 < q.nat 2 then some 2 else profileFault b) with
    | some off => (naming stProfileInvalid off, s)
    | none =>
      match s.writeRefused (writeCost b.length) with
      | some st => (plain st, s)
      | none =>
        (.wait [tlvN 3 4 (profileId b)],
          s.pushNv { id := 0x0500, data := some (.bytes b), size := b.length, urgent := false, owners := [⟨some q.ch, .none⟩] })

def execAblProfileWrite (ch : Nat) (s : State) : Out := .next (s.serve ch 0x5001 profileWriteSpec profileWriteBody)

/-- The lock record's payload (08 R232). -/
def lockRecord (p : Bytes) (gains : List Int) (at_ : Nat) : Bytes :=
  u32 (profileId p) ++ u32 (crc32 p) ++ (gains.flatMap (fun g => leInt 2 g)) ++ u64 at_ ++ u32 0

def profileLockBody : Body := fun q s =>
  match s.board with
  | none => (plain (if s.regLocked then stLocked else stNotDeclared), s)
  | some b =>
    if s.regLocked then (plain stLocked, s)
    else if !s.sys.siteOk then (plain stNotDeclared, s)
    else
      match s.profileBytes with
      | none => (plain stNoProfile, s)
      | some p =>
        if profileId p ≠ q.nat 1 then (plain stNoProfile, s)
        else if q.nat 2 ≠ 0x4C4F434B then (naming stRange 2, s)
        else if fieldAt p 3 1 ≤ s.site.cls then (plain stRange, s)
        else
          match s.writeRefused (writeCost 32) with
          | some st => (plain st, s)
          | none =>
            (.wait [tlvN 3 8 s.wallNow],
              s.pushNv { id := 0x0501, data := some (.bytes (lockRecord p b.gains s.wallNow)), size := 32, urgent := false,
                         owners := [⟨some q.ch, .ablLocked (profileId p)⟩] })

/-- ABL_PROFILE_LOCK (08 R232, R233). -/
def execAblProfileLock (ch : Nat) (s : State) : Out := .next (s.serve ch 0x5002 profileWriteSpec profileLockBody)

/-- ABL_PROFILE_GET: without a valid profile nothing is copied and the length is 0; without a lock its record reads as
zeros (08 R233, 02 R496; log entry 24). -/
def profileGetBody : Body := fun q s =>
  let lock := ⟨4, padTo 32 (s.lockBytes.getD [])⟩
  match s.profileBytes with
  | none => (okReply [tlvN 2 4 0, ⟨3, boolByte s.lockBytes.isSome⟩, lock], s)
  | some p =>
    if !s.areaOk (q.nat 1) p.length then (naming stRange 1, s)
    else (okReply [tlvN 2 4 p.length, ⟨3, boolByte s.lockBytes.isSome⟩, lock], s.winWrite (q.nat 1) p)

def execAblProfileGet (ch : Nat) (s : State) : Out :=
  .next (s.serve ch 0x5003 { rows := [{ ty := 1, len := .exact 4 }] } profileGetBody)

/-- The figures of ABL_BUDGET_GET; without a duty limit the spec gives no remaining budget and no boundary: free values
(log entry 3). -/
def budgetBody : Body := fun q s =>
  match s.subLimit? (q.nat 1) with
  | none => (naming stRange 1, s)
  | some l =>
    let head := u16 l.band.duty ++ u16 l.band.dwell ++ leInt 2 l.band.pcond ++ leInt 2 l.band.peirp
    let u := s.subUse l
    let used := u.used
    let pend := s.pendingUs l.ix
    if l.dutyOn then
      let (ord, s) := s.roundOpen ((s.ordinary100 l).getD 0) 100
      let (ms, s) := s.roundOpen ((u.due - s.time.aon) * 1000) 32768
      (okReply [⟨2, head⟩, tlvN 3 8 used, tlvN 4 4 (min 0xFFFFFFFF pend), tlvN 5 8 ord,
        tlvN 6 8 (l.budget - used - pend), tlvN 7 4 ms], s)
    else
      let (a, s) := s.draw
      let (b, s) := s.draw
      let (c, s) := s.draw
      (okReply [⟨2, head⟩, tlvN 3 8 used, tlvN 4 4 (min 0xFFFFFFFF pend), tlvN 5 8 a, tlvN 6 8 b, tlvN 7 4 c], s)

/-- ABL_BUDGET_GET (08 R237). -/
def execAblBudgetGet (ch : Nat) (s : State) : Out :=
  .next (s.serve ch 0x5004 { rows := [{ ty := 1, len := .exact 1 }] } budgetBody)

def dwellGetBody : Body := fun q s =>
  match s.subLimit? (q.nat 1) with
  | none => (naming stRange 1, s)
  | some l =>
    if q.nat 2 < l.band.low ∨ l.band.high < q.nat 2 then (naming stRange 2, s)
    else
      let used := match s.dwellOf l.ix (q.nat 2) with | some d => d.used | none => 0
      let (ms, s) := s.roundOpen ((tget 0 s.abl.closures l.ix - s.time.aon) * 1000) 32768
      (okReply [tlvN 3 4 (min 0xFFFFFFFF used), tlvN 4 4 ms], s)

/-- ABL_DWELL_GET (08 R247). -/
def execAblDwellGet (ch : Nat) (s : State) : Out :=
  .next (s.serve ch 0x5005 { rows := [{ ty := 1, len := .exact 1 }, { ty := 2, len := .exact 4 }] } dwellGetBody)

def ablCountersBody : Body := fun q s =>
  if 1 < q.nat 2 then (naming stRange 2, s)
  else if q.nat 1 = 0xFF then
    (okReply ((List.range 4).map (fun i => tlvN (7 + i) 4 (s.ctr .abl (7 + i)))),
      if q.nat 2 = 1 then s.clearBank .abl else s)
  else if 16 ≤ q.nat 1 then (naming stRange 1, s)
  else countersReply s (.ablSub (q.nat 1)) 6 (q.nat 2 == 1)

/-- ABL_COUNTERS_GET: rows 1 to 6 of the table belong to a sub-band, rows 7 to 10 to the device (08 R248). -/
def execAblCountersGet (ch : Nat) (s : State) : Out := .next (s.serve ch 0x5006 radioClearSpec ablCountersBody)

/-! ### Rows timed on the always-on counter -/

/-- BUCKET_BOUNDARY (08 R238, R243). -/
def execBucketBoundary (s : State) : Out := .next (if s.awake then s.ageSubs else s)

/-- DWELL_BUCKET_BOUNDARY (08 R238, R242). -/
def execDwellBucketBoundary (s : State) : Out := .next (if s.awake then s.ageDwells else s)

/-- DWELL_CLOSURE_END (08 R247). -/
def execDwellClosureEnd (s : State) : Out := .next (if s.awake then s.endClosures else s)

/-- ABLATION_SNAPSHOT_DUE: the write falls due; one that is still held is replaced by it (08 R245, 15 R441). -/
def execAblationSnapshotDue (s : State) : Out :=
  .next (
    let m := s.time.aon / (60 * 32768)
    if s.awake && decide (s.abl.snapMin < m) then { s with abl := { s.abl with snapMin := m } }.reportRefused.recordDue 0x0300 false
    else s)

end Sys2Proof.Machine
end

