-- ==== Sys2Proof/Machine/Frames.lean ====
section
/-! DEFINITION. Ethernet frames and IP packets as fields: reading, writing, hop limits, DSCP and ports (12 R343, R358, R362). -/

namespace Sys2Proof.Machine

/-- An Ethernet frame without FCS: addresses as the numbers their octets spell, and the tag control word of an 802.1Q tag. -/
structure Eth where
  dst : Nat
  src : Nat
  tag : Option Nat
  etype : Nat
  payload : Bytes
  deriving DecidableEq, Repr

def Eth.read (b : Bytes) : Eth :=
  let et := beNat ((b.drop 12).take 2)
  if et = 0x8100 then
    { dst := beNat (b.take 6), src := beNat ((b.drop 6).take 6), tag := some (beNat ((b.drop 14).take 2)),
      etype := beNat ((b.drop 16).take 2), payload := b.drop 18 }
  else { dst := beNat (b.take 6), src := beNat ((b.drop 6).take 6), tag := none, etype := et, payload := b.drop 14 }

def Eth.write (e : Eth) : Bytes :=
  beBytes 6 e.dst ++ beBytes 6 e.src
    ++ (match e.tag with | some t => beBytes 2 0x8100 ++ beBytes 2 t | none => [])
    ++ beBytes 2 e.etype ++ e.payload

/-- Broadcast or multicast: the first bit on the wire of the address. -/
def isGroup (mac : Nat) : Bool := mac.testBit 40

def Eth.isV4 (e : Eth) : Bool := e.etype == 0x0800 && decide (20 ≤ e.payload.length) && leNat (e.payload.take 1) / 16 == 4

def Eth.isV6 (e : Eth) : Bool := e.etype == 0x86DD && decide (40 ≤ e.payload.length) && leNat (e.payload.take 1) / 16 == 6

def Eth.isIp (e : Eth) : Bool := e.isV4 || e.isV6

/-- The byte of a packet at an offset; 0 beyond its end. -/
def byteAt (b : Bytes) (i : Nat) : Nat := (b.getD i 0#8).toNat

/-- The packet with one byte changed. -/
def setByte (b : Bytes) (i v : Nat) : Bytes := b.take i ++ (if i < b.length then [BitVec.ofNat 8 v] else []) ++ b.drop (i + 1)

/-- The 16-bit ones' complement sum of a run of octets. -/
def sum16 : Bytes → Nat
  | [] => 0
  | [a] => a.toNat * 256
  | a :: b :: t => a.toNat * 256 + b.toNat + sum16 t

/-- A ones' complement sum folded into 16 bits. -/
def fold16 (n : Nat) : Nat :=
  let n := n % 65536 + n / 65536
  n % 65536 + n / 65536

/-- A packet's 16-bit word at an even offset changed, its IPv4 header checksum updated with it (12 R343). -/
def setV4Word (b : Bytes) (i v : Nat) : Bytes :=
  let old := beNat ((b.drop i).take 2)
  let ck := beNat ((b.drop 10).take 2)
  let ck' := 65535 - fold16 (fold16 ((65535 - ck) + (65535 - old) + v))
  let b := b.take i ++ beBytes 2 v ++ b.drop (i + 2)
  b.take 10 ++ beBytes 2 ck' ++ b.drop 12

/-- TTL or hop limit. -/
def Eth.hops (e : Eth) : Nat := if e.isV4 then byteAt e.payload 8 else byteAt e.payload 7

/-- The packet with its TTL or hop limit one less. -/
def Eth.decHops (e : Eth) : Eth :=
  if e.isV4 then { e with payload := setV4Word e.payload 8 ((byteAt e.payload 8 - 1) * 256 + byteAt e.payload 9) }
  else { e with payload := setByte e.payload 7 (byteAt e.payload 7 - 1) }

/-- The destination address as the number that 16 bytes spell: of IPv4 in the first four (12 R350). -/
def Eth.ipDst (e : Eth) : Nat :=
  if e.isV4 then beNat ((e.payload.drop 16).take 4) * 2 ^ 96 else beNat ((e.payload.drop 24).take 16)

def Eth.dscp (e : Eth) : Nat :=
  if e.isV4 then byteAt e.payload 1 / 4 else (byteAt e.payload 0 % 16 * 16 + byteAt e.payload 1 / 16) / 4

/-- The packet with its DSCP changed. -/
def Eth.setDscp (e : Eth) (v : Nat) : Eth :=
  if e.isV4 then
    { e with payload := setV4Word e.payload 0 (byteAt e.payload 0 * 256 + v * 4 + byteAt e.payload 1 % 4) }
  else if e.isV6 then
    let ecn := byteAt e.payload 1 / 16 % 4
    let tc := v * 4 + ecn
    { e with payload := setByte (setByte e.payload 0 (0x60 + tc / 16)) 1 (tc % 16 * 16 + byteAt e.payload 1 % 16) }
  else e

/-- The transport protocol of an IP packet and the octets behind its header; extension headers are not looked into. -/
def Eth.transport (e : Eth) : Nat × Bytes :=
  if e.isV4 then
    (byteAt e.payload 9,
      if beNat ((e.payload.drop 6).take 2) % 8192 = 0 then e.payload.drop (4 * (byteAt e.payload 0 % 16)) else [])
  else (byteAt e.payload 6, e.payload.drop 40)

/-- Source and destination port of a UDP or TCP packet. -/
def Eth.ports (e : Eth) : Option (Nat × Nat) :=
  if !e.isIp then none
  else
    let (p, b) := e.transport
    if (p = 17 || p = 6) && 4 ≤ b.length then some (beNat (b.take 2), beNat ((b.drop 2).take 2)) else none

/-- A frame that PTP trapping takes (13 R389). -/
def Eth.isPtp (e : Eth) : Bool :=
  e.etype == 0x88F7 || e.dst == 0x0180C200000E
    || (e.isIp && e.transport.1 == 17 && (match e.ports with | some (_, d) => d == 319 || d == 320 | none => false))

/-- The octets that the hash of link aggregation covers (14 R402). -/
def Eth.hashOctets (e : Eth) (deep : Bool) : Bytes :=
  beBytes 6 e.src ++ beBytes 6 e.dst ++ beBytes 2 ((e.tag.getD 0) % 4096)
    ++ (if deep && e.isIp then
          (if e.isV4 then (e.payload.drop 12).take 8 else (e.payload.drop 8).take 32)
            ++ (match e.ports with | some (a, b) => beBytes 2 a ++ beBytes 2 b | none => [])
        else [])

/-- The frame as the lane carries it, DA to FCS, padded to the minimum of 802.3. -/
def withFcs (b : Bytes) : Bytes :=
  let b := padTo (max 60 b.length) b
  b ++ u32 (crc32 b)

end Sys2Proof.Machine
end

