-- ==== Sys2Proof/Machine/Rings.lean ====
section
/-! DEFINITION. Host rings: descriptors, advancing RING_HEAD, delivery into a receive ring and transmit timestamps
(02 R39-R42, 13 R388, 11 R333). -/

namespace Sys2Proof.Machine

def State.ring (s : State) (r : Nat) : Ring := tget {} s.rings r

def State.setRing (s : State) (r : Nat) (x : Ring) : State := { s with rings := tset s.rings r x }

def Ring.size (x : Ring) : Nat := 2 ^ x.log2

/-- Entries that the host has filled or posted. -/
def Ring.posted (x : Ring) : Nat := (x.tail + x.size - x.head) % x.size

/-- Host window offset of entry `i` of a ring. -/
def Ring.entryAt (x : Ring) (i : Nat) : Nat := x.base + 32 * i

/-- RING_HEAD past the entry that the device has done with; a ring disabled meanwhile returns to entry 0 (02 R41). -/
def Ring.past (x : Ring) : Ring :=
  if x.ending then { x with head := 0, tail := 0, waiting := false, ending := false }
  else { x with head := (x.head + 1) % x.size, waiting := false }

/-- RING_HEAD advanced by one entry, which is a cause of the host line on an enabled ring (11 R332, R333). -/
def State.advanceHead (s : State) (r : Nat) : State :=
  let x := s.ring r
  let s := s.setRing r x.past
  if r < 16 ∧ s.evs.ringMask.getLsbD (16 + r) then
    { s with evs := { s.evs with ringTx := s.evs.ringTx ||| BitVec.ofNat 32 (2 ^ r) } }.hostCause 11
  else if 16 ≤ r ∧ r < 32 ∧ s.evs.ringMask.getLsbD (r - 16) then
    { s with evs := { s.evs with ringRx := s.evs.ringRx ||| BitVec.ofNat 32 (2 ^ (r - 16)) } }.hostCause 10
  else s

/-- A frame for a receive ring, with what its descriptor says. -/
structure RxEntry where
  octets : Bytes
  port : Nat
  cls : Nat
  ctx : Nat := 0xFFFF
  status : Nat := 0
  time : Option Nat := none
  vlan : Nat := 0
  /-- the 16-byte receive trailer, where one is due (04 R125) -/
  trailer : Option (Radio × Bytes) := none
  deriving DecidableEq, Repr

/-- A frame written into the next posted entry of a receive ring, or dropped where none is posted: the counter of the ring
and its row tell it (02 R42, 04 R125, 12 R373). -/
def State.ringDeliver (s : State) (r : Nat) (e : RxEntry) : State :=
  let x := s.ring r
  if !x.enable || x.posted = 0 then s.bump (.tm 5) (100 + r)
  else
    let at_ := x.entryAt x.head
    let d := s.winRead at_ 32
    let buf := leNat (d.take 4)
    let room := leNat ((d.drop 4).take 2)
    let len := e.octets.length
    let long := decide (room < len)
    let meta? := match e.trailer with
      | some (x, t) => if long then none else some (x, t, decide (len + 16 ≤ room))
      | none => none
    let body := match meta? with
      | some (_, t, true) => e.octets ++ t
      | _ => e.octets.take room
    let flags := 1 + flag e.time.isSome 2 + flag (long || e.status != 0 && e.status < 0x9120) 3
    let desc := (d.take 6) ++ u16 len ++ u8 e.port ++ u8 e.cls ++ u16 e.ctx ++ u16 flags
      ++ u16 (if long then stBadLength else e.status) ++ u64 (e.time.getD 0) ++ u32 e.vlan ++ u32 0
    let s := match meta? with
      | some (x, _, false) => s.bump (.bb x) 20
      | _ => s
    ((s.winWrite buf body).winWrite at_ desc).advanceHead r

/-- The transmit timestamp and DONE written into the descriptor of a sent frame, and RING_HEAD moved past it (13 R388). -/
def State.txStamp (s : State) (desc : Option (Nat × Nat)) (time : Option Nat) (status : Nat) : State :=
  match desc with
  | none => s
  | some (r, i) =>
    let at_ := (s.ring r).entryAt i
    let d := s.winRead at_ 32
    let flags := leNat ((d.drop 12).take 2)
    let flags := flags ||| (1 + flag time.isSome 2 + flag (status != 0) 3)
    let s := s.winWrite at_ ((d.take 12) ++ u16 flags ++ u16 status ++ u64 (time.getD 0) ++ (d.drop 24))
    s.advanceHead r

end Sys2Proof.Machine
end

