-- ==== Sys2Proof/Machine/Coex.lean ====
section
/-! DEFINITION. The coexistence ports as the radios use them: who requests, who grants, the levels of the wires (03 R81-R85), and the
lead that a request takes before a group's first symbol (05 R156). -/

namespace Sys2Proof.Machine

def State.radio (s : State) (x : Radio) : RadioState := s.rf.radios.get x

def State.setRadio (s : State) (x : Radio) (r : RadioState) : State :=
  { s with rf := { s.rf with radios := s.rf.radios.set x r } }

/-- The radio of a lane: 0 to 31 LB, 32 to 48 MB, 49 HB (04 R125). -/
def laneRadio (l : Nat) : Radio := if l < 32 then .lb else if l < 49 then .mb else .hb

/-! ### The coexistence ports (03 R81-R85) -/

def State.coexPort (s : State) (portB : Bool) : CoexPort := if portB then s.rf.coexB else s.rf.coexA

def State.setCoex (s : State) (portB : Bool) (p : CoexPort) : State :=
  if portB then { s with rf := { s.rf with coexB := p } } else { s with rf := { s.rf with coexA := p } }

def State.coexDecl (s : State) (portB : Bool) : Option CoexDecl :=
  match s.board with
  | some b => (b.coex[if portB then 1 else 0]?)
  | none => none

/-- The radio that a port requests for, or grants for. -/
def State.coexRadio (s : State) (portB grants : Bool) : Option Radio :=
  match s.coexDecl portB with
  | some d => if d.radio = 0 ∨ d.dir.testBit 0 ≠ grants then none else Radio.ofNat? (d.radio - 1)
  | none => none

/-- A parameter of a port, by the ID it has for port A. -/
def State.coexParam (s : State) (portB : Bool) (id : Nat) : Nat := s.pnat (if portB then id + 8 else id)

/-- The ports that request, or grant, for a radio. -/
def State.portsOf (s : State) (x : Radio) (grants : Bool) : List Bool := [false, true].filter (fun p => s.coexRadio p grants == some x)

/-- Every requesting port of a radio has its grant. -/
def State.granted (s : State) (x : Radio) : Bool := (s.portsOf x false).all (fun p => (s.coexPort p).gnt)

/-- A granting port of the radio holds the air (03 R85). -/
def State.yields (s : State) (x : Radio) : Bool := (s.portsOf x true).any (fun p => (s.coexPort p).gnt)

/-- The level of a wire that is asserted or not, by the bit of the direction byte that makes it active low (03 R81). -/
def CoexDecl.level (d : CoexDecl) (bit : Nat) (asserted : Bool) : Bool := asserted != d.dir.testBit bit

/-- The levels that a port drives on REQ, PRI and GNT; none where the wire is an input or high-impedance (03 R81). -/
def State.coexWires (s : State) (portB : Bool) : List (Option Bool) :=
  match s.coexDecl portB with
  | none => [none, none, none]
  | some d =>
    let p := s.coexPort portB
    if s.sys.hold.held || s.sys.pstate == .hibernate || s.sys.pstate == .off || d.radio == 0 then [none, none, none]
    else if d.dir.testBit 0 then [none, none, some (d.level 3 p.gnt)]
    else [some (d.level 1 (p.req || p.rx)), some (d.level 2 p.pri), none]

/-- A sampled level of an input wire read as asserted or not (03 R81). -/
def State.coexRead (s : State) (portB : Bool) (bit : Nat) (high : Bool) : Bool :=
  match s.coexDecl portB with
  | some d => high != d.dir.testBit bit
  | none => false

/-- TX_LATE_DATA in the transmit counters (05 R161). -/
def txLateData : Nat := 5

/-- The lead of the plan lock before the first symbol, in ns (05 R156). -/
def State.lockLead (s : State) (x : Radio) : Nat :=
  max 120000 (1000 * (((s.portsOf x false).map (fun p => s.coexParam p 0x1030 + 20)).foldl max 0))

/-- A lane keeps REQ asserted for its receive window: the window is open or within the lead, or a frame goes on in it (03 R82). -/
def Lane.wants (v : Lane) (now : Int) (lead : Nat) : Bool :=
  v.open_ || v.frame.isSome || (match v.window with | some (a, b) => decide (a - lead ≤ now) && decide (now < b) | none => false)

/-- REQ for receive windows falls at the end of the last window or frame of the radio (03 R82). -/
def State.rxRelease (s : State) (x : Radio) : State :=
  (s.portsOf x false).foldl (fun (s : State) p =>
    if (s.coexPort p).rx && !s.bb.lanes.any (fun l => laneRadio l.1 == x && l.2.wants s.now (1000 * s.coexParam p 0x1030)) then
      s.setCoex p { s.coexPort p with rx := false }
    else s) s

end Sys2Proof.Machine
end

