-- ==== Sys2Proof/Machine/Aes.lean ====
section
/-! DEFINITION. The block cipher and the modes that the cipher chapter names: AES (FIPS 197), CTR, CMAC and CCM
(SP 800-38A, B, C) and AES key wrap (RFC 3394), as those standards define them (10 R284, R290; log entry 15). -/

namespace Sys2Proof.Machine

def aesSbox : Bytes := [
  0x63, 0x7c, 0x77, 0x7b, 0xf2, 0x6b, 0x6f, 0xc5, 0x30, 0x01, 0x67, 0x2b, 0xfe, 0xd7, 0xab, 0x76,
  0xca, 0x82, 0xc9, 0x7d, 0xfa, 0x59, 0x47, 0xf0, 0xad, 0xd4, 0xa2, 0xaf, 0x9c, 0xa4, 0x72, 0xc0,
  0xb7, 0xfd, 0x93, 0x26, 0x36, 0x3f, 0xf7, 0xcc, 0x34, 0xa5, 0xe5, 0xf1, 0x71, 0xd8, 0x31, 0x15,
  0x04, 0xc7, 0x23, 0xc3, 0x18, 0x96, 0x05, 0x9a, 0x07, 0x12, 0x80, 0xe2, 0xeb, 0x27, 0xb2, 0x75,
  0x09, 0x83, 0x2c, 0x1a, 0x1b, 0x6e, 0x5a, 0xa0, 0x52, 0x3b, 0xd6, 0xb3, 0x29, 0xe3, 0x2f, 0x84,
  0x53, 0xd1, 0x00, 0xed, 0x20, 0xfc, 0xb1, 0x5b, 0x6a, 0xcb, 0xbe, 0x39, 0x4a, 0x4c, 0x58, 0xcf,
  0xd0, 0xef, 0xaa, 0xfb, 0x43, 0x4d, 0x33, 0x85, 0x45, 0xf9, 0x02, 0x7f, 0x50, 0x3c, 0x9f, 0xa8,
  0x51, 0xa3, 0x40, 0x8f, 0x92, 0x9d, 0x38, 0xf5, 0xbc, 0xb6, 0xda, 0x21, 0x10, 0xff, 0xf3, 0xd2,
  0xcd, 0x0c, 0x13, 0xec, 0x5f, 0x97, 0x44, 0x17, 0xc4, 0xa7, 0x7e, 0x3d, 0x64, 0x5d, 0x19, 0x73,
  0x60, 0x81, 0x4f, 0xdc, 0x22, 0x2a, 0x90, 0x88, 0x46, 0xee, 0xb8, 0x14, 0xde, 0x5e, 0x0b, 0xdb,
  0xe0, 0x32, 0x3a, 0x0a, 0x49, 0x06, 0x24, 0x5c, 0xc2, 0xd3, 0xac, 0x62, 0x91, 0x95, 0xe4, 0x79,
  0xe7, 0xc8, 0x37, 0x6d, 0x8d, 0xd5, 0x4e, 0xa9, 0x6c, 0x56, 0xf4, 0xea, 0x65, 0x7a, 0xae, 0x08,
  0xba, 0x78, 0x25, 0x2e, 0x1c, 0xa6, 0xb4, 0xc6, 0xe8, 0xdd, 0x74, 0x1f, 0x4b, 0xbd, 0x8b, 0x8a,
  0x70, 0x3e, 0xb5, 0x66, 0x48, 0x03, 0xf6, 0x0e, 0x61, 0x35, 0x57, 0xb9, 0x86, 0xc1, 0x1d, 0x9e,
  0xe1, 0xf8, 0x98, 0x11, 0x69, 0xd9, 0x8e, 0x94, 0x9b, 0x1e, 0x87, 0xe9, 0xce, 0x55, 0x28, 0xdf,
  0x8c, 0xa1, 0x89, 0x0d, 0xbf, 0xe6, 0x42, 0x68, 0x41, 0x99, 0x2d, 0x0f, 0xb0, 0x54, 0xbb, 0x16]

/-- The substitution and its inverse. -/
def subByte (b : Byte) : Byte := aesSbox.getD b.toNat 0
def invSubByte (b : Byte) : Byte := BitVec.ofNat 8 ((aesSbox.findIdx? (fun x => x == b)).getD 0)

/-- Multiplication by x in the cipher's field. -/
def xtime (b : Byte) : Byte := (b <<< 1) ^^^ (if b.getLsbD 7 then 0x1b else 0)

/-- Multiplication in the cipher's field by a constant below 16. -/
def gmul (k : Nat) (b : Byte) : Byte :=
  (if k.testBit 0 then b else 0) ^^^ (if k.testBit 1 then xtime b else 0) ^^^ (if k.testBit 2 then xtime (xtime b) else 0)
    ^^^ (if k.testBit 3 then xtime (xtime (xtime b)) else 0)

def xorBytes (a b : Bytes) : Bytes := List.zipWith (fun x y => x ^^^ y) a b

/-- A state is 16 bytes, column after column; row `r` of column `c` is byte `4 c + r`. -/
def shiftRows (dir : Nat) (st : Bytes) : Bytes :=
  (List.range 16).map (fun i => st.getD ((i + dir * 4 * (i % 4)) % 16) 0)

def mixColumn (k0 k1 k2 k3 : Nat) (col : Bytes) : Bytes :=
  (List.range 4).map (fun r =>
    gmul k0 (col.getD r 0) ^^^ gmul k1 (col.getD ((r + 1) % 4) 0) ^^^ gmul k2 (col.getD ((r + 2) % 4) 0)
      ^^^ gmul k3 (col.getD ((r + 3) % 4) 0))

def mixColumns (k0 k1 k2 k3 : Nat) (st : Bytes) : Bytes :=
  (List.range 4).flatMap (fun c => mixColumn k0 k1 k2 k3 ((st.drop (4 * c)).take 4))

/-- One more word of the key schedule: word `i` of a key of `nk` words, from the words so far, the newest first. -/
def nextKeyWord (nk i : Nat) (rcon : Byte) (prev back : Bytes) : Bytes :=
  let t :=
    if i % nk = 0 then
      match (prev.drop 1 ++ prev.take 1).map subByte with
      | a :: r => (a ^^^ rcon) :: r
      | [] => []
    else if nk = 8 ∧ i % nk = 4 then prev.map subByte
    else prev
  xorBytes back t

/-- The key schedule's words, the newest first. -/
def expandKey (nk : Nat) : Nat → Nat → Byte → List Bytes → List Bytes
  | 0, _, _, ws => ws
  | n + 1, i, rcon, ws =>
    let w := nextKeyWord nk i rcon (ws.getD 0 []) (ws.getD (nk - 1) [])
    expandKey nk n (i + 1) (if i % nk = 0 then xtime rcon else rcon) (w :: ws)

/-- The round keys of a 16-byte or 32-byte key. -/
def roundKeys (key : Bytes) : List Bytes :=
  let nk := key.length / 4
  let first := ((List.range nk).map (fun i => (key.drop (4 * i)).take 4)).reverse
  let ws := (expandKey nk (4 * (nk + 7) - nk) nk 1 first).reverse
  (List.range (nk + 7)).map (fun r => ((ws.drop (4 * r)).take 4).flatten)

/-- One block encrypted. -/
def aesEncrypt (key block : Bytes) : Bytes :=
  match roundKeys key with
  | [] => block
  | k0 :: ks =>
    let st := xorBytes (padTo 16 block) k0
    let mid := (ks.take (ks.length - 1)).foldl
      (fun st k => xorBytes (mixColumns 2 3 1 1 (shiftRows 1 (st.map subByte))) k) st
    xorBytes (shiftRows 1 (mid.map subByte)) (ks.getLastD [])

/-- One block decrypted. -/
def aesDecrypt (key block : Bytes) : Bytes :=
  match (roundKeys key).reverse with
  | [] => block
  | k0 :: ks =>
    let st := xorBytes (padTo 16 block) k0
    let mid := (ks.take (ks.length - 1)).foldl
      (fun st k => mixColumns 14 11 13 9 (xorBytes ((shiftRows 3 st).map invSubByte) k)) st
    xorBytes ((shiftRows 3 mid).map invSubByte) (ks.getLastD [])

/-- Bytes cut into blocks of 16, the last one shorter. -/
def blocksOf : Nat → Bytes → List Bytes
  | 0, _ => []
  | n + 1, bs => if bs = [] then [] else bs.take 16 :: blocksOf n (bs.drop 16)

def blocks (bs : Bytes) : List Bytes := blocksOf (bs.length + 1) bs

/-- A counter block whose rightmost `w` bytes are incremented as a big-endian number (10 R305). -/
def incBlock (w : Nat) (b : Bytes) : Bytes := b.take (16 - w) ++ beBytes w ((beNat (b.drop (16 - w)) + 1) % 2 ^ (8 * w))

/-- CTR: each block of data XORed with the encryption of the next counter block. -/
def ctrMode (key : Bytes) (w : Nat) : Bytes → List Bytes → Bytes
  | _, [] => []
  | c, b :: bs => xorBytes b (aesEncrypt key c) ++ ctrMode key w (incBlock w c) bs

/-- CBC-MAC over whole blocks, from a zero block. -/
def cbcMac (key : Bytes) (bs : List Bytes) : Bytes :=
  bs.foldl (fun acc b => aesEncrypt key (xorBytes acc (padTo 16 b))) (List.replicate 16 0)

/-- A block shifted left by one bit in the field of CMAC. -/
def cmacDouble (b : Bytes) : Bytes :=
  let n := beNat b
  beBytes 16 (((n * 2) % 2 ^ 128) ^^^ (if n.testBit 127 then 0x87 else 0))

/-- CMAC (SP 800-38B). -/
def cmac (key msg : Bytes) : Bytes :=
  let k1 := cmacDouble (aesEncrypt key (List.replicate 16 0))
  let k2 := cmacDouble k1
  let bs := blocks msg
  let last := bs.getLastD []
  let tail := if last.length = 16 then xorBytes last k1 else xorBytes (padTo 16 (last ++ [0x80])) k2
  cbcMac key (bs.take (bs.length - 1) ++ [tail])

/-- The additional data of CCM behind its length, padded to whole blocks. -/
def ccmAad (aad : Bytes) : Bytes :=
  if aad = [] then []
  else
    let l := if aad.length < 0xFF00 then beBytes 2 aad.length else [0xff, 0xfe] ++ beBytes 4 aad.length
    padTo (alignUp 16 (l.length + aad.length)) (l ++ aad)

/-- The CBC-MAC of CCM, with a nonce that leaves `15 − nonce length` octets for the length. -/
def ccmMac (key nonce aad msg : Bytes) (tagLen : Nat) : Bytes :=
  let l := 15 - nonce.length
  let flags : Byte := BitVec.ofNat 8 ((if aad = [] then 0 else 64) + (if tagLen = 0 then 0 else 8 * ((tagLen - 2) / 2)) + (l - 1))
  let b0 := [flags] ++ nonce ++ beBytes l msg.length
  (cbcMac key (b0 :: (blocks (ccmAad aad) ++ blocks (padTo (alignUp 16 msg.length) msg)))).take tagLen

/-- Counter block number 0 of CCM. -/
def ccmA0 (nonce : Bytes) : Bytes := [BitVec.ofNat 8 (14 - nonce.length)] ++ nonce ++ beBytes (15 - nonce.length) 0

/-- CCM seal: the ciphertext and its encrypted tag (SP 800-38C). -/
def ccmSeal (key nonce aad msg : Bytes) (tagLen : Nat) : Bytes × Bytes :=
  let a0 := ccmA0 nonce
  let l := 15 - nonce.length
  (ctrMode key l (incBlock l a0) (blocks msg), xorBytes (ccmMac key nonce aad msg tagLen) (aesEncrypt key a0))

/-- CCM open: the plaintext, where the tag passes. -/
def ccmOpen (key nonce aad ct tag : Bytes) : Option Bytes :=
  let a0 := ccmA0 nonce
  let l := 15 - nonce.length
  let msg := ctrMode key l (incBlock l a0) (blocks ct)
  if xorBytes (ccmMac key nonce aad msg tag.length) (aesEncrypt key a0) = tag then some msg else none

/-- One step of the unwrapping of RFC 3394: register A and the key words, with the step number `t`. -/
def unwrapStep (key : Bytes) (n : Nat) (st : Bytes × List Bytes) (t : Nat) : Bytes × List Bytes :=
  let i := (t - 1) % n
  let b := aesDecrypt key (xorBytes st.1 (beBytes 8 t) ++ st.2.getD i [])
  (b.take 8, st.2.set i (b.drop 8))

/-- AES key unwrap (RFC 3394): the key, where the integrity value is the standard's. -/
def keyUnwrap (kek wrapped : Bytes) : Option Bytes :=
  let n := wrapped.length / 8 - 1
  let words := (List.range n).map (fun i => (wrapped.drop (8 * (i + 1))).take 8)
  let r := ((List.range (6 * n)).reverse.map (fun t => t + 1)).foldl (unwrapStep kek n) (wrapped.take 8, words)
  if r.1 = List.replicate 8 0xa6 then some r.2.flatten else none

/-- The check value of a key: the first 4 bytes of the encrypted zero block, as a U32 (10 R285). -/
def keyCheck (key : Bytes) : Nat := leNat ((aesEncrypt key (List.replicate 16 0)).take 4)

end Sys2Proof.Machine
end

