-- ==== Sys2Proof/Machine/CipherOps.lean ====
section
/-! DEFINITION. The cipher engine's shared operations: key slots, counters and their marks, request queues and rime units
(10). -/

namespace Sys2Proof.Machine

def stKeyEmpty : Nat := 0x7101
def stKeyOccupied : Nat := 0x7102
def stKeyUsage : Nat := 0x7103
def stKeyInUse : Nat := 0x7104
def stUnwrap : Nat := 0x7105
def stExhausted : Nat := 0x7106
def stCounterHeld : Nat := 0x7107
def stAeadLength : Nat := 0x7108
def stTag : Nat := 0x7109
def stEntropy : Nat := 0x710A
def stCipherPlacement : Nat := 0x710B
def stAsnNonceWait : Nat := 0x710C

/-- The last counter value of a counted use, never used (10 R298). -/
def lastCounter (use_ : Nat) : Nat := if use_ = 0 then 2 ^ 32 - 1 else 2 ^ 48 - 1

/-- The value at which EV_COUNTER_LOW is raised (10 R298). -/
def lowCounter (use_ : Nat) : Nat := if use_ = 0 then 0xFFFFF000 else 2 ^ 48 - 2 ^ 16

/-- The counted use of a usage byte, if any (10 R283). -/
def countedUse (usage : Nat) : Option Nat :=
  if usage.testBit 0 then some 0 else if usage.testBit 1 then some 1 else if usage.testBit 5 then some 5 else none

/-- A slot that is at its last value transmits nothing more (10 R298). -/
def KeySlot.isExhausted (k : KeySlot) : Bool :=
  match countedUse k.usage with
  | some u => decide (lastCounter u ≤ k.counter)
  | none => false

/-- The key of a slot for a use, or the status of the refusal (10 R283, R286). -/
def State.keyFor (s : State) (slot use_ : Nat) : Except Nat KeySlot :=
  match tfind s.cipher.keys slot with
  | none => .error stKeyEmpty
  | some k => if k.erasing.isSome then .error stKeyEmpty else if k.usage.testBit use_ then .ok k else .error stKeyUsage

def State.setKey (s : State) (slot : Nat) (k : KeySlot) : State :=
  { s with cipher := { s.cipher with keys := tset s.cipher.keys slot k } }

/-- The record that holds a slot's mark entry (10 R300). -/
def markRecord (slot : Nat) : Nat := 0x0100 + slot / 128

/-- A slot's mark entry in NV (10 R300). -/
def State.nvMark (s : State) (slot : Nat) : Option MarkEntry :=
  match s.nvData (markRecord slot) with
  | some (.marks l) => tfind l slot
  | _ => none

def State.markInNv (s : State) (slot : Nat) : Nat :=
  match s.nvMark slot with
  | some e => e.mark
  | none => 0

/-- The write of mark `m` of a slot requested, unless it is pending already (10 R301). -/
def State.requestMark (s : State) (slot m : Nat) : State :=
  match tfind s.cipher.keys slot with
  | none => s
  | some k =>
    if k.markDue = some m then s
    else (s.setKey slot { k with markDue := some m }).recordDue (markRecord slot) true

/-- What taking a counter value answers. -/
inductive CounterTake where
  | taken (value : Nat)
  | held
  | exhausted
  deriving DecidableEq, Repr

/-- A transmitting graph takes a slot's counter value and increments it, in one step; `again`: it has been counted as waiting already
(10 R297, R298, R301, R302). -/
def State.takeCounter (s : State) (again : Bool) (slot use_ : Nat) (k : KeySlot) : CounterTake × State :=
  let c := k.counter
  if lastCounter use_ ≤ c then (.exhausted, (s.bump .cipher 8).raise 0x7002 [u16 slot])
  else if s.markInNv slot + 4096 ≤ c then
    let m := c / 4096 * 4096
    let s := (s.requestMark slot m).bumpBy .cipher 10 (if again then 0 else 1)
    if k.holdRaised then (.held, s)
    else
      let k' := tget k s.cipher.keys slot
      (.held, (s.setKey slot { k' with holdRaised := true }).raise 0x7003 [u16 slot, u64 m])
  else
    let low := c = lowCounter use_ ∧ k.lowRaised = false
    let s := s.setKey slot { k with counter := c + 1, lowRaised := k.lowRaised || decide low }
    let s := if low then (s.bump .cipher 7).raise 0x7001 [u16 slot, u64 c] else s
    let m := ((c + 1) / 4096 + 1) * 4096
    (.taken c, if m ≤ c + 1 + 256 ∧ s.markInNv slot < m then s.requestMark slot m else s)

/-- Blocks that have passed the pipeline. -/
def State.useBlocks (s : State) (n : Nat) : State := { s with cipher := { s.cipher with maskBlocks := s.cipher.maskBlocks + n } }

/-- Blocks of one AEAD operation over `aad` and `n` octets (10 R290). -/
def aeadBlocks (aad n : Nat) : Nat := 2 + ceilDiv (aad + 2) 16 + 2 * ceilDiv n 16

/-- Frames of a network carry the ASN in their nonces (10 R299). -/
def State.asnNonce (s : State) (net : Net) : Bool := s.pbool (0x7010 + net.ix)

/-- A use of a slot counted towards the refresh of its shares (10 R281). -/
def State.countUse (s : State) (slot : Nat) : State :=
  match tfind s.cipher.keys slot with
  | none => s
  | some k => s.setKey slot { k with requests := k.requests + 1 }

/-- The key slots whose ASN nonce is taken: of the timeslot in force, or of the planned one. -/
def State.asnTaken (s : State) (net : Net) (ahead : Bool) : List Nat := (if ahead then s.cipher.asnNext else s.cipher.asnUsed).net net

def State.takeAsn (s : State) (net : Net) (ahead : Bool) (slot : Nat) : State :=
  let l := slot :: s.asnTaken net ahead
  { s with cipher :=
      if ahead then { s.cipher with asnNext := s.cipher.asnNext.setNet net l } else { s.cipher with asnUsed := s.cipher.asnUsed.setNet net l } }

/-- CCM_STAR_TX of one frame of a network under a key slot, of `len` octets behind `aad` of header: none where it is sealed, else the
status with which it waits or is refused; `was` is the one it has already, so that a wait is counted once (10 R297-R299, R302). -/
def State.sealFrame (s : State) (net : Net) (ahead : Bool) (slot was aad len : Nat) : Option Nat × State :=
  let done (s : State) : Option Nat × State := (none, ((s.bump .cipher 1).countUse slot).useBlocks (aeadBlocks aad len))
  match s.keyFor slot 0 with
  | .error e => (some e, s)
  | .ok k =>
    if s.asnNonce net then
      if (s.asnTaken net ahead).contains slot then (some stAsnNonceWait, s.bumpBy .cipher 11 (if was = stAsnNonceWait then 0 else 1))
      else done (s.takeAsn net ahead slot)
    else
      match s.takeCounter (was == stCounterHeld) slot 0 k with
      | (.taken _, s) => done s
      | (.held, s) => (some stCounterHeld, s)
      | (.exhausted, s) => (some stExhausted, s)

/-! ### The SRAM banks (15 R421) -/

/-- The SRAM byte address at which the host windows begin: bank 11. -/
def sramWindows : Nat := 11 * 0x40000

def State.inWindows (s : State) (a : Nat) : Bool := decide (sramWindows ≤ a) && decide (a < sramWindows + s.winSize)

/-- A byte of SRAM; those of the host windows are the host's as well. -/
def State.sramByte (s : State) (a : Nat) : Byte :=
  if s.inWindows a then readByte s.mem (winBase + (a - sramWindows)) else readByte s.sram a

def State.sramRead (s : State) : Nat → Nat → Bytes
  | _, 0 => []
  | a, n + 1 => s.sramByte a :: s.sramRead (a + 1) n

def State.sramPut (s : State) (a : Nat) (b : Byte) : State :=
  if s.inWindows a then { s with mem := writeByte s.mem (winBase + (a - sramWindows)) b } else { s with sram := writeByte s.sram a b }

def State.sramWrite : State → Nat → Bytes → State
  | s, _, [] => s
  | s, a, b :: bs => State.sramWrite (s.sramPut a b) (a + 1) bs

/-! ### The DRBG (10 R307-R309) -/

/-- What the DRBG answers to a generate request. -/
inductive DrbgAnswer where
  | served | waits | fails
  deriving DecidableEq, Repr

/-- The source's output may be used. -/
def State.entropyOk (s : State) : Bool := s.cipher.entropyReady && !s.cipher.entropyFailed

/-- A reseed has fallen due. -/
def State.reseedDue (s : State) : Bool :=
  s.cipher.drbgSeeded && (decide (65536 ≤ s.cipher.drbgUses) || decide (s.cipher.drbgSeededAt + 32768 * s.pnat 0x7002 ≤ s.time.aon))

/-- The DRBG seeded from the source, and a reseed counted. -/
def State.drbgSeed (s : State) : State :=
  let again := s.cipher.drbgSeeded
  let s := { s with cipher := { s.cipher with drbgSeeded := true, drbgUses := 0, drbgSeededAt := s.time.aon } }
  if again then s.bump .cipher 16 else s

/-- One generate request: served, with a seed taken first where one is needed and can be had. -/
def State.drbgUse (s : State) : DrbgAnswer × State :=
  let need := !s.cipher.drbgSeeded || s.reseedDue
  if s.cipher.entropyFailed then (.fails, s)
  else if need && !s.entropyOk then (.waits, s)
  else
    let s := if need then s.drbgSeed else s
    (.served, { s with cipher := { s.cipher with drbgUses := s.cipher.drbgUses + 1 } })

/-- `n` random bytes, which no rule gives (log entry 3). -/
def State.randomBytes (s : State) (n : Nat) : Bytes × State :=
  ((List.range n).map (fun i => BitVec.ofNat 8 (Config.free (s.freeCtr + i))), { s with freeCtr := s.freeCtr + n })

/-! ### Rime units (10 R294-R296) -/

def rimeNeed (octets : Nat) : Nat := max 1 (ceilDiv octets 256)

def State.rimeFree (s : State) : Nat := 1024 - (s.cipher.rimeUsed.map (fun r => r.units)).sum

/-- Waiting graphs in order of priority, then of arrival. -/
def rimeOrder (l : List RimeUse) : List RimeUse := l.mergeSort (fun a b => decide (a.prio ≤ b.prio))

/-- The instance number by which the rime store knows the CIPHER_OPEN of a channel, and the check of a received frame: graphs that the
device runs itself (DESIGN CHOICE: log entry 193). -/
def hostInst (ch : Nat) : Nat := 0x10000 + ch
def rxInst (id : Nat) : Nat := 0x10008 + id

/-- An instance holds its units. -/
def State.rimeHeld (s : State) (inst : Nat) : Bool := s.cipher.rimeUsed.any (fun r => r.inst == inst)

/-- The first waiting graph reserves its units, once they are free. -/
def State.rimeGrant (s : State) (inst : Nat) : State :=
  match rimeOrder s.cipher.rimeWait with
  | [] => s
  | r :: _ =>
    if r.inst = inst ∧ r.units ≤ s.rimeFree then
      { s with cipher := { s.cipher with
          rimeUsed := s.cipher.rimeUsed ++ [r]
          rimeWait := s.cipher.rimeWait.filter (fun w => w.inst != inst) } }
    else s

/-- A graph may reserve at once: its units are free, and no waiting graph goes before it (10 R296). -/
def State.rimeReady (s : State) (r : RimeUse) : Bool :=
  let l := if s.cipher.rimeWait.any (fun w => w.inst == r.inst) then s.cipher.rimeWait else s.cipher.rimeWait ++ [r]
  decide (r.units ≤ s.rimeFree) && (match rimeOrder l with | w :: _ => w.inst == r.inst | [] => false)

/-- A graph begins to wait for its units: counted, with the event at most once per second (10 R296). -/
def State.rimeShort (s : State) : State :=
  let s := s.bump .cipher 5
  let due := match s.cipher.rimeRaised with
    | none => true
    | some t => decide (t + 32768 ≤ s.time.aon)
  if due then
    { s with cipher := { s.cipher with rimeRaised := some s.time.aon } }.raise 0x7004
      [u16 s.cipher.rimeWait.length, u16 s.rimeFree]
  else s

/-- A graph that cannot reserve its units waits. -/
def State.rimeHold (s : State) (r : RimeUse) : State :=
  if s.cipher.rimeWait.any (fun w => w.inst == r.inst) then s
  else { s with cipher := { s.cipher with rimeWait := s.cipher.rimeWait ++ [r] } }.rimeShort

/-- A graph that the device runs itself reserves its units, or waits for them. -/
def State.rimeTake (s : State) (inst octets prio : Nat) : State :=
  let r : RimeUse := ⟨inst, rimeNeed octets, prio, []⟩
  if s.rimeReady r then { s with cipher := { s.cipher with rimeUsed := s.cipher.rimeUsed ++ [r] } } else s.rimeHold r

/-- An instance's units zeroed and freed (10 R295). -/
def State.rimeFreeFor (s : State) (inst : Nat) : State :=
  let areas := (s.cipher.rimeUsed.filter (fun r => r.inst == inst)).flatMap (fun r => r.areas)
  let s := areas.foldl (fun (s : State) a => s.sramWrite a.1 (List.replicate a.2 0)) s
  { s with cipher := { s.cipher with
      rimeUsed := s.cipher.rimeUsed.filter (fun r => r.inst != inst)
      rimeWait := s.cipher.rimeWait.filter (fun r => r.inst != inst) } }

/-- A check is over: the units of its graph are zeroed and freed (10 R295). -/
def State.endCheck (s : State) (id : Nat) : State :=
  let k := s.bb.checks.find? (fun k => k.id == id)
  let s := ({ s with bb := { s.bb with checks := s.bb.checks.filter (fun k => k.id != id) } }).rimeFreeFor (rxInst id)
  match k.bind (fun k => k.inst) with
  | some i => s.rimeFreeFor i
  | none => s

/-! ### Requests (10 R287-R289) -/

/-- SRAM bytes of the rime buffer, bank 6 (15 R421). -/
def rimeBase : Nat := 6 * 0x40000
def rimeEnd : Nat := 7 * 0x40000

def CipherReq.toRime (r : CipherReq) : Bool := decide (r.dst < rimeEnd) && decide (rimeBase < r.dst + 16 * r.blocks)

def GraphKind.use_ : GraphKind → Nat
  | .other u => u
  | .transmit u => u
  | .transmitAsn _ => 0
  | .receive u _ => u

/-- What the engine answers to a node that would place a request. -/
inductive CipherGate where
  | accept
  /-- the node does not fire and waits; the counter under which its wait counts -/
  | hold (row : Nat)
  /-- the operation ends at once with a status -/
  | refuse (status : Nat)
  deriving DecidableEq, Repr

/-- A completion record written to SRAM; the model also keeps the latest sixteen (10 R288). -/
def State.cipherDone (s : State) (r : CipherReq) (status blocks : Nat) : State :=
  let s := { s with cipher := { s.cipher with done := ⟨r.tag, status, blocks⟩ :: s.cipher.done.take 15 } }
  s.sramWrite r.completion (u16 r.tag ++ u16 status ++ u16 blocks ++ u16 0)

/-- Blocks through the pipeline: each, where the request is chained, XORed with the output before it (10 R288). -/
def pipeBlocks (f : Bytes → Bytes) (chained : Bool) : Bytes → List Bytes → Bytes
  | _, [] => []
  | prev, b :: bs =>
    let o := f (if chained then xorBytes b prev else b)
    o ++ pipeBlocks f chained o bs

/-- The output of a request written: from its source, under its key, to its destination; into the rime buffer only while its instance
holds its units (10 R288, R294, R295). -/
def State.pipeOut (s : State) (r : CipherReq) : State :=
  match tfind s.cipher.keys r.slot with
  | none => s
  | some k =>
    let f := if r.decrypt then aesDecrypt k.key else aesEncrypt k.key
    let out := pipeBlocks f r.chained (List.replicate 16 0) (blocks (s.sramRead r.src (16 * r.blocks)))
    if !r.toRime then s.sramWrite r.dst out
    else if !s.rimeHeld r.inst then s
    else
      { s with cipher := { s.cipher with rimeUsed := s.cipher.rimeUsed.map (fun (u : RimeUse) =>
          if u.inst = r.inst then { u with areas := u.areas ++ [(r.dst, 16 * r.blocks)] } else u) } }.sramWrite r.dst out

/-- The requests on a queue (10 R287). -/
def State.cipherQueue (s : State) (k : Nat) : List CipherReq := tget [] s.cipher.queues k

/-- The request of a node of priority `prio` of instance `inst` placed on its queue, held back or refused; `seen`: the counters under which
the node's wait has been counted, each of which counts it once. -/
def State.placeRequest (s : State) (seen : List Nat) (inst prio : Nat) (r : CipherReq) : CipherGate × State :=
  let r := { r with inst := inst }
  let once (row : Nat) := if seen.contains row then 0 else 1
  let q := s.cipherQueue prio
  let put (s : State) : CipherGate × State :=
    (.accept, { s with cipher := { s.cipher with queues := tset s.cipher.queues prio (q ++ [r]) } })
  if 64 ≤ q.length then (.hold 6, s.bumpBy .cipher 6 (once 6))
  else
    match r.graph with
    | .receive u octets =>
      match s.keyFor r.slot u with
      | .error e => (.refuse e, s.cipherDone r e 0)
      | .ok _ =>
        if s.rimeHeld inst then put s
        else
          let s := s.rimeTake inst octets prio
          if s.rimeHeld inst then put s else (.hold 5, s)
    | g =>
      if r.toRime then (.refuse stCipherPlacement, s)
      else
        match s.keyFor r.slot g.use_ with
        | .error e => (.refuse e, s.cipherDone r e 0)
        | .ok k =>
          match g with
          | .transmit u =>
            match s.takeCounter (seen.contains 10) r.slot u k with
            | (.exhausted, s) => (.refuse stExhausted, s)
            | (.held, s) => (.hold 10, s)
            | (.taken _, s) => put s
          | .transmitAsn n =>
            if (s.asnTaken n false).contains r.slot then (.hold 11, s.bumpBy .cipher 11 (once 11)) else put (s.takeAsn n false r.slot)
          | _ => put s

end Sys2Proof.Machine
end

