-- ==== Sys2Proof/Machine/Radio.lean ====
section
/-! DEFINITION. Radio front-ends: transceiver states, calibration, the power decision, FEM states, Thaw and the commands of
the radio group (03). -/

namespace Sys2Proof.Machine

def stSynthNotReady : Nat := 0x1101
def stCoexDenied : Nat := 0x1102
def stCoexRevoked : Nat := 0x1103
def stCoexYielded : Nat := 0x1104
def stSelfcoex : Nat := 0x1105
def stCalConflict : Nat := 0x1106
def stCarrierBusy : Nat := 0x2102

/-- The FEM record that the board declares for a radio (03 R73). -/
def State.femOf (s : State) (x : Radio) : Option FemDecl :=
  match s.board with
  | some b => b.fems.find? (fun f => f.radio == x.ix)
  | none => none

/-- The client network of a radio. -/
def Radio.net? : Radio → Option Net
  | .lb => some .lb
  | .mb => some .mb
  | .hb => none

def State.net (s : State) (n : Net) : NetState := s.nets.net n

def State.setNet (s : State) (n : Net) (v : NetState) : State := { s with nets := s.nets.setNet n v }

/-- A radio carries its client network. -/
def State.netRuns (s : State) (x : Radio) : Bool :=
  match x.net? with
  | some n => (s.net n).running
  | none => false

/-- A radio carries a member of an open span. -/
def State.hasMember (s : State) (x : Radio) : Bool :=
  s.spans.any (fun p => p.2.phase != .closed && thas p.2.members x.ix)

/-- A test emission is pending or on the air. -/
def State.hasTest (s : State) (x : Radio) : Bool :=
  (s.radio x).pend.any (fun e => e.owner == .test)
    || (match (s.radio x).group with | some g => g.carriers.any (fun c => c.em.owner == .test) | none => false)

/-- A radio has calibration results for every background item, its foreground set and its synthesiser (03 R89). -/
def RadioState.calibrated (r : RadioState) : Bool := r.calTemp.isSome && r.fgDone && r.bg.all (fun b => b.lastAon.isSome)

/-! ### FEM lines (03 R73-R76) -/

/-- FEM state codes. -/
def femOff : Nat := 0
def femStandby : Nat := 1
def femRx : Nat := 2
def femBypass : Nat := 3
def femTx : Nat := 4
def femExtPa : Nat := 5
def femCal : Nat := 6

/-- The levels of a state code, with the codes that an undeclared one takes (03 R74). -/
def FemDecl.value (f : FemDecl) (code : Nat) : Nat :=
  match tfind f.states code with
  | some v => v
  | none =>
    if code = femBypass then tget 0 f.states femRx
    else if code = femExtPa then tget 0 f.states femTx
    else if code = femCal then tget 0 f.states femStandby
    else 0

/-- How long the PA ramps before the first symbol, in ns (03 R60; log entry 140). -/
def rampUpNs : Nat := 2000 + Config.rampUp % 2001

/-- How long a radio takes to key: the other FEM lines go over 1 µs before the PA lines, and these by the lead before the ramp, in ns
(03 R60, R75). -/
def State.keyNs (s : State) (x : Radio) : Nat :=
  1000 + 500 * (match s.femOf x with | some f => f.lead | none => 0) + rampUpNs

/-- The FEM state of a transceiver state; a bypassed timeslot receives in RX_BYPASS (03 transceiver states). -/
def femFor (st : RState) (bypass extPa : Bool) : Nat :=
  match st with
  | .off => femOff
  | .standby | .settle => femStandby
  | .rx => if bypass then femBypass else femRx
  | .tx => if extPa then femExtPa else femTx
  | .calSynth | .calBg | .calFg => femCal

/-- State codes of RF_STATUS_GET, in table order. -/
def RState.code : RState → Nat
  | .off => 0 | .standby => 1 | .settle => 2 | .rx => 3 | .tx => 4 | .calSynth => 5 | .calBg => 6 | .calFg => 7

/-- States in which the radio's lanes are blanked (04 R106). -/
def RState.blanks : RState → Bool
  | .rx => false
  | _ => true

/-! ### Lanes of a radio (04) -/

def State.lane? (s : State) (l : Nat) : Option Lane := tfind s.bb.lanes l

def State.setLane (s : State) (l : Nat) (v : Lane) : State := { s with bb := { s.bb with lanes := tset s.bb.lanes l v } }

def State.bbRadio (s : State) (x : Radio) : BbRadio := s.bb.radios.get x

def State.setBb (s : State) (x : Radio) (b : BbRadio) : State := { s with bb := { s.bb with radios := s.bb.radios.set x b } }

/-- The baseband parameters that a timeslot holds from its gain setting on (04 R128). -/
def bbLatched (x : Radio) : List Nat :=
  [0x2001, 0x2002, 0x2003, 0x2014, 0x2016, 0x2017 + x.ix, 0x2020 + x.ix, 0x2024, 0x2025, 0x2030, 0x2031]

/-- A baseband parameter as a radio's timeslot holds it; without a network, as it stands (04 R128). -/
def State.bbParam (s : State) (x : Radio) (id : Nat) : Nat :=
  if s.netRuns x then (tfind (s.bbRadio x).par id).getD (s.pnat id) else s.pnat id

/-- First bin and bins of a lane's window, in the numbers of its radio's noise-floor report (04 R99, R121). -/
def laneBins (l : Nat) (v : Lane) : Nat × Nat :=
  if l < 32 then (v.bin, v.bins) else if l < 48 then ((v.khz - 2405000) / 5000, 1) else (0, 0)

/-- Bins not measured for a while (04 R121). -/
def State.noteBusy (s : State) (x : Radio) (bins : Nat × Nat) (from_ till : Int) : State :=
  if bins.2 = 0 || decide (till ≤ from_) then s
  else s.setBb x { s.bbRadio x with busy := (bins.1, bins.2, from_, till) :: (s.bbRadio x).busy }

/-- All bins of a radio. -/
def allBins : Nat × Nat := (0, 256)

/-- A lane's occupation of its bins ends now (04 R105, R121). -/
def State.vacate (s : State) (l : Nat) : State :=
  match s.lane? l with
  | some v => (match v.since with | some t => s.noteBusy (laneRadio l) (laneBins l v) t s.now | none => s)
  | none => s

/-- A lane stops receiving its frame: when is noted for its radio (03 R78). -/
def State.noteFrameEnd (s : State) (l : Nat) : State :=
  match s.lane? l with
  | some v => if v.frame.isSome then s.setBb (laneRadio l) { s.bbRadio (laneRadio l) with frameEnd := some s.now } else s
  | none => s

/-- A lane's frame gives up its soft bits: its queued blocks go, counted where they have waited more than 10 µs, and a block that a decoder
works on runs on without room of its own (04 R118, R119). -/
def State.dropSoft (s : State) (l : Nat) : State :=
  let waited := s.bb.soft.filter (fun b => b.lane == l && decide (10000 < s.now - b.postedAt))
  let s := if waited.isEmpty then s else s.bumpBy (.bb (laneRadio l)) 19 waited.length
  { s with bb := { s.bb with
    soft := s.bb.soft.filter (fun b => b.lane != l)
    running := s.bb.running.map (fun p => if p.2.lane = l then (p.1, { p.2 with bytes := 0 }) else p) } }

/-- A lane released; REQ for the receive windows of its radio falls with the last of them (04 R105, 03 R82). -/
def State.freeLane (s : State) (l : Nat) : State :=
  let s := ((s.vacate l).noteFrameEnd l).dropSoft l
  { s with bb := { s.bb with lanes := tdel s.bb.lanes l } }.rxRelease (laneRadio l)

/-- Every lane of a radio that a test selects released. -/
def State.freeLanes (s : State) (drop : Nat → Lane → Bool) : State :=
  (s.bb.lanes.filter (fun p => drop p.1 p.2)).foldl (fun (s : State) p => s.freeLane p.1) s

/-- The shift that the frozen estimate has added to a lane's oscillator taken away again (04 R100). -/
def Lane.unfrozen (v : Lane) : Lane :=
  match v.frame with
  | some f => if f.sfd then { v with nco := v.nco - f.offset } else v
  | none => v

/-- Lanes of a radio that are receiving a frame. -/
def State.receiving (s : State) (x : Radio) : List Nat :=
  (s.bb.lanes.filter (fun p => laneRadio p.1 == x && p.2.frame.isSome)).map (fun p => p.1)

/-- The frame of a lane lost: the lane is released, or goes on with detection where a window is still open. -/
def State.dropFrame (s : State) (l : Nat) : State :=
  match s.lane? l with
  | none => s
  | some v =>
    if v.open_ then ((s.noteFrameEnd l).dropSoft l).setLane l { v.unfrozen with frame := none } else s.freeLane l

/-- Every lane of a radio blanked: the frames in reception are lost and counted on a counter of the radio (04 R106, 03 R78). -/
def State.blankLanes (s : State) (x : Radio) (bank : CtrBank) (row : Nat) : State :=
  (s.receiving x).foldl (fun (s : State) l => (s.bump bank row).dropFrame l) s

/-- A radio moved to a state: FEM state, synthesiser and blanking with it (03 transceiver states, 04 R106). -/
def State.moveRadio (s : State) (x : Radio) (st : RState) (extPa : Bool) : State :=
  let r := s.radio x
  let s := s.setRadio x { r with
    st := st
    fem := femFor st (s.bb.radios.get x).bypass extPa
    femTail := if r.st == .tx && st != .tx then (s.femOf x).map (fun f => (r.fem, s.now + (500 * f.lag : Nat))) else r.femTail
    blanked := st.blanks
    blankAt := if st.blanks then (if r.blanked then r.blankAt else some s.now) else none
    locked := r.locked && (st == .rx || st == .tx || st == .calBg)
    verified := r.verified && (st == .rx || st == .tx || st == .calBg) }
  if st.blanks then s.blankLanes x (.bb x) 10
  else match r.blankAt with
    | some t => s.noteBusy x allBins t s.now
    | none => s

/-! ### What holds an emission, and its ramp (03 R63, R75, R77-R80, R83, R85) -/

/-- A carrier in the range that blocks MB reception (03 R77). -/
def EmGroup.blocksMb (g : EmGroup) : Bool := g.carriers.any (fun c => decide (779000 ≤ c.em.khz) && decide (c.em.khz ≤ 830000))

/-- What keeps a radio's group from starting (03 R63, R78, R83). -/
def State.blockedBy (s : State) (x : Radio) (g : EmGroup) : Option HoldCause :=
  if !(s.radio x).locked || !(s.radio x).verified || (s.radio x).resume then some .synth
  else if !s.granted x then some .coex
  else if x == .lb && g.blocksMb && s.pnat 0x1020 == 1 && !(s.receiving .mb).isEmpty then some .selfcoex
  else none

/-- The causes that may have held a group, each with the moment at which it ended (03 R63, R78, R83). -/
def State.holdEnds (s : State) (x : Radio) (g : EmGroup) : List (HoldCause × Int) :=
  (match (s.radio x).lockedAt with | some t => [(.synth, t)] | none => [])
    ++ ((s.portsOf x false).filterMap (fun p => (s.coexPort p).gntAt)).map (fun t => (.coex, t))
    ++ (if x == .lb && g.blocksMb && s.pnat 0x1020 == 1 then
        (match (s.bbRadio .mb).frameEnd with | some t => [(.selfcoex, t)] | none => [])
      else [])

/-- The cause that ended last, and when. -/
def State.lastHold (s : State) (x : Radio) (g : EmGroup) : Option (HoldCause × Int) := bestBy (fun a b => decide (b.2 < a.2)) (s.holdEnds x g)

/-- The first symbol of a group that nothing holds: its instant, or, where what held it has ended too late for that, as soon as the radio
can key (03 R63, R83, 05 R156; log entry 174). -/
def State.firstAt (s : State) (x : Radio) (g : EmGroup) : Int :=
  match s.lastHold x g with
  | some (_, t) => if t + s.keyNs x ≤ g.start then g.start else t + s.keyNs x
  | none => g.start

/-- A group that is going to start: its first symbol. -/
def State.keysAt (s : State) (x : Radio) : Option (EmGroup × Int) :=
  match (s.radio x).group with
  | some g => if s.awake && !g.onAir && (s.blockedBy x g).isNone && !s.yields x then some (g, s.firstAt x g) else none
  | none => none

/-- The PA of a radio ramps up towards the first symbol of its group (03 R60). -/
def State.ramping (s : State) (x : Radio) : Bool :=
  match s.keysAt x with
  | some (_, t) => decide (t - rampUpNs ≤ s.now)
  | none => false

/-- An LB emission in the blocked range blanks MB: on the air by the policy of its start, or in its ramp (03 R78). Under policy 1 it blanks
nothing once it has started, also not a reception that begins later (DESIGN CHOICE: log entry 198; R77 calls the combination blocked). -/
def State.lbBlanksMb (s : State) : Bool :=
  match (s.radio .lb).group with
  | some g => if g.onAir then g.blanksMb else g.blocksMb && s.pnat 0x1020 == 0 && s.ramping .lb
  | none => false

/-- A radio's lanes are blanked: by its state, from the start of its ramp to 20 µs after a ramp-down, or, on MB, by an LB emission in the
blocked range (03 R77, R78, 04 R106). -/
def State.isBlanked (s : State) (x : Radio) : Bool :=
  (s.radio x).blanked || decide (s.now < (s.radio x).blankTill) || s.ramping x || (x == .mb && s.lbBlanksMb)

/-- The counter of a frame that its radio's blanking loses: an own emission's, or, on MB, that of an LB emission (04 R106, 03 R78). -/
def State.blankRow (s : State) (x : Radio) : CtrBank × Nat :=
  if x == .mb && !(s.radio x).blanked && !s.ramping x && s.lbBlanksMb then (.radio .mb, 15) else (.bb x, 10)

/-- The FEM states that the PA lines and the other lines show: towards an emission that nothing holds, the PA lines go over at the lead
before the ramp and the others 1 µs earlier; after its end the others follow the PA lines by the lag (03 R75). -/
def State.femCodes (s : State) (x : Radio) (f : FemDecl) : Nat × Nat :=
  let r := s.radio x
  let rest := match r.femTail with
    | some (c, t) => if s.now < t then c else r.fem
    | none => r.fem
  match s.keysAt x with
  | some (g, t) =>
    let pa := t - (rampUpNs + 500 * f.lead : Nat)
    let tx := if g.extPa then femExtPa else femTx
    (if pa ≤ s.now then tx else r.fem, if pa - 1000 ≤ s.now then tx else rest)
  | none => (r.fem, rest)

/-- The levels a radio drives on its FEM lines; none while every line is high-impedance (03 R75, R76). Unused lines, and released
open-drain lines, are high-impedance as well. Every move of the radio but those to and from TX shows on all lines together, at the moment
that the model gives it: its TRANSITION_DONE, or the row that makes it (log entry 175). -/
def State.femLines (s : State) (x : Radio) : Option Nat :=
  if s.sys.hold.held || s.sys.pstate == .hibernate || s.sys.pstate == .off then none
  else
    match s.femOf x with
    | none => none
    | some f =>
      let c := s.femCodes x f
      some (((f.value c.1 &&& f.paLines) ||| (f.value c.2 &&& (f.used ^^^ (f.used &&& f.paLines)))) &&& f.used)

/-- A local oscillator tuned: a move unlocks the synthesiser, which settles again; MB's never moves (03 R58). -/
def State.tune (s : State) (x : Radio) (khz : Nat) : State :=
  let r := s.radio x
  if x = .mb ∨ r.lo = khz then s
  else
    let s := s.setRadio x { r with lo := khz, locked := false, verified := false }
    if r.st = .rx ∨ r.st = .calBg then s.moveRadio x .settle false else s

/-! ### Gaps (03 R65, R66, R86) -/

/-- Length of a network's timeslot in ns: `sched.timeslot_us`, or the superframe slot in DSME (06 R164, R167). -/
def State.netParam (s : State) (n : Net) (id : Nat) : Nat := s.pnat (match n with | .lb => id | .mb => id + 0x200)

def State.isDsme (s : State) (n : Net) : Bool := s.netParam n 0x3001 == 1

/-- The IMMEDIATE parameters of the slot engine, by the IDs of N.LB (06 R196). -/
def schedLatched : List Nat := [0x3014, 0x3020, 0x3021, 0x3022, 0x3023, 0x3024, 0x3028, 0x3029, 0x302A, 0x302B, 0x3030, 0x3031, 0x3038]

/-- The IMMEDIATE parameters taken at a plan point (06 R196). -/
def State.latchSched (s : State) (net : Net) : State :=
  s.setNet net { s.net net with par := schedLatched.map (fun id => (id, s.pint (match net with | .lb => id | .mb => id + 0x200))) }

/-- An IMMEDIATE parameter of a network: as of its last plan point while it runs (06 R196). -/
def State.schedInt (s : State) (n : Net) (id : Nat) : Int :=
  let v := s.pint (match n with | .lb => id | .mb => id + 0x200)
  if (s.net n).running then (tfind (s.net n).par id).getD v else v

def State.schedParam (s : State) (n : Net) (id : Nat) : Nat := (s.schedInt n id).toNat

def State.slotNs (s : State) (n : Net) : Nat :=
  if s.isDsme n then 2 ^ s.netParam n 0x3018 * dsmeBaseNs (s.netMode n) else 1000 * s.netParam n 0x3004

/-- The lengths of a slotframe with one more from an ASN on: in order, each ASN once, and without those that ended before `now`
(06 R169). -/
def FrameLens.insert (l : FrameLens) (asn : Nat) (len : Option Nat) (now : Nat) : FrameLens :=
  let all := l.filter (fun p => decide (0 < sdiff 40 p.1 asn)) ++ [(asn, len)] ++ l.filter (fun p => decide (sdiff 40 p.1 asn < 0))
  all.filter (fun p => decide (0 < sdiff 40 p.1 now)) ++ (all.filter (fun p => decide (sdiff 40 p.1 now ≤ 0))).take 1

/-- The length of a slotframe in force at an ASN (06 R169). -/
def FrameLens.at_ (l : FrameLens) (asn : Nat) : Option Nat :=
  match l.find? (fun p => decide (0 ≤ sdiff 40 asn p.1)) with
  | some (_, n) => n
  | none => none

/-- Length of slotframe `h` of a network at an ASN; the multi-superframe in DSME (06 R167, R169). -/
def State.frameLen (s : State) (n : Net) (h asn : Nat) : Option Nat :=
  if s.isDsme n then
    if h = 0 then some (16 * 2 ^ (s.netParam n 0x3019 - s.netParam n 0x3018)) else none
  else (tget [] (s.net n).frames h : FrameLens).at_ asn

/-- A cell is in force at an ASN (06 R172). -/
def Cell.live (c : Cell) (asn : Nat) : Bool :=
  decide (0 ≤ sdiff 40 asn c.from_) && (match c.until_ with | some u => decide (sdiff 40 asn u < 0) | none => true)

/-- A cell falls in the timeslot of an ASN (06 R169). -/
def State.cellFalls (s : State) (n : Net) (c : Cell) (asn : Nat) : Bool :=
  c.net == n.ix && c.live asn &&
    (match s.frameLen n c.handle asn with | some l => decide (0 < l) && asn % l == c.slot | none => false)

/-- The cells of a network that fall in the timeslot of an ASN, by rising ID. -/
def State.cellsAt (s : State) (n : Net) (asn : Nat) : List (Nat × Cell) := s.cells.filter (fun p => s.cellFalls n p.2 asn)

/-- Number of the beacon slot's and the CAP's own entries in DSME, which are no cells of the table (06 R167). -/
def dsmeBeaconId : Nat := 65536
def dsmeCapId : Nat := 65537
def dsmeParentId : Nat := 65538

def implicitCell (net kind opts : Nat) : Cell :=
  { net := net, handle := 0, slot := 0, chan := 0, kind := kind, opts := opts, span := 0, ctx := 0xFFFF, slotMin := 0, slotMax := 0 }

/-- A network follows a parent coordinator whose beacons it can tell the time of (06 R193). -/
def NetState.follows (v : NetState) : Bool := match v.parent with | some p => !p.lost | none => false

/-- A network has lost the parent that it follows (06 R194). -/
def NetState.seeks (v : NetState) : Bool := match v.parent with | some p => p.lost | none => false

/-- The client whose GTS reply is due in the next CAP timeslot: resident, its backoff run down (06 R163; log entries 3, 158). -/
def State.capReply (s : State) (net : Net) : Option Nat :=
  (s.firn.ctxs.find? (fun p => p.2.net == net.ix && (match (tget [] p.2.queues 4).head? with | some f => f.backoff == 0 | none => false)
    && s.firn.slots.any (fun v => v.2.ctx == p.1 && !v.2.evicted))).map (fun p => p.1)

/-- The CAP as a timeslot: received in, or, where a GTS reply is due, sent in. -/
def State.capCell (s : State) (net : Net) : Cell :=
  match s.capReply net with
  | some c => { implicitCell net.ix 6 0x05 with ctx := c }
  | none => implicitCell net.ix 0 0x06

/-- The beacon slot, the slot of the parent's beacons and the CAP of DSME at an ASN; in which superframe the parent sends is a free
value (06 R167, R193; log entry 149). -/
def State.dsmeCells (s : State) (net : Net) (asn : Nat) : List (Nat × Cell) :=
  if !s.isDsme net then []
  else
    let so := s.netParam net 0x3018
    let slot := asn % 16
    let sup := asn / 16
    let n := 2 ^ (s.netParam net 0x301A - so)
    if slot = 0 then
      (if sup % n = 0 then [(dsmeBeaconId, implicitCell net.ix 1 0x05)] else [])
        ++ (if (s.net net).follows && sup % n == Config.parentBeacon net.ix % n then [(dsmeParentId, implicitCell net.ix 5 0x06)] else [])
    else if slot ≤ 8 ∧ (s.netParam net 0x301B = 0 ∨ sup % 2 ^ (s.netParam net 0x3019 - so) = 0) then
      [(dsmeCapId, s.capCell net)]
    else []

/-- Everything that falls in the timeslot of an ASN. -/
def State.slotCells (s : State) (net : Net) (asn : Nat) : List (Nat × Cell) := s.dsmeCells net asn ++ s.cellsAt net asn

/-- ASN `k` timeslots on from the timeslot in force. -/
def State.asnAfter (s : State) (n : Net) (k : Nat) : Nat := ((s.net n).asn + k) % 2 ^ 40

/-- Start of the timeslot `k` on from the one in force, network time in ns. -/
def State.slotAt (s : State) (n : Net) (k : Nat) : Int := (s.net n).slotStart + (k * s.slotNs n : Nat)

def Cell.isShared (c : Cell) : Bool := c.opts.testBit 2
def Cell.isTx (c : Cell) : Bool := c.opts.testBit 0
def Cell.isRx (c : Cell) : Bool := c.opts.testBit 1
def Cell.acked (c : Cell) : Bool := c.opts.testBit 4

/-! ### The power decision (03 R68-R72, 08 R236) -/

/-- 10·log10(n) in 0.001 dB for up to four carriers (03 R69). -/
def shareMdb (n : Nat) : Int := [0, 0, 3010, 4771, 6021].getD n 6021

/-- Capability per carrier in 0.001 dBm, for `n` carriers of a mode (03 R71). The table names modulations alone: an emission without
one takes the row of LB SUN FSK, of MB O-QPSK or of HB MCS 0 to 4 (DESIGN CHOICE, log entry 142). -/
def capMdbm (x : Radio) (mode : Option Nat) (n : Nat) : Int :=
  let ix := n - 1
  match x with
  | .lb =>
    match mode.map phyFamily with
    | some .ofdm => [19000, 15500, 14000, 13000].getD ix 13000
    | _ => [22000, 18500, 17000, 16000].getD ix 16000
  | .mb =>
    match mode.map phyFamily with
    | some .span => 17000
    | _ => [20000, 16500, 15000, 14000].getD ix 14000
  | .hb =>
    match mode with
    | some c => if spanMcs c ≤ 4 then 21000 else if spanMcs c ≤ 7 then 19000 else 17000
    | none => 21000

/-- Capability with the supply of the radio taken in (03 R71). -/
def State.capability (s : State) (x : Radio) (mode : Option Nat) (n : Nat) : Int :=
  capMdbm x mode n - (if (s.radio x).paMv < 3135 then 1500 else 0)

/-- An LB FEM of type 3: its gain and its maximum output, at most +30.0 dBm, in 0.001 dB (03 R72). -/
def State.extPa (s : State) (x : Radio) : Option (Int × Int) :=
  match s.femOf x with
  | some f => if x = .lb ∧ f.kind = 3 then some (100 * f.extGain, min (100 * f.extMax) 30000) else none
  | none => none

/-- Ceiling of a radio in 0.25 dBm (03 R97). -/
def State.txMax (s : State) (x : Radio) : Int := s.pint (0x1044 + x.ix)

/-- The transmitting antenna ports of a radio by gain number, one for each chain of an emission: ANT0, and ANT1 of MB and HB (03
transceivers, 05 R149). -/
def txPorts (x : Radio) (chains : Nat) : List Nat := if x = .lb ∨ chains ≤ 1 then [2 * x.ix] else [2 * x.ix, 2 * x.ix + 1]

/-- Target power of a carrier on an antenna port in 0.001 dBm, before the choice of a PA setting: `n` carriers of the emission, `m` of
them in its sub-band (03 R68, R69, R72). -/
def State.target (s : State) (x : Radio) (e : Emission) (l : SubLimit) (n m port : Nat) : Int :=
  let pc := 100 * l.band.pcond - shareMdb m
  let pe := 100 * (l.band.peirp - s.lockedGain port) - shareMdb m
  let cap := match s.extPa x with
    | some (_, mx) => max (s.capability x e.mode n) mx
    | none => s.capability x e.mode n
  min (250 * e.power) (min (250 * s.txMax x) (min cap (min pc pe)))

/-- The factory power table at a die temperature in 0.1 °C and a PA supply in mV: linear in both between its steps of 5 °C and 0.1 V,
with the edge value for a supply outside 3.0 V to 3.6 V; rounded down to 0.001 dBm (03 R70; log entry 143). -/
def paPower (x setting : Nat) (temp : Int) (mv : Nat) : Int :=
  if temp < -400 ∨ 1250 < temp then Config.paOutside x setting temp mv
  else
    let m := min 3600 (max 3000 mv) - 3000
    let t := (temp + 400).toNat
    let i := min 32 (t / 50)
    let j := min 5 (m / 100)
    let u : Int := (t - 50 * i : Nat)
    let w : Int := (m - 100 * j : Nat)
    let at_ (a b : Nat) : Int := Config.paTable x setting (i + a) (j + b)
    ((50 - u) * ((100 - w) * at_ 0 0 + w * at_ 0 1) + u * ((100 - w) * at_ 1 0 + w * at_ 1 1)) / 5000

/-- Predicted power of a PA setting in 0.001 dBm: the factory table at the present temperature and supply, and the user
offset (03 R68, R70). -/
def State.predicted (s : State) (x : Radio) (setting : Nat) : Int :=
  calSum (0x1040 + x.ix) (paPower x.ix setting s.rf.dieTemp (s.radio x).paMv) (250 * s.pint (0x1040 + x.ix))

/-- The setting of largest predicted power at or below a target, with that power (03 R68). -/
def State.chooseSetting (s : State) (x : Radio) (target : Int) : Option (Nat × Int) :=
  (List.range (Config.paSettings x.ix)).foldl (fun best i =>
    let p := s.predicted x i
    if target < p then best
    else match best with
      | some (_, q) => if q < p then some (i, p) else best
      | none => some (i, p)) none

/-- The drive of the external PA for a target: the target minus its gain, within −10 dBm to +10 dBm, and then cut so that the output
exceeds neither the external maximum nor the target, whose limits apply unchanged (03 R72; log entry 144). -/
def extDrive (target gain mx : Int) : Int := min (min 10000 (max (-10000) (target - gain))) (min mx target - gain)

/-- The setting and output of a carrier, through the external PA or not (03 R72). -/
def State.powerOf (s : State) (x : Radio) (ext : Bool) (target : Int) : Option (Nat × Int × Bool) :=
  match s.extPa x, ext with
  | some (gain, mx), true => (s.chooseSetting x (extDrive target gain mx)).map (fun p => (p.1, p.2 + gain, true))
  | _, _ => (s.chooseSetting x target).map (fun p => (p.1, p.2, false))

/-- How many carriers of a list lie in a sub-band, an HB emission on both chains counting as two (08 R236). -/
def carriersIn (l : List (Emission × SubLimit)) (i : Nat) : Nat :=
  ((l.filter (fun p => p.2.ix == i)).map (fun p => if inBand .hb p.1.khz then max 1 p.1.chains else 1)).sum

/-- An emission goes through the external PA: the target of one of its carriers exceeds the internal capability (03 R72). -/
def State.needsExt (s : State) (x : Radio) (adm : List (Emission × SubLimit)) : Bool :=
  (s.extPa x).isSome && adm.any (fun p => (txPorts x p.1.chains).any (fun i =>
    decide (s.capability x p.1.mode adm.length < s.target x p.1 p.2 adm.length (carriersIn adm p.2.ix) i)))

/-- The decisions of a carrier, one for each of its chains: target, and the choice where a setting serves it (05 R149). -/
def State.chainPowers (s : State) (x : Radio) (ext : Bool) (e : Emission) (l : SubLimit) (n m : Nat) : List (Int × Option (Nat × Int × Bool)) :=
  (txPorts x e.chains).map (fun i => let t := s.target x e l n m i; (t, s.powerOf x ext t))

/-- The carrier that its decisions make, where every chain has a setting, and whether it takes the external PA. -/
def carrierOf (e : Emission) (l : SubLimit) : List (Int × Option (Nat × Int × Bool)) → Option (Carrier × Bool)
  | (t, some w) :: rest =>
    match rest with
    | [] => some ({ em := e, target := t, setting := w.1, applied := w.2.1, sub := l.ix }, w.2.2)
    | (_, some v) :: _ => some ({ em := e, target := t, setting := w.1, applied := w.2.1, second := some (v.1, v.2.1), sub := l.ix }, w.2.2)
    | (_, none) :: _ => none
  | _ => none

/-- The power decisions of a group's admitted carriers; one that no setting serves is refused and the rest are decided anew
(03 R68, R69, 05 R155, 08 R236). -/
def State.decidePower (x : Radio) : Nat → List (Emission × SubLimit) → State → List Carrier × Bool × List Emission × State
  | 0, _, s => ([], false, [], s)
  | fuel + 1, adm, s =>
    let n := adm.length
    let tries := adm.map (fun p => (p, carrierOf p.1 p.2 (s.chainPowers x (s.needsExt x adm) p.1 p.2 n (carriersIn adm p.2.ix))))
    match tries.find? (fun t => t.2.isNone) with
    | some ((e, l), _) =>
      let (c, ext, out, s) := State.decidePower x fuel (adm.filter (fun p => p.1.id != e.id)) (s.refuse (some l) rePower)
      (c, ext, e :: out, s)
    | none =>
      (tries.filterMap (fun t => t.2.map (fun w => w.1)), tries.any (fun t => match t.2 with | some w => w.2 | none => false), [], s)

/-! ### Pending emissions -/

/-- An emission made pending on a radio, under a number of its own. -/
def State.addEmission (s : State) (x : Radio) (e : Emission) : State :=
  let s := s.setRadio x { s.radio x with pend := (s.radio x).pend ++ [{ e with id := s.rf.emSeq }] }
  { s with rf := { s.rf with emSeq := s.rf.emSeq + 1 } }

/-! ### Calibration (03 R62, R65-R67, R86-R89) -/

/-- A set queued on a radio, unless it is queued already; a synthesiser calibration is also part of the set 3. -/
def State.queueCal (s : State) (x : Radio) (set : Nat) : State :=
  let r := s.radio x
  if r.cals.any (fun c => c.set == set || (set == 0 && c.set == 3)) then s
  else s.setRadio x { r with cals := r.cals ++ [{ set := set, since := s.time.aon }] }

/-- The synthesiser of a radio has just been calibrated: a calibration of it that is queued is no longer due, unless the host has asked for
it (03 R62). -/
def RadioState.synthDone (r : RadioState) (temp : Int) : RadioState :=
  { r with calTemp := some temp, cals := r.cals.filter (fun c => c.set != 0 || c.asked) }

/-- A calibration of the synthesiser is running on a radio. -/
def RadioState.synthRuns (r : RadioState) : Bool := match r.calRun with | some c => c.set == 0 || c.set == 3 | none => false

/-- A radio that holds no calibration results calibrates before its first cell (03 R89). -/
def State.firstUse (s : State) (x : Radio) : State :=
  let r := s.radio x
  if r.calibrated || r.cals.any (fun c => c.first) || (match r.calRun with | some c => c.first | none => false) then s
  else s.setRadio x { r with cals := { set := 3, since := s.time.aon, first := true } :: r.cals }

/-- A set started: the set 3 with the synthesiser (03 R88, R89). -/
def State.startCal (s : State) (x : Radio) (c : CalDue) : State :=
  let r := s.radio x
  let s := s.setRadio x { r with cals := r.cals.filter (fun d => d.set != c.set), calRun := some c }
  s.moveRadio x (if c.set = 0 ∨ c.set = 3 then .calSynth else if c.set = 2 then .calBg else .calFg) false

/-- Item numbers of a set, in table order: 0 the synthesiser, 1 to 4 foreground, 5 to 7 background (log entry 25). -/
def calItems (set : Nat) : List Nat :=
  if set = 0 then [0] else if set = 1 then [1, 2, 3, 4] else if set = 2 then [5, 6, 7] else [0, 1, 2, 3, 4, 5, 6, 7]

/-- A failed item reported (03 R87, R88). -/
def State.raiseCalFail (s : State) (x : Radio) (item fails : Nat) : State := s.raise 0x1002 [u8 x.ix, u8 item, u8 (min 255 fails)]

/-- The outcome of one foreground item: its failures in a row, its counter and event (03 R88). -/
def State.fgItem (s : State) (x : Radio) (item : Nat) (failed : Bool) : State :=
  let r := s.radio x
  let n := r.fgFails.getD (item - 1) 0
  if failed then
    ((s.setRadio x { r with fgFails := r.fgFails.set (item - 1) (n + 1) }).bump (.radio x) 10).raiseCalFail x item (n + 1)
  else s.setRadio x { r with fgFails := r.fgFails.set (item - 1) 0 }

/-- The outcome of one background item. A failed one keeps the previous results; it counts as run, also where none were stored before it
(03 R86, R87, R89; DESIGN CHOICE, log entry 179). -/
def State.bgItem (s : State) (x : Radio) (i : Nat) (failed : Bool) : State :=
  let r := s.radio x
  let b := r.bg.getD i {}
  let n := if failed then b.fails + 1 else 0
  let s := (s.setRadio x { r with bg := r.bg.set i { lastAon := some s.time.aon, lastTemp := s.rf.dieTemp, fails := n } }).bump
    (.radio x) 7
  if failed then
    let s := s.bump (.radio x) 8
    if n = s.pnat 0x1014 then (s.raiseCalFail x (5 + i) n).queueCal x 1 else s
  else s

/-- CALIBRATION_COMPLETE: the running set ends, the set 3 from CAL_BG; the bits of `failed` name the items that failed (03 R62, R88, R89). -/
def execCalibrationComplete (x : Radio) (failed us : Nat) (s : State) : Out :=
  .next (
    match (if s.awake then (s.radio x).calRun else none) with
    | none => s
    | some c =>
      if c.set = 3 ∧ (s.radio x).st ≠ .calBg then s
      else
      let items := calItems c.set
      let s := items.foldl (fun (s : State) i =>
        if i = 0 then
          let s := s.bump (.radio x) 6
          if failed.testBit 0 then s
          else s.setRadio x { (s.radio x).synthDone s.rf.dieTemp with failed := false }
        else if i ≤ 4 then s.fgItem x i (failed.testBit i)
        else s.bgItem x (i - 5) (failed.testBit i)) s
      let s := if c.set = 1 ∨ c.set = 3 then
          (s.setRadio x { s.radio x with fgDone := true }).bump (.radio x) 9
        else s
      let s := s.setRadio x { s.radio x with calRun := none }
      let s := s.moveRadio x .standby false
      let passed := (items.filter (fun i => !failed.testBit i)).foldl (fun m i => m + 2 ^ i) 0
      s.raise 0x1001 [u8 x.ix, u8 c.set, u8 passed, u32 us])

/-! ### Sensors and transitions -/

/-- A synthesiser calibration falls due after a temperature move (03 R62). -/
def State.tempCheck (s : State) (x : Radio) : State :=
  let r := s.radio x
  if r.st = .off then s
  else
    match r.calTemp with
    | none => s
    | some t => if 10 * s.pnat 0x1010 < (s.rf.dieTemp - t).natAbs && !r.synthRuns then s.queueCal x 0 else s

/-- The first sample after a NAP: a radio in use whose foreground results are kept takes the foreground set again where the temperature
has moved past the calibration step meanwhile (01 R18). -/
def State.napCheck (s : State) (x : Radio) : State :=
  match s.rf.napTemp with
  | some t =>
    if 10 * s.pnat 0x1010 < (s.rf.dieTemp - t).natAbs && (s.radio x).fgDone && (s.netRuns x || s.hasMember x) then s.queueCal x 1 else s
  | none => s

/-- DIE_TEMP_SAMPLE, in 0.1 °C (01 R18, 03 R62, R70). -/
def execDieTempSample (temp : Int) (s : State) : Out :=
  .next (
    if s.awake then
      let s := [Radio.lb, .mb, .hb].foldl (fun (s : State) x => (s.tempCheck x).napCheck x) { s with rf := { s.rf with dieTemp := temp } }
      { s with rf := { s.rf with napTemp := none } }
    else s)

/-- PA_SUPPLY_SAMPLE: VDD_PA_LB and VDD_PA_HI in mV (03 R70). -/
def execPaSupplySample (lb hi : Nat) (s : State) : Out :=
  .next (
    if s.awake then
      ((s.setRadio .lb { s.radio .lb with paMv := lb }).setRadio .mb { s.radio .mb with paMv := hi }).setRadio .hb
        { s.radio .hb with paMv := hi }
    else s)

/-- A radio carries nothing: no network, span member or calibration (03 transceiver states). -/
def State.radioUnused (s : State) (x : Radio) : Bool :=
  !s.netRuns x && !s.hasMember x && !s.hasTest x && (s.radio x).calRun.isNone && (s.radio x).cals.isEmpty

/-- The set 3 is running on a radio: CAL_SYNTH, then CAL_FG, then CAL_BG (03 R88, R89). -/
def RadioState.runsAll (r : RadioState) : Bool := match r.calRun with | some c => c.set == 3 | none => false

/-- Whether a transceiver may go from its state to another, when asked by the slot engine or the calibration sequencer. -/
def State.mayMove (s : State) (x : Radio) (target : RState) : Bool :=
  let r := s.radio x
  s.board.isSome && s.awake &&
  match target with
  | .off => s.radioUnused x && r.group.isNone
  | .standby => r.st != .tx && r.calRun.isNone
  | .settle => r.st == .standby || r.st == .rx
  | .rx => r.st == .rx || ((r.st == .settle || (r.st == .calBg && r.calRun.isNone)) && r.verified && !r.resume)
  | .calFg => r.st == .calSynth && r.runsAll
  | .calBg => r.st == .calFg && r.runsAll
  | .tx | .calSynth => false

/-- TRANSITION_DONE: a move to OFF, STANDBY, SETTLE or RX is complete, or the set 3 goes from one part to the next, with the synthesiser
locked again after its foreground items; TX is entered by an emission and the calibration states otherwise by their own rows (03 R60,
R88). The first lock after a reset needs a synthesiser calibration (R62). -/
def execTransitionDone (x : Radio) (target : RState) (s : State) : Out :=
  .next (
    if s.mayMove x target then
      let s := s.moveRadio x target false
      if target = .settle ∧ (s.radio x).calTemp.isNone ∧ (s.radio x).calRun.isNone then s.queueCal x 0
      else if target = .calBg then s.setRadio x { s.radio x with locked := true, verified := true, lockedAt := some s.now }
      else s
    else s)

/-- SYNTH_LOCK_VERIFIED (03 R61). -/
def execSynthLockVerified (x : Radio) (s : State) : Out :=
  .next (
    let r := s.radio x
    if s.awake ∧ (r.st = .settle ∨ r.st = .rx) ∧ r.relock.isNone ∧ r.calTemp.isSome then
      s.setRadio x { r with locked := true, verified := true, lockedAt := if r.locked && r.verified then r.lockedAt else some s.now }
    else s)

/-- An emission on the air cut short: muted or ramped down with a status; its end still charges it whole (08 R239). -/
def State.cutGroup (s : State) (x : Radio) (status : Nat) : State :=
  match (s.radio x).group with
  | some g => s.setRadio x { s.radio x with group := some { g with cut := some status } }
  | none => s

/-- What a plan serves: its cells, and the span cell. -/
def SlotPlan.served (p : SlotPlan) : Nat := p.cells.length + (if p.span.isSome then 1 else 0)

/-- The cells in progress on a radio: those of its timeslot, or, without a network, its sub-event (01 R22, 03 R67). -/
def State.cellsInProgress (s : State) (x : Radio) : Nat :=
  match s.netRuns x, x.net?.bind (fun n => (s.net n).cur) with
  | true, some p => p.served
  | true, none => 0
  | false, _ => (s.spans.filter (fun q => match tfind q.2.members x.ix with | some m => m.inSub | none => false)).length

/-- A synthesiser out of lock: the PA is muted, the lanes are blanked, the fault is logged (an injected one with `extra`) and the
re-lock starts; from TX the FEM lines other than the PA lines follow by the lag (03 R61, R67, R75, 17 R462). The emission's status is
SYNTH_NOT_READY: the spec gives it a counter and no status (DESIGN CHOICE, log entry 176). -/
def State.unlockSynth (s : State) (x : Radio) (extra : Nat) : State :=
  let r := s.radio x
  if !r.locked || r.relock.isSome || !s.awake then s
  else
    let s := (s.bump (.radio x) 5).logFault (6 + extra) x.ix 0
    let s := match r.group with
      | some g => if g.onAir then (s.bump (.radio x) 4).cutGroup x stSynthNotReady else s
      | none => s
    let lost := s.cellsInProgress x
    let s := s.blankLanes x (.bb x) 10
    s.setRadio x { s.radio x with
      locked := false, verified := false, relock := some (r.st, lost), blanked := true, blankAt := if r.blanked then r.blankAt else some s.now, st := .settle,
      fem := femStandby
      femTail := if r.st == .tx then (s.femOf x).map (fun f => (r.fem, s.now + (500 * f.lag : Nat))) else r.femTail }

/-- SYNTH_UNLOCK (03 R61, R67). -/
def execSynthUnlock (x : Radio) (s : State) : Out := .next (s.unlockSynth x 0)

/-- SYNTH_RELOCK_DONE: 0 re-locked, 1 calibrated and re-locked, 2 failed. A radio that has re-locked stays blanked in SETTLE until its
next cell (01 R22, 03 R67). -/
def execSynthRelockDone (x : Radio) (result : Nat) (s : State) : Out :=
  .next (
    match (if s.awake then (s.radio x).relock else none) with
    | none => s
    | some (was, lost) =>
      let result := min 2 result
      let r := { s.radio x with relock := none }
      let s :=
        if result = 2 then
          ((s.setRadio x { r with failed := true }).startCal x { set := 0, since := s.time.aon }).queueCal x 1
        else
          let s := s.setRadio x { r with locked := true, verified := true, resume := true }
          if result = 1 then (s.setRadio x ((s.radio x).synthDone s.rf.dieTemp)).bump (.radio x) 6 else s
      s.raise 0x1003 [u8 x.ix, u8 was.code, u8 result, u16 lost])

/-! ### Thaw (03 R90-R93, 16 R455) -/

/-- The wake latch takes a source; the state it was latched in is kept with the first. A source of the table whose mask bit is set
ends DOZE, and is counted (16 R450, R456). -/
def State.latchWake (s : State) (bit : Nat) : State :=
  let first := match s.pwr.latchState with | some p => some p | none => some s.sys.pstate
  let s := { s with pwr := { s.pwr with latch := s.pwr.latch ||| 2 ^ bit, latchState := first } }
  if s.sys.pstate = .doze ∧ bit < 5 ∧ (s.pnat 0xE007).testBit bit then (s.bump .pwr (8 + bit)).leaveDoze else s

/-- The Thaw parameters in force. -/
def State.thawSet (s : State) : ThawSet := ⟨s.pbool 0x1050, s.pnat 0x1052, s.pnat 0x1053, s.pnat 0x1054, s.pnat 0x1055⟩

/-- The Thaw parameters that were in force at a time of the always-on counter, up to 32 ms back (03 R97). -/
def State.thawAt (s : State) (t : Nat) : ThawSet :=
  match (s.rf.thaw.past.filter (fun p => decide (t < p.1))).getLast? with
  | some p => p.2
  | none => s.thawSet

/-- A Thaw parameter is about to change: the values that end now are kept for the frames that have begun (03 R97). -/
def State.keepThaw (s : State) : State :=
  let t := s.slowNs
  { s with rf := { s.rf with thaw := { s.rf.thaw with
      past := (t, s.thawSet) :: s.rf.thaw.past.filter (fun p => decide (t ≤ p.1 + 32000000)) } } }

/-- Length of a Thaw frame in ns by its rate (03 R91). -/
def thawNs (rate : Nat) : Nat := if rate = 0 then 32000000 else 8000000

/-- The start of a Thaw frame that ends now, and the parameters it is matched by: those of its start (03 R91, R97). -/
def State.thawFrame (s : State) : Nat × ThawSet :=
  let v := s.thawAt (s.slowNs - thawNs (s.pnat 0x1052))
  let start := s.slowNs - thawNs v.rate
  (start, s.thawAt start)

/-- A Thaw address matches: one of the two parameters, 0xFFFF matching nothing. -/
def ThawSet.matches (v : ThawSet) (addr : Nat) : Bool := addr != 0xFFFF && (addr == v.wake || addr == v.group)

/-- A Thaw frame that began at `start` is not matched: the receiver is off, or LB was transmitting or a retune ran during it
(03 R80, R90, R93). -/
def State.thawDeaf (s : State) (start : Nat) (v : ThawSet) : Bool :=
  s.sys.hold.held || s.sys.pstate == .off || !v.enable || s.rf.thaw.blanked || s.ramping .lb
    || decide (start < s.rf.thaw.blankTill) || decide (start < s.rf.thaw.retuneTill)

/-- THAW_FRAME_RX: a complete frame of 64 bits, as its four fields (03 R91, R92). -/
def execThawFrameRx (sync addr cmd check : Nat) (s : State) : Out :=
  .next (
    let f := s.thawFrame
    if s.thawDeaf f.1 f.2 || sync != 0x6E29 then s
    else if crc8 0 (beBytes 2 addr ++ u8 cmd) ≠ check then s.bump .thaw 2
    else if f.2.matches addr then
      let s := if s.pwr.thawPending then s.bump .thaw 4 else s
      let s := (s.bump .thaw 1).latchWake 2
      { s with pwr := { s.pwr with thawAddr := addr, thawCmd := cmd, thawRate := f.2.rate, thawPending := true } }.reportThaw
    else s.bump .thaw 3)

/-- The stage retuned: when, at what temperature, and until when (03 R93; its length within 1.5 ms is not stated: log entry 140). -/
def State.retuneThaw (s : State) : State :=
  { s with rf := { s.rf with thaw := { s.rf.thaw with
      retunedAon := s.time.aon, retunedTemp := s.rf.dieTemp, retuneTill := s.slowNs + Config.retuneNs % 1500001 } } }

/-- A retune is due: the period has passed, or the die temperature has moved by 10 °C. The period is that of a frame that ends now, so that a
change waits for the next frame (03 R93, R97). -/
def State.retuneDue (s : State) : Bool :=
  decide (s.rf.thaw.retunedAon + 32768 * s.thawFrame.2.retune ≤ s.time.aon) || decide (100 ≤ (s.rf.dieTemp - s.rf.thaw.retunedTemp).natAbs)

/-- THAW_RETUNE (03 R93). -/
def execThawRetune (s : State) : Out := .next (if s.retuneDue then s.retuneThaw else s)

/-! ### Commands (03 R94-R96) -/

def rfStatusBody : Body := fun q s =>
  match Radio.ofNat? (q.nat 1) with
  | none => (naming stRange 1, s)
  | some x =>
    let r := s.radio x
    (okReply [tlvN 2 1 r.st.code, ⟨3, boolByte r.locked⟩, ⟨4, leInt 2 s.rf.dieTemp⟩, ⟨5, leInt 2 (r.calTemp.getD 0)⟩,
      tlvN 6 2 r.paMv, tlvN 7 1 (flag r.calTemp.isSome 0 + flag r.fgDone 1 + flag (r.bg.all (fun b => b.lastAon.isSome)) 2)], s)

/-- RF_STATUS_GET (03 R94). -/
def execRfStatusGet (ch : Nat) (s : State) : Out :=
  .next (s.serve ch 0x1002 { rows := [{ ty := 1, len := .exact 1 }] } rfStatusBody)

def rfCountersBody : Body := fun q s =>
  if 1 < q.nat 2 then (naming stRange 2, s)
  else if q.nat 1 = 3 then countersReply s .thaw 4 (q.nat 2 == 1)
  else
    match Radio.ofNat? (q.nat 1) with
    | none => (naming stRange 1, s)
    | some x => countersReply s (.radio x) 16 (q.nat 2 == 1)

/-- RF_COUNTERS_GET (03 R96). -/
def execRfCountersGet (ch : Nat) (s : State) : Out := .next (s.serve ch 0x1003 radioClearSpec rfCountersBody)

def testTxSpec : TlvSpec := { rows := [{ ty := 1, len := .exact 1 }, { ty := 2, len := .exact 4 }, { ty := 3, len := .exact 2 },
  { ty := 4, len := .exact 1 }, { ty := 5, len := .exact 4 }] }

/-- The PHY mode of a test emission with modulation: that of the radio's network; HB has none (03 R94). -/
def State.testMode (s : State) (x : Radio) (pattern : Nat) : Option Nat :=
  if pattern = 0 then none else x.net?.map (fun n => s.netMode n)

/-- The test emission as a pending one: from both ports of HB (03 R57). Its nominal start is the first moment at which the radio can key;
the rules list none (DESIGN CHOICE, log entry 177). -/
def State.testEmission (s : State) (x : Radio) (khz : Nat) (power : Int) (pattern ms : Nat) : Emission :=
  { id := s.rf.emSeq, owner := .test, cls := 5, nominal := s.now + s.keyNs x, sync := false, khz := khz, mode := s.testMode x pattern,
    chains := if x = .hb then 2 else 1, air := 3000000 * ms, power := power, lane := 0 }

/-- RF_TEST_TX: the checks, then ablation and the power decision, then the group that the emission forms; on a radio that must calibrate
first the emission stays pending for its plan lock (03 R89, R94). The oscillator goes to the test frequency (R58). The power answered is
rounded down to whole quarters of a dB, and a second test on the radio answers ERR_STATE: the rule names neither (DESIGN CHOICE, log
entry 178). -/
def testTxBody : Body := fun q s =>
  match Radio.ofNat? (q.nat 1) with
  | none => (naming stRange 1, s)
  | some x =>
    if !inBand x (q.nat 2) then (naming stRange 2, s)
    else if 1 < q.nat 4 then (naming stRange 4, s)
    else if q.nat 5 = 0 ∨ 10000 < q.nat 5 then (naming stRange 5, s)
    else if (s.femOf x).isNone then (plain stNotDeclared, s)
    else if s.netRuns x || s.hasMember x || s.hasTest x then (plain stState, s)
    else
      let s := s.firstUse x
      let e := s.testEmission x (q.nat 2) (q.int 3) (q.nat 4) (q.nat 5)
      let (adm, s) := State.project [e] [] s
      let (cs, ext, _, s) := State.decidePower x 2 adm s
      match cs with
      | [] => (plain stAblated, s)
      | c :: _ =>
        let s := s.tune x (q.nat 2)
        if (s.radio x).calibrated then
          let s := s.setRadio x { s.radio x with group := some { carriers := cs, start := e.nominal, due := e.nominal, extPa := ext } }
          let s := { s with rf := { s.rf with emSeq := s.rf.emSeq + 1 } }.watchSubs
          (okReply [⟨6, leInt 2 (c.applied / 250)⟩], s)
        else (okReply [⟨6, leInt 2 (c.applied / 250)⟩], s.addEmission x e)

def execRfTestTx (ch : Nat) (s : State) : Out := .next (s.serve ch 0x1004 testTxSpec testTxBody)

end Sys2Proof.Machine
end

