-- ==== Sys2Proof/Machine/FirnOps.lean ====
section
/-! DEFINITION. Firn's shared operations: contexts, slots, loads and evictions, the replay check, the images and their
restore (09). -/

namespace Sys2Proof.Machine

def stCtxUnassigned : Nat := 0x6101
def stPinLimit : Nat := 0x6102
def stCtxCells : Nat := 0x6103
def stCtxInUse : Nat := 0x6104
def stCtxAssigned : Nat := 0x6105

/-! ### Contexts and the address index (09 R249, R253) -/

def State.ctx? (s : State) (c : Nat) : Option Ctx := tfind s.firn.ctxs c

def State.setFirn (s : State) (f : Firn) : State := { s with firn := f }

/-- Context number of an extended address. -/
def State.ctxOfEui (s : State) (eui : Nat) : Option Nat := (s.firn.ctxs.find? (fun p => p.2.eui == eui)).map (fun p => p.1)

/-- Context number of a network and short address; 0xFFFE names none. -/
def State.ctxOfShort (s : State) (net short : Nat) : Option Nat :=
  if short = 0xFFFE then none
  else (s.firn.ctxs.find? (fun p => p.2.net == net && p.2.short == short)).map (fun p => p.1)

/-- The cells that name a context, by rising ID. -/
def State.ctxCells (s : State) (c : Nat) : List Nat := (s.cells.filter (fun p => p.2.ctx == c)).map (fun p => p.1)

def Ctx.queue (x : Ctx) (cls : Nat) : List QFrame := tget [] x.queues cls

/-- The classes with queued frames, as bits [3:0]. -/
def Ctx.qmask (x : Ctx) : Nat := (List.range 4).foldl (fun m k => m + flag (!(x.queue k).isEmpty) k) 0

/-- The highest non-empty class (06 R178). -/
def Ctx.topClass (x : Ctx) : Option Nat := (List.range 4).find? (fun k => !(x.queue k).isEmpty)

/-! ### Cache slots (09 R256-R265) -/

/-- The cache slot that a resident context has. -/
def State.slotOf (s : State) (c : Nat) : Option Nat :=
  (s.firn.slots.find? (fun p => p.2.ctx == c && !p.2.evicted)).map (fun p => p.1)

def State.resident (s : State) (c : Nat) : Bool := (s.slotOf c).isSome

/-- Slot `k` holds no context, no load and no write-back. -/
def State.slotFree (s : State) (k : Nat) : Bool :=
  (match tfind s.firn.slots k with | some x => x.evicted && !x.writing | none => true)
    && !s.firn.loads.any (fun l => l.slot == some k)

def State.freeSlots (s : State) : List Nat := (List.range 512).filter (fun k => s.slotFree k)

/-- A slot's record changed. -/
def State.modSlot (s : State) (k : Nat) (f : FirnSlot → FirnSlot) : State :=
  match tfind s.firn.slots k with
  | some x => s.setFirn { s.firn with slots := tset s.firn.slots k (f x) }
  | none => s

/-- A context changed; its cache copy then differs from its home. -/
def State.modCtx (s : State) (c : Nat) (f : Ctx → Ctx) : State :=
  match s.ctx? c with
  | none => s
  | some x =>
    let s := s.setFirn { s.firn with ctxs := tset s.firn.ctxs c (f x) }
    match s.slotOf c with
    | some k => s.modSlot k (fun v => { v with dirty := true })
    | none => s

/-- `n` added to per-context counter `i` (09 R251). -/
def State.ctxCount (s : State) (c i n : Nat) : State :=
  s.modCtx c (fun x => { x with ctrs := x.ctrs.set i (satAdd 0xFFFFFFFF (x.ctrs.getD i 0) n) })

/-- Per-context counters, by place. -/
def kRxAccepted : Nat := 0
def kRxDup : Nat := 1
def kReplay : Nat := 2
def kMicFail : Nat := 3
def kTxSent : Nat := 4
def kTxAcked : Nat := 5
def kTxRetries : Nat := 6
def kTxDropped : Nat := 7
def kMissWaits : Nat := 8
def kLoads : Nat := 9
def kRxOctets : Nat := 10
def kTxOctets : Nat := 11

/-- Contexts held, in slots and in loads (09 R257). -/
def State.heldCount (s : State) : Nat :=
  (s.firn.slots.filter (fun p => p.2.held.isSome && !p.2.evicted)).length + (s.firn.loads.filter (fun l => l.held.isSome)).length

def State.holdCap (s : State) : Nat := 512 - s.pnat 0x6001 - s.pnat 0x6002

def State.isLoading (s : State) (c : Nat) : Bool := s.firn.loads.any (fun l => l.ctx == c)

/-- An eviction whose slot is not yet reused is cancelled, so the context is resident again (09 R265); `touch` sets its reference bit,
which a host command leaves unchanged (R264). -/
def State.revive (s : State) (c : Nat) (touch : Bool) : Option State :=
  match s.firn.slots.find? (fun p => p.2.ctx == c && p.2.evicted) with
  | some (k, _) => some (s.modSlot k (fun v => { v with evicted := false, writing := false, ref := v.ref || touch }))
  | none => none

/-- A load asked for: a miss load ahead of the lookahead loads (09 R258). -/
def State.askLoad (s : State) (c : Nat) (miss : Bool) (held : Option Nat) : State :=
  let s := s.setFirn { s.firn with loads := s.firn.loads ++ [{ ctx := c, miss := miss, held := held }] }
  s.bump .firn (if miss then 4 else 3)

/-- The next load to start. -/
def State.nextLoad (s : State) : Option FirnLoad :=
  match s.firn.loads.find? (fun l => l.miss && l.started.isNone) with
  | some l => some l
  | none => s.firn.loads.find? (fun l => l.started.isNone)

def State.modLoad (s : State) (c : Nat) (f : FirnLoad → FirnLoad) : State :=
  s.setFirn { s.firn with loads := s.firn.loads.map (fun l => if l.ctx = c then f l else l) }

/-- A load for FIRN_PIN or for a pinned context, with the channels that wait for it: it joins one that is asked for, and goes ahead of
the lookahead loads, counted neither as theirs nor as a miss's (DESIGN CHOICE: log entry 190; 09 R258, R267). -/
def State.pinLoad (s : State) (c : Nat) (chans : List Nat) : State :=
  if s.isLoading c then s.modLoad c (fun l => { l with owners := l.owners ++ chans })
  else s.setFirn { s.firn with loads := s.firn.loads ++ [{ ctx := c, miss := true, owners := chans }] }

/-- The channels whose FIRN_PIN waits for a context's load. -/
def State.pinOwners (s : State) (c : Nat) : List Nat := (s.firn.loads.filter (fun l => l.ctx == c)).flatMap (fun l => l.owners)

/-- A pinned context made resident: at once where its eviction can be cancelled, else by a load; its slot, if it has one (09 R267). -/
def State.pinResident (s : State) (c : Nat) (chans : List Nat) : Option Nat × State :=
  match s.slotOf c with
  | some k => (some k, s)
  | none =>
    match s.revive c false with
    | some s => (s.slotOf c, s)
    | none => (none, s.pinLoad c chans)

/-- The channels that waited for a load answered with the slot. -/
def State.answerPins (s : State) (chans : List Nat) (k : Nat) : State :=
  chans.foldl (fun (s : State) ch => s.release ch stOk [tlvN 4 2 k]) s

/-- The later of a hold and the end of an ASN's timeslot. -/
def laterHold (h : Option Nat) (asn : Nat) : Nat :=
  match h with
  | some u => if 0 < sdiff 40 u asn then u else asn
  | none => asn

/-- A context, or its load, held to the end of an ASN at least; a new hold only while the cap allows one (09 R256, R257). -/
def State.holdCtx (s : State) (c asn : Nat) : State :=
  let room := decide (s.heldCount < s.holdCap)
  match s.slotOf c with
  | some k => s.modSlot k (fun v => if room || v.held.isSome then { v with held := some (laterHold v.held asn) } else v)
  | none => s.modLoad c (fun l => if room || l.held.isSome then { l with held := some (laterHold l.held asn) } else l)

/-- A slot is locked from its frame's header match to the end of its checks (09 R264). -/
def State.ctxLocked (s : State) (c : Nat) : Bool :=
  s.bb.lanes.any (fun p => match p.2.frame with | some f => f.matched && f.ctx == some c | none => false)
    || s.bb.checks.any (fun k => k.ctx == c && !k.waits)

/-- A slot that the clock hand passes over. -/
def State.slotKept (s : State) (x : FirnSlot) : Bool :=
  x.evicted || x.held.isSome || s.ctxLocked x.ctx || (match s.ctx? x.ctx with | some c => c.pinned | none => false)

/-- The clock hand advanced until it evicts a context, over at most `fuel` slots (09 R264). -/
def State.sweepHand : Nat → State → State
  | 0, s => s
  | fuel + 1, s =>
    let k := s.firn.hand % 512
    let s := s.setFirn { s.firn with hand := (k + 1) % 512 }
    match tfind s.firn.slots k with
    | none => State.sweepHand fuel s
    | some x =>
      if s.slotKept x then State.sweepHand fuel s
      else if x.ref then State.sweepHand fuel (s.modSlot k (fun v => { v with ref := false }))
      else (s.modSlot k (fun v => { v with evicted := true, writing := v.dirty, ref := false })).bump .firn 7

def State.evictOne (s : State) : State := State.sweepHand 1024 s

/-- A write-back completes (09 R265). -/
def State.wroteBack (s : State) (k : Nat) : State :=
  match tfind s.firn.slots k with
  | some x => if x.writing then (s.modSlot k (fun v => { v with writing := false, dirty := false })).bump .firn 8 else s
  | none => s

/-- Context `c` placed in slot `k`, resident and referenced. -/
def State.placeCtx (s : State) (c k : Nat) (held : Option Nat) : State :=
  (s.setFirn { s.firn with
    loads := s.firn.loads.filter (fun l => l.ctx != c)
    slots := tset s.firn.slots k { ctx := c, held := held } }).ctxCount c kLoads 1

/-! ### The replay check (09 R254) -/

inductive ReplayVerdict where
  | accept | dup | reject
  deriving DecidableEq, Repr

/-- The verdict on counter `c`, with the high and map it leaves. Without a high, any counter is the first (06 R185). -/
def replayCheck (high : Option Nat) (map c : Nat) : ReplayVerdict × Option Nat × Nat :=
  match high with
  | none => (.accept, some c, 0)
  | some h =>
    if h < c then (.accept, some c, if 33 ≤ c - h then 0 else ((2 * map + 1) * 2 ^ (c - h - 1)) % 2 ^ 32)
    else if c = h then (.dup, high, map)
    else if c + 33 ≤ h then (.reject, high, map)
    else if map.testBit (h - 1 - c) then (.dup, high, map)
    else (.accept, high, map + 2 ^ (h - 1 - c))

/-! ### Images (09 R270-R273) -/

/-- The image of an unassigned context. -/
def noImage : FirnImage :=
  { eui := 0, keyA := 0, keyB := 0xFFFF, highA := 0, highB := 0, level := 0, offset := 0, drift := 0, joined := false,
    levelOk := false, offsetOk := false, txB := false, net := 0xFF }

def Ctx.image (x : Ctx) : FirnImage :=
  { eui := x.eui, keyA := x.keyA, keyB := x.keyB, highA := x.highA.getD 0, highB := x.highB.getD 0, level := x.level.getD 0,
    offset := x.offset.getD 0, drift := x.drift, joined := x.joined, levelOk := x.level.isSome, offsetOk := x.offset.isSome,
    txB := x.txB, net := x.net }

/-- The image record that holds a context (09 R270). -/
def imageRecord (c : Nat) : Nat := 0x0410 + c / 128

/-- A context's image in NV. -/
def State.nvImage (s : State) (c : Nat) : Option FirnImage :=
  match s.nvData (imageRecord c) with
  | some (.images l) => tfind l c
  | _ => none

/-- The entries of an image record as captured now. -/
def State.imagesOf (s : State) (id : Nat) : NvData :=
  .images ((s.firn.ctxs.filter (fun p => imageRecord p.1 == id)).map (fun p => (p.1, p.2.image)))

/-- The contexts with an image: those assigned, and those whose image in NV outlives their release (09 R269). -/
def State.imageKeys (s : State) : List Nat :=
  let nv := (List.range 32).flatMap (fun i =>
    match s.nvData (0x0410 + i) with
    | some (.images l) => l.map (fun p => p.1)
    | _ => [])
  s.firn.ctxs.map (fun p => p.1) ++ nv.filter (fun c => (s.ctx? c).isNone)

/-- A context's image is stale: it differs from the one in NV (09 R271; log entry 26). That of a released context is, until its record
is written without it (R269). -/
def State.imageStale (s : State) (c : Nat) : Bool := s.nvImage c != (s.ctx? c).map Ctx.image

/-- The advance of a context since the image in NV; none where it is unknown (09 R272). -/
def State.advance (s : State) (c : Nat) : Option Nat :=
  match s.ctx? c, s.nvImage c with
  | some x, some i =>
    let j := x.image
    if j.eui ≠ i.eui ∨ j.net ≠ i.net ∨ j.keyA ≠ i.keyA ∨ j.keyB ≠ i.keyB ∨ j.txB ≠ i.txB then none
    else if j.highA < i.highA ∨ j.highB < i.highB then none
    else
      let v := (j.highA - i.highA) + (j.highB - i.highB)
      if 0xFFFD < v then none else some v
  | _, _ => none

/-- A context's image must be written within 1 s (09 R271). -/
def State.imageUrgent (s : State) (c : Nat) : Bool :=
  match s.ctx? c, s.nvImage c with
  | some x, some i =>
    decide (x.eui ≠ i.eui ∨ x.keyA ≠ i.keyA ∨ x.keyB ≠ i.keyB ∨ x.txB ≠ i.txB ∨ x.joined ≠ i.joined)
      || (match s.advance c with | some v => decide (s.pnat 0x6004 ≤ v) | none => true)
  | some _, none => true
  | none, i => i.isSome

/-- The write under way has captured the context's image as it stands, so nothing is left to write for it (09 R271). -/
def State.imageTaken (s : State) (c : Nat) : Bool :=
  match s.nv.busy with
  | some w => w.id == imageRecord c && (match w.data with | some (.images l) => tfind l c == (s.ctx? c).map Ctx.image | _ => false)
  | none => false

/-- The image records with a context that satisfies a test, rising. -/
def State.imageRecords (s : State) (f : Nat → Bool) : List Nat :=
  let recs := ((s.imageKeys.filter f).map imageRecord)
  ((List.range 32).map (fun i => 0x0410 + i)).filter (fun r => recs.contains r)

/-- The final summary: every advance as it stands, 0xFFFF where it is unknown (09 R273). -/
def State.finalSummary (s : State) : NvData :=
  .summary (some (s.firn.ctxs.map (fun p => (p.1, (s.advance p.1).getD 0xFFFF))))

/-- The summary in NV, or the one being written, is final (09 R273, R274). -/
def State.summaryFinal (s : State) : Bool :=
  (match s.nvData 0x0400 with | some (.summary (some _)) => true | _ => false)
    || (match s.nv.busy with | some w => w.id == 0x0400 && (match w.data with | some (.summary (some _)) => true | _ => false) | none => false)

/-- A write of the void summary requested, unless one is queued or under way (09 R273). -/
def State.voidSummary (s : State) (owners : List NvOwner) : State :=
  s.pushNv { id := 0x0400, data := some (.summary none), size := recSize 0x0400, urgent := false, owners := owners }

def State.voidUnderWay (s : State) : Bool :=
  (s.nv.queue ++ (match s.nv.busy with | some w => [w] | none => [])).any (fun w => w.id == 0x0400 && w.data == some (.summary none))

/-- A final summary requested; its content is taken when the write starts. -/
def State.askFinal (s : State) (owners : List NvOwner) : State := s.recordFor 0x0400 false owners

/-- The final summary of FIRN_SYNC, behind every write that is queued: one of the summary that is queued already goes on as this one
(09 R276, 15 R441). -/
def State.askFinalLast (s : State) (owners : List NvOwner) : State :=
  let (old, rest) := s.nv.queue.partition (fun w => w.id == 0x0400)
  let w : NvWrite := {
    id := 0x0400
    data := none
    size := recSize 0x0400
    urgent := old.any (fun x => x.urgent)
    owners := old.flatMap (fun x => x.owners) ++ owners }
  { s with nv := { s.nv with queue := rest ++ [w] } }

/-! ### Assignment and restore (09 R253, R259, R275) -/

/-- A context as assigned: identity and key slot A set, all else clear (09 R253). -/
def newCtx (eui short net keyA : Nat) (sleepy : Bool) : Ctx :=
  { eui := eui, short := short, net := net, sleepy := sleepy, keyA := keyA }

/-- An address or a context bound otherwise: the extended address, or the short one on its network, to another context, or the context
to another address (09 R253). -/
def State.bindConflict (s : State) (eui net short c : Nat) : Bool :=
  (match s.ctxOfEui eui with | some d => d != c | none => (s.ctx? c).isSome)
    || (match s.ctxOfShort net short with | some d => d != c | none => false)

def State.pinnedCount (s : State) : Nat := (s.firn.ctxs.filter (fun p => p.2.pinned)).length

/-- Every counter up to the high counts as accepted. -/
def fullMap : Nat := 2 ^ 32 - 1

/-- What a restore gives one context: the advance `v` of the summary in force, none where it is void or unknown; the
context, and whether its replay state came back (09 R275). -/
def restoreCtx (x : Ctx) (i : Option FirnImage) (v : Option Nat) : Ctx × Bool :=
  match i with
  | none => (x, false)
  | some i =>
    if i.eui ≠ x.eui ∨ i.keyA ≠ x.keyA then (x, false)
    else
      let x := { x with
        level := if i.levelOk then some i.level else none
        offset := if i.offsetOk then some i.offset else none
        drift := i.drift
        keyB := i.keyB
        txB := i.txB }
      match v with
      | some v =>
        ({ x with
            joined := i.joined, highA := some (i.highA + v), mapA := fullMap, highB := some (i.highB + v), mapB := fullMap },
          i.joined)
      | none => (x, false)

/-- The advance that the summary in NV gives a context; none for an unknown or void value. -/
def State.summaryValue (s : State) (c : Nat) : Option Nat :=
  match s.nvData 0x0400 with
  | some (.summary (some l)) => (match tfind l c with | some v => if v = 0xFFFF then none else some v | none => none)
  | _ => none

/-- A context freed with all that its record holds, its loads and its slot; a FIRN_PIN that waits for its load answers that it is
unassigned (09 R269; log entry 190). -/
def State.dropCtx (s : State) (c : Nat) : State :=
  let s := (s.pinOwners c).foldl (fun (s : State) ch => s.release ch stCtxUnassigned []) s
  s.setFirn { s.firn with
    ctxs := tdel s.firn.ctxs c
    slots := s.firn.slots.filter (fun p => p.2.ctx != c)
    loads := s.firn.loads.filter (fun l => l.ctx != c) }

/-- The lanes whose frame waits for a context's load while it is still in reception (09 R260). -/
def State.waitingLanes (s : State) (c : Nat) : List Nat :=
  (s.bb.lanes.filter (fun p => match p.2.frame with | some f => f.ctx == some c && !f.matched | none => false)).map (fun p => p.1)

/-- Frames in the miss queue that wait for a context. -/
def State.waitingFrames (s : State) (c : Nat) : Nat :=
  (s.waitingLanes c).length + (s.bb.checks.filter (fun k => k.ctx == c && k.waits)).length

/-- Frames that wait for a context's load, discarded (09 R259, R269). -/
def State.dropWaiting (s : State) (c : Nat) : State :=
  (s.waitingLanes c).foldl (fun (s : State) l => s.dropFrame l)
    ((s.bb.checks.filter (fun k => k.ctx == c && k.waits)).foldl (fun (s : State) k => s.endCheck k.id) s)

/-- The image of a context that bears its extended address. -/
def State.ownImage (s : State) (c eui : Nat) : Option FirnImage := (s.nvImage c).filter (fun i => i.eui == eui)

/-- Key slot A of a rebuilt context: that of its image; the index entry names none, so without an image it is a free value (log entry
188). -/
def State.rebuiltKey (s : State) (c eui : Nat) : Nat × State :=
  match s.ownImage c eui with
  | some i => (i.keyA, s)
  | none => let (k, s) := s.draw; (k % 8192, s)

/-- A corrupt context rebuilt from its index entry and image, with its replay state cleared; queues, cells and host area are
lost (09 R259). A pinned one is loaded again, which also serves a FIRN_PIN that waits (R267; log entry 190). -/
def State.corruptCtx (s : State) (c : Nat) : State :=
  match s.ctx? c with
  | none => s
  | some x =>
    let chans := s.pinOwners c
    let (k, s) := s.rebuiltKey c x.eui
    let y := (restoreCtx { newCtx x.eui x.short x.net k x.sleepy with pinned := x.pinned } (s.ownImage c x.eui) none).1
    let s := s.dropWaiting c
    let s := { s with cells := s.cells.filter (fun p => p.2.ctx != c) }
    let s := s.setFirn { s.firn with
      ctxs := tset s.firn.ctxs c { y with corrupt := true }
      slots := s.firn.slots.filter (fun p => p.2.ctx != c)
      loads := s.firn.loads.filter (fun l => l.ctx != c) }
    let s := if x.pinned || !chans.isEmpty then s.pinLoad c chans else s
    (s.bump .firn 16).raise 0x6004 [u16 c]

/-! ### Misses (09 R260-R263) -/

/-- Frames in the miss queue: in reception on lanes, or after their end. -/
def State.missDepth (s : State) : Nat :=
  (s.bb.lanes.filter (fun p => match p.2.frame with | some f => f.ctx.isSome && !f.matched | none => false)).length
    + (s.bb.checks.filter (fun k => k.waits)).length

/-- The load that a miss asks for, unless one of the context runs; a lookahead load that has not started becomes a miss load (09 R258,
R260; log entry 191). -/
def State.missLoad (s : State) (c : Nat) : State :=
  if !s.isLoading c then s.askLoad c true none
  else if s.firn.loads.any (fun l => l.ctx == c && l.started.isNone && !l.miss) then
    (s.modLoad c (fun l => { l with miss := true })).bump .firn 4
  else s

/-- A frame of context `c` waits in the miss queue; a miss load starts unless a load of it runs (09 R260). -/
def State.missFrame (s : State) (c : Nat) : State :=
  let s := (s.bump .firn 2).ctxCount c kMissWaits 1
  let s := s.setFirn { s.firn with missPeak := max s.firn.missPeak (s.missDepth + 1) }
  s.missLoad c

/-- Every frame that waited for a context proceeds (09 R260, R263). -/
def State.releaseWaiting (s : State) (c : Nat) : State :=
  { s with bb := { s.bb with
      lanes := s.bb.lanes.map (fun p => match p.2.frame with
        | some f => if f.ctx = some c then (p.1, { p.2 with frame := some { f with matched := true } }) else p
        | none => p)
      checks := s.bb.checks.map (fun k => if k.ctx = c then { k with waits := false } else k) } }

/-! ### The context as bytes (09 R250) -/

/-- A queue record; the packet buffer offsets of a queue that holds frames are free values (log entry 3). -/
def State.queueRecord (s : State) (q : List QFrame) : Bytes × State :=
  if q = [] then (u32 0xFFFFFFFF ++ u32 0xFFFFFFFF ++ u16 0 ++ u16 0 ++ u32 0, s)
  else
    let (h, s) := s.draw
    let (t, s) := if q.length = 1 then (h, s) else s.draw
    (u32 h ++ u32 t ++ u16 q.length ++ u16 0 ++ u32 ((q.map (fun f => f.octets.length)).sum), s)

def State.queueRecords (s : State) (x : Ctx) : Bytes × State :=
  (List.range 4).foldl (fun (p : Bytes × State) k => let (b, s) := p.2.queueRecord (x.queue k); (p.1 ++ b, s)) ([], s)

def Ctx.flags (x : Ctx) : Nat :=
  1 + flag x.pinned 1 + flag x.sleepy 2 + flag x.joined 3 + flag x.outSync.isSome 4 + flag x.level.isSome 5 + flag x.offset.isSome 6

/-- The 1,024 bytes of a context; the spec gives no format for its adaptation area, which is zero while nothing is in it (log
entry 3). -/
def State.ctxBytes (s : State) (c : Nat) (x : Ctx) : Bytes × State :=
  let (q, s) := s.queueRecords x
  let (ad, s) := s.drawBytes (if x.reasm = [] then 0 else 256)
  let cells := s.ctxCells c
  (u64 x.eui ++ u16 x.short ++ u16 (s.netParam (if x.net = 0 then .lb else .mb) 0x3002) ++ u8 x.net ++ u8 x.flags ++ u16 c
    ++ u16 x.keyA ++ u16 x.keyB ++ u8 x.idxA ++ u8 x.idxB ++ u8 (if x.txB then 1 else 0) ++ u8 0
    ++ u32 (x.highA.getD 0) ++ u32 x.mapA ++ u32 (x.highB.getD 0) ++ u32 x.mapB
    ++ leInt 2 (x.level.getD 0) ++ u16 0 ++ leInt 4 (x.offset.getD 0) ++ u16 x.drift ++ u8 x.narrowMiss ++ padTo 5 []
    ++ u64 (unsigned 64 (x.lastSync.getD 0)) ++ u64 x.lastAsn ++ u8 cells.length ++ padTo 7 []
    ++ (List.range 24).flatMap (fun i => u16 (cells.getD i 0xFFFF)) ++ q
    ++ (List.range 12).flatMap (fun i => u32 (x.ctrs.getD i 0)) ++ padTo 16 [] ++ padTo 256 ad ++ padTo 512 x.host, s)

/-! ### Synchronisation with a client (06 R187, R189, 04 R111) -/

/-- The client's mark of being out of sync cleared, with its event (06 R189). -/
def State.resync (s : State) (c : Nat) : State :=
  match s.ctx? c with
  | none => s
  | some x =>
    match x.outSync with
    | none => s
    | some t =>
      let s := s.modCtx c (fun x => { x with
        outSync := none
        queues := x.queues.map (fun p => (p.1, p.2.map (fun f => if f.status = 0x310B then { f with status := 0 } else f))) })
      let (secs, s) := s.roundOpen (s.now - t).toNat 1000000000
      s.raise 0x3004 [u8 x.net, u16 c, u32 secs]

/-- The client has synchronised: a frame or an acknowledgement of it was accepted (06 R187). -/
def State.syncClient (s : State) (c : Nat) : State :=
  (s.modCtx c (fun x => { x with lastSync := some s.now, syncBound := s.time.bound })).resync c

/-- An accepted frame writes its level and frequency offset (04 R111); the quarter of a difference that is no whole number of
quarter decibels rounds either way (log entry 4). -/
def State.levelUpdate (s : State) (c : Nat) (level offset : Int) (khz : Nat) : State :=
  match s.ctx? c with
  | none => s
  | some x =>
    let (v, s) := match x.fresh, x.level with
      | false, some old =>
        let d := level - old
        if d % 4 = 0 then (old + d / 4, s)
        else (old + d / 4 + (Config.free s.freeCtr % 2 : Nat), { s with freeCtr := s.freeCtr + 1 })
      | _, _ => (level, s)
    s.modCtx c (fun x => { x with level := some v, offset := some offset, offKhz := khz, fresh := false })

end Sys2Proof.Machine
end

