-- ==== Sys2Proof/Machine/Level.lean ====
section
/-! DEFINITION. Levels and power sums: powers as whole numbers, from a table of 10^(r/200) (04 R107, R121; log entry 27). -/

namespace Sys2Proof.Machine

/-- 10^(r/200) in units of 10^-12, r from 0, rounded down. -/
def powTable0 : List Nat := [
  1000000000000, 1011579454259, 1023292992280, 1035142166679, 1047128548050, 1059253725177, 1071519305237, 1083926914021,
  1096478196143, 1109174815262, 1122018454301, 1135010815672, 1148153621496, 1161448613840, 1174897554939, 1188502227437,
  1202264434617, 1216186000646, 1230268770812, 1244514611771, 1258925411794, 1273503081016, 1288249551693, 1303166778452,
  1318256738556, 1333521432163, 1348962882591, 1364583136588, 1380384264602, 1396368361055, 1412537544622, 1428893958511,
  1445439770745, 1462177174456, 1479108388168, 1496235656094, 1513561248436, 1531087461682, 1548816618912, 1566751070108,
  1584893192461, 1603245390690, 1621810097358, 1640589773199, 1659586907437, 1678804018122, 1698243652461, 1717908387157,
  1737800828749, 1757923613958]

/-- 10^(r/200) in units of 10^-12, r from 50, rounded down. -/
def powTable1 : List Nat := [
  1778279410038, 1798870915128, 1819700858609, 1840772001468, 1862087136662, 1883649089489, 1905460717963, 1927524913190,
  1949844599758, 1972422736114, 1995262314968, 2018366363681, 2041737944669, 2065380155810, 2089296130854, 2113489039836,
  2137962089502, 2162718523727, 2187761623949, 2213094709605, 2238721138568, 2264644307593, 2290867652767, 2317394649968,
  2344228815319, 2371373705661, 2398832919019, 2426610095082, 2454708915685, 2483133105295, 2511886431509, 2540972705549,
  2570395782768, 2600159563165, 2630267991895, 2660725059798, 2691534803926, 2722701308077, 2754228703338, 2786121168629,
  2818382931264, 2851018267503, 2884031503126, 2917427014001, 2951209226666, 2985382618917, 3019951720402, 3054921113215,
  3090295432513, 3126079367123]

/-- 10^(r/200) in units of 10^-12, r from 100, rounded down. -/
def powTable2 : List Nat := [
  3162277660168, 3198895109691, 3235936569296, 3273406948788, 3311311214825, 3349654391578, 3388441561392, 3427677865464,
  3467368504525, 3507518739525, 3548133892335, 3589219346450, 3630780547701, 3672823004980, 3715352290971, 3758374042884,
  3801893963205, 3845917820453, 3890451449942, 3935500754557, 3981071705534, 4027170343254, 4073802778041, 4120975190973,
  4168693834703, 4216965034285, 4265795188015, 4315190768277, 4365158322401, 4415704473533, 4466835921509, 4518559443749,
  4570881896148, 4623810213992, 4677351412871, 4731512589614, 4786300923226, 4841723675840, 4897788193684, 4954501908047,
  5011872336272, 5069907082747, 5128613839913, 5188000389289, 5248074602497, 5308844442309, 5370317963702, 5432503314924,
  5495408738576, 5559042572704]

/-- 10^(r/200) in units of 10^-12, r from 150, rounded down. -/
def powTable3 : List Nat := [
  5623413251903, 5688529308438, 5754399373371, 5821032177708, 5888436553555, 5956621435290, 6025595860743, 6095368972401,
  6165950018614, 6237348354824, 6309573444801, 6382634861905, 6456542290346, 6531305526474, 6606934480075, 6683439175686,
  6760829753919, 6839116472814, 6918309709189, 6998419960022, 7079457843841, 7161434102129, 7244359600749, 7328245331389,
  7413102413009, 7498942093324, 7585775750291, 7673614893618, 7762471166286, 7852356346100, 7943282347242, 8035261221856,
  8128305161640, 8222426499470, 8317637711026, 8413951416451, 8511380382023, 8609937521846, 8709635899560, 8810488730080,
  8912509381337, 9015711376059, 9120108393559, 9225714271547, 9332543007969, 9440608762859, 9549925860214, 9660508789898,
  9772372209558, 9885530946569]

/-- Linear power of a level in 0.05 dBm, from −200 dBm upward, in units of 10^-32 mW. -/
def linPower (u : Int) : Nat :=
  let n := (u + 4000).toNat
  (powTable0 ++ powTable1 ++ powTable2 ++ powTable3).getD (n % 200) 0 * 10 ^ (n / 200)

/-- Linear power of a level in 0.25 dBm. -/
def linQdb (q : Int) : Nat := linPower (5 * q)

/-- Linear power of a noise-floor level code, −160 dBm + v/2 (04 R121). -/
def linCode (v : Nat) : Nat := linPower (-3200 + 10 * (v : Int))

/-- The noise-floor code of a power: that of the level, or one of the two codes it lies between (log entry 4). -/
def State.codeOf (s : State) (p : Nat) : Nat × State :=
  match (List.range 255).reverse.find? (fun v => decide (linCode v ≤ p)) with
  | none => (0, s)
  | some v =>
    if linCode v = p ∨ v = 254 then (v, s) else (v + Config.free s.freeCtr % 2, { s with freeCtr := s.freeCtr + 1 })

/-- The smallest available full-scale setting at or above a power and a headroom in dB, from `lo` dBm upward in steps of 2 dB;
the power's level is rounded to 0.1 dB (04 R107; log entry 27). -/
def fullScale (lo : Int) (top : Nat) (headroom : Nat) : Int :=
  match (List.range 70).find? (fun (k : Nat) => decide (top < linPower (20 * (lo + 2 * (k : Int) - (headroom : Int)) + 1))) with
  | some k => lo + 2 * (k : Int)
  | none => lo + 140

end Sys2Proof.Machine
end

