-- ==== Sys2Proof/Machine/StageOps.lean ====
section
/-! DEFINITION. Staging sets: finding an open one and adding a write to it (02 R45). -/

namespace Sys2Proof.Machine

def State.set? (s : State) (h : Nat) : Option StageSet := tfind s.sets h

def State.putSet (s : State) (h : Nat) (x : StageSet) : State := { s with sets := tset s.sets h x }

/-- An open set: one that still takes writes. -/
def State.openSet (s : State) (h : Nat) : Option StageSet :=
  match s.set? h with
  | some x => if x.committed then none else some x
  | none => none

/-- Whether two writes are of the same parameter (02 R45). -/
def Staged.same : Staged → Staged → Bool
  | .param a _, .param b _ => a == b
  | _, _ => false

/-- One write added to a set's list: a second write of a parameter replaces the first; none where 1,024 are staged. -/
def addWrite (l : List Staged) (w : Staged) : Option (List Staged) :=
  if l.any (fun x => x.same w) then some (l.map (fun x => if x.same w then w else x))
  else if 1024 ≤ l.length then none
  else some (l ++ [w])

/-- One write of a class and domain staged in an open set that takes them; otherwise the status. -/
def State.stage (s : State) (h : Nat) (classes : List CommitClass) (domain : Nat) (w : Staged) : Except Nat State :=
  match s.openSet h with
  | none => .error stNoSet
  | some x =>
    if !classes.contains x.cls || x.domain != domain then .error stWrongClass
    else
      match addWrite x.writes w with
      | none => .error stSetFull
      | some l => .ok (s.putSet h { x with writes := l })

/-- One IMMEDIATE-class write staged in an open set of any class and domain (02 R45, 12 R356, R366). -/
def State.stageAny (s : State) (h : Nat) (w : Staged) : Except Nat State :=
  match s.openSet h with
  | none => .error stNoSet
  | some x => s.stage h [x.cls] x.domain w

/-- EV_CALVED of a set (02 R50). -/
def State.raiseCalved (s : State) (h : Nat) (x : StageSet) (applied slips status param : Nat) : State :=
  s.raise 0x0020 [u8 h, u8 x.cls.code, u16 x.domain, u64 x.target, u64 applied, u16 slips, u16 status, u16 param]

/-- A domain has stopped: its committed sets are freed without effect (02 R50). -/
def State.domainStopped (s : State) (domain : Nat) : State :=
  (s.sets.filter (fun p => p.2.committed && p.2.domain == domain)).foldl (fun (s : State) p =>
    ({ s with sets := tdel s.sets p.1 }).raiseCalved p.1 p.2 0 0 stState 0xFFFF) s

/-- The parameters that a set writes, in order. -/
def StageSet.params (x : StageSet) : List (Nat × PVal) :=
  x.writes.filterMap (fun w => match w with | .param id v => some (id, v) | _ => none)

/-- The writes of the committed sets of a domain whose boundary, of 40 bits, a count has reached, in the order of acceptance
(02 R48, R49). -/
def State.dueWrites (s : State) (domain count : Nat) : List Staged :=
  ((s.sets.filter (fun (p : Nat × StageSet) => p.2.committed && p.2.domain == domain && decide (0 ≤ sdiff 40 count p.2.boundary))).mergeSort
    (fun a b => decide (a.2.order ≤ b.2.order))).flatMap (fun p => p.2.writes)

/-- Every write staged in any set. -/
def State.allStaged (s : State) : List Staged := s.sets.flatMap (fun p => p.2.writes)

end Sys2Proof.Machine
end

