-- ==== Sys2Proof/Machine/Plan.lean ====
section
/-! DEFINITION. Planning a timeslot: channels, lane windows, direction, oscillator, widening, lanes, the gain and the frames to
send (04 R100-R109, 06 R162-R191). -/

namespace Sys2Proof.Machine

def stSyncLost : Nat := 0x310B
def stAsnMarkHold : Nat := 0x310C

/-! ### Channels (06 R169, R177, 07 R203) -/

/-- Centre of hopping-list channel `n` of a network, in kHz. -/
def State.chanKhz (s : State) (net : Net) (n : Nat) : Nat :=
  match net with
  | .lb => s.pnat 0x3011 + n * s.pnat 0x3012
  | .mb => 2405000 + 5000 * (n - 11)

/-- The hopping list of a network. -/
def State.hopSeq (s : State) (net : Net) : List Nat := (s.pbytes (match net with | .lb => 0x3010 | .mb => 0x3210)).map (fun b => b.toNat)

/-- The frequency of a channel offset at an ASN: hopping in TSCH, fixed in DSME (06, slotframes and cells). -/
def State.cellKhz (s : State) (net : Net) (chan asn : Nat) : Nat :=
  let l := s.hopSeq net
  s.chanKhz net (l.getD ((if s.isDsme net then chan else asn + chan) % max 1 l.length) 0)

/-- The channels that a member's map marks, rising (07 R203). -/
def Member.channels (m : Member) : List Nat := (List.range 256).filter (fun n => (m.map.getD (n / 8) 0).getLsbD (n % 8))

/-- The centre of channel `n` of a member of a band, in kHz (07 R200, 05 R151). -/
def Member.chanKhz (m : Member) (band n : Nat) : Nat :=
  match Radio.ofNat? band with
  | some .lb => m.lbBase + n * m.lbSpacing
  | some x => spanChannelKhz x n
  | none => 0

/-- A member's centre in event `e` (07 R203). -/
def Member.khzAt (m : Member) (band e : Nat) : Nat :=
  let l := m.channels
  m.chanKhz band (l.getD (e * m.hop % max 1 l.length) 0)

/-! ### Lane windows (04 R99, R100) -/

/-- Bins of a window by PHY mode, wide or narrow. -/
def windowBins (mode : Nat) (wide : Bool) : Nat :=
  let n := match phyFamily mode with
    | .fsk => [2, 3, 4, 4, 6].getD (mode % 8) 2
    | .ofdm => [12, 6, 3, 2].getD (mode % 4) 2
    | _ => 1
  min 16 (n + (if wide then 2 else 0))

/-- First bin of the window of `n` bins around a channel, halves rounded up; frequencies in kHz. -/
def windowStart (lo fc n : Nat) : Int :=
  (128 * 406250 + 4000 * ((fc : Int) - lo) - ((n : Int) - 1) * 203125 + 203125) / 406250

/-- Shift of the fine oscillator in Hz, to the nearest, halves up (04 R100). -/
def windowNco (lo fc n : Nat) : Int :=
  (4000 * ((fc : Int) - lo) - (2 * windowStart lo fc n + (n : Int) - 257) * 203125 + 2) / 4

/-- A window lies within bins 8 to 247. -/
def windowFits (lo fc n : Nat) : Bool := decide (8 ≤ windowStart lo fc n) && decide (windowStart lo fc n + (n : Int) ≤ 248)

/-! ### Cells of a timeslot -/

/-- The frame at the head of the partner's highest non-empty queue, with its class (06 R178). -/
def State.headFrame (s : State) (c : Nat) : Option (Nat × QFrame) :=
  match s.ctx? c with
  | none => none
  | some x =>
    match x.topClass with
    | none => none
    | some k => ((x.queue k).head?).map (fun f => (k, f))

/-- A receive cell of a client. -/
def Cell.isClientRx (c : Cell) : Bool := c.kind == 0 && c.isRx && !c.isTx

/-- Whether a cell governs or is served: a TX client or broadcast cell needs a frame, a span cell an open span with a member on
the radio (06 R174, R179). -/
def State.cellActive (s : State) (net : Net) (c : Cell) : Bool :=
  if c.kind = 3 then
    match tfind s.spans c.span with
    | some sp => sp.phase != .closed && thas sp.members net.radio.ix
    | none => false
  else if c.kind = 4 then !(s.net net).bcast.isEmpty
  else if c.kind = 0 ∧ c.isTx then (s.headFrame c.ctx).isSome
  else true

/-- The governing cell: of lowest slotframe handle among those that can govern (06 R174). -/
def State.governing (s : State) (net : Net) (l : List (Nat × Cell)) : Option (Nat × Cell) :=
  (l.filter (fun p => s.cellActive net p.2)).foldl (fun (best : Option (Nat × Cell)) p =>
    match best with
    | some b => if p.2.handle < b.2.handle then some p else best
    | none => some p) none

/-- A timeslot before its lanes: what is served, and where. -/
structure BasePlan where
  tx : Bool := false
  lo : Nat := 0
  /-- cells with their frequencies -/
  cells : List (Nat × Cell × Nat) := []
  conflicts : Nat := 0
  misses : Nat := 0
  span : Option Nat := none
  /-- an idle timeslot in which a lost parent is listened for (06 R194) -/
  seek : Bool := false
  deriving DecidableEq, Repr

/-- The cells that a plan serves, its span cell among them; a parent listened for is none. -/
def BasePlan.served (b : BasePlan) : Nat := (if b.seek then 0 else b.cells.length) + (if b.span.isSome then 1 else 0)

/-- A context has replay state: a counter accepted under one of its keys, or, with ASN nonces, an ASN (06 R185, 10 R299). -/
def Ctx.hasReplay (x : Ctx) : Bool := x.highA.isSome || x.highB.isSome || x.lastAsn != 0

/-- A lane on a channel runs in wide mode: a partner without stored offset or replay state, not resident, or none (04 R114,
06 R185). -/
def State.wideFor (s : State) (ctxs : List Nat) : Bool :=
  ctxs.any (fun c => match s.ctx? c with
    | some x => x.offset.isNone || !x.hasReplay || !s.resident c
    | none => true)

/-- Bins that the window of the cells on a channel takes. -/
def State.binsFor (s : State) (net : Net) (cs : List (Nat × Cell × Nat)) : Nat :=
  windowBins (s.netMode net) (s.wideFor (cs.map (fun p => p.2.1.ctx)))

/-- The distinct frequencies of cells. -/
def freqs (cs : List (Nat × Cell × Nat)) : List Nat := (cs.map (fun p => p.2.2)).eraseDups

def onFreq (cs : List (Nat × Cell × Nat)) (f : Nat) : List (Nat × Cell × Nat) := cs.filter (fun p => p.2.2 == f)

/-- All cells on a frequency are shared. -/
def allShared (cs : List (Nat × Cell × Nat)) : Bool := cs.all (fun p => p.2.1.isShared)

def minOf (l : List Nat) : Nat := l.foldl min (l.headD 0)
def maxOf (l : List Nat) : Nat := l.foldl max 0

/-- The LB oscillator for a set of frequencies: fixed, or midway between the lowest and the highest (06 R177; log entry 29). -/
def State.loFor (s : State) (fs : List Nat) : Nat := if s.pnat 0x3013 = 0 then (minOf fs + maxOf fs) / 2 else s.pnat 0x3013

/-- The frequencies that are kept: dedicated before shared, then lower channel offsets, while all fit (06 R177). -/
def State.keptFreqs (s : State) (cs : List (Nat × Cell × Nat)) : List Nat :=
  let key (f : Nat) : Nat := (if allShared (onFreq cs f) then 1000 else 0) + minOf ((onFreq cs f).map (fun p => p.2.1.chan))
  ((freqs cs).mergeSort (fun a b => decide (key a ≤ key b))).foldl (fun kept f =>
    let trial := kept ++ [f]
    if trial.all (fun g => windowFits (s.loFor trial) g (s.binsFor .lb (onFreq cs g))) then trial else kept) []

/-! ### Span receptions (07 R201-R203, R220, R221) -/

/-- The event of span `n` whose sub-event on a radio is the first not over at `t`, and its anchor (07 R201, R202). -/
def State.spanEventAt (s : State) (n : Nat) (x : Radio) (t : Int) : Nat × Int :=
  let v := tget {} s.spans n
  match tfind v.members x.ix with
  | none => (v.event, v.anchor)
  | some m =>
    let i : Int := max 1 (500000 * (v.interval : Int))
    let d := t - (v.anchor + (1000 * (m.rec_.offUs + m.rec_.lenUs) : Nat))
    let k := if d < 0 then 0 else (d / i).toNat + 1
    ((v.event + k) % 2 ^ 40, v.anchor + k * i)

/-- The IMMEDIATE parameters that a span takes at its plan points (07 R227). -/
def spanLatched : List Nat := [0x4002, 0x4003, 0x4004, 0x4005, 0x4006, 0x4007, 0x4008]

/-- An IMMEDIATE parameter of the group as of a span's last plan point, or of its opening (07 R227). -/
def State.spanPar (s : State) (n id : Nat) : Nat := (tfind (tget {} s.spans n).par id).getD (s.pnat id)

/-- `span.ifs_us` of a span, in ns. -/
def State.spanIfs (s : State) (n : Nat) : Nat := 1000 * s.spanPar n 0x4002

/-- An end has sub-events: T always, R while it is UP and while it waits for the echo of its challenge (07 R221, span states). -/
def SpanState.serves (v : SpanState) : Bool := v.phase != .closed && (v.isT || v.phase == .up || v.challenge.isSome)

/-- A resync burst of T belongs to an event: its period in ACQUIRE, 256 events in RESYNC (07, span states). -/
def State.burstEvent (s : State) (n e : Nat) : Bool :=
  let v := tget {} s.spans n
  v.isT && ((v.phase == .acquire && e % s.spanPar n 0x4006 == 0) || (v.phase == .resync && e % 256 == 0))

/-- The frequency on which span `n` listens on a radio in an event: the member's first channel while R scans, and where T waits for the
reply to a burst; else the event's channel, on which R waits for T's echo too (07 R203, R220, R221). -/
def State.listenKhz (s : State) (n : Nat) (x : Radio) (e : Nat) : Nat :=
  let v := tget {} s.spans n
  match tfind v.members x.ix with
  | some m => m.rec_.khzAt x.ix (if !v.serves || s.burstEvent n e then 0 else e)
  | none => 0

/-- The widening of R's receive windows by the peer's drift since the last synchronisation, in ns (06 R187, 07 R202). -/
def State.spanWiden (s : State) (n : Nat) : Nat :=
  let v := tget {} s.spans n
  match v.isT, v.lastSync with
  | false, some t => (s.time.bound - v.syncBound) + ceilDiv (v.drift * (s.now - t).toNat) 1000000
  | _, _ => 0

/-- The receive window of a sub-event that starts at `a` plus its offset: the other side's half, widened at R, and before the link is up
the whole of it (07 R202, R221). -/
def State.spanWindow (s : State) (n : Nat) (m : Member) (a : Int) : Int × Int :=
  let v := tget {} s.spans n
  let start := a + (1000 * m.offUs : Nat)
  let half : Int := (500 * m.lenUs : Nat)
  let w : Int := s.spanWiden n
  if v.phase != .up then (start - w, start + 2 * half + w)
  else if v.isT then (start + half, start + 2 * half)
  else (start - w, start + half + w)

/-- The lane of a span reception on a radio: on LB lane 0 with a window for the member's mode in wide mode, as a span partner has no stored
offset; on MB the span path, on HB its one path (04 R101-R103, R114). -/
def State.spanLane (s : State) (x : Radio) (n : Nat) (e : Nat) (a : Int) : Tab Lane :=
  match tfind (tget {} s.spans n).members x.ix with
  | none => []
  | some m =>
    let khz := s.listenKhz n x e
    let bins := windowBins m.rec_.mode true
    let w := s.spanWindow n m.rec_ a
    let v : Lane := { khz := khz, wide := true, window := some w, since := some (w.1 - 20000) }
    match x with
    | .lb => [(0, { v with bin := (windowStart khz khz bins).toNat, bins := bins, nco := windowNco khz khz bins })]
    | .mb => [(48, v)]
    | .hb => [(49, v)]

/-! ### What a timeslot serves -/

/-- Start of the timeslot of an ASN near the one in force, network time in ns. -/
def State.slotTime (s : State) (net : Net) (asn : Nat) : Int :=
  (s.net net).slotStart + sdiff 40 asn (s.net net).asn * (s.slotNs net : Int)

/-- The member frequency of span `n` on a network's radio in a timeslot that starts at `t`. -/
def State.spanKhz (s : State) (net : Net) (n : Nat) (t : Int) : Nat := s.listenKhz n net.radio (s.spanEventAt n net.radio t).1

/-- The oscillator of a timeslot that serves nothing: MB's fixed one; LB's where it is fixed for every client timeslot, or where it
stands (03 R58, 06 R177). -/
def State.idleLo (s : State) : Net → Nat
  | .mb => 2441750
  | .lb => if s.pnat 0x3013 = 0 then (s.radio .lb).lo else s.pnat 0x3013

/-- A cell that is served where it falls: the partner of a TX client cell must be resident (06 R173). -/
def State.cellReady (s : State) (net : Net) (c : Cell) : Bool :=
  s.cellActive net c && (c.kind != 0 || !c.isTx || s.resident c.ctx)

/-- Direction, span and oscillator of the timeslot of an ASN, with the cells served before widening (06 R174, R177, R179). -/
def State.basePlan (s : State) (net : Net) (asn : Nat) : BasePlan :=
  let all := (s.slotCells net asn).map (fun p => (p.1, p.2, s.cellKhz net p.2.chan asn))
  match s.governing net (s.slotCells net asn) with
  | none =>
    if all.isEmpty && s.isDsme net && (s.net net).seeks then
      let f := s.cellKhz net 0 asn
      { lo := match net with | .lb => s.loFor [f] | .mb => 2441750, cells := [(dsmeParentId, implicitCell net.ix 5 0x06, f)], seek := true }
    else { lo := s.idleLo net }
  | some (_, g) =>
    if g.kind = 3 then
      let khz := s.spanKhz net g.span (s.slotTime net asn)
      match net with
      | .lb => { lo := khz, span := some g.span, conflicts := (all.filter (fun p => p.2.1.kind != 3)).length }
      | .mb =>
        let far := all.filter (fun p => p.2.1.kind != 3 && p.2.1.isRx && !p.2.1.isTx && decide (11000 ≤ p.2.2 - khz + (khz - p.2.2)))
        { lo := 2441750, span := some g.span, cells := far,
          conflicts := (all.filter (fun p => p.2.1.kind != 3)).length - far.length }
    else
      let mine := all.filter (fun p => p.2.1.kind != 3 && p.2.1.isTx == g.isTx && s.cellReady net p.2.1)
      let conflicts := (all.filter (fun p => p.2.1.kind == 3 || p.2.1.isTx != g.isTx)).length
      match net with
      | .mb => { tx := g.isTx, lo := 2441750, cells := mine, conflicts := conflicts }
      | .lb =>
        let kept := s.keptFreqs mine
        { tx := g.isTx, lo := if kept.isEmpty then s.idleLo .lb else s.loFor kept, cells := mine.filter (fun p => kept.contains p.2.2),
          conflicts := conflicts, misses := (mine.filter (fun p => !kept.contains p.2.2)).length }

/-! ### Widening (06 R187-R189) -/

/-- The widening of a client's windows in ns; 0 before its first synchronisation. -/
def State.widening (s : State) (net : Net) (c : Nat) : Nat :=
  match s.ctx? c with
  | none => 0
  | some x =>
    match x.lastSync with
    | none => 0
    | some t =>
      let d := if x.drift = 0 then 100 * s.schedParam net 0x3030 else x.drift
      (s.time.bound - x.syncBound) + ceilDiv (d * (s.now - t).toNat) 100000000

def State.widenCap (s : State) (net : Net) : Nat := 1000 * s.schedParam net 0x3031

/-- Octets that a frame to a context has beside its payload: header, the MIC of its level, FCS (05 R132, 10 R291). -/
def State.frameExtra (s : State) (net : Net) (ctx : Nat) : Nat := Config.macOverhead net.ix + micLen (frameLevel net ctx) + s.fcsLen net

/-- PSDU octets of a queued client frame (05 R132). -/
def State.framePsdu (s : State) (net : Net) (f : QFrame) : Nat := f.len + s.frameExtra net f.ctx

/-- How many timeslots before its own the window of an RX cell with widening `w` reaches into, and how many after (06 R188). -/
def State.reaches (s : State) (net : Net) (w : Nat) : Nat × Nat :=
  (ceilDiv (w - 1000 * s.netParam net 0x3008) (max 1 (s.slotNs net)),
    ceilDiv (1000 * (s.netParam net 0x3008 + s.netParam net 0x300B) + w - s.slotNs net) (max 1 (s.slotNs net)))

/-- How many timeslots after its own the widened wait for the acknowledgement of a TX cell's frame reaches into. -/
def State.ackReach (s : State) (net : Net) (c : Cell) (w : Nat) : Nat :=
  match (if c.acked then s.headFrame c.ctx else none) with
  | some (_, f) =>
    ceilDiv (1000 * (s.netParam net 0x3007 + s.netParam net 0x3009 + s.netParam net 0x300C) + w
      + airNs (s.clientAir net (s.framePsdu net f) false) - s.slotNs net) (max 1 (s.slotNs net))
  | none => 0

/-- The plan that has been made for the timeslot of an ASN, where it is the one in force or the next (06 R173). -/
def State.planOf (s : State) (net : Net) (asn : Nat) : Option SlotPlan :=
  let n := s.net net
  match n.plan.filter (fun p => p.asn == asn) with
  | some p => some p
  | none => n.cur.filter (fun p => p.asn == asn)

/-- A neighbouring timeslot leaves room for a widened window: idle, or an RX timeslot with the same oscillator, as it has been planned or
will be (06 R188). -/
def State.roomIn (s : State) (net : Net) (asn lo : Nat) : Bool :=
  match s.planOf net asn with
  | some p => p.span.isNone && ((p.cells.isEmpty && p.lanes.isEmpty) || (!p.tx && p.lo == lo))
  | none =>
    let b := s.basePlan net asn
    b.seek || (b.cells.isEmpty && b.span.isNone) || (!b.tx && b.span.isNone && b.lo == lo)

def asnPlus (a k : Nat) : Nat := (a + k) % 2 ^ 40
def asnMinus (a k : Nat) : Nat := (a + 2 ^ 40 - k) % 2 ^ 40

/-- A window may reach `back` timeslots before its own and `fwd` after it (06 R188). -/
def State.widenOk (s : State) (net : Net) (asn lo : Nat) (r : Nat × Nat) : Bool :=
  (List.range r.1).all (fun i => s.roomIn net (asnMinus asn (i + 1)) lo) && (List.range r.2).all (fun i => s.roomIn net (asnPlus asn (i + 1)) lo)

/-- A cell as the lanes of a timeslot receive it: with its frequency and its receive window, where that is known (06 R164, R187). -/
structure RecvCell where
  id : Nat
  cell : Cell
  khz : Nat
  win : Option (Int × Int)
  deriving DecidableEq, Repr

/-- The receive window of an RX cell with widening `w` in a timeslot that starts at `t`; a CAP is received in throughout (06 R164, R167,
R187). -/
def State.recvWindow (s : State) (net : Net) (id : Nat) (t : Int) (w : Nat) : Int × Int :=
  if id = dsmeCapId then (t, t + s.slotNs net)
  else
    let open_ := t + (1000 * s.netParam net 0x3008 : Nat)
    (open_ - w, open_ + (1000 * s.netParam net 0x300B : Nat) + w)

/-- The wait for the acknowledgement of a TX cell's frame in a timeslot that starts at `t`, widened (06 R164, R187). -/
def State.ackWait (s : State) (net : Net) (c : Cell) (t : Int) (w : Nat) : Option (Int × Int) :=
  (s.headFrame c.ctx).map (fun f =>
    let a := t + (1000 * (s.netParam net 0x3007 + s.netParam net 0x3009) + airNs (s.clientAir net (s.framePsdu net f.2) false) : Nat)
    (a - w, a + (1000 * s.netParam net 0x300C : Nat) + w))

/-- A cell of the timeslot of ASN `b`, `d` timeslots away and ahead or not, as it is received `d` timeslots away: its widened window, or
its wait for an acknowledgement, reaches so far (06 R188). -/
def State.asGuest (s : State) (net : Net) (b d lo : Nat) (ahead : Bool) (c : Nat × Cell × Nat) : Option RecvCell :=
  let w := s.widening net c.2.1.ctx
  let r := if c.2.1.isTx then (0, s.ackReach net c.2.1 w) else s.reaches net w
  if (c.2.1.isClientRx || (c.2.1.kind == 0 && c.2.1.isTx && c.2.1.acked)) && decide (d ≤ if ahead then r.1 else r.2)
      && decide (w ≤ s.widenCap net) && s.widenOk net b lo r then
    some { id := c.1, cell := c.2.1, khz := c.2.2,
           win := if c.2.1.isTx then s.ackWait net c.2.1 (s.slotTime net b) w else some (s.recvWindow net c.1 (s.slotTime net b) w) }
  else none

/-- How many timeslots of a network the longest wait for an acknowledgement can reach on. -/
def State.ackMost (s : State) (net : Net) : Nat :=
  ceilDiv (1000 * (s.netParam net 0x3007 + s.netParam net 0x3009 + s.netParam net 0x300C) + s.widenCap net
    + airNs (s.clientAir net (psduMax (s.netMode net)) false)) (max 1 (s.slotNs net))

/-- Cells of the timeslots around an ASN whose widened windows reach into it, with their oscillators (06 R188). -/
def State.guests (s : State) (net : Net) (asn : Nat) : List (Nat × RecvCell) :=
  let most := s.reaches net (s.widenCap net)
  let near := (List.range (max most.2 (s.ackMost net))).map (fun i => (asnMinus asn (i + 1), i + 1, false))
    ++ (List.range most.1).map (fun i => (asnPlus asn (i + 1), i + 1, true))
  near.flatMap (fun (b, d, ahead) =>
    let p := s.basePlan net b
    if p.span.isSome then [] else p.cells.filterMap (fun c => (s.asGuest net b d p.lo ahead c).map (fun g => (p.lo, g))))

/-- A timeslot in which anything falls: a cell of its own, the search for a lost parent, or the window of a neighbour that reaches into it
(06 R173, R188, R194). -/
def State.slotServes (s : State) (net : Net) (asn : Nat) : Bool :=
  !(s.slotCells net asn).isEmpty || !(s.basePlan net asn).cells.isEmpty || !(s.guests net asn).isEmpty

/-- The oscillator of a timeslot and the cells that reach into it: an idle one takes the oscillator of the first of them, a served one
those of its own (06 R188). -/
def State.hosts (s : State) (net : Net) (asn lo : Nat) (idle : Bool) : Nat × List RecvCell :=
  let l := s.guests net asn
  let at_ := if idle then (match l with | g :: _ => g.1 | [] => lo) else lo
  (at_, (l.filter (fun g => g.1 == at_)).map (fun g => g.2))

/-- A client marked out of sync, with its event; its queued frames carry SYNC_LOST (06 R189). -/
def State.markOut (s : State) (net : Net) (c w : Nat) : State :=
  match s.ctx? c with
  | none => s
  | some x =>
    if x.outSync.isSome then s
    else
      let s := s.modCtx c (fun x => { x with
        outSync := some s.now
        queues := x.queues.map (fun p => (p.1, p.2.map (fun f => { f with status := stSyncLost }))) })
      let (us, s) := s.roundOpen w 1000
      s.raise 0x3003 [u8 net.ix, u16 c, u32 (min 0xFFFFFFFF us)]

/-! ### Lanes and the gain (04 R104-R109) -/

/-- The lane of a channel for its receive cells: its window, from the first opening to the last closing of theirs (04 R100, R104,
R105). -/
def State.laneFor (s : State) (net : Net) (lo : Nat) (cs : List RecvCell) (f : Nat) : Lane :=
  let l := cs.filter (fun c => c.khz == f)
  let w := s.wideFor (l.map (fun c => c.cell.ctx))
  let n := windowBins (s.netMode net) w
  let wins := l.filterMap (fun c => c.win)
  let win := match wins with
    | [] => none
    | a :: t => some (t.foldl (fun (m : Int) b => min m b.1) a.1, t.foldl (fun (m : Int) b => max m b.2) a.2)
  { khz := f, bin := if net = .lb then (windowStart lo f n).toNat else 0, bins := n, nco := if net = .lb then windowNco lo f n else 0,
    wide := w, cells := l.map (fun c => c.id), shared := l.all (fun c => c.cell.isShared), window := win
    since := win.map (fun v => v.1 - 20000) }

/-- The lanes for the receive cells of a timeslot, and the cells left without one: on MB each channel has its own; on LB the channels of
dedicated cells come first, each in order of rising frequency (04 R101, R104). -/
def State.planLanes (s : State) (net : Net) (lo : Nat) (cs : List RecvCell) : Tab Lane × Nat :=
  let fs := (cs.map (fun c => c.khz)).eraseDups
  match net with
  | .mb => (fs.foldl (fun t f => tset t (32 + ((f - 2405000) / 5000)) (s.laneFor net lo cs f)) [], 0)
  | .lb =>
    let key (f : Nat) : Nat := (if (s.laneFor net lo cs f).shared then 10000000 else 0) + f
    let order := fs.mergeSort (fun a b => decide (key a ≤ key b))
    ((order.take 32).zipIdx.foldl (fun t p => tset t p.2 (s.laneFor net lo cs p.1)) [],
      ((order.drop 32).map (fun f => (cs.filter (fun c => c.khz == f)).length)).sum)

/-- The level that the gain takes of an expected level: raised by the margin, as a linear power (04 R107). -/
def State.marginPower (s : State) (q : Int) : Nat := linQdb (q + 4 * (s.pnat 0x2012 : Int))

/-- Power sum of the expected levels of a timeslot's receive cells, as its plan has fixed them (04 R107, 06 R173). -/
def State.cellPower (s : State) (p : SlotPlan) : Nat := (p.inputs.map (fun c => s.marginPower c.1)).sum

/-- The largest of the last measurements with an oscillator frequency (04 R107). -/
def State.blockPower (s : State) (x : Radio) (lo : Nat) : Nat :=
  maxOf ((((s.bb.radios.get x).block.filter (fun p => p.1 == lo)).take (s.pnat 0x2013)).map (fun p => p.2))

/-- Lowest full-scale setting of a radio in dBm. -/
def fsLow (x : Radio) : Int := if x = .lb then -50 else -56

/-- The full scale of a timeslot, whether it is bypassed, and whether it was cut at 0 dBm (04 R107, R108). -/
def State.gainFor (s : State) (x : Radio) (top : Nat) : Int × Bool × Bool :=
  let head := s.pnat (if x = .lb then 0x2010 else 0x2011) + (if (s.bb.radios.get x).clipHold = 0 then 0 else s.pnat 0x2015)
  let p := fullScale (fsLow x) top head
  if p ≤ 0 then (p, false, false)
  else
    match s.femOf x with
    | some f => if f.kind = 2 ∨ f.kind = 3 then (p, true, false) else (0, false, true)
    | none => (0, false, true)

/-- A level lies less than 3 dB above the quantisation noise of a lane of a network's radio: of `bins` LB bins, or, on MB, of `hz`
(04 R109). -/
def buriedAt (net : Net) (fs q : Int) (bins hz : Nat) : Bool :=
  match net with
  | .lb => decide (linQdb q * 256 < linPower (20 * (fs - 81)) * bins)
  | .mb => decide (linQdb q * 192000000 < linPower (20 * (fs - 65)) * hz)

/-- Receive cells whose expected level lies less than 3 dB above the quantisation noise of their lane, a span's among them (04 R109). -/
def buriedCells (net : Net) (fs : Int) (p : SlotPlan) : Nat :=
  (p.inputs.filter (fun c => p.lanes.any (fun l =>
    l.2.khz == c.2 && buriedAt net fs c.1 l.2.bins (if l.1 = 48 then 20000000 else Config.mbLaneHz)))).length

/-! ### Holding transmission (06 R191) -/

/-- The ASN mark in NV. -/
def State.asnMark (s : State) (net : Net) : Option Nat :=
  match s.nvData (0x0200 + net.ix) with
  | some (.asn m _ _) => some m
  | _ => none

/-- A TSCH network holds its transmissions: no mark near enough to its ASN is stored. -/
def State.asnHeld (s : State) (net : Net) (asn : Nat) : Bool :=
  !s.isDsme net &&
  match s.asnMark net with
  | none => true
  | some m => decide (0 ≤ sdiff 40 asn ((m + 2 ^ 20 - 2 ^ 16) % 2 ^ 40))

/-! ### Frames to send -/

/-- An emission of a network's cell; the spec names no client power, so the radio's ceiling is asked for (log entry 30). -/
def State.cellEmission (s : State) (net : Net) (start : Int) (owner : EmOwner) (cls : Nat) (sync join : Bool) (khz psdu : Nat) : Emission :=
  { id := 0, owner := owner, cls := cls, nominal := start + 1000 * s.netParam net 0x3007, sync := sync, khz := khz,
    mode := some (s.netMode net), chains := 1, air := s.clientAir net psdu join, power := s.txMax net.radio, lane := 0 }

/-- In DISPUTE the holder sends enhanced beacons only in timeslots that begin before the end of the slotframe in force at entry (14 R417). -/
def State.beaconHeld (s : State) (net : Net) (start : Int) : Bool :=
  match s.serial.casc.dispute with
  | some d => decide (tget 0 d.limits net.ix ≤ start)
  | none => false

/-- A client's frame is pending, under way, or waits for its acknowledgement: its queue sends no other (06 R164, R178). -/
def State.inFlight (s : State) (net : Net) (c : Nat) : Bool :=
  let ours (e : Emission) : Bool := match e.owner with | .client d _ _ => d == c | _ => false
  let r := s.radio net.radio
  (s.net net).awaiting.any (fun a => a.ctx == c) || r.pend.any ours
    || (r.follow ++ r.group.toList).any (fun g => g.carriers.any (fun k => ours k.em))

/-- The frame that a cell would send waits with a status: for the ASN mark, its counter or its nonce (06 R191, 10 R299, R302). -/
def State.holdFrame (s : State) (net : Net) (st : Nat) (c : Cell) : State :=
  let mark (f : QFrame) : QFrame := { f with status := st }
  if c.kind = 0 then
    match s.headFrame c.ctx with
    | some (k, f) => s.modCtx c.ctx (fun x => { x with queues := tset x.queues k (mark f :: (x.queue k).drop 1) })
    | none => s
  else if c.kind = 4 then s.setNet net { s.net net with bcast := match (s.net net).bcast with | f :: t => mark f :: t | [] => [] }
  else s.setRadio net.radio { s.radio net.radio with txStatus := st }

/-- The key slot of frames to a client (09 R250). -/
def Ctx.txSlot (x : Ctx) : Nat := if x.txB then x.keyB else x.keyA

/-- The timeslot that begins at `start` is planned, not yet in force. -/
def State.isAhead (s : State) (net : Net) (start : Int) : Bool := !((s.net net).begun && start == (s.net net).slotStart)

/-- A cell's frame waits for its counter up to its plan lock (10 R302). -/
def State.noteWait (s : State) (net : Net) (start : Int) (w : Nat × Nat) : State :=
  let n := s.net net
  let add (p : SlotPlan) : SlotPlan := { p with waits := p.waits ++ [w] }
  s.setNet net (if s.isAhead net start then { n with plan := n.plan.map add } else { n with cur := n.cur.map add })

/-- The frame of a cell sealed under a key slot, or left waiting or refused with its status; `was` is the status it has. Without a slot,
as for the broadcasts of a network whose key set names none, it goes unsecured (10 R297-R299, R302; log entry 192). -/
def State.sealCell (s : State) (net : Net) (start : Int) (p : Nat × Cell × Nat) (slot : Option Nat) (was aad len : Nat) : Bool × State :=
  match slot with
  | none => (true, s)
  | some k =>
    match s.sealFrame net (s.isAhead net start) k was aad len with
    | (none, s) => (true, s)
    | (some st, s) =>
      let s := s.holdFrame net st p.2.1
      (false, if st = stCounterHeld then s.noteWait net start (p.1, p.2.2) else s)

/-- The first frame of a client's queue made pending: its stored bytes where they are sealed under the slot and its nonces carry a counter,
else sealed afresh (10 R297, R299). -/
def State.planClient (s : State) (net : Net) (start : Int) (p : Nat × Cell × Nat) (k cls : Nat) (f : QFrame) : State :=
  let c := p.2.1
  let slot := (s.ctx? c.ctx).map Ctx.txSlot
  let stored := !s.asnNonce net && f.sealed.isSome && f.sealed == slot
  match (if stored then (true, s) else s.sealCell net start p slot f.status (Config.macOverhead net.ix) f.len) with
  | (false, s) => s
  | (true, s) =>
    (s.modCtx c.ctx (fun x => { x with queues := tset x.queues k ({ f with sealed := slot, status := 0 } :: (x.queue k).drop 1) })).addEmission
      net.radio (s.cellEmission net start (.client c.ctx k p.1) cls (k != 4 && c.opts.testBit 3) false p.2.2 (s.framePsdu net f))

/-- The emission of a served TX cell made pending, where a frame can go (06 R163, R173, R178, R189, 10 R298, R299, R302). -/
def State.planTx (s : State) (net : Net) (start : Int) (p : Nat × Cell × Nat) : State :=
  let (id, c, khz) := p
  let cls := if c.isShared then 5 else 3
  let netSlot := (s.net net).keys.head?
  if c.kind = 1 then
    if s.beaconHeld net start then s
    else if (s.net net).beaconBackoff ≠ 0 then s.setNet net { s.net net with beaconBackoff := (s.net net).beaconBackoff - 1 }
    else
      match s.sealCell net start p netSlot 0 (Config.beaconLen net.ix) 0 with
      | (false, s) => s
      | (true, s) =>
        let len := Config.beaconLen net.ix + micLen (frameLevel net 0xFFFF) + s.fcsLen net
        s.addEmission net.radio (s.cellEmission net start (.beacon net id) 0 true true khz len)
  else if c.kind = 4 then
    match (s.net net).bcast with
    | f :: t =>
      if f.backoff ≠ 0 then s.setNet net { s.net net with bcast := { f with backoff := f.backoff - 1 } :: t }
      else
        let stored := !s.asnNonce net && f.sealed.isSome && f.sealed == netSlot
        match (if stored then (true, s) else s.sealCell net start p netSlot f.status (Config.macOverhead net.ix) f.len) with
        | (false, s) => s
        | (true, s) =>
          (s.setNet net { s.net net with bcast := { f with sealed := netSlot, status := 0 } :: t }).addEmission net.radio
            (s.cellEmission net start (.broadcast net id) cls (c.opts.testBit 3) false khz (s.framePsdu net f))
    | [] => s
  else if c.kind = 6 then
    match (s.ctx? c.ctx).bind (fun x => (x.queue 4).head?) with
    | some f => s.planClient net start p 4 5 f
    | none => s
  else
    match s.headFrame c.ctx with
    | none => s
    | some (k, f) =>
      if s.inFlight net c.ctx then s
      else if c.isShared ∧ f.backoff ≠ 0 then
        s.modCtx c.ctx (fun x => { x with queues := tset x.queues k ({ f with backoff := f.backoff - 1 } :: (x.queue k).drop 1) })
      else s.planClient net start p k cls f

/-- The cell of an ID, those that a DSME network has without an entry among them. -/
def State.cellOf (s : State) (net : Net) (id : Nat) : Option Cell :=
  if id = dsmeBeaconId then some (implicitCell net.ix 1 0x05)
  else if id = dsmeCapId then some (implicitCell net.ix 0 0x06)
  else if id = dsmeParentId then some (implicitCell net.ix 5 0x06)
  else tfind s.cells id

/-- Frames that wait for their counters tried again, while their plan lock is to come (10 R302). -/
def State.retryCells (s : State) (net : Net) (start : Int) (l : List (Nat × Nat)) : State :=
  if start + 1000 * s.netParam net 0x3007 < s.now + s.lockLead net.radio then l.foldl (fun (s : State) w => s.noteWait net start w) s
  else
    l.foldl (fun (s : State) w => match s.cellOf net w.1 with
      | some c => s.planTx net start (w.1, c, w.2)
      | none => s) s

/-- Those of a network's planned timeslot and of the one in force. -/
def State.retryWaits (s : State) (net : Net) : State :=
  let n := s.net net
  let waits (p : Option SlotPlan) : List (Nat × Nat) := (p.map (fun p => p.waits)).getD []
  let clear (p : Option SlotPlan) : Option SlotPlan := p.map (fun p => { p with waits := [] })
  let s := s.setNet net { n with plan := clear n.plan, cur := clear n.cur }
  (s.retryCells net n.slotStart (waits n.cur)).retryCells net (s.slotAt net (if n.begun then 1 else 0)) (waits n.plan)

/-! ### The plan -/

/-- The radio can serve cells in a timeslot: its calibration results are there, it is in service, and no forced gap takes the
timeslot (03 R66, R67, R89). -/
def State.radioServes (s : State) (x : Radio) (start stop : Int) : Bool :=
  (s.radio x).calibrated && !(s.radio x).failed
    && (match (s.radio x).gap with | some (a, b) => decide (stop ≤ a) || decide (b ≤ start) | none => true)

/-- A served cell after the checks of its partner: kept with its widening, or counted (06 R188, R189). -/
def State.checkCell (s : State) (net : Net) (asn : Nat) (b : BasePlan) (p : Nat × Cell × Nat) : Option PlannedCell × State :=
  let c := p.2.1
  let w := if c.kind = 0 then s.widening net c.ctx
    else if p.1 = dsmeParentId then (match (s.net net).parent with | some v => s.time.bound - v.bound | none => 0)
    else 0
  let out : Bool := match s.ctx? c.ctx with | some x => x.outSync.isSome | none => false
  let r := if c.isRx then (if p.1 = dsmeCapId then (0, 0) else s.reaches net w) else (0, s.ackReach net c w)
  if c.kind == 0 && (out || decide (s.widenCap net < w)) then (none, (s.markOut net c.ctx w).bump (.sched net) 4)
  else if !s.widenOk net asn b.lo r then (none, s.bump (.sched net) 5)
  else
    let s := if r.2 ≠ 0 then s.holdCtx c.ctx (asnPlus asn r.2) else s
    (some { cell := p.1, khz := p.2.2, widen := w }, s)

/-- Every served cell checked. -/
def State.checkCells (s : State) (net : Net) (asn : Nat) (b : BasePlan) : List PlannedCell × State :=
  b.cells.foldl (fun (r : List PlannedCell × State) p =>
    match r.2.checkCell net asn b p with
    | (some c, s) => (r.1 ++ [c], s)
    | (none, s) => (r.1, s)) ([], s)

/-- The cells that the lanes of a timeslot receive of its own: with their windows, and in a TX timeslot those whose acknowledgement is
awaited (06 R164, R174). -/
def State.ownRecv (s : State) (net : Net) (start : Int) (b : BasePlan) (kept : List PlannedCell) : List RecvCell :=
  b.cells.filterMap (fun p =>
    match kept.find? (fun k => k.cell == p.1) with
    | none => none
    | some k =>
      if b.tx then (if p.2.1.kind == 0 && p.2.1.acked then some { id := p.1, cell := p.2.1, khz := p.2.2, win := none } else none)
      else some { id := p.1, cell := p.2.1, khz := p.2.2, win := some (s.recvWindow net p.1 start k.widen) })

/-- The oscillator of a timeslot and the cells that its lanes receive: its own and, in one that is idle or receives, those that reach into it
(06 R188). -/
def State.recvCells (s : State) (net : Net) (asn : Nat) (start : Int) (b : BasePlan) (kept : List PlannedCell) : Nat × List RecvCell :=
  let own := s.ownRecv net start b kept
  if b.span.isSome || (b.tx && !kept.isEmpty) then (b.lo, own)
  else
    let (lo, l) := s.hosts net asn b.lo kept.isEmpty
    (lo, own ++ l)

/-- What the gain of a receiving timeslot takes: expected level and frequency of each receive cell of a resident partner, and of its span
member (04 R107, 06 R173). -/
def State.gainInputs (s : State) (x : Radio) (recv : List RecvCell) (span : Tab Lane) (n : Option Nat) : List (Int × Nat) :=
  recv.filterMap (fun c =>
    if c.cell.kind = 0 ∧ s.resident c.cell.ctx then ((s.ctx? c.cell.ctx).bind (fun y => y.level)).map (fun q => (q, c.khz)) else none)
  ++ (span.flatMap (fun l => ((n.bind (fun k => tfind (tget {} s.spans k).members x.ix)).bind (fun m => m.level)).toList.map (fun q => (q, l.2.khz))))

/-- A CAP timeslot in which the ZK48 listens brings its GTS replies one nearer to their own (06 R163; log entry 3). -/
def State.capCountdown (s : State) (net : Net) : State :=
  s.setFirn { s.firn with ctxs := s.firn.ctxs.map (fun p =>
    if p.2.net = net.ix then
      (p.1, { p.2 with queues := p.2.queues.map (fun q => (q.1, if q.1 = 4 then q.2.map (fun f => { f with backoff := f.backoff - 1 }) else q.2)) })
    else p) }

/-- The plan of the timeslot of an ASN that begins at `start` (06 R173). -/
def State.planSlot (s : State) (net : Net) (asn : Nat) (start : Int) : State :=
  let s := s.latchSched net
  let x := net.radio
  let b := s.basePlan net asn
  if !s.radioServes x start (start + s.slotNs net) then
    let s := s.bumpBy (.radio x) 11 b.served
    s.setNet net { s.net net with plan := some { asn := asn, tx := false, lo := b.lo, cells := [] } }
  else
    let s := { s with cipher := { s.cipher with asnNext := s.cipher.asnNext.setNet net [] } }
    let s := (s.bumpBy (.sched net) 2 b.conflicts).bumpBy (.sched net) 3 b.misses
    let (kept, s) := s.checkCells net asn b
    let live := b.cells.filter (fun p => kept.any (fun k => k.cell == p.1))
    let (lo, recv) := s.recvCells net asn start b kept
    let (lanes, without) := s.planLanes net lo recv
    let s := s.bumpBy (.bb x) 12 without
    let s := if !b.tx && b.cells.any (fun p => p.1 == dsmeCapId) then s.capCountdown net else s
    let ofSpan := match b.span with | some n => let e := s.spanEventAt n x start; s.spanLane x n e.1 e.2 | none => []
    let plan : SlotPlan := {
      asn := asn
      tx := b.tx && !kept.isEmpty
      lo := lo
      cells := kept
      span := b.span
      lanes := ofSpan ++ lanes
      inputs := if b.tx && !kept.isEmpty then [] else s.gainInputs x recv ofSpan b.span }
    let s := (s.bumpBy (.sched net) 1 (if b.seek then 0 else kept.length + (if b.span.isSome then 1 else 0))).setNet net
      { s.net net with plan := some plan }
    if !b.tx then s
    else if s.asnHeld net asn then live.foldl (fun (s : State) p => s.holdFrame net stAsnMarkHold p.2.1) s
    else live.foldl (fun (s : State) p => s.planTx net start p) s

/-- A slotframe's length from an ASN on; with the network stopped, at once. -/
def State.setFrame (s : State) (n : Net) (h : Nat) (len : Option Nat) (asn : Nat) : State :=
  let v := s.net n
  s.setNet n { v with frames := tset v.frames h (if v.running then FrameLens.insert (tget [] v.frames h) asn len v.asn else [(asn, len)]) }

/-- A cell no longer served from an ASN on, or from the earlier one that an earlier deletion has named (06 R172). -/
def Cell.endAt (c : Cell) (asn : Nat) : Cell :=
  { c with until_ := match c.until_ with | some u => if sdiff 40 u asn < 0 then some u else some asn | none => some asn }

/-- One staged write as a plan of network `n` sees it: parameters, slotframes and cells, from an ASN on. -/
def State.previewWrite (n : Net) (asn : Nat) (s : State) (w : Staged) : State :=
  match w with
  | .param id v => { s with params := tset s.params id v }
  | .frame k h len => if k = n.ix then s.setFrame n h len asn else s
  | .cell id (some c) => { s with cells := tset s.cells id { c with from_ := asn } }
  | .cell id none =>
    (match tfind s.cells id with
    | some c => { s with cells := tset s.cells id (c.endAt asn) }
    | none => s)
  | _ => s

/-- The plan of the timeslot of a committed boundary is made on the values that hold from it on (02 R48, 06 R173). -/
def State.planAhead (s : State) (net : Net) (asn : Nat) (start : Int) : State :=
  let ws := s.dueWrites (0x0100 + net.ix) asn
  if ws.isEmpty then s.planSlot net asn start
  else
    let r := (ws.foldl (State.previewWrite net asn) s).planSlot net asn start
    { r with params := s.params, cells := s.cells }.setNet net { r.net net with frames := (s.net net).frames }

/-- TIMESLOT_PLAN of a network's next timeslot, 500 µs before it starts (06 R173). -/
def execTimeslotPlan (net : Net) (s : State) : Out :=
  .next (
    let n := s.net net
    let k := if n.begun then 1 else 0
    if !n.running || n.plan.isSome || !s.awake || n.waitMark || decide (s.now < s.slotAt net k - 500000) then s
    else s.planAhead net (s.asnAfter net k) (s.slotAt net k))

/-! ### The start of a timeslot (04 R107-R109, 09 R256, R257) -/

/-- The partners that the timeslot of an ASN needs: dedicated cells first, then shared, each in rising context number. -/
def State.partners (s : State) (net : Net) (asn : Nat) : List Nat :=
  let cs := (s.cellsAt net asn).filter (fun p => p.2.kind == 0 && decide (p.2.ctx < 4096)
    && (!p.2.isTx || (s.headFrame p.2.ctx).isSome) && (s.ctx? p.2.ctx).isSome)
  let of (sh : Bool) := ((cs.filter (fun p => p.2.isShared == sh)).map (fun p => p.2.ctx)).mergeSort (fun a b => decide (a ≤ b))
  (of false ++ of true).eraseDups

/-- One partner held, and loaded where it is not resident; the number not loaded for the cap (09 R256, R257). -/
def State.lookPartner (asn : Nat) (r : Nat × State) (c : Nat) : Nat × State :=
  let (short, s) := r
  let hold (s : State) : State :=
    let s := s.holdCtx c asn
    match s.slotOf c with
    | some k => s.modSlot k (fun v => { v with ref := v.ref || v.held.isSome })
    | none => s
  if s.resident c || s.isLoading c then (short, hold s)
  else if s.holdCap ≤ s.heldCount then (short + 1, s.bump .firn 10)
  else
    match s.revive c true with
    | some s => (short, hold s)
    | none => (short, s.askLoad c false (some asn))

/-- Firn is given the partners of the timeslot four ahead (09 R256, R257). -/
def State.lookahead (s : State) (net : Net) : State :=
  let asn := s.asnAfter net 4
  let (short, s) := (s.partners net asn).foldl (State.lookPartner asn) (0, s)
  if short ≠ 0 && !(s.net net).shortRaised then
    (s.setNet net { s.net net with shortRaised := true }).raise 0x6003 [u8 net.ix, u64 asn, u16 short]
  else s

/-- Holds of a network's contexts end with their timeslot; the reference bit of a sleepy one is cleared (09 R256, R264). -/
def State.endHolds (s : State) (net : Net) : State :=
  let asn := (s.net net).asn
  s.setFirn { s.firn with slots := s.firn.slots.map (fun p =>
    match p.2.held, s.ctx? p.2.ctx with
    | some h, some x =>
      if x.net = net.ix ∧ sdiff 40 h asn < 0 then
        (p.1, { p.2 with held := none, ref := p.2.ref && !(x.sleepy && s.pbool 0x6005) })
      else p
    | _, _ => p) }

/-- A slotframe begins: the one of lowest handle in force (06 R183, 09 R257). -/
def State.frameStarts (s : State) (net : Net) : Bool :=
  let asn := (s.net net).asn
  match (List.range 16).findSome? (fun h => s.frameLen net h asn) with
  | some l => decide (0 < l) && asn % l == 0
  | none => false

/-- Channel adaptation at the start of a multi-superframe: a DSME-GTS goes to the channel that the slot engine moves it to, where that is
free in its timeslot (06 R163; log entry 150). -/
def State.adapt (s : State) (net : Net) : State :=
  if !s.isDsme net then s
  else
    let turn := s.freeCtr
    let gts := s.cells.filter (fun p => p.2.net == net.ix && p.2.kind == 0)
    let move (s : State) (p : Nat × Cell) : State :=
      match Config.gtsMove turn p.1 with
      | some k =>
        if (s.hopSeq net).length ≤ k || s.cells.any (fun q => q.2.net == net.ix && q.2.slot == p.2.slot && q.2.chan == k) then s
        else { s with cells := tset s.cells p.1 { p.2 with chan := k } }
      | none => s
    if gts.isEmpty then s else gts.foldl move { s with freeCtr := turn + 1 }

/-- What is counted per slotframe starts anew (06 R182, R183, 09 R257). -/
def State.newFrame (s : State) (net : Net) : State :=
  if s.frameStarts net then
    let d := (s.net net).joinDrops
    let s := (s.setNet net { s.net net with joinDrops := 0, shortRaised := false, audited := false }).adapt net
    if d = 0 then s else s.raise 0x3002 [u8 net.ix, u16 d]
  else s

/-- Deleted cells and superseded lengths leave the tables once their ASN has come (06 R172). -/
def State.dropCells (s : State) (net : Net) : State :=
  let asn := (s.net net).asn
  { s with cells := s.cells.filter (fun p => !(p.2.net == net.ix &&
    (match p.2.until_ with | some u => decide (0 ≤ sdiff 40 asn u) | none => false))) }

/-- One planned lane installed: where an earlier frame still holds its number, an LB channel takes the next free one, and an MB channel
has none; a channel without lane counts its cells (04 R104, R105). A window that was open on the channel stays open. -/
def State.installLane (s : State) (x : Radio) (was : Tab Lane) (p : Nat × Lane) : State :=
  let v := match was.find? (fun q => laneRadio q.1 == x && q.2.khz == p.2.khz && q.2.open_ && q.2.frame.isNone) with
    | some q => { p.2 with open_ := true, detected := q.2.detected }
    | none => p.2
  let at_ := if (s.lane? p.1).isNone then some p.1
    else if x = .lb then (List.range 32).find? (fun k => (s.lane? k).isNone)
    else none
  match at_ with
  | some k => s.setLane k v
  | none => s.bumpBy (.bb x) 12 (max 1 p.2.cells.length)

/-- Lanes of a radio as the plan has them; those that receive a frame go on with it (04 R104, R105). -/
def State.installLanes (s : State) (x : Radio) (lanes : Tab Lane) : State :=
  let was := s.bb.lanes
  lanes.foldl (fun (s : State) p => s.installLane x was p) (s.freeLanes (fun l v => laneRadio l == x && v.frame.isNone))

/-- Lanes of a radio in use. -/
def State.lanesUsed (s : State) (x : Radio) : Nat := (s.bb.lanes.filter (fun p => laneRadio p.1 == x)).length

/-- The most lanes of a radio in use at once, noted (04 R126). -/
def State.noteLanes (s : State) (x : Radio) : State :=
  let b := s.bbRadio x
  s.setBb x { b with cur := { b.cur with lanes := max b.cur.lanes (s.lanesUsed x) } }

/-- The gain of a timeslot that begins, from the levels as they stand, and the baseband parameters latched with it (04 R107-R109,
R128). -/
def State.setGain (s : State) (net : Net) (p : SlotPlan) : State :=
  let x := net.radio
  let (fs, bypass, ceiling) := s.gainFor x (max (s.cellPower p) (s.blockPower x p.lo))
  let b := s.bbRadio x
  let lna : Int := s.pnat (0x2017 + x.ix)
  let s := s.setBb x { b with
    fs := fs
    conv := if bypass then fs - lna else fs
    bypass := bypass
    clipped := false
    clipCount := []
    own := false
    overflow := 0
    clipHold := b.clipHold - 1
    par := (bbLatched x).map (fun id => (id, s.pnat id))
    gainAt := s.now
    cur := { asn := p.asn, fs := fs, lanes := s.lanesUsed x } }
  let s := s.bumpBy (.bb x) 16 (buriedCells net fs p)
  if ceiling then s.bump (.bb x) 15 else s

/-- The antenna of a radio with a fixed choice (03 R59). -/
def State.fixedAntenna (s : State) (x : Radio) : Nat :=
  let sel := match x with | .lb => s.pnat 0x1001 | .mb => s.pnat 0x1002 | .hb => 2
  if sel < 2 then sel else (s.radio x).antenna

/-- A radio at its next cell: it receives again after a re-lock or a background calibration (01 R22, 03 R67, R86). -/
def State.resumeRadio (s : State) (x : Radio) : State :=
  let r := s.radio x
  if r.resume then
    let s := s.setRadio x { r with resume := false, lockedAt := some s.now }
    if r.locked then s.moveRadio x .rx false else s
  else if r.st = .calBg ∧ r.calRun.isNone then s.moveRadio x .rx false
  else s

/-- The cells that a radio whose re-lock is under way, or that is out of service, loses with a timeslot (03 R67). -/
def State.loseSlot (s : State) (net : Net) (p : SlotPlan) : State :=
  let x := net.radio
  let r := s.radio x
  match r.relock with
  | some (st, n) => s.setRadio x { r with relock := some (st, n + p.served) }
  | none =>
    if s.radioServes x s.now s.now then s
    else
      let ours (e : Emission) : Bool := match e.owner with
        | .client .. | .beacon .. | .broadcast .. => true
        | _ => false
      (s.setRadio x { r with pend := r.pend.filter (fun e => !ours e) }).bumpBy (.radio x) 11 p.served

/-- An MB channel lies less than 11 MHz from the centre of the span reception of the timeslot in force (04 R102). -/
def State.nearSpan (s : State) (khz : Nat) : Bool :=
  match s.nets.snd.cur.bind SlotPlan.span with
  | some n =>
    let f := match s.lane? 48 with | some v => v.khz | none => s.spanKhz .mb n s.nets.snd.slotStart
    decide (khz - f + (f - khz) < 11000)
  | none => false

/-- The O-QPSK lanes near a span reception held idle, what they receive with them (04 R102; log entry 180). -/
def State.holdNear (s : State) (x : Radio) : State :=
  if x = .mb then s.freeLanes (fun l _ => decide (32 ≤ l) && decide (l < 48) && s.nearSpan (2405000 + 5000 * (l - 32))) else s

/-- The planned timeslot comes into force: a radio that waits for its next cell resumes, then oscillator, antenna, lanes and gain (01 R22,
03 R58, R59, 04 R107-R109). -/
def State.enterSlot (s : State) (net : Net) (p : SlotPlan) : State :=
  let x := net.radio
  let s := s.loseSlot net p
  let s := (if p.served = 0 then s else s.resumeRadio x).tune x p.lo
  let s := if (s.radio x).failed || !(s.radio x).calibrated then s.installLanes x [] else (s.installLanes x p.lanes).holdNear x
  let s := s.setGain net p
  let r := s.radio x
  s.setRadio x { r with
    missed := false
    antenna := s.fixedAntenna x
    fem := if r.st = .rx then femFor .rx (s.bbRadio x).bypass false else r.fem }

/-- TIMESLOT_START of a network's next timeslot: the setting in force, the lookahead given. It comes after the sets whose boundary the
timeslot is, and the first one waits for a fresh mark that it needs (04 R107, 06 R192, 09 R256, R257). -/
def execTimeslotStart (net : Net) (s : State) : Out :=
  .next (
    let n := s.net net
    let k := if n.begun then 1 else 0
    let asn := s.asnAfter net k
    if !n.running || !s.awake || n.waitMark || decide (s.now < s.slotAt net k) || !(s.dueWrites (0x0100 + net.ix) asn).isEmpty then s
    else
      let plan := n.plan.getD { asn := asn, tx := false, lo := s.idleLo net, cells := [] }
      let s := s.setNet net { n with asn := asn, slotStart := s.slotAt net k, begun := true, plan := none, cur := some plan }
      let s := { s with cipher := { s.cipher with
        asnUsed := s.cipher.asnUsed.setNet net (s.cipher.asnNext.net net), asnNext := s.cipher.asnNext.setNet net [] } }
      let s := ((((s.dropCells net).endHolds net).newFrame net).enterSlot net plan).lookahead net
      if s.asnHeld net asn then s.bump (.sched net) 16 else s)

end Sys2Proof.Machine
end

