-- ==== Sys2Proof/Machine/Calib.lean ====
section
/-! DEFINITION. What is to come on a radio, and the calibrations that wait for gaps in it: their start, the gaps made for them, the
background items and RF_CAL_RUN (03 R65, R66, R86-R89, R94). -/

namespace Sys2Proof.Machine

/-! ### Gaps (03 R65, R66, R86) -/

/-- An event of a span as an activity: its span, when the supervision expires where this event is the first that the link misses, and when
the next event starts (03 R66). -/
structure SpanTurn where
  span : Nat
  alive : Int
  next : Int
  deriving DecidableEq, Repr

/-- An activity of a radio: its start and end, whether it is a beacon, which must not be skipped, the cells that are served in it, and how
many are dedicated. -/
structure Activity where
  start : Int
  stop : Int
  fixed : Bool
  cells : Nat
  dedicated : Nat
  turn : Option SpanTurn := none
  deriving DecidableEq, Repr

/-- The timeslots with cells among the next 512 of a radio's network, the beacon slot and the CAP of DSME among them, with what each
serves as the queues stand. -/
def State.slotActivities (s : State) (n : Net) : List Activity :=
  if (s.net n).running then
    (List.range 512).filterMap (fun k =>
      let asn := s.asnAfter n k
      let cs := s.slotCells n asn
      if cs = [] then none
      else
        let b := s.basePlan n asn
        some { start := s.slotAt n k, stop := s.slotAt n (k + 1), fixed := cs.any (fun c => c.2.kind == 1), cells := b.served,
               dedicated := (b.cells.filter (fun c => !c.2.1.isShared)).length + (if b.span.isSome then 1 else 0) })
  else []

/-- The sub-events of the next 16 events of span `n` on a radio, where its end has any; `inCells` says that they lie in span cells of the radio's network, which
count them (03 R66). The link hears nothing before the first event to come than it has heard, and is heard in every event before the one
that is skipped first. -/
def spanActivities (n : Nat) (sp : SpanState) (x : Radio) (supNs : Nat) (now : Int) (inCells : Bool) : List Activity :=
  match tfind sp.members x.ix with
  | none => []
  | some m =>
    if !sp.serves then []
    else
      (List.range 16).map (fun k =>
        let anchor := sp.anchor + (k * sp.interval * 500000 : Nat)
        let a := anchor + (1000 * m.rec_.offUs : Nat)
        let before := a - (sp.interval * 500000 : Nat)
        let heard := if now ≤ before then max sp.heardAt before else sp.heardAt
        { start := a, stop := a + (1000 * m.rec_.lenUs : Nat), fixed := false,
          cells := if inCells then 0 else 1, dedicated := if inCells then 0 else 1,
          turn := some { span := n, alive := heard + supNs, next := a + (sp.interval * 500000 : Nat) } })

/-- What is to come on a radio, in order of start. -/
def State.activities (s : State) (x : Radio) : List Activity :=
  let cells := match x.net? with | some n => s.slotActivities n | none => []
  let spans := s.spans.flatMap (fun p => spanActivities p.1 p.2 x (1000000 * s.pnat (0x4101 + 0x20 * p.1)) s.now (s.netRuns x))
  (cells ++ spans).mergeSort (fun a b => decide (a.start ≤ b.start))

/-- No cell or span event begins on a radio within `ns` of `t`. -/
def gapAt (l : List Activity) (t : Int) (ns : Nat) : Bool := l.all (fun a => decide (a.start < t) || decide (t + ns ≤ a.start))

/-- No cell or span event is under way on a radio at `t` (03 R88). -/
def betweenAt (l : List Activity) (t : Int) : Bool := l.all (fun a => decide (t ≤ a.start) || decide (a.stop ≤ t))

/-- The longest a calibration set takes, in µs (03 R60, R86); R65 names windows for the sets 0 and 1 alone, and the sum of what they
hold stands for the sets 2 and 3 (DESIGN CHOICE, log entry 141). -/
def calMaxUs (set : Nat) : Nat := if set = 0 then 450 else if set = 1 then 4000 else if set = 2 then 240 else 4690

/-- The window of R65 for a set: its maximum plus the guard. -/
def State.calWindow (s : State) (set : Nat) : Nat := 1000 * (calMaxUs set + s.pnat 0x1015)

/-- What is to come on a radio but for what begins in a gap that has been made, which is skipped (03 R65, R66). -/
def State.unskipped (s : State) (x : Radio) : List Activity :=
  match (s.radio x).gap with
  | some (a, b) => (s.activities x).filter (fun v => decide (v.start < a) || decide (b ≤ v.start))
  | none => s.activities x

/-- A set has its gap at `t`: nothing begins within its window and, but for a synthesiser calibration, no cell is under way (03 R65, R88). -/
def State.calFits (s : State) (x : Radio) (set : Nat) (t : Int) : Bool :=
  let l := s.unskipped x
  gapAt l t (s.calWindow set) && (set == 0 || betweenAt l t)

/-- The first gap for a set at or after now, among what the schedule shows. -/
def State.firstGap (s : State) (x : Radio) (set : Nat) : Option Int :=
  ((s.now :: ((s.unskipped x).map (fun a => a.stop)).filter (fun t => decide (s.now < t))).filter (fun t => s.calFits x set t)).head?

/-- A cell or an emission, reception or calibration is in progress on a radio: it is not idle (03 R86). -/
def State.radioIdle (s : State) (x : Radio) : Bool :=
  (s.radio x).group.isNone && (s.radio x).calRun.isNone && (s.receiving x).isEmpty
    && !(s.activities x).any (fun a => decide (a.start ≤ s.now) && decide (s.now < a.stop))
    && !s.bb.lanes.any (fun p => laneRadio p.1 == x && p.2.open_)

/-! ### Sets (03 R65, R66, R88, R89) -/

/-- Another radio runs its foreground set, alone or in the set 3 (03 R88). -/
def State.fgElsewhere (s : State) (x : Radio) : Bool :=
  [Radio.lb, .mb, .hb].any (fun y => y != x && (match (s.radio y).calRun with | some c => c.set == 1 || c.set == 3 | none => false))

/-- A set may start now: its gap is there, be it one that was made, or it is the radio's first use, whose cells are skipped meanwhile. At
most one radio is in CAL_FG (03 R65, R66, R88, R89). -/
def State.calMayStart (s : State) (x : Radio) (c : CalDue) : Bool :=
  s.awake && (s.radio x).group.isNone && (s.radio x).calRun.isNone && (c.first || s.calFits x c.set s.now)
    && (c.set == 0 || c.set == 2 || !s.fgElsewhere x)

/-- CAL_GAP_START (03 R65, R88). -/
def execCalGapStart (x : Radio) (s : State) : Out :=
  .next (
    match (s.radio x).cals.find? (fun c => s.calMayStart x c) with
    | some c => s.startCal x c
    | none => s)

/-- The supervision of a span would expire before its next event, where the activities named are skipped (03 R66). -/
def spanLost (hit : List Activity) : Bool :=
  hit.any (fun a =>
    match a.turn with
    | none => false
    | some v =>
      match (hit.filterMap (fun b => b.turn)).find? (fun w => w.span == v.span) with
      | some w => decide (w.alive < v.next)
      | none => false)

/-- The cells that a window of `ns` from `t` would skip: how many, and how many of them dedicated; none where one of them
must not be skipped (03 R66). -/
def skipCost (l : List Activity) (t : Int) (ns : Nat) : Option (Nat × Nat) :=
  let hit := l.filter (fun a => decide (t ≤ a.start) && decide (a.start < t + ns))
  if hit.any (fun a => a.fixed) || spanLost hit then none else some ((hit.map (fun a => a.cells)).sum, (hit.map (fun a => a.dedicated)).sum)

/-- The cheapest window among now and the ends of the next activities, between cells: its start and the cells it skips (03 R66, R88). -/
def bestGap (l : List Activity) (now : Int) (ns : Nat) : Option (Int × Nat) :=
  let ts := (now :: ((l.map (fun a => a.stop)).filter (fun t => decide (now < t))).take 64).filter (betweenAt l)
  (ts.foldl (fun (best : Option (Int × Nat × Nat)) t =>
    match skipCost l t ns with
    | none => best
    | some (n, d) =>
      match best with
      | some (_, m, e) => if n < m ∨ (n = m ∧ d < e) then some (t, n, d) else best
      | none => some (t, n, d)) none).map (fun b => (b.1, b.2.1))

/-- CAL_FORCED: a set that has waited too long gets its gap, and EV_RF_CAL_FORCED says what it skips (03 R66). -/
def execCalForced (x : Radio) (s : State) : Out :=
  .next (
    match (s.radio x).cals.find? (fun c => decide (c.since + 32768 * s.pnat 0x1016 ≤ s.time.aon)) with
    | none => s
    | some c =>
      if (match (s.radio x).gap with | some g => decide (s.now ≤ g.2) | none => false) || !s.awake then s
      else
        match bestGap (s.activities x) s.now (s.calWindow c.set) with
        | none => s
        | some (t, n) =>
          (s.setRadio x { s.radio x with gap := some (t, t + s.calWindow c.set) }).raise 0x1004 [u8 x.ix, u8 c.set, u16 n])

/-! ### Background items (03 R86, R87) -/

/-- How long a background item takes at most, in µs, and how often it is due, in s (03 R86). -/
def bgMaxUs (i : Nat) : Nat := [110, 60, 70].getD i 110
def bgPeriod (i : Nat) : Nat := [30, 5, 60].getD i 30

/-- A background item is due (03 R86). -/
def State.bgDue (s : State) (x : Radio) (i : Nat) : Bool :=
  let b := (s.radio x).bg.getD i {}
  match b.lastAon with
  | none => true
  | some t => decide (t + 32768 * bgPeriod i ≤ s.time.aon) || (i == 0 && decide (40 ≤ (s.rf.dieTemp - b.lastTemp).natAbs))

/-- A background item may run: it is due and no earlier one of the table is, and the radio has an idle gap long enough (03 R86). -/
def State.bgMayRun (s : State) (x : Radio) (item : Nat) : Bool :=
  s.awake && decide (item < 3) && (s.radio x).st != .off && s.bgDue x item && !(List.range item).any (fun j => s.bgDue x j)
    && s.radioIdle x && gapAt (s.activities x) s.now (1000 * max (s.pnat 0x1013) (bgMaxUs item + 30))

/-- BG_CAL_ITEM: item `item` of the background table runs, passing or failing; the radio is in CAL_BG from then until its next
transition (03 R86, R87). -/
def execBgCalItem (x : Radio) (item : Nat) (pass : Bool) (s : State) : Out :=
  .next (if s.bgMayRun x item then (s.moveRadio x .calBg false).bgItem x item (!pass) else s)

/-! ### RF_CAL_RUN (03 R65, R94) -/

/-- A set queued for the host (03 R94). -/
def State.askCal (s : State) (x : Radio) (set : Nat) : State :=
  let s := s.queueCal x set
  s.setRadio x { s.radio x with cals := (s.radio x).cals.map (fun c => if c.set = set then { c with asked := true } else c) }

def calRunSpec : TlvSpec := { rows := [{ ty := 1, len := .exact 1 }, { ty := 2, len := .exact 1 }, { ty := 3, len := .exact 1 }] }

/-- RF_CAL_RUN's checks and its start; a queued set whose gap the schedule shown does not hold starts at a time the spec does
not state (log entry 3). -/
def calRunBody : Body := fun q s =>
  match Radio.ofNat? (q.nat 1) with
  | none => (naming stRange 1, s)
  | some x =>
    if 3 < q.nat 2 then (naming stRange 2, s)
    else if 1 < q.nat 3 then (naming stRange 3, s)
    else if s.board.isNone then (plain stNotDeclared, s)
    else if s.calMayStart x { set := q.nat 2, since := s.time.aon } then
      (okReply [tlvN 4 8 s.now64], s.startCal x { set := q.nat 2, since := s.time.aon })
    else if q.nat 3 = 0 then (plain stCalConflict, s)
    else
      match s.firstGap x (q.nat 2) with
      | some t => (okReply [tlvN 4 8 (unsigned 64 t)], s.askCal x (q.nat 2))
      | none =>
        let (v, s) := s.draw
        (okReply [tlvN 4 8 v], s.askCal x (q.nat 2))

/-- RF_CAL_RUN (03 R94, R65). -/
def execRfCalRun (ch : Nat) (s : State) : Out := .next (s.serve ch 0x1001 calRunSpec calRunBody)

end Sys2Proof.Machine
end

