-- ==== Sys2Proof/Machine/Time.lean ====
section
/-! DEFINITION. Network time: the clock, the servo, sources, the bound, sleep and the PPS lines (13). -/

namespace Sys2Proof.Machine

/-- The limit of c_f on either side of its start value (13 R380). -/
def cfSpan : Int := rateOf 20000 1

/-- c_f set under its clamp, which counts under SLEW_CLAMPED when it acts (13 R380, R381). -/
def State.setCf (s : State) (v : Int) : State :=
  let w := clampInt (s.time.cStart - cfSpan) (s.time.cStart + cfSpan) v
  let s := { s with time := { s.time with cf := w } }
  if w = v then s else s.bump .time 2

/-- c_p set under its clamp (13 R380). -/
def State.setCp (s : State) (v : Int) : State :=
  let m := rateOf (s.pint 0xB003) 1
  let w := clampInt (-m) m v
  let s := { s with time := { s.time with cp := w } }
  if w = v then s else s.bump .time 2

/-- The bound set; it saturates at 0xFFFF_FFFF (13 R384). -/
def State.setBound (s : State) (e : Nat) : State :=
  { s with time := { s.time with bound := min 0xFFFFFFFF e, boundFrac := 0 } }

/-- The code of a source state (13 TIME_GET). -/
def SourceState.code : SourceState → Nat
  | .root => 0
  | .locked => 1
  | .holdover => 2

/-- EV_TIME_SOURCE with the present source and state (13 R379). -/
def State.raiseSource (s : State) : State := s.raise 0xB001 [u8 s.source, u8 s.time.state.code]

/-- Due triggers, in order of target, then of setting (13 R378). -/
def dueTriggers (now : Int) (l : List Trigger) : List Trigger :=
  (l.filter (fun t => decide (t.target ≤ now))).mergeSort (fun a b => decide (a.target ≤ b.target))

/-- Every due trigger fires, in order (13 R378, R383). -/
def State.fireTriggers (s : State) : State :=
  { s with time := { s.time with
      fired := s.time.fired ++ dueTriggers s.now s.time.triggers
      triggers := s.time.triggers.filter (fun t => decide (s.now < t.target)) } }

/-- A step of the clock by `d` ns (13 R383). -/
def State.stepClock (s : State) (d : Int) : State :=
  let s := { s with time := { s.time with offset := s.time.offset + d, cp := 0 } }
  ((s.bump .time 3).raise 0xB004 [leInt 8 d]).fireTriggers

/-- The clock follows its source: locked, with EV_TIME_SOURCE on a regain (13 R379). -/
def State.lockSource (s : State) : State :=
  let was := s.time.state
  let s := { s with time := { s.time with state := .locked, hadSource := true, heard := s.time.aon } }
  if was = .locked then s else s.raiseSource

/-- One measurement of sources 2 to 5: phase error `e` ns, and the bound it leaves (13 R380, R384). -/
def State.servo (s : State) (e : Int) (bound : Nat) : State :=
  let tau := s.pnat 0xB002
  let s := s.fold
  let s := (s.setCf (s.time.cf + rateOf e (4 * tau))).setCp (rateOf e tau)
  let s := if s.pnat 0xB004 < e.natAbs && !s.scheduleRuns then s.stepClock e else s
  ((s.bump .time 1).setBound bound).lockSource

/-- The source is lost: c_p returns to 0, c_f is kept, and the clock runs on in holdover (13 R379, R382). -/
def State.loseSource (s : State) : State :=
  let s := s.fold
  let s := { s with time := { s.time with cp := 0, state := .holdover } }
  ((s.bump .time 4).raiseSource).raise 0xB002 [u8 s.source, u32 s.time.bound]

/-- The source in effect has changed: a new source 0 runs at once as a root; away from a source it is lost, and the clock is in
holdover until the new one measures (13 R379). -/
def State.changeSource (s : State) (old : Nat) : State :=
  if s.source = old then s
  else if s.source = 0 then
    let s := s.fold
    { s with time := { s.time with cp := 0, state := .root } }.raiseSource
  else s.loseSource

/-- The tq field: quality and the smallest b with E ≤ 2^b (06 R186; log entry 13). -/
def State.tq (s : State) : Nat :=
  let q := match s.time.state with
    | .root => if s.time.wallTime then 0 else 3
    | .locked => 1
    | .holdover => 2
  let b := ((List.range 33).find? (fun k => decide (s.time.bound ≤ 2 ^ k))).getD 32
  q + 4 * b

/-- The growth of the bound in ppb while awake (13 R384). -/
def State.boundPpb (s : State) : Nat :=
  match s.time.state with
  | .locked => s.pnat 0xB005
  | .holdover => s.pnat 0xB006
  | .root => if s.time.hadSource then s.pnat 0xB006 else 100 * s.tol40

/-- The boot ROM's own time: BOOT 1 from 0.3 ms after the release, 197.6 µs after the straps were sampled (18 R485). -/
def Sys.romTick (x : Sys) : Sys :=
  if x.boot ≠ 0 then x
  else if x.romTicks + 1 < 49400 then { x with romTicks := x.romTicks + 1 }
  else { x with romTicks := 49400, boot := 1 }

/-- One tick of 4 ns of the block's clocks: the always-on counter in every state but OFF, and while the fast clocks run
the raw counter and the bound (13 R375, R384; log entry 5). -/
def State.tick (s : State) : State :=
  if s.sys.hold.held || s.sys.pstate = .off then s
  else
    let ph := s.time.aonPhase + 32768
    let t := if ph < 250000000 then { s.time with aonPhase := ph }
      else { s.time with aonPhase := ph - 250000000, aon := (s.time.aon + 1) % 2 ^ 48 }
    if s.awake then
      let fr := t.boundFrac + 4 * s.boundPpb
      { s with sys := s.sys.romTick, time := { t with
          raw := (t.raw + 1) % 2 ^ 48
          bound := satAdd 0xFFFFFFFF t.bound (fr / 1000000000)
          boundFrac := fr % 1000000000 } }
    else { s with time := t }

/-- The raw counter advanced by `adv` ticks; where more than 2^40 have passed since raw_ref, they are folded in the same step (13 R376). -/
def TimeUnit.advance (t : TimeUnit) (adv : Nat) : TimeUnit :=
  let raw := (t.raw + adv) % 2 ^ 48
  let d := sdiff 48 t.raw t.rawRef + adv
  if d < 2 ^ 40 then { t with raw := raw }
  else { t with raw := raw, rawRef := raw, offset := t.offset + 4 * d + (4 * d * (t.cf + t.cp)) / (2 ^ 40 : Int) }

/-- The raw counter advanced over `n` always-on ticks slept, and the bound with it (13 R384, R386; rounded up: log entry 14). -/
def State.sleepAdvance (s : State) (n : Nat) : State :=
  let adv := n * s.time.q / 2048
  let grow := ceilDiv ((s.tol40 + s.tol32) * (4 * adv)) 10000000 + 31000
  let s := { s with time := { s.time.advance adv with
      bound := satAdd 0xFFFFFFFF s.time.bound grow } }
  (s.bump .time 5).fireTriggers

/-! ### Commands -/

def timeGetBody : Body := fun _ s =>
  (okReply [tlvN 1 8 s.now64, tlvN 2 4 s.time.bound, tlvN 3 8 s.time.raw, tlvN 4 8 s.time.aon, tlvN 5 1 s.tq,
    tlvN 6 1 s.time.state.code, ⟨7, leInt 8 s.time.cf⟩, ⟨8, leInt 8 s.time.cp⟩], s)

/-- TIME_GET (13 R385). -/
def execTimeGet (ch : Nat) (s : State) : Out := .next (s.serve ch 0xB001 noTlvs timeGetBody)

def timeAdjustSpec : TlvSpec := { rows := [{ ty := 1, len := .exact 1 }, { ty := 2, len := .exact 8 },
  { ty := 3, len := .exact 8, must := false }, { ty := 4, len := .exact 4 }] }

/-- The adjustment itself (13 R381). -/
def timeAdjust (stepMode : Bool) (phase freq : Int) (bound : Nat) (s : State) : State :=
  let s := s.fold
  let s := if freq = 0 then s else s.setCf (s.time.cf + freq)
  let s := if stepMode then s.stepClock phase else s.setCp (rateOf phase (s.pnat 0xB002))
  (s.setBound bound).lockSource

def timeAdjustBody : Body := fun q s =>
  if s.source ≠ 1 then (plain 0xB102, s)
  else if 1 < q.nat 1 then (naming stRange 1, s)
  else if q.nat 1 = 1 && s.pnat 0xB004 < (q.int 2).natAbs && s.scheduleRuns then (plain 0xB101, s)
  else (okReply [], timeAdjust (q.nat 1 == 1) (q.int 2) (q.int 3) (q.nat 4) s)

/-- TIME_ADJUST (13 R381, R383). -/
def execTimeAdjust (ch : Nat) (s : State) : Out := .next (s.serve ch 0xB002 timeAdjustSpec timeAdjustBody)

/-- The body of a counter command whose only TLV is clear. -/
def countersBody (b : CtrBank) (n : Nat) : Body := fun q s =>
  if 1 < q.nat 1 then (naming stRange 1, s) else countersReply s b n (q.nat 1 == 1)

/-- TIME_COUNTERS_GET (13 R392). -/
def execTimeCountersGet (ch : Nat) (s : State) : Out := .next (s.serve ch 0xB003 clearSpec (countersBody .time 9))

/-- RAW_REF_FOLD (13 R376). -/
def execRawRefFold (s : State) : Out := .next (if s.awake then s.fold else s)

/-- TRIGGER_COMPARE_FIRE (13 R378). -/
def execTriggerCompareFire (s : State) : Out := .next (if s.awake then s.fireTriggers else s)

/-- The parent that sources 3 and 4 follow is lost: the network's, or that of the lowest-numbered UP span that is a time parent (06 R193). -/
def State.parentLost (s : State) : Bool :=
  let gone (p : Option Parent) : Bool := match p with | some p => p.lost | none => true
  if s.source = 4 then gone s.nets.fst.parent && gone s.nets.snd.parent
  else
    match s.timeSpan with
    | some p => gone p.2.parent
    | none => true

/-- The source selected is lost (13 R379): no TIME_ADJUST for its time, three seconds without an accepted edge, a parent lost, or three
intervals without an applied measurement. -/
def State.sourceLost (s : State) : Bool :=
  match s.source with
  | 0 => false
  | 1 => s.ranMs s.time.heard (1000 * s.pnat 0xB008)
  | 2 => s.ranMs s.time.heard 3000
  | 5 => match s.serial.casc.applied with
    | some t => decide (t + (3 * s.pnat 0xC034 * 1000000 : Nat) < s.now)
    | none => true
  | _ => s.parentLost

/-- TIME_SOURCE_LOSS: the source selected is lost (13 R379, R382). -/
def execTimeSourceLoss (s : State) : Out :=
  .next (if s.awake && s.time.state == .locked && s.sourceLost then s.loseSource else s)

/-- TIME_BOUND_ALARM: the bound has crossed the alarm level in either direction (13 R384). -/
def execTimeBoundAlarm (s : State) : Out :=
  let above := decide (s.pnat 0xB007 < s.time.bound)
  .next (if !s.awake || above == s.time.aboveAlarm then s
    else { s with time := { s.time with aboveAlarm := above } }.raise 0xB003 [u32 s.time.bound, boolByte above])

/-- The signed distance from the nearest whole second of network time, in ns (13 R390). -/
def secondPhase (t : Int) : Int := (t + 500000000) % 1000000000 - 500000000

/-- PPS_IN_EDGE: an accepted edge feeds the servo while source 2 is selected (13 R390). -/
def execPpsInEdge (s : State) : Out :=
  .next (
    if !s.awake then s
    else
      let d := secondPhase s.now
      if d.natAbs ≤ max (s.pnat 0xB020) s.time.bound then
        let s := s.bump .time 6
        if s.source = 2 then s.servo (-d) (s.pnat 0xB021) else s
      else s.bump .time 7)

/-- PPS_OUT_EDGE: the line rises within 4 ns of a whole second where the mode allows it, and falls after its width (13 R391). -/
def execPpsOutEdge (s : State) : Out :=
  .next (
    if !s.awake then s
    else if s.time.ppsOut then
      if s.time.ppsFall ≤ s.now then { s with time := { s.time with ppsOut := false } } else s
    else if decide ((secondPhase s.now).natAbs ≤ 4) && s.pins.ppsDriven
        && (s.pnat 0xB022 == 1 || (s.pnat 0xB022 == 2 && decide (s.time.bound ≤ s.pnat 0xB024))) then
      { s with time := { s.time with
          ppsOut := true
          ppsFall := s.now - secondPhase s.now + (1000 * s.pnat 0xB023 : Nat) } }.bump .time 8
    else s)

end Sys2Proof.Machine
end

