-- ==== Sys2Proof/Machine/Cluster.lean ====
section
/-! DEFINITION. The control cluster: the matching store, dispatch to the cores, delay lists, interrupts and coalescing (11). -/

namespace Sys2Proof.Machine

/-! ### Cores -/

def State.core (s : State) (c : Nat) : Core := tget {} s.cc.cores c

def State.setCore (s : State) (c : Nat) (v : Core) : State :=
  { s with cc := { s.cc with cores := tset s.cc.cores c v } }

/-- Eligible for dispatch and interrupts (11 R312). -/
def Core.eligible (c : Core) : Bool := c.st == .running || c.st == .idle || c.st == .gated

def CoreJob.level : CoreJob → Nat
  | .op _ _ p => 16 * p
  | .handler _ l => l

/-- A core's level: that of its innermost job; idle ranks below every level, as 256 (11 R321). -/
def Core.level (c : Core) : Nat :=
  match c.jobs with
  | [] => 256
  | j :: _ => j.level

/-- A core with one more job, innermost. -/
def Core.take (c : Core) (j : CoreJob) : Core := { c with st := .running, jobs := j :: c.jobs }

/-- The core of a list with the least urgent level, the lowest-numbered on a tie. -/
def leastUrgent (s : State) : List Nat → Option Nat
  | [] => none
  | c :: cs =>
    match leastUrgent s cs with
    | none => some c
    | some d => if (s.core c).level < (s.core d).level then some d else some c

def coresIn (mask : Nat) : List Nat := (List.range 8).filter (fun c => mask.testBit c)

/-! ### Templates, instances and the store (11 R315-R320) -/

def State.freeEntries (s : State) : Nat := 8192 - s.cc.store.length

def State.tplNode (s : State) (inst node : Nat) : Option TplNode :=
  match tfind s.cc.insts inst with
  | none => none
  | some i =>
    match tfind s.cc.templates i.tpl with
    | none => none
    | some t => t.nodes[node]?

/-- EV_DFS_PRESSURE of a kind, at most once per second (11 R320). -/
def State.pressure (s : State) (kind : Nat) : State :=
  let due := match tfind s.cc.pressure kind with
    | none => true
    | some t => decide (t + 32768 ≤ s.time.aon)
  if due then
    { s with cc := { s.cc with pressure := tset s.cc.pressure kind s.time.aon } }.raise 0x8002 [u8 kind, u16 s.freeEntries]
  else s

/-- An operand enters the store; a duplicate is discarded and counted (11 R317, R318, R320). -/
def State.storePut (s : State) (o : Operand) : State :=
  if s.cc.store.contains o then s.bump .cc 5
  else
    let before := s.freeEntries
    let s := { s with cc := { s.cc with store := s.cc.store ++ [o] } }
    let s := { s with cc := { s.cc with lowFree := min s.cc.lowFree s.freeEntries } }
    if 512 < before ∧ s.freeEntries ≤ 512 then s.pressure 1 else s

/-- An output delivered to an instance that still lives and is not cancelled (11 R317). -/
def State.deliverOperand (s : State) (o : Operand) : State :=
  match tfind s.cc.insts o.inst with
  | some i => if i.cancelled then s else s.storePut o
  | none => s

/-- The entry rule of firing (11 R318). -/
def entryRule (free outs prio : Nat) (completion : Bool) : Bool :=
  decide (outs ≤ free) && (decide (prio ≤ 3) || completion || decide (512 ≤ free - outs))

/-- The priority by which a trigger of a template waits: that of the template's first node (11 R316). -/
def State.firstNode (s : State) (tpl : Nat) : Option TplNode :=
  match tfind s.cc.templates tpl with
  | none => none
  | some t => t.nodes[0]?

/-- Whether a trigger can start: a free instance number, and store room for its root operands under the entry rule. -/
def State.canStart (s : State) (t : WaitTrigger) : Bool :=
  match s.firstNode t.tpl with
  | none => false
  | some n => decide (s.cc.insts.length < 4096) && entryRule s.freeEntries t.roots.length n.prio n.completion

/-- A trigger starts an instance on the lowest free number (11 R316; log entry 18). -/
def State.startInst (s : State) (t : WaitTrigger) : State :=
  match tfree s.cc.insts 4096, tfind s.cc.templates t.tpl with
  | some n, some tp =>
    let s := { s with cc := { s.cc with insts := tset s.cc.insts n { tpl := t.tpl, version := tp.version } } }
    let s := t.roots.foldl (fun (s : State) r => s.storePut ⟨n, r.1, r.2⟩) s
    if 4096 ≤ s.cc.insts.length then s.pressure 2 else s
  | _, _ => s

def State.triggerPrio (s : State) (t : WaitTrigger) : Nat := ((s.firstNode t.tpl).map (fun n => n.prio)).getD 15

/-- Waiting triggers start in order of priority, then of arrival, until one cannot (11 R316). -/
def State.startWaiting : Nat → State → State
  | 0, s => s
  | fuel + 1, s =>
    match s.cc.waitTriggers.mergeSort (fun a b => decide (s.triggerPrio a ≤ s.triggerPrio b)) with
    | [] => s
    | t :: rest =>
      if s.canStart t then State.startWaiting fuel ({ s with cc := { s.cc with waitTriggers := rest } }.startInst t) else s

/-! ### Dispatch (11 R321) -/

/-- A core operation dispatched: to an idle core, over a less urgent one, or into the ready list. The core it took, if any. -/
def State.dispatch (s : State) (inst node : Nat) (n : TplNode) : Option Nat × State :=
  let cand := (coresIn n.mask).filter (fun c => (s.core c).eligible)
  match cand.find? (fun c => (s.core c).st == .idle || (s.core c).st == .gated) with
  | some c => (some c, s.leaveDoze.setCore c ((s.leaveDoze.core c).take (.op inst node n.prio)))
  | none =>
    match leastUrgent s cand with
    | some c =>
      if n.prio < (s.core c).level / 16 then
        (some c, (s.setCore c ((s.core c).take (.op inst node n.prio))).bump .cc 2)
      else (none, { s with cc := { s.cc with ready := s.cc.ready ++ [RunningOp.mk inst node none 0] } })
    | none => (none, { s with cc := { s.cc with ready := s.cc.ready ++ [RunningOp.mk inst node none 0] } })

/-- The core on which an operation starts, recorded. -/
def State.setOpCore (s : State) (inst node : Nat) (c : Option Nat) : State :=
  { s with cc := { s.cc with running := s.cc.running.map (fun o => if o.inst = inst ∧ o.node = node then { o with core := c, ran := 0 } else o) } }

def State.readyPrio (s : State) (o : RunningOp) : Nat := ((s.tplNode o.inst o.node).map (fun n => n.prio)).getD 15

/-- A core takes the head of the ready list once its own level is less urgent (11 R321). -/
def State.takeReady (s : State) (c : Nat) : State :=
  let mine := (s.cc.ready.filter (fun o => ((s.tplNode o.inst o.node).map (fun n => n.mask.testBit c)).getD false)).mergeSort
    (fun a b => decide (s.readyPrio a ≤ s.readyPrio b))
  match mine with
  | [] => s
  | o :: _ =>
    if (s.core c).eligible ∧ 16 * s.readyPrio o < (s.core c).level then
      let s := { s with cc := { s.cc with ready := s.cc.ready.filter (fun x => ¬ (x.inst = o.inst ∧ x.node = o.node)) } }
      (s.setCore c ((s.core c).take (.op o.inst o.node (s.readyPrio o)))).setOpCore o.inst o.node (some c)
    else s

/-- A job leaves a core, which then resumes what it displaced or takes from the ready list. -/
def State.endJob (s : State) (c : Nat) (j : CoreJob) : State :=
  let co := s.core c
  let jobs := co.jobs.filter (fun x => x != j)
  (s.setCore c { co with jobs := jobs, st := if jobs = [] then .idle else co.st }).takeReady c

/-! ### Firing and completing (11 R317-R319) -/

/-- All inputs of a node are present. -/
def State.inputsPresent (s : State) (inst node inputs : Nat) : Bool :=
  decide (inputs ≤ (s.cc.store.filter (fun o => o.inst == inst && o.node == node)).length)

def State.isRunning (s : State) (inst node : Nat) : Bool := s.cc.running.any (fun o => o.inst == inst && o.node == node)

def State.isWaiting (s : State) (inst node : Nat) : Bool := s.cc.waitNodes.any (fun w => w.inst == inst && w.node == node)

/-- A node that cannot fire waits with its operands in place; `rows`: the cipher engine's counters under which it has counted now. -/
def State.waitNode (s : State) (inst node : Nat) (req : Option CipherReq) (rows : List Nat) : State :=
  if s.isWaiting inst node then
    { s with cc := { s.cc with waitNodes := s.cc.waitNodes.map (fun w =>
        if w.inst = inst ∧ w.node = node then { w with seen := (w.seen ++ rows).eraseDups } else w) } }
  else { s with cc := { s.cc with waitNodes := s.cc.waitNodes ++ [⟨inst, node, req, rows⟩] } }

/-- The counters under which a node's wait has been counted. -/
def State.seenRows (s : State) (inst node : Nat) : List Nat :=
  (s.cc.waitNodes.filter (fun w => w.inst == inst && w.node == node)).flatMap (fun w => w.seen)

def State.unwaitNode (s : State) (inst node : Nat) : State :=
  { s with cc := { s.cc with waitNodes := s.cc.waitNodes.filter (fun w => ¬ (w.inst = inst ∧ w.node = node)) } }

/-- A node held by the entry rule waits; its firing counts as delayed once, under the mark 100 of its wait (11 R318). -/
def State.holdEntry (s : State) (inst node : Nat) (req : Option CipherReq) : State :=
  if (s.seenRows inst node).contains 100 then s else (s.bump .cc 3).waitNode inst node req [100]

/-- The unit takes the operation, or the node waits (11 R318, R321, 10 R287). -/
def State.acceptOp (s : State) (inst node : Nat) (n : TplNode) (req : Option CipherReq) : State :=
  let fired (s : State) (c : Option Nat) : State :=
    ({ (s.unwaitNode inst node) with cc := { (s.unwaitNode inst node).cc with
        running := (s.unwaitNode inst node).cc.running ++ [RunningOp.mk inst node c 0] } }).bump .cc 1
  match n.kind, req with
  | .core, _ =>
    match s.dispatch inst node n with
    | (c, s) => fired s c
  | .cipher, some r =>
    match s.placeRequest (s.seenRows inst node) inst n.prio r with
    | (.hold row, s) => s.waitNode inst node req [row]
    | (_, s) => fired s none
  | _, _ => fired s none

/-- A node whose inputs are present fires, or waits for store room or its unit (11 R318). -/
def State.fireNode (s : State) (inst node : Nat) (req : Option CipherReq) : State :=
  match tfind s.cc.insts inst, s.tplNode inst node with
  | some i, some n =>
    if i.cancelled || s.isRunning inst node || n.kind == .delay || !s.inputsPresent inst node n.inputs then s
    else if entryRule s.freeEntries n.outs.length n.prio n.completion then s.acceptOp inst node n req
    else s.holdEntry inst node req
  | _, _ => s

/-- Whether list `k` has an entry free: 128 of the 2,048 are kept for list 0. -/
def State.delayRoom (s : State) (k : Nat) : Bool :=
  if k = 0 then decide (s.cc.delays.length < 2048)
  else decide (s.cc.delays.length < 2048) && decide ((s.cc.delays.filter (fun d => d.list != 0)).length < 1920)

/-- The ticks of the raw counter after which a delay of `d` scan ticks falls due (11 R323). -/
def delayTicks (d qus : Nat) : Nat := ceilDiv (d * qus * 250) 4

/-- The single output of a delay node goes into an entry of its list, and its input is freed; the entry that fills the lists is told
(11 R320, R323). -/
def State.takeDelay (s : State) (inst node : Nat) (n : TplNode) (o : Nat × Nat) : State :=
  let e : DelayEntry := ⟨n.prio / 4, (s.time.raw + delayTicks n.delay (s.pnat 0x8001)) % 2 ^ 48, inst, o.1, o.2⟩
  let s := s.unwaitNode inst node
  let s := ({ s with cc := { s.cc with
      delays := s.cc.delays ++ [e]
      store := s.cc.store.filter (fun x => ¬ (x.inst = inst ∧ x.node = node)) } }).bump .cc 1
  if 2048 ≤ s.cc.delays.length then s.pressure 3 else s

/-- The place of a node's last input in the store, which is in order of arrival (11 R318). -/
def State.lastInput (s : State) (inst node : Nat) : Nat :=
  ((List.range s.cc.store.length).filter (fun k => (s.cc.store[k]?).any (fun o => o.inst == inst && o.node == node))).getLast?.getD 0

/-- Waiting nodes examined again, in order of priority, then of the time at which their last input arrived (11 R318). -/
def State.retryNodes (s : State) : State :=
  let keyed := s.cc.waitNodes.map (fun w =>
    (((s.tplNode w.inst w.node).map (fun n => n.prio)).getD 15, s.lastInput w.inst w.node, w))
  let order := (keyed.mergeSort (fun a b => decide (a.1 < b.1) || (a.1 == b.1 && decide (a.2.1 ≤ b.2.1)))).map (fun p => p.2.2)
  order.foldl (fun (s : State) w =>
    match s.tplNode w.inst w.node with
    | some n =>
      if n.kind = .delay then
        match n.outs[0]? with
        | some o => if s.delayRoom (n.prio / 4) then s.takeDelay w.inst w.node n o else s
        | none => s.unwaitNode w.inst w.node
      else if entryRule s.freeEntries n.outs.length n.prio n.completion then s.acceptOp w.inst w.node n w.req
      else s.holdEntry w.inst w.node w.req
    | none => s.unwaitNode w.inst w.node) s

/-- An instance's operands and number freed (11 R317). -/
def State.freeInst (s : State) (inst : Nat) : State :=
  { s with cc := { s.cc with
      store := s.cc.store.filter (fun o => o.inst != inst)
      insts := tdel s.cc.insts inst
      waitNodes := s.cc.waitNodes.filter (fun w => w.inst != inst)
      delays := s.cc.delays.filter (fun d => d.inst != inst) } }

/-- An instance ends: its operands are freed, but for the inputs of operations that still run, and its number once those have completed
(11 R317). -/
def State.closeInst (s : State) (inst : Nat) (i : DfsInst) : State :=
  if s.cc.running.any (fun o => o.inst == inst) then
    { s with cc := { s.cc with
        insts := tset s.cc.insts inst { i with cancelled := true }
        store := s.cc.store.filter (fun o => o.inst != inst || s.isRunning o.inst o.node)
        waitNodes := s.cc.waitNodes.filter (fun w => w.inst != inst)
        delays := s.cc.delays.filter (fun d => d.inst != inst) } }
  else s.freeInst inst

/-- What freed entries and numbers let start (11 R316, R318). -/
def State.afterFree (s : State) : State := (State.startWaiting s.cc.waitTriggers.length s).retryNodes

/-- An operation leaves its unit: its inputs are freed and, where its instance still takes them, its outputs enter the
store, in one step; a completion node ends its instance, which holds no rime units then (11 R317, R319, 10 R295). -/
def State.finishOp (s : State) (inst node : Nat) (n : TplNode) : State :=
  let s := { s with cc := { s.cc with
      running := s.cc.running.filter (fun o => ¬ (o.inst = inst ∧ o.node = node))
      store := s.cc.store.filter (fun o => ¬ (o.inst = inst ∧ o.node = node)) } }
  match tfind s.cc.insts inst with
  | none => s.afterFree
  | some i =>
    let s := if i.cancelled then s else n.outs.foldl (fun (s : State) o => s.deliverOperand ⟨inst, o.1, o.2⟩) s
    (if i.cancelled || n.completion then (s.rimeFreeFor inst).closeInst inst i else s).afterFree

def State.completeOp (s : State) (inst node : Nat) : State :=
  match s.cc.running.find? (fun o => o.inst == inst && o.node == node), s.tplNode inst node with
  | some o, some n =>
    let s := { s with cc := { s.cc with
        ready := s.cc.ready.filter (fun x => ¬ (x.inst = inst ∧ x.node = node))
        quiet := if n.kind == UnitKind.core then 0 else s.cc.quiet } }
    let s := match o.core with
      | some c => s.endJob c (.op inst node n.prio)
      | none => s
    s.finishOp inst node n
  | _, _ => s

/-- An instance cancelled: its operands are freed now, its number once its running operations have ended; its rime units
are zeroed and freed (11 R317, 10 R295). -/
def State.cancelInst (s : State) (inst : Nat) : State :=
  match tfind s.cc.insts inst with
  | none => s
  | some i =>
    ((s.rimeFreeFor inst).closeInst inst i).afterFree

/-! ### Delay lists (11 R324) -/

/-- A delay node fires once its input is present and its list has an entry free; otherwise its input stays in place, and it is examined
again as every node that waits (11 R318, R323). -/
def State.fireDelay (s : State) (inst node : Nat) : State :=
  match tfind s.cc.insts inst, s.tplNode inst node with
  | some i, some n =>
    if i.cancelled || n.kind != .delay || !s.inputsPresent inst node n.inputs then s
    else
      match n.outs[0]? with
      | none => s
      | some o =>
        if s.delayRoom (n.prio / 4) then (s.takeDelay inst node n o).afterFree
        else if s.isWaiting inst node then s
        else (s.bump .cc 6).waitNode inst node none []
  | _, _ => s

def State.entryDue (s : State) (e : DelayEntry) : Bool := decide (sdiff 48 e.due s.time.raw ≤ 0)

/-- Every due entry delivered in list order, then of due time, then of insertion, as the store has room (11 R324). -/
def State.scanDelays (s : State) : State :=
  let due := (s.cc.delays.filter (fun e => s.entryDue e)).mergeSort
    (fun a b => decide (a.list < b.list) || (a.list == b.list && decide (sdiff 48 a.due b.due ≤ 0)))
  (due.foldl (fun (s : State) e =>
    if entryRule s.freeEntries 1 (4 * e.list) false then
      { s with cc := { s.cc with delays := s.cc.delays.filter (fun x => x != e) } }.deliverOperand ⟨e.inst, e.node, e.input⟩
    else s) { s with cc := { s.cc with scanned := s.time.raw } }).afterFree

/-! ### The watchdog (11 R322, 17 R462) -/

/-- A hung operation withdrawn: its core is reset, and it starts afresh on another eligible core; operations and handlers
that it had displaced on that core go back to be dispatched or end with it (log entry 19). -/
def State.withdrawOp (s : State) (inst node kindBits : Nat) : State :=
  match s.cc.running.find? (fun o => o.inst == inst && o.node == node), s.tplNode inst node, tfind s.cc.insts inst with
  | some o, some n, some i =>
    match o.core with
    | none => s
    | some c =>
      let others := (s.core c).jobs.filterMap (fun j => match j with
        | .op i' n' _ => if i' = inst ∧ n' = node then none else some (i', n')
        | .handler _ _ => none)
      let s := s.setCore c { (s.core c) with st := .reset, jobs := [], signal := none }
      let s := (s.bump .cc 7).logFault (1 + kindBits) c (i.tpl % 256 + node % 256 * 256)
      let s := others.foldl (fun (s : State) p => { s with cc := { s.cc with ready := s.cc.ready ++ [RunningOp.mk p.1 p.2 none 0] } }.setOpCore p.1 p.2 none) s
      match s.dispatch inst node n with
      | (some d, s) => (s.setOpCore inst node (some d)).raise 0x8001 [u8 c, u8 i.tpl, u16 node, u8 d]
      | (none, s) =>
        let (f, s) := (if s.coresDown then s.hostCauseNow 13 else s).draw
        (s.setOpCore inst node none).raise 0x8001 [u8 c, u8 i.tpl, u16 node, u8 f]
  | _, _, _ => s

/-- An operation has run for the time of the watchdog. -/
def State.opHung (s : State) (inst node : Nat) : Bool :=
  s.cc.running.any (fun o => o.inst == inst && o.node == node && decide (1000 * s.pnat 0x8002 ≤ 4 * o.ran))

/-- One raw tick of the cores: the innermost operation of each has run on, and the system watchdog counts (11 R322, 17 R464). -/
def State.countOps (s : State) : State :=
  if !s.live then s
  else
    let head (o : RunningOp) : Bool := match o.core with
      | some c => match (s.core c).jobs with
        | .op i n _ :: _ => i == o.inst && n == o.node
        | _ => false
      | none => false
    { s with cc := { s.cc with
        running := s.cc.running.map (fun o => if head o then { o with ran := o.ran + 1 } else o)
        quiet := s.cc.quiet + 1 } }

/-! ### Interrupts (11 R326-R331) -/

def State.irq (s : State) (i : Nat) : IrqSource := tget {} s.cc.irqs i

def State.setIrq (s : State) (i : Nat) (v : IrqSource) : State := { s with cc := { s.cc with irqs := tset s.cc.irqs i v } }

/-- The group field of a level: its top g bits (11 R326). -/
def State.groupField (s : State) (level : Nat) : Nat := level / 2 ^ (8 - s.pnat 0x8003)

/-- A core's group field; idle ranks below every field. -/
def State.coreField (s : State) (c : Nat) : Nat := if (s.core c).jobs = [] then 256 else s.groupField (s.core c).level

/-- The target of a source under R327, given the cores that already hold a more urgent signal. -/
def State.irqTarget (s : State) (i : Nat) (taken : List (Nat × Nat)) : Option Nat :=
  let q := s.irq i
  let cand := (coresIn q.targets).filter (fun c => (s.core c).eligible && !taken.any (fun p => p.1 == c))
  match leastUrgent s cand with
  | none => none
  | some d =>
    let c := if cand.contains q.home && (s.core q.home).level == (s.core d).level then q.home else d
    if (s.core c).jobs = [] || decide (s.groupField q.level < s.coreField c) then some c else none

/-- The signals of one arbitration: (core, source), the most urgent source first (11 R327). -/
def State.assignIrqs (s : State) : List (Nat × Nat) :=
  let order := (s.cc.irqs.filter (fun p => p.2.pending && !p.2.masked)).mergeSort
    (fun a b => decide (a.2.level < b.2.level) || (a.2.level == b.2.level && decide (a.1 ≤ b.1)))
  order.foldl (fun acc p => match s.irqTarget p.1 acc with
    | some c => acc ++ [(c, p.1)]
    | none => acc) []

/-- The core that a source is signalled to. -/
def State.signalledTo (s : State) (i : Nat) : Option Nat := (List.range 8).find? (fun c => (s.core c).signal == some i)

/-- A source whose targets are all parked unparks its home core (11 R330). -/
def State.homeWake (s : State) (i : Nat) : State :=
  let q := s.irq i
  if q.pending && !q.masked && (coresIn q.targets).all (fun c => (s.core c).st == .parked) && (s.core q.home).st == .parked then
    ((s.setCore q.home { (s.core q.home) with st := .idle }).bump .cc 11).takeReady q.home
  else s

/-- One arbitration cycle (11 R327, R328, R330). -/
def State.arbitrate (s : State) : State :=
  let asg := s.assignIrqs
  let moved := (asg.filter (fun p => match s.signalledTo p.2 with
    | some c => c != p.1
    | none => false)).length
  let s := (List.range 8).foldl (fun (s : State) c =>
    let sig := (asg.find? (fun p => p.1 == c)).map (fun p => p.2)
    if (s.core c).signal = sig then s else s.setCore c { (s.core c) with signal := sig }) s
  let s := s.bumpBy .cc 10 moved
  let s := if asg.any (fun p => (s.core p.1).st == .gated) then s.leaveDoze else s
  (s.cc.irqs.map (fun p => p.1)).foldl (fun (s : State) i => s.homeWake i) s

/-- Every source held in a group becomes pending (11 R331). -/
def State.releaseGroup (s : State) (g : Nat) (ctr : Nat) : State :=
  let gr := tget {} s.cc.groups g
  let s := gr.held.foldl (fun (s : State) i => s.setIrq i { s.irq i with pending := true }) s
  { s with cc := { s.cc with groups := tset s.cc.groups g { gr with held := [] } } }.bump .cc ctr

/-- A source asserts: pending at once, or held in its group until the group's count (11 R326, R331). -/
def State.assertIrq (s : State) (i : Nat) : State :=
  match (s.irq i).group with
  | none => s.setIrq i { s.irq i with pending := true }
  | some g =>
    let gr := tget {} s.cc.groups g
    let v := { gr with held := gr.held ++ [i], start := if gr.held = [] then s.time.raw else gr.start }
    let s := { s with cc := { s.cc with groups := tset s.cc.groups g v } }
    if gr.count ≤ gr.held.length + 1 then s.releaseGroup g 12 else s

/-- The acknowledgement word (11 R328). -/
def ackWord (source level : Nat) : Nat := source % 512 + level % 256 * 2 ^ 16

def State.acknowledge (s : State) (c : Nat) : State :=
  match (s.core c).signal with
  | none => (s.setCore c { (s.core c) with ack := 2 ^ 31 }).bump .cc 9
  | some i =>
    let q := s.irq i
    let co := s.core c
    let s := s.setIrq i { q with pending := false }
    (s.setCore c { (co.take (.handler i q.level)) with signal := none, ack := ackWord i q.level }).bump .cc 8

/-! ### Commands -/

/-- TRIGGER_START (11 R316). -/
def execTriggerStart (tpl : Nat) (roots : List (Nat × Nat)) (s : State) : Out :=
  .next (
    if !s.live || (s.firstNode tpl).isNone then s
    else
      let t : WaitTrigger := ⟨tpl, roots⟩
      let s := { s with cc := { s.cc with waitTriggers := s.cc.waitTriggers ++ [t] } }
      let s := State.startWaiting s.cc.waitTriggers.length s
      if s.cc.waitTriggers.contains t then s.bump .cc 4 else s)

/-- NODE_FIRE (11 R318, R321, 10 R297-R302). -/
def execNodeFire (inst node : Nat) (req : Option CipherReq) (s : State) : Out :=
  .next (if s.live then s.fireNode inst node req else s)

/-- OPERATION_COMPLETE; a handler that ends is the same moment for its core (11 R319, R328; log entry 20). -/
def execOperationComplete (job : JobRef) (s : State) : Out :=
  .next (
    if !s.live then s
    else
      match job with
      | .op i n => s.completeOp i n
      | .handler c =>
        match (s.core c).jobs with
        | .handler src l :: _ => s.endJob c (.handler src l)
        | _ => s)

/-- INSTANCE_CANCEL (11 R317, 10 R295). -/
def execInstanceCancel (inst : Nat) (s : State) : Out := .next (if s.live then s.cancelInst inst else s)

/-- DELAY_NODE_FIRE (11 R323). -/
def execDelayNodeFire (inst node : Nat) (s : State) : Out := .next (if s.live then s.fireDelay inst node else s)

/-- DELAY_ENTRY_DUE: a scan of the delay lists, a tick after the last (11 R324). -/
def execDelayEntryDue (s : State) : Out :=
  .next (if s.live && decide (250 * (s.pnat 0x8001 : Int) ≤ 4 * sdiff 48 s.time.raw s.cc.scanned) then s.scanDelays else s)

/-- OP_WATCHDOG_EXPIRY: an operation has run its time (11 R322). -/
def execOpWatchdogExpiry (inst node : Nat) (s : State) : Out :=
  .next (if s.live && s.opHung inst node then s.withdrawOp inst node 0 else s)

/-- CORE_RESET_END (11 R312). -/
def execCoreResetEnd (core : Nat) (s : State) : Out :=
  .next (
    if s.live && (s.core core).st == .reset then (s.setCore core { (s.core core) with st := .idle }).takeReady core else s)

/-- Cores that are not parked. -/
def State.unparked (s : State) : Nat := ((List.range 8).filter (fun c => (s.core c).st != .parked)).length

/-- CORE_PARK: an idle core without a signal is parked while enough stay unparked; a parked one is unparked (11 R313, R330). -/
def execCorePark (core : Nat) (park : Bool) (s : State) : Out :=
  .next (
    if !s.live || 8 ≤ core then s
    else if park then
      if (s.core core).st == .idle && (s.core core).signal.isNone && decide (s.pnat 0x8004 < s.unparked) then
        s.setCore core { (s.core core) with st := .parked }
      else s
    else if (s.core core).st == .parked then (s.setCore core { (s.core core) with st := .idle }).takeReady core
    else s)

/-- IRQ_SOURCE_ASSERT (11 R326, R331). -/
def execIrqSourceAssert (source : Nat) (s : State) : Out := .next (if s.live && decide (source < 512) then s.assertIrq source else s)

/-- The timer of a group that holds assertions has reached its time; group 63 is the host line's (11 R331, R333). -/
def State.groupDue (s : State) (group : Nat) : Bool :=
  if group = 63 then s.evs.held != 0 && s.ranUs (some s.evs.start) s.evs.timeUs
  else
    let g := tget {} s.cc.groups group
    !g.held.isEmpty && s.ranUs (some g.start) g.timeUs

/-- COALESCE_TIMER_EXPIRY (11 R331, R333). -/
def execCoalesceTimerExpiry (group : Nat) (s : State) : Out :=
  .next (
    if !s.awake || !s.groupDue group then s
    else if group = 63 then (s.bump .cc 13).releaseHost
    else s.releaseGroup group 13)

/-- IRQ_ARBITRATE (11 R327, R328, R330). -/
def execIrqArbitrate (s : State) : Out := .next (if s.live then s.arbitrate else s)

/-- IRQ_ACKNOWLEDGE (11 R328, R329). -/
def execIrqAcknowledge (core : Nat) (s : State) : Out := .next (if s.live && decide (core < 8) then s.acknowledge core else s)

/-- IRQ_SOURCE_MASK: a masked source's signal is withdrawn; it keeps its pending state (11 R329). -/
def execIrqSourceMask (source : Nat) (mask : Bool) (s : State) : Out :=
  .next (
    if !s.live || 512 ≤ source then s
    else
      let s := s.setIrq source { s.irq source with masked := mask }
      match s.signalledTo source with
      | some c => if mask then s.setCore c { (s.core c) with signal := none } else s
      | none => s)

def coreCode : CoreState → Nat
  | .running => 0
  | .idle => 1
  | .gated => 2
  | .parked => 3
  | .reset => 4

/-- The load of the eight cores over the last 100 ms: measured, at most 100 each (11 CC_STATUS_GET; log entry 3). -/
def State.loads (s : State) : Bytes × State :=
  ((List.range 8).map (fun i => BitVec.ofNat 8 (Config.free (s.freeCtr + i) % 101)), { s with freeCtr := s.freeCtr + 8 })

def ccStatusBody : Body := fun _ s =>
  let (loads, s) := s.loads
  let r := okReply [⟨1, (List.range 8).map (fun c => BitVec.ofNat 8 (coreCode (s.core c).st))⟩, ⟨2, loads⟩,
    ⟨3, boolByte s.cc.aocRunning⟩, tlvN 4 2 s.freeEntries, tlvN 5 2 s.cc.lowFree, tlvN 6 2 s.cc.insts.length,
    tlvN 7 2 s.cc.delays.length, tlvN 8 1 (s.pnat 0x8003)]
  (r, { s with cc := { s.cc with lowFree := s.freeEntries } })

/-- CC_STATUS_GET (11 R320). -/
def execCcStatusGet (ch : Nat) (s : State) : Out := .next (s.serve ch 0x8001 noTlvs ccStatusBody)

/-- CC_COUNTERS_GET (11 R337). -/
def execCcCountersGet (ch : Nat) (s : State) : Out := .next (s.serve ch 0x8002 clearSpec (countersBody .cc 14))

def liveOf (s : State) (slot : Nat) : Nat := (s.cc.insts.filter (fun p => p.2.tpl == slot)).length

def templateListBody : Body := fun _ s =>
  (okReply (s.cc.templates.map (fun p =>
    ⟨1, u8 p.1 ++ u8 0 ++ u16 p.2.version ++ u16 p.2.nodes.length ++ u16 (liveOf s p.1)⟩)), s)

/-- DFS_TEMPLATE_LIST (11 R315). -/
def execDfsTemplateList (ch : Nat) (s : State) : Out := .next (s.serve ch 0x8003 noTlvs templateListBody)

end Sys2Proof.Machine
end

