-- ==== Sys2Proof/Machine/Dram.lean ====
section
/-! DEFINITION. SRAM banks and the DRAM controller: status, refresh, row disturbance, panic, self-refresh, drift, scrub and
training (15 R421-R438). -/

namespace Sys2Proof.Machine

/-- Use codes of the banks (15 R421, MEM_STATUS_GET). -/
def bankUse (n b : Nat) : Nat :=
  if b ≤ 3 then 0 else if b ≤ 5 then 1 else if b = 6 then 2 else if b ≤ 10 then 3 else if b ≤ 10 + n then 4
  else if b ≤ 30 then 5 else 6

def State.ddrChan (s : State) (c : Nat) : DdrChan := tget {} s.ddr.chans c

def State.setDdrChan (s : State) (c : Nat) (v : DdrChan) : State := { s with ddr := { s.ddr with chans := tset s.ddr.chans c v } }

def State.ddrReady (s : State) : Bool := s.ddr.phase == .ready

def State.ddrPanic (s : State) : Bool := s.ddr.panicFirn || s.ddr.panicTxf

/-- Channels that the part has (15 R424). -/
def partChannels : Nat := if Config.isZk4832 then 2 else 1

/-- Channels declared, none of them one that the part lacks: on a ZK4816 channel B is neither driven nor sensed (00 R2, R3, 15 R424). -/
def State.ddrChans (s : State) : Nat := min partChannels (match s.board with | some b => b.ddr.channels | none => 0)

/-- The controller serves a channel: its clocks run, the DRAM is trained, and the channel is one in use (01 R16, R17). -/
def State.ddrServes (s : State) (chan : Nat) : Bool := s.awake && s.ddrReady && decide (chan < s.ddrChans)

def DdrPhase.code : DdrPhase → Nat
  | .undeclared => 0
  | .training => 1
  | .ready => 2
  | .failed => 3

def ddrStatusBody : Body := fun q s =>
  if partChannels ≤ q.nat 1 then (naming stRange 1, s)
  else
    let c := s.ddrChan (q.nat 1)
    (okReply [tlvN 2 1 s.ddr.phase.code, tlvN 3 2 s.ddr.rate, ⟨4, u8 (tget 0 c.mr4 0) ++ u8 (tget 0 c.mr4 1)⟩,
      tlvN 5 2 c.refreshNs, tlvN 6 1 c.postponed, ⟨7, c.eyes⟩,
      ⟨8, leInt 1 (tget 0 c.drift 0) ++ leInt 1 (tget 0 c.drift 1)⟩], s)

/-- DDR_STATUS_GET (15 R437). -/
def execDdrStatusGet (ch : Nat) (s : State) : Out :=
  .next (s.serve ch 0xD002 { rows := [{ ty := 1, len := .exact 1 }] } ddrStatusBody)

/-- MEM_COUNTERS_GET (15 R444). -/
def execMemCountersGet (ch : Nat) (s : State) : Out := .next (s.serve ch 0xD003 clearSpec (countersBody .mem 17))

/-- DRAM_REFRESH: an interval after the last a refresh is due; during panic it is postponed, up to eight (15 R428, R429). A channel in
self-refresh refreshes itself. -/
def execDramRefresh (chan : Nat) (s : State) : Out :=
  .next (
    let c := { s.ddrChan chan with refAt := s.time.raw, refreshWait := (s.ddrChan chan).refreshNs }
    if !s.ddrServes chan || c.selfRefresh || decide (4 * sdiff 48 s.time.raw (s.ddrChan chan).refAt < ((s.ddrChan chan).refreshWait : Int)) then s
    else if s.ddrPanic && decide (c.postponed < 8) then
      (s.setDdrChan chan { c with postponed := c.postponed + 1 }).bump .mem 9
    else s.setDdrChan chan c)

/-- The refresh interval of an MR4 code, in ns (15 R429). -/
def refreshFor (code : Nat) : Nat := if code ≤ 3 then 3904 else if code = 4 then 1952 else 976

/-- MR4_READ: every 16 ms the hottest code of the ranks sets the channel's interval (15 R429). -/
def execMr4Read (chan : Nat) (codes : List Nat) (s : State) : Out :=
  .next (
    if !s.ddrServes chan || !s.dueUs (s.ddrChan chan).mr4At 16000 then s
    else
      let hot := codes.foldl max 0 % 8
      let c := s.ddrChan chan
      let s := s.setDdrChan chan { c with
        mr4 := (codes.zip (List.range codes.length)).foldl (fun t p => tset t p.2 (p.1 % 8)) c.mr4
        mr4At := some s.time.raw
        refreshNs := refreshFor hot
        slowTimings := decide (6 ≤ hot) }
      if hot = 7 then
        let s := s.bump .mem 11
        let due := match c.overtempAt with
          | none => true
          | some t => decide (t + 60 * 32768 ≤ s.time.aon)
        if due then
          (s.setDdrChan chan { s.ddrChan chan with overtempAt := some s.time.aon }).raise 0xD006 [u8 chan, u8 7]
        else s
      else s)

/-- One activate entered into a table of 16 rows (15 R430). -/
def rhActivate (t : List RhEntry) (row : Nat) : List RhEntry :=
  if t.any (fun e => e.row == row) then t.map (fun e => if e.row = row then { e with count := e.count + 1 } else e)
  else if t.length < 16 then t ++ [⟨row, 1⟩]
  else
    let low := t.foldl (fun m e => min m e.count) (t.headD ⟨0, 0⟩).count
    match t.findIdx? (fun e => e.count == low) with
    | some i => t.set i ⟨row, low + 1⟩
    | none => t

/-- RH_THRESHOLD_REFRESH: an activate of a row, whose count may reach the threshold; its neighbours are then refreshed and
the count returns to 0 (15 R430). `bank` is rank × 8 + bank. -/
def execRhThresholdRefresh (chan bank row : Nat) (s : State) : Out :=
  .next (
    if !s.ddrServes chan then s
    else
      let c := s.ddrChan chan
      let t := rhActivate (tget [] c.rh bank) row
      if t.any (fun e => e.row == row && decide (s.pnat 0xD013 ≤ e.count)) then
        (s.setDdrChan chan { c with rh := tset c.rh bank (t.map (fun e => if e.row = row then { e with count := 0 } else e)) }).bump .mem 10
      else s.setDdrChan chan { c with rh := tset c.rh bank t })

/-- RH_TABLE_CLEAR, every 32 ms (15 R430). -/
def execRhTableClear (chan : Nat) (s : State) : Out :=
  .next (
    if s.ddrServes chan && s.ranUs (some (s.ddrChan chan).rhAt) 32000 then
      s.setDdrChan chan { s.ddrChan chan with rh := [], rhAt := s.time.raw }
    else s)

/-- The threshold of a real-time port: bursts for FIRN, bytes for TXF (15 R428). -/
def State.panicThreshold (s : State) : RtPort → Nat
  | .firn => s.pnat 0xD011
  | .txf => 1024 * s.pnat 0xD012

def State.inPanic (s : State) : RtPort → Bool
  | .firn => s.ddr.panicFirn
  | .txf => s.ddr.panicTxf

def State.setPanic (s : State) (p : RtPort) (b : Bool) : State :=
  match p with
  | .firn => { s with ddr := { s.ddr with panicFirn := b } }
  | .txf => { s with ddr := { s.ddr with panicTxf := b } }

/-- Every channel in self-refresh starts its exit (15 R433). -/
def State.wakeDram (s : State) : State :=
  { s with ddr := { s.ddr with chans := s.ddr.chans.map (fun p => (p.1, { p.2 with selfRefresh := false, busyAt := s.time.raw })) } }

/-- PANIC_ENTRY: a real-time port's backlog `level` reaches its threshold, and self-refresh ends (15 R428, R433). -/
def execPanicEntry (port : RtPort) (level : Nat) (s : State) : Out :=
  .next (
    if s.awake && s.ddrReady && !s.inPanic port && decide (s.panicThreshold port ≤ level) then
      (s.wakeDram.setPanic port true).bump .mem (match port with | .firn => 7 | .txf => 8)
    else s)

/-- PANIC_EXIT: the level falls below half the threshold; with no port in panic the refreshes owed are issued (15 R428). -/
def execPanicExit (port : RtPort) (level : Nat) (s : State) : Out :=
  .next (
    if s.awake && s.inPanic port && decide (2 * level < s.panicThreshold port) then
      let s := s.setPanic port false
      if s.ddrPanic then s
      else { s with ddr := { s.ddr with chans := s.ddr.chans.map (fun p => (p.1, { p.2 with postponed := 0 })) } }
    else s)

/-- An entry into self-refresh is due on a channel: its idle time has run (15 R432). -/
def State.srDue (s : State) (chan : Nat) : Bool :=
  s.pnat 0xD014 != 0 && !s.ddrPanic && !(s.ddrChan chan).selfRefresh && s.ranUs (some (s.ddrChan chan).busyAt) (s.pnat 0xD014)

/-- SELF_REFRESH_ENTRY, after its idle time: SRE issued and CK stopped (15 R432). -/
def execSelfRefreshEntry (chan : Nat) (s : State) : Out :=
  .next (
    if s.ddrServes chan && s.srDue chan then
      (s.setDdrChan chan { s.ddrChan chan with selfRefresh := true }).bump .mem 12
    else s)

/-- SELF_REFRESH_EXIT: a request or a panic starts the exit; a request before SRE cancels the entry that is due (15 R433). -/
def execSelfRefreshExit (chan : Nat) (beforeSre : Bool) (s : State) : Out :=
  .next (
    let c := { s.ddrChan chan with selfRefresh := false, busyAt := s.time.raw }
    if !s.ddrServes chan || !(if beforeSre then s.srDue chan else (s.ddrChan chan).selfRefresh) then s
    else (s.setDdrChan chan c).bump .mem (if beforeSre then 13 else 14))

/-- The delays of a rank moved, and the drift reported, as a drift since training in 1/64 UI calls for (15 R438). -/
def State.dqsCheck (s : State) (chan rank : Nat) (drift : Int) : State :=
  let c := s.ddrChan chan
  let before := tget 0 c.drift rank
  let move := decide (2 < (drift - tget 0 c.driftMoved rank).natAbs)
  let s := s.setDdrChan chan { c with
    dqsAt := tset c.dqsAt rank s.time.raw
    drift := tset c.drift rank drift
    driftMoved := if move then tset c.driftMoved rank drift else c.driftMoved }
  let s := if move then s.bump .mem 15 else s
  if 16 < drift.natAbs ∧ before.natAbs ≤ 16 then s.raise 0xD007 [u8 chan, u8 rank, leInt 1 drift] else s

/-- DQS_OSC_CHECK, at its interval and first after NAP (15 R438). -/
def execDqsOscCheck (chan rank : Nat) (drift : Int) (s : State) : Out :=
  .next (if s.ddrServes chan && s.dueUs (tfind (s.ddrChan chan).dqsAt rank) (1000 * s.pnat 0xD015) then s.dqsCheck chan rank drift else s)

/-- ECC on DRAM, as declared (15 R434). -/
def State.dramEcc (s : State) : Bool :=
  match s.board with
  | some b => b.ddr.ecc
  | none => false

/-- SCRUB_PASS: a pass ends once per its hours (15 R435). -/
def execScrubPass (s : State) : Out :=
  .next (
    if s.awake && s.ddrReady && s.dramEcc && s.pnat 0xD016 != 0 && s.ranMs s.ddr.scrubAt (3600000 * s.pnat 0xD016) then
      { s with ddr := { s.ddr with scrubAt := s.time.aon } }.bump .mem 16
    else s)

/-- A single-bit correction in memory 0 SRAM or 1 DRAM is logged at most once per minute per memory; an injected one with `extra` added
to its kind (17 R465, R474). -/
def State.logCe (s : State) (mem detail extra : Nat) : State :=
  let due := match tfind s.flt.lastCe mem with
    | none => true
    | some t => decide (t + 60 * 32768 ≤ s.time.aon)
  if due then
    { s with flt := { s.flt with lastCe := tset s.flt.lastCe mem s.time.aon } }.logFault (2 + mem + extra) mem detail
  else s

/-- SRAM_SCRUB: a bank scrubbed, once per hour, with the single-bit errors it corrected (15 R422). -/
def execSramScrub (bank corrected : Nat) (s : State) : Out :=
  .next (
    if !s.awake || 32 ≤ bank || !s.ranMs (tget 0 s.ddr.bankAt bank) 3600000 then s
    else
      let s := { s with ddr := { s.ddr with bankAt := tset s.ddr.bankAt bank s.time.aon } }
      if corrected = 0 then s else (s.bumpBy .mem 1 corrected).logCe 0 bank 0)

/-! ### Training (15 R436, R437) -/

def trainRates : List Nat := [4266, 3733, 3200, 2133]

/-- Training starts from factory defaults at the highest rate the board supports. -/
def State.startTraining (s : State) (d : DdrDecl) : State :=
  { s with
    ddr := { s.ddr with phase := .training, trainRate := (trainRates.find? (fun r => decide (r ≤ d.maxMts))).getD 2133,
                        trainRank := 0, trainStep := 0, rate := 0 }
    pins := { s.pins with ddrDriven := true } }

/-- The next lower rate. -/
def lowerRate (r : Nat) : Option Nat := trainRates.find? (fun x => decide (x < r))

/-- TRAINING_STEP_DONE: the step of the present rank passes or fails; after the last, BOOT reaches 4 (15 R436, R437). -/
def execTrainingStepDone (pass : Bool) (chan : Nat) (eyes : Bytes) (s : State) : Out :=
  .next (
    match s.board with
    | none => s
    | some b =>
      if s.ddr.phase ≠ .training || !s.awake || decide (s.ddrChans ≤ chan) then s
      else if pass then
        let s := if eyes = [] then s else s.setDdrChan chan { s.ddrChan chan with eyes := eyes.take 32 }
        if s.ddr.trainStep < 4 then { s with ddr := { s.ddr with trainStep := s.ddr.trainStep + 1 } }
        else if s.ddr.trainRank + 1 < b.ddr.ranks then
          { s with ddr := { s.ddr with trainStep := 0, trainRank := s.ddr.trainRank + 1 } }
        else
          let s := { s with ddr := { s.ddr with phase := .ready, scrubAt := s.time.aon, rate := s.ddr.trainRate, trainStep := 0, trainRank := 0 } }
          if s.sys.boot = 3 then (s.setBoot 4).raise 0x0002 [u8 4] else s
      else
        let s := s.raise 0xD004 [u16 s.ddr.trainRate, u8 s.ddr.trainStep, u8 chan, u8 s.ddr.trainRank]
        match lowerRate s.ddr.trainRate with
        | some r => { s with ddr := { s.ddr with trainRate := r, trainRank := 0, trainStep := 0 } }
        | none => { s with ddr := { s.ddr with phase := .failed } })

end Sys2Proof.Machine
end

