-- ==== Sys2Proof/Machine/Sched.lean ====
section
/-! DEFINITION. The commands of the slot engine, the admission of joins, ASN marks and time parents (06). -/

namespace Sys2Proof.Machine

def stAsnBelowMark : Nat := 0x3101
def stCellConflict : Nat := 0x3102
def stNoPlacement : Nat := 0x3103
def stCellLimit : Nat := 0x3104
def stTemplate : Nat := 0x3105
def stSpanLo : Nat := 0x3106
def stSlotFull : Nat := 0x3107
def stNetRunning : Nat := 0x3108
def stUnknownJoin : Nat := 0x3109
def stFrameSlot : Nat := 0x310A

/-- A body for a command whose TLV 1 is a network. -/
def withNet (f : Net → Req → State → Reply × State) : Body := fun q s =>
  match Net.ofNat? (q.nat 1) with
  | none => (naming stRange 1, s)
  | some n => f n q s

/-! ### Starting and stopping (06 R162-R168, R177, R190-R192) -/

/-- The orders of DSME are valid (06 R167). -/
def State.ordersOk (s : State) (n : Net) : Bool :=
  let so := s.netParam n 0x3018
  let mo := s.netParam n 0x3019
  let bo := s.netParam n 0x301A
  decide (so ≤ mo) && decide (mo ≤ bo) && decide (bo ≤ 14) && decide (mo - so ≤ 11)
    && decide (2000000 ≤ s.slotNs n) && decide (s.slotNs n ≤ 40000000)

/-- The timing template, and in DSME the orders, are valid (06 R165, R167). -/
def State.templateOk (s : State) (n : Net) : Bool :=
  let p := s.netParam n
  decide (p 0x3008 ≤ p 0x3007) && decide (p 0x3007 ≤ p 0x3008 + p 0x300B)
    && decide (p 0x3005 + p 0x3006 + p 0x300D ≤ p 0x3007)
    && decide (p 0x3009 ≤ p 0x300A) && decide (p 0x300A ≤ p 0x3009 + p 0x300C)
    && decide (1000 * (p 0x3007 + p 0x300F + p 0x300A + p 0x300E) ≤ s.slotNs n)
    && decide (s.clientAir n 16 false ≤ 3000 * p 0x300E)
    && (!s.isDsme n || s.ordersOk n)

/-- With a fixed oscillator every hopping-list channel's wide window lies within the capture (06 R177). -/
def State.fixedLoOk (s : State) : Bool :=
  s.pnat 0x3013 == 0
    || (s.hopSeq .lb).all (fun n => windowFits (s.pnat 0x3013) (s.chanKhz .lb n) (windowBins (s.netMode .lb) true))

/-- The hopping-list channels that a cell can reach lie in the radio's band (03 R57). -/
def State.cellInBand (s : State) (n : Net) : Bool := (s.hopSeq n).all (fun k => inBand n.radio (s.chanKhz n k))

/-- The network key slots of a list, each loaded with usage bit 0; else the status (10 R283). -/
def State.netKeys (s : State) : List Nat → Except Nat (List (Nat × Nat))
  | [] => .ok []
  | k :: t =>
    match s.keyFor k 0, s.netKeys t with
    | .error e, _ => .error e
    | _, .error e => .error e
    | .ok v, .ok l => .ok ((k, keyCheck v.key) :: l)

/-- The stored mark where the named keys are those of the record: the key set is unchanged (06 R192). -/
def State.unchangedMark (s : State) (n : Net) (keys : List (Nat × Nat)) : Option Nat :=
  match s.nvData (0x0200 + n.ix) with
  | some (.asn m _ ks) => if keys.all (fun k => ks.contains k) then some m else none
  | _ => none

/-- Little-endian 16-bit numbers of a value. -/
def nat16s : Bytes → List Nat
  | a :: b :: t => leNat [a, b] :: nat16s t
  | _ => []

/-- The network started at an ASN: cells and slotframes that were set up before are in force from it (06 R172, R192). -/
def State.startNet (s : State) (n : Net) (start : Nat) (keys : List Nat) : State :=
  let v := s.net n
  let frames := v.frames.map (fun p => (p.1, match p.2 with | (_, l) :: _ => [(start, l)] | [] => []))
  let s := s.setNet n { v with
    running := true
    asn := start
    begun := false
    slotStart := s.now + 1000 * s.pnat 0x0020
    frames := frames
    plan := none
    cur := none
    keys := keys
    markDue := none
    holdRaised := false
    waitMark := false
    audited := false
    parent := if s.isDsme n && s.pnat 0xB001 == 4 then some {} else none
    awaiting := [] }
  let s := { s with cells := (s.cells.filter (fun (p : Nat × Cell) => !(p.2.net == n.ix && p.2.until_.isSome))).map (fun (p : Nat × Cell) =>
    if p.2.net = n.ix then (p.1, { p.2 with from_ := start }) else p) }
  (s.latchSched n).firstUse n.radio

/-- A mark write requested, unless it is pending (06 R190). -/
def State.requestAsnMark (s : State) (n : Net) (m : Nat) : State :=
  if (s.net n).markDue = some m then s
  else (s.setNet n { s.net n with markDue := some m }).recordDue (0x0200 + n.ix) false

def netStartSpec : TlvSpec := { rows := [{ ty := 1, len := .exact 1 }, { ty := 2, len := .exact 8, must := false },
  { ty := 3, len := .range 0 16 }] }

/-- A start is followed by the write of a fresh mark: without one, an unchanged key set would hold at once (06 R191, R192;
log entry 31). With a changed key set, or no mark record, the first timeslot waits for it. -/
def netStartBody : Body := withNet fun n q s =>
  if s.board.isNone then (plain stNotDeclared, s)
  else if !s.ddrReady then (plain stState, s)
  else if (s.net n).running then (plain stNetRunning, s)
  else if (s.femOf n.radio).isNone then (plain stNotDeclared, s)
  else if !s.firn.restored then (plain stState, s)
  else if !s.templateOk n then (plain stTemplate, s)
  else if n == .lb && !s.fixedLoOk then (plain stSpanLo, s)
  else if s.cells.any (fun p => p.2.net == n.ix) && !s.cellInBand n then (plain stRange, s)
  else if (q.bytes 3).length % 2 ≠ 0 then (naming stBadLength 3, s)
  else
    match s.netKeys (nat16s (q.bytes 3)) with
    | .error e => (naming e 3, s)
    | .ok keys =>
      let mark := if s.isDsme n then none else s.unchangedMark n keys
      let least := (mark.getD 0 + 2 ^ 20) % 2 ^ 40
      let start := if q.has 2 then q.nat 2 else if mark.isSome then least else 0
      if 2 ^ 40 ≤ start then (naming stRange 2, s)
      else if mark.isSome && decide (sdiff 40 start least < 0) then (plain stAsnBelowMark, s)
      else
        let s := s.startNet n start (nat16s (q.bytes 3))
        let s := if s.isDsme n then s
          else (s.setNet n { s.net n with waitMark := mark.isNone }).requestAsnMark n start
        (okReply [tlvN 4 8 start], s.raise 0x3001 [u8 n.ix, u64 start, boolByte mark.isSome])

/-- SCHED_NET_START (06 R192). -/
def execSchedNetStart (ch : Nat) (s : State) : Out := .next (s.serve ch 0x3001 netStartSpec netStartBody)

/-- An emission of a client network. -/
def EmOwner.ofNet : EmOwner → Bool
  | .client .. | .ack .. | .beacon .. | .broadcast .. => true
  | .span .. | .test => false

/-- The network stopped: nothing more is planned or sent for it, and what was to change at a later ASN holds from the next
start (06 R162; log entry 32). -/
def State.stopNet (s : State) (n : Net) : State :=
  let x := n.radio
  let s := s.setRadio x { s.radio x with pend := (s.radio x).pend.filter (fun e => !e.owner.ofNet) }
  let s := s.setNet n { s.net n with running := false, begun := false, plan := none, cur := none, markDue := none, parent := none,
                                     awaiting := [] }
  let s := { s with cells := s.cells.filter (fun p => !(p.2.net == n.ix && p.2.until_.isSome)) }
  let s := s.freeLanes (fun l _ => laneRadio l == x && l != 48)
  let s := s.setFirn { s.firn with slots := s.firn.slots.map (fun p =>
    match s.ctx? p.2.ctx with
    | some c => if c.net = n.ix then (p.1, { p.2 with held := none }) else p
    | none => p) }
  s.domainStopped (0x0100 + n.ix)

def netStopBody : Body := withNet fun n _ s =>
  if !(s.net n).running then (plain stState, s)
  else (okReply [tlvN 4 8 (s.net n).asn], s.stopNet n)

/-- SCHED_NET_STOP (06 R162, 02 R50). -/
def execSchedNetStop (ch : Nat) (s : State) : Out :=
  .next (s.serve ch 0x3002 { rows := [{ ty := 1, len := .exact 1 }] } netStopBody)

/-! ### Slotframes and cells (06 R169-R176, R181) -/

/-- The ASN from which a change without staging holds: the first timeslot that starts at least the lead and four timeslots after
now; 0, at once, while the network is stopped (06 R172). -/
def State.effAsn (s : State) (n : Net) : Nat :=
  if (s.net n).running then
    let t := s.now + max (1000 * s.pnat 0x0020) (4 * s.slotNs n) - (s.net n).slotStart
    s.asnAfter n (ceilDiv t.toNat (max 1 (s.slotNs n)))
  else 0

/-- The newest length of a slotframe: the one that checks go by (06 R175). -/
def State.newLen (s : State) (n : Net) (h : Nat) : Option Nat :=
  if s.isDsme n then s.frameLen n h 0
  else
    match tget [] (s.net n).frames h with
    | (_, l) :: _ => l
    | [] => none

def stagedHandle (q : Req) (ty : Nat) : Option Nat := if q.has ty then some (q.nat ty) else none

def slotClasses : List CommitClass := [.slotframe, .superframe]

def frameAddSpec : TlvSpec := { rows := [{ ty := 1, len := .exact 1 }, { ty := 2, len := .exact 1 }, { ty := 3, len := .exact 2 },
  { ty := 4, len := .exact 1, must := false }] }

/-- A slotframe change, at once or in a set; a staged one has no effective ASN until its commit (06 R169; log entry 33). -/
def frameChange (n : Net) (h : Nat) (len : Option Nat) (set : Option Nat) (s : State) : Reply × State :=
  match set with
  | some k =>
    match s.stage k slotClasses (0x0100 + n.ix) (.frame n.ix h len) with
    | .error e => (plain e, s)
    | .ok s => (okReply [tlvN 5 8 0], s)
  | none => (okReply [tlvN 5 8 (s.effAsn n)], s.setFrame n h len (s.effAsn n))

def frameAddBody : Body := withNet fun n q s =>
  if 15 < q.nat 2 then (naming stRange 2, s)
  else if q.nat 3 = 0 then (naming stRange 3, s)
  else if s.isDsme n then (plain stState, s)
  else frameChange n (q.nat 2) (some (q.nat 3)) (stagedHandle q 4) s

/-- SCHED_SLOTFRAME_ADD (06 R169). -/
def execSchedSlotframeAdd (ch : Nat) (s : State) : Out := .next (s.serve ch 0x3003 frameAddSpec frameAddBody)

def frameDelSpec : TlvSpec := { rows := [{ ty := 1, len := .exact 1 }, { ty := 2, len := .exact 1 },
  { ty := 4, len := .exact 1, must := false }] }

def frameDelBody : Body := withNet fun n q s =>
  if 15 < q.nat 2 then (naming stRange 2, s)
  else if s.isDsme n then (plain stState, s)
  else if (s.newLen n (q.nat 2)).isNone then (naming stRange 2, s)
  else frameChange n (q.nat 2) none (stagedHandle q 4) s

/-- SCHED_SLOTFRAME_DEL (06 R169). -/
def execSchedSlotframeDel (ch : Nat) (s : State) : Out := .next (s.serve ch 0x3004 frameDelSpec frameDelBody)

/-- A cell record as read (06 R170). -/
def decodeCell (b : Bytes) : Cell :=
  let at_ (o n : Nat) := leNat ((b.drop o).take n)
  { net := at_ 2 1, handle := at_ 3 1, slot := at_ 4 2, chan := at_ 6 1, kind := at_ 7 1, opts := at_ 8 1, span := at_ 9 1,
    ctx := at_ 10 2, slotMin := at_ 12 2, slotMax := at_ 14 2 }

def Cell.bytes (c : Cell) (id : Nat) : Bytes :=
  u16 id ++ u8 c.net ++ u8 c.handle ++ u16 c.slot ++ u8 c.chan ++ u8 c.kind ++ u8 c.opts ++ u8 c.span ++ u16 c.ctx
    ++ u16 c.slotMin ++ u16 c.slotMax

def Cell.autoSlot (c : Cell) : Bool := c.opts.testBit 5
def Cell.autoChan (c : Cell) : Bool := c.opts.testBit 6

/-- The combination of kind and options is one of the table (06 R171). -/
def Cell.kindOk (c : Cell) : Bool :=
  !c.opts.testBit 7 &&
  match c.kind with
  | 0 => c.isTx != c.isRx && c.ctx != 0xFFFF
  | 1 => c.isTx && !c.isRx && c.isShared && !c.acked && c.ctx == 0xFFFF
  | 2 => !c.isTx && c.isRx && c.isShared && !c.acked && c.ctx == 0xFFFF
  | 3 => c.isTx && c.isRx && !c.isShared && !c.acked && c.ctx == 0xFFFF
  | 4 => c.isTx && !c.isRx && c.isShared && !c.acked && c.ctx == 0xFFFF
  | _ => false

/-- Two cells coincide at some ASN (06 R175). -/
def coincide (a la b lb : Nat) : Bool := decide (a % Nat.gcd la lb = b % Nat.gcd la lb)

/-- The cells of a network that a new cell at a slot offset of a slotframe coincides with; a deleted one no longer counts. -/
def State.coinciding (s : State) (n : Net) (slot len : Nat) : List (Nat × Cell) :=
  s.cells.filter (fun p => p.2.net == n.ix && p.2.until_.isNone &&
    (match s.newLen n p.2.handle with | some l => decide (0 < l) && coincide slot len p.2.slot l | none => false))

/-- Conflicts within the handle (06 R174). -/
def cellConflict (c : Cell) (l : List (Nat × Cell)) : Bool :=
  l.any (fun p => p.2.handle == c.handle && p.2.slot == c.slot
    && (p.2.isTx != c.isTx || p.2.isRx != c.isRx || p.2.chan == c.chan))

def State.maxCarriers (s : State) (x : Radio) : Nat := if x = .lb then s.pnat 0x2059 else s.pnat 0x205A

/-- A limit of a timeslot is exceeded with the cell added (06 R176). -/
def State.slotFull (s : State) (n : Net) (c : Cell) (l : List (Nat × Cell)) : Bool :=
  let same := c :: (l.filter (fun p => p.2.isTx == c.isTx && p.2.isRx == c.isRx)).map (fun p => p.2)
  let chans := ((same.map (fun d => d.chan)).eraseDups).length
  if c.kind = 3 then decide (1 < same.length)
  else if c.isRx then decide ((if n = .lb then 32 else 16) < chans)
    || (c.acked && decide (s.maxCarriers n.radio < (same.filter (fun d => d.acked)).length))
  else decide (s.maxCarriers n.radio < chans)

/-- The lowest channel offset free in a timeslot (06 R181). -/
def State.freeChan (s : State) (n : Net) (l : List (Nat × Cell)) : Option Nat :=
  (List.range (if s.isDsme n then (s.hopSeq n).length else 128)).find? (fun k => !l.any (fun p => p.2.chan == k))

/-- A cell with its channel chosen, where asked for. -/
def State.withChan (s : State) (n : Net) (c : Cell) (l : List (Nat × Cell)) : Option Cell :=
  if c.autoChan then (s.freeChan n l).map (fun k => { c with chan := k }) else some c

/-- Expected level of a partner, or the default, in 0.25 dBm (06 R181). -/
def State.placeLevel (s : State) (n : Net) (ctx : Nat) : Int :=
  match s.ctx? ctx with
  | some x => x.level.getD (4 * s.schedInt n 0x302A)
  | none => 4 * s.schedInt n 0x302A

def spreadOf (l : List Int) : Nat :=
  match l with
  | [] => 0
  | a :: t => (t.foldl max a - t.foldl min a).toNat

/-- The levels that count at a slot offset: of the RX client cells that coincide. -/
def State.levelSet (s : State) (n : Net) (l : List (Nat × Cell)) : List Int :=
  (l.filter (fun p => p.2.isClientRx)).map (fun p => s.placeLevel n p.2.ctx)

/-- A candidate slot offset: the cell as it would stand there, whether levels stand there, and the spread with it; only a
dedicated RX client cell adds its own level (06 R181; log entry 34). -/
structure Candidate where
  cell : Cell
  taken : Bool
  spread : Nat
  deriving DecidableEq, Repr

def State.candidate (s : State) (n : Net) (c : Cell) (len slot : Nat) : Option Candidate :=
  let l := s.coinciding n slot len
  match s.withChan n { c with slot := slot } l with
  | none => none
  | some d =>
    if cellConflict d l || s.slotFull n d l then none
    else
      let levels := s.levelSet n l
      let own := if d.isClientRx && !d.isShared then [s.placeLevel n d.ctx] else []
      some { cell := d, taken := !levels.isEmpty, spread := spreadOf (own ++ levels) }

def leastSpread (l : List Candidate) : Option Candidate :=
  l.foldl (fun best c => match best with | some b => if c.spread < b.spread then some c else best | none => some c) none

/-- The slot offset chosen (06 R181). -/
def State.place (s : State) (n : Net) (c : Cell) (len : Nat) : Option Cell :=
  let cs := ((List.range (c.slotMax + 1 - c.slotMin)).map (fun k => c.slotMin + k)).filterMap (s.candidate n c len)
  let cls := 4 * s.schedParam n 0x3028
  let wide := 4 * s.schedParam n 0x3029
  match leastSpread (cs.filter (fun k => k.taken && decide (k.spread ≤ cls))) with
  | some k => some k.cell
  | none =>
    match cs.find? (fun k => !k.taken) with
    | some k => some k.cell
    | none => (leastSpread (cs.filter (fun k => decide (k.spread ≤ wide)))).map (fun k => k.cell)

/-- The status with which a cell record is refused before its placement. -/
def State.cellFault (s : State) (c : Cell) : Option Nat :=
  match Net.ofNat? c.net with
  | none => some stRange
  | some n =>
    if 15 < c.handle ∨ 4 < c.kind ∨ (s.isDsme n ∧ c.handle ≠ 0) ∨ (c.kind = 3 ∧ 31 < c.span) ∨ (c.kind ≠ 3 ∧ c.span ≠ 0)
        ∨ (c.kind = 0 ∧ 4096 ≤ c.ctx ∧ c.ctx ≠ 0xFFFF) then some stRange
    else if !c.kindOk then some stBadTlv
    else
      match s.newLen n c.handle with
      | none => some stRange
      | some len =>
        if !c.autoChan && decide ((if s.isDsme n then (s.hopSeq n).length else 128) ≤ c.chan) then some stRange
        else if c.autoSlot && (decide (c.slotMax < c.slotMin) || decide (len ≤ c.slotMax)) then some stRange
        else if !c.autoSlot && decide (len ≤ c.slot) then some stRange
        else if !s.cellInBand n then some stRange
        else if c.kind = 0 ∧ (s.ctx? c.ctx).isNone then some stCtxUnassigned
        else if 65536 ≤ s.cells.length then some stCellLimit
        else if c.kind = 0 ∧ 24 ≤ (s.cells.filter (fun p => p.2.ctx == c.ctx && p.2.until_.isNone)).length then some stCtxCells
        else none

/-- The cell as placed, or the status; a fixed slot with no free channel offset is refused like a slot that cannot be placed (DESIGN CHOICE,
log entry 152). -/
def State.placeCell (s : State) (c : Cell) : Except Nat Cell :=
  match s.cellFault c with
  | some e => .error e
  | none =>
    let n := (Net.ofNat? c.net).getD .lb
    let len := (s.newLen n c.handle).getD 1
    if c.autoSlot then
      match s.place n c len with
      | some d => .ok d
      | none => .error stNoPlacement
    else
      let l := s.coinciding n c.slot len
      match s.withChan n c l with
      | none => .error stNoPlacement
      | some d => if cellConflict d l then .error stCellConflict else if s.slotFull n d l then .error stSlotFull else .ok d

/-- The state as a cell of a set finds it: with the set's own slotframes, cells and parameters, which come after every change that is
pending. -/
def State.openView (s : State) (h : Option Nat) : State :=
  match h.bind s.openSet with
  | some x =>
    let n : Net := if x.domain = 0x0101 then .mb else .lb
    x.writes.foldl (State.previewWrite n (((s.net n).asn + 2 ^ 38) % 2 ^ 40)) s
  | none => s

/-- The lowest cell ID neither in use nor promised to a staged cell; none where the device holds its 65,536 cells (06 R170). -/
def State.freeCell (s : State) : Option Nat :=
  let staged := s.allStaged.filterMap (fun w => match w with | .cell id (some _) => some id | _ => none)
  (List.range 65536).find? (fun k => !thas s.cells k && !staged.contains k)

def cellAddSpec : TlvSpec := { rows := [{ ty := 1, len := .exact 16 }, { ty := 3, len := .exact 1, must := false }] }

def cellAddBody : Body := fun q s =>
  match (s.openView (stagedHandle q 3)).placeCell (decodeCell (q.bytes 1)), s.freeCell with
  | .error e, _ => ((if e = stRange ∨ e = stBadTlv then naming e 1 else plain e), s)
  | .ok _, none => (plain stCellLimit, s)
  | .ok c, some id =>
    let n := (Net.ofNat? c.net).getD .lb
    match stagedHandle q 3 with
    | some k =>
      match s.stage k slotClasses (0x0100 + n.ix) (.cell id (some c)) with
      | .error e => (plain e, s)
      | .ok s => (okReply [⟨2, c.bytes id⟩, tlvN 4 8 0], s)
    | none =>
      (okReply [⟨2, c.bytes id⟩, tlvN 4 8 (s.effAsn n)], { s with cells := tset s.cells id { c with from_ := s.effAsn n } })

/-- SCHED_CELL_ADD (06 R170-R176, R181). -/
def execSchedCellAdd (ch : Nat) (s : State) : Out := .next (s.serve ch 0x3005 cellAddSpec cellAddBody)

/-- A cell no longer served from an ASN; with its network stopped it goes at once (06 R172). -/
def State.deleteCell (s : State) (id asn : Nat) : State :=
  match tfind s.cells id with
  | none => s
  | some c =>
    if (s.net ((Net.ofNat? c.net).getD .lb)).running then { s with cells := tset s.cells id (c.endAt asn) }
    else { s with cells := tdel s.cells id }

def cellDelSpec : TlvSpec := { rows := [{ ty := 1, len := .exact 2 }, { ty := 3, len := .exact 1, must := false }] }

def cellDelBody : Body := fun q s =>
  match tfind s.cells (q.nat 1) with
  | none => (naming stRange 1, s)
  | some c =>
    let n := (Net.ofNat? c.net).getD .lb
    match stagedHandle q 3 with
    | some k =>
      match s.stage k slotClasses (0x0100 + n.ix) (.cell (q.nat 1) none) with
      | .error e => (plain e, s)
      | .ok s => (okReply [tlvN 4 8 0], s)
    | none => (okReply [tlvN 4 8 ((c.endAt (s.effAsn n)).until_.getD 0)], s.deleteCell (q.nat 1) (s.effAsn n))

/-- SCHED_CELL_DEL (06 R172). -/
def execSchedCellDel (ch : Nat) (s : State) : Out := .next (s.serve ch 0x3006 cellDelSpec cellDelBody)

def cellGetBody : Body := fun q s =>
  if q.nat 2 = 0 ∨ 30 < q.nat 2 then (naming stRange 2, s)
  else (okReply [⟨2, ((s.cells.filter (fun p => decide (q.nat 1 ≤ p.1) && decide (p.1 < q.nat 1 + q.nat 2))).flatMap
    (fun p => p.2.bytes p.1))⟩], s)

/-- SCHED_CELL_GET (06 R170). -/
def execSchedCellGet (ch : Nat) (s : State) : Out :=
  .next (s.serve ch 0x3007 { rows := [{ ty := 1, len := .exact 2 }, { ty := 2, len := .exact 1 }] } cellGetBody)

/-! ### Joins (06 R183-R185, 09 R253, R255) -/

/-- A new key in slot A; the former A moves to B, and both replay states are cleared (09 R255). -/
def Ctx.newKey (x : Ctx) (slot : Nat) : Ctx :=
  { x with keyB := x.keyA, idxB := x.idxA, keyA := slot, idxA := 0, txB := false, highA := none, mapA := 0, highB := none, mapB := 0,
           lastAsn := 0, joined := true }

def joinAcceptSpec : TlvSpec := { rows := [{ ty := 1, len := .exact 1 }, { ty := 2, len := .exact 8 }, { ty := 3, len := .exact 2 },
  { ty := 4, len := .exact 2 }, { ty := 5, len := .exact 1 }] }

/-- The address bound to a context and key slot (06 R185); without the new-key flag a replay state under that key must be there
(09 R255). -/
def joinAcceptBody : Body := withNet fun n q s =>
  let eui := q.nat 2
  let c := q.nat 3
  let newKey := q.nat 5 == 1
  if 4095 < c then (naming stRange 3, s)
  else if 8191 < q.nat 4 then (naming stRange 4, s)
  else if 1 < q.nat 5 then (naming stRange 5, s)
  else if !(s.net n).released.any (fun r => r.eui == eui) then (plain stUnknownJoin, s)
  else if s.bindConflict eui n.ix 0xFFFE c || (match s.ctx? c with | some x => x.net != n.ix | none => false) then (plain stCtxAssigned, s)
  else
    let x := (s.ctx? c).getD (newCtx eui 0xFFFE n.ix (q.nat 4) false)
    if !newKey && (!x.hasReplay || x.keyA != q.nat 4) then (plain stState, s)
    else
      let fresh := (s.ctx? c).isNone
      let y := if newKey then (if fresh then { x with joined := true } else x.newKey (q.nat 4)) else { x with joined := true }
      let s := s.setNet n { s.net n with released := (s.net n).released.filter (fun r => r.eui != eui) }
      let y := { y with fresh := true, corrupt := false }
      (okReply [], if fresh then s.setFirn { s.firn with ctxs := tset s.firn.ctxs c y } else s.modCtx c (fun _ => y))

/-- SCHED_JOIN_ACCEPT (06 R185). -/
def execSchedJoinAccept (ch : Nat) (s : State) : Out := .next (s.serve ch 0x3008 joinAcceptSpec joinAcceptBody)

def joinRejectBody : Body := withNet fun n q s =>
  if !(s.net n).released.any (fun r => r.eui == q.nat 2) then (plain stUnknownJoin, s)
  else (okReply [], s.setNet n { s.net n with released := (s.net n).released.filter (fun r => r.eui != q.nat 2) })

/-- SCHED_JOIN_REJECT (06 R184). -/
def execSchedJoinReject (ch : Nat) (s : State) : Out :=
  .next (s.serve ch 0x3009 { rows := [{ ty := 1, len := .exact 1 }, { ty := 2, len := .exact 8 }] } joinRejectBody)

/-- An extended address is in the client list for a network (02 R52). -/
def State.listed (s : State) (n : Net) (eui : Nat) : Bool := s.site.clients.contains (eui, n.ix)

/-- A join request taken into the backlog with its trailer, or counted (06 R183). -/
def State.joinRequest (s : State) (n : Net) (eui : Nat) (payload trailer : Bytes) : State :=
  let v := s.net n
  if !s.listed n eui && s.schedParam n 0x3024 == 0 then s.bump (.sched n) 11
  else if v.backlog.any (fun r => r.eui == eui) then s.bump (.sched n) 10
  else if s.schedParam n 0x3021 ≤ v.backlog.length then
    (s.setNet n { v with joinDrops := v.joinDrops + 1 }).bump (.sched n) 12
  else (s.setNet n { v with backlog := v.backlog ++ [{ eui := eui, payload := payload, at_ := s.now, trailer := trailer }] }).bump
    (.sched n) 9

/-- JOIN_RELEASE: the oldest request goes to the host ring, no sooner than the rate allows (06 R184). -/
def execJoinRelease (net : Net) (s : State) : Out :=
  .next (
    let v := s.net net
    match (if s.awake then v.backlog else []) with
    | [] => s
    | r :: rest =>
      let due := match v.lastRelease with
        | none => true
        | some t => decide (1000000000 ≤ (s.now - t) * s.schedParam net 0x3020)
      if !due then s
      else
        let s := (s.setNet net { v with
          backlog := rest
          released := v.released ++ [{ r with at_ := s.now }]
          lastRelease := some s.now }).bump (.sched net) 13
        s.ringDeliver (s.schedParam net 0x3022)
          { octets := r.payload, port := 0x10 + net.ix, cls := 0, time := some (unsigned 64 r.at_)
            trailer := if r.trailer = [] then none else some (net.radio, r.trailer) })

/-- JOIN_TIMEOUT: released requests that were not answered in time are forgotten (06 R184). -/
def execJoinTimeout (net : Net) (s : State) : Out :=
  .next (
    if !s.awake then s else
    let v := s.net net
    let old := v.released.filter (fun r => decide (r.at_ + 1000000000 * s.schedParam net 0x3023 ≤ s.now))
    (s.setNet net { v with released := v.released.filter (fun r => !old.contains r) }).bumpBy (.sched net) 14 old.length)

/-! ### Marks, placement and parents (06 R182, R190-R194) -/

/-- ASN_MARK_CROSS: the multiple of 2^19 that the ASN has crossed is to be stored (06 R190). -/
def execAsnMarkCross (net : Net) (s : State) : Out :=
  .next (
    let v := s.net net
    let m := v.asn / 2 ^ 19 * 2 ^ 19
    let newer := match s.asnMark net with
      | some k => decide (0 < sdiff 40 m k)
      | none => true
    if s.awake && v.running && v.begun && !s.isDsme net && newer then s.requestAsnMark net m else s)

/-- ASN_MARK_HOLD: transmission is held until a newer mark is stored (06 R191). -/
def execAsnMarkHold (net : Net) (s : State) : Out :=
  .next (
    let v := s.net net
    if s.awake && v.running && v.begun && s.asnHeld net v.asn && !v.holdRaised then
      (s.setNet net { v with holdRaised := true }).raise 0x3007 [u8 net.ix, u64 v.asn]
    else s)

/-- PLACEMENT_AUDIT of every slot offset of the network's slotframes, once per slotframe (06 R182). -/
def execPlacementAudit (net : Net) (s : State) : Out :=
  .next (
    if s.schedParam net 0x302B = 0 || !(s.net net).running || (s.net net).audited || !s.awake then s
    else
      let s := s.setNet net { s.net net with audited := true }
      let offs := ((s.cells.filter (fun p => p.2.net == net.ix)).map (fun p => (p.2.handle, p.2.slot))).eraseDups
      (offs.mergeSort (fun a b => decide (a.1 < b.1 ∨ (a.1 = b.1 ∧ a.2 ≤ b.2)))).foldl (fun (s : State) o =>
        match s.newLen net o.1 with
        | none => s
        | some len =>
          let sp := spreadOf (s.levelSet net (s.coinciding net o.2 len))
          if 4 * s.schedParam net 0x3029 < sp then
            let (db, s) := s.roundOpen sp 4
            s.raise 0x3008 [u8 net.ix, u16 o.2, u8 db]
          else s) s)

/-- The time parent of a domain: of a network, or of a span that is one. -/
def State.parentOf (s : State) (domain : Nat) : Option Parent :=
  if domain = 0x0100 then s.nets.fst.parent
  else if domain = 0x0101 then s.nets.snd.parent
  else if 0x0200 ≤ domain ∧ domain < 0x0220 ∧ s.pbool (0x4103 + 0x20 * (domain - 0x0200)) then
    match tfind s.spans (domain - 0x0200) with
    | some sp => if sp.phase != .closed && !sp.isT then some sp.parent else none
    | none => none
  else none

def State.setParent (s : State) (domain : Nat) (p : Parent) : State :=
  if domain = 0x0100 then s.setNet .lb { s.nets.fst with parent := some p }
  else if domain = 0x0101 then s.setNet .mb { s.nets.snd with parent := some p }
  else { s with spans := tmod {} s.spans (domain - 0x0200) (fun sp => { sp with parent := p }) }

/-- A domain is the clock's source: code 4 for a network, code 3 for the lowest-numbered UP span that is a time parent (13 R379). -/
def State.isSource (s : State) (domain : Nat) : Bool :=
  if domain < 0x0200 then s.pnat 0xB001 == 4
  else s.pnat 0xB001 == 3 && (s.timeSpan.map (fun p => p.1)) == some (domain - 0x0200)

/-- TIME_PARENT_LOST: the parent of a domain has missed its limit of beacons or announcements (06 R193, 13 R382). -/
def execTimeParentLost (domain : Nat) (s : State) : Out :=
  .next (
    match s.parentOf domain with
    | none => s
    | some p =>
      let limit := s.schedParam (if domain = 0x0101 then .mb else .lb) 0x3038
      if !s.awake || p.lost || decide (p.misses < limit) then s
      else
        let s := s.setParent domain { p with lost := true, lostAt := s.now }
        let s := s.raise 0x3005 [u16 domain, u8 (min 255 p.misses)]
        if s.isSource domain && s.time.state == .locked then s.loseSource else s)

/-! ### Status -/

def schedStatusBody : Body := withNet fun n _ s =>
  let v := s.net n
  let parent := match v.parent with
    | none => 0
    | some p => if p.lost then 2 else 1
  (okReply [tlvN 2 8 v.asn, tlvN 3 8 ((s.asnMark n).getD 0), tlvN 4 2 (min 65535 v.backlog.length), tlvN 5 1 s.tq, tlvN 6 1 parent,
    tlvN 7 4 s.cells.length], s)

/-- SCHED_STATUS_GET. -/
def execSchedStatusGet (ch : Nat) (s : State) : Out :=
  .next (s.serve ch 0x300A { rows := [{ ty := 1, len := .exact 1 }] } schedStatusBody)

/-- SCHED_COUNTERS_GET (06 R195). -/
def execSchedCountersGet (ch : Nat) (s : State) : Out :=
  .next (s.serve ch 0x300B radioClearSpec (withNet fun n q s =>
    if 1 < q.nat 2 then (naming stRange 2, s) else countersReply s (.sched n) 16 (q.nat 2 == 1)))

end Sys2Proof.Machine
end

