-- ==== Sys2Proof/Machine/Receive.lean ====
section
/-! DEFINITION. The receive array: windows, detection, forks and switches, headers and misses, the decoder pool, clipping, the
noise floor and the commands of the baseband group (04, 09 R260-R262). -/

namespace Sys2Proof.Machine

def stNfPlacement : Nat := 0x2101

def State.setFrame? (s : State) (l : Nat) (f : RxFrame) : State :=
  match s.lane? l with
  | some v => s.setLane l { v with frame := some f }
  | none => s

/-- The cells that a lane serves. -/
def State.laneCells (s : State) (net : Net) (v : Lane) : List Cell := v.cells.filterMap (fun id => s.cellOf net id)

/-- A span's member on a radio. -/
def State.memberOf (s : State) (n : Nat) (x : Radio) : Option MemberState := tfind (tget {} s.spans n).members x.ix

/-! ### Windows and detection (04 R105, R106, R112-R115) -/

/-- An R end that scans, with a member on a radio: where several do, the lowest-numbered alone is listened for (07 R220; DESIGN CHOICE, log
entry 183). -/
def State.scanner (s : State) (x : Radio) : Option Nat :=
  (s.spans.find? (fun (p : Nat × SpanState) =>
    !p.2.isT && !p.2.serves && (p.2.phase == .acquire || p.2.phase == .resync) && thas p.2.members x.ix)).map (fun (p : Nat × SpanState) => p.1)

/-- A radio has no cell, sub-event or calibration now (07 R220). -/
def State.radioSpare (s : State) (x : Radio) : Bool :=
  s.awake && (s.radio x).calRun.isNone && (s.radio x).group.isNone && s.lanesUsed x == 0 && betweenAt (s.activities x) s.now
    && (match x.net?.bind (fun n => (s.net n).cur) with | some p => p.served == 0 || !s.netRuns x | none => true)

/-- A spare radio listens for a scanning span on its member's first channel: LB on a lane for the member's mode, MB on the span path,
until the next cell or sub-event (07 R220). -/
def State.scanOn (s : State) (x : Radio) : State :=
  match (if s.radioSpare x then s.scanner x else none) with
  | none => s
  | some n =>
    let (e, a) := s.spanEventAt n x s.now
    let next := ((s.activities x).map (fun v => v.start)).filter (fun t => decide (s.now < t))
    let stop := match next with | [] => s.now + 1000000000 | b :: t => t.foldl (fun (m : Int) c => min m c) b
    ((s.spanLane x n e a).foldl (fun (s : State) p =>
      (s.tune x p.2.khz).setLane p.1 { p.2 with open_ := true, scan := true, window := some (s.now, stop), since := some s.now }) s).noteLanes x

/-- RX_WINDOW_OPEN: within its window the lane's detector runs (06 R164, R187); the window of a span's lane that is not assigned is a
scanning one (07 R220). -/
def execRxWindowOpen (lane : Nat) (s : State) : Out :=
  .next (
    match s.lane? lane with
    | some v =>
      if s.awake && (match v.window with | some (a, b) => decide (a ≤ s.now) && decide (s.now < b) | none => false) then
        s.setLane lane { v with open_ := true, detected := v.detected && v.open_ }
      else s
    | none => if lane = 0 ∨ lane = 48 ∨ lane = 49 then s.scanOn (laneRadio lane) else s)

/-- A narrow-mode window of a client's receive cell closed with no preamble; at the limit its stored offset is cleared (04 R115). -/
def State.narrowMissed (s : State) (x : Radio) (c : Nat) : State :=
  match s.ctx? c with
  | none => s
  | some v =>
    if s.bbParam x 0x2024 ≤ v.narrowMiss + 1 then
      (s.modCtx c (fun y => { y with offset := none, narrowMiss := 0 })).bump (.bb x) 13
    else s.modCtx c (fun y => { y with narrowMiss := y.narrowMiss + 1 })

/-- A preamble detected in the window of a client's receive cell: its misses in a row end (04 R115). -/
def State.narrowHeard (s : State) (v : Lane) : State :=
  v.cells.foldl (fun (s : State) id =>
    match tfind s.cells id with
    | some c =>
      if c.isClientRx && (match s.ctx? c.ctx with | some y => y.narrowMiss != 0 | none => false) then
        s.modCtx c.ctx (fun y => { y with narrowMiss := 0 })
      else s
    | none => s) s

/-- The last window of a lane has come to its end. -/
def State.windowOver (s : State) (v : Lane) : Bool := match v.window with | some (_, b) => decide (b ≤ s.now) | none => true

/-- RX_WINDOW_CLOSE of a lane's last window: a lane that receives nothing is released; without a detection the miss counts, but in a
scanning window, which nothing has scheduled (04 R105, R115, R127). -/
def execRxWindowClose (lane : Nat) (s : State) : Out :=
  .next (
    match s.lane? lane with
    | none => s
    | some v =>
      let x := laneRadio lane
      if !v.open_ || !s.windowOver v then s
      else if v.frame.isSome then s.setLane lane { v with open_ := false }
      else
        let s := s.freeLane lane
        if v.detected || v.scan then s
        else
          let s := (s.bump (.bb x) 11).setRadio x { s.radio x with missed := true }
          let missed := match x.net? with
            | some n => ((s.laneCells n v).filter Cell.isClientRx).map Cell.ctx
            | none => []
          if v.wide then s else missed.foldl (fun (s : State) c => s.narrowMissed x c) s)

/-- The offset added to every level of a radio, in 0.25 dB: the factory's and the user's, and the LNA gain in a bypassed timeslot
(02 R53, 04 R108, R121). -/
def State.levelOffset (s : State) (x : Radio) : Int :=
  (match x with
    | .lb => calSum 0x2040 (Config.rssiCal 0) (s.pint 0x2040)
    | .mb => calSum 0x2041 (Config.rssiCal 1) (s.pint 0x2041)
    | .hb => Config.rssiCal 2)
    + (if (s.bbRadio x).bypass then 4 * (s.bbParam x (0x2017 + x.ix) : Int) else 0)

/-- The span whose frames a radio receives now: that of the timeslot's span cell, the one in a sub-event on it, or the one that
scans. -/
def State.spanOn (s : State) (x : Radio) : Option Nat :=
  match x.net?.bind (fun n => (s.net n).cur.bind SlotPlan.span) with
  | some k => some k
  | none =>
    match s.spans.find? (fun (p : Nat × SpanState) =>
        match tfind p.2.members x.ix with | some m => m.inSub | none => false) with
    | some p => some p.1
    | none => s.scanner x

/-- The PHY mode that a lane expects: of the network, or of the span member whose frames it receives. -/
def State.laneMode (s : State) (lane : Nat) (v : Lane) : Nat :=
  let x := laneRadio lane
  let net := match x.net? with | some n => s.netMode n | none => 0xC0
  if lane < 48 && !v.cells.isEmpty then net
  else match (s.spanOn x).bind (fun n => s.memberOf n x) with
    | some m => m.rec_.mode
    | none => if lane < 48 then net else 0xC0

/-- The thresholds of ρ² in hundredths by PHY family and preset (04 R112). -/
def pdThreshold (f : PhyFamily) (preset : Nat) : Nat :=
  (match f with
    | .fsk => [20, 28, 40]
    | .oqpsk => [22, 30, 42]
    | .ofdm => [35, 45, 60]
    | .span => [40, 50, 65]).getD preset 100

/-- The metric of a preamble on a lane, in hundredths, reaches its radio's threshold (04 R112). -/
def State.fires (s : State) (lane : Nat) (v : Lane) (rho : Nat) : Bool :=
  let x := laneRadio lane
  decide (pdThreshold (phyFamily (s.laneMode lane v)) (s.bbParam x (0x2020 + x.ix)) ≤ rho)

/-- HB sets its gain for each frame in the short training field and holds it to the frame's end; no rule gives its value (04 R103;
log entry 155). -/
def State.hbGain (s : State) (x : Radio) : State :=
  if x = .hb then
    let (v, s) := s.draw
    s.setBb .hb { s.bbRadio .hb with fs := signed 8 v, conv := signed 8 v }
  else s

/-- PREAMBLE_DETECT on an open lane that receives nothing, with its level in 0.25 dBm as measured and its ρ² in hundredths (04 R112). -/
def execPreambleDetect (lane : Nat) (seen : PreambleSeen) (s : State) : Out :=
  .next (
    match s.lane? lane with
    | none => s
    | some v =>
      let x := laneRadio lane
      if !v.open_ || v.frame.isSome || s.isBlanked x || !s.awake || !s.fires lane v seen.rho then s
      else
        ((((s.setLane lane { v with
            detected := true
            frame := some { level := seen.level + s.levelOffset x, at_ := s.now, wide := v.wide } }).narrowHeard v).hbGain x).bump (.bb x) 1))

/-- How long the search for the SFD, or for the end of the training field, lasts: the longest preamble plus 2 octets of the mode, in ns
(04 R112). The rule gives no figure for the longest preamble: of SUN FSK the longer of the two preambles set for transmission is taken, of
the OFDM formats the training field and one data symbol (DESIGN CHOICE: log entry 153). -/
def State.searchNs (s : State) (mode : Nat) : Nat :=
  match phyFamily mode with
  | .fsk => 8000000 * (max (s.pnat 0x2052) (s.pnat 0x2053) + 2) / (fskBits mode * fskRate mode)
  | .oqpsk => 192000
  | .ofdm => 840000
  | .span => 26400

/-- The search of a frame's lane has come to its limit. -/
def State.searchOver (s : State) (lane : Nat) (v : Lane) (f : RxFrame) : Bool :=
  decide (f.at_ + (s.searchNs (s.laneMode lane v) : Int) ≤ s.now)

/-- SFD_SEARCH_FAIL, at the limit of the search (04 R112). -/
def execSfdSearchFail (lane : Nat) (s : State) : Out :=
  .next (
    match s.lane? lane with
    | none => s
    | some v =>
      match v.frame with
      | some f => if f.sfd || !s.searchOver lane v f then s else (s.bump (.bb (laneRadio lane)) 2).dropFrame lane
      | none => s)

/-- An offset held within a limit of a centre. -/
def clampTo (centre lim off : Int) : Int := max (centre - lim) (min (centre + lim) off)

/-- A context's stored offset at another carrier: in proportion to it; as stored where the carrier that it came from is not known (04 R114;
log entry 154). -/
def Ctx.offsetAt (x : Ctx) (khz : Nat) : Option Int := x.offset.map (fun o => if x.offKhz = 0 then o else o * khz / x.offKhz)

/-- The offset that a lane's window covers: 60 ppm of the carrier, or what is left of it in an LB window of narrow width, where a fork or
a switch acquires (04 R114, R115). -/
def State.windowRoom (s : State) (lane : Nat) (v : Lane) : Int :=
  let ppm : Nat := 60 * v.khz / 1000
  let m := s.laneMode lane v
  if laneRadio lane = .lb ∧ v.bins < windowBins m true then (min ppm (Config.narrowRoom m) : Nat) else ppm

/-- The offset that a lane's search can freeze, in Hz: in narrow mode within 12 ppm of the carrier around a stored offset of its partners;
in wide mode around zero, as far as its window covers (04 R114, R115). -/
def State.searched (s : State) (lane : Nat) (v : Lane) (f : RxFrame) (off : Int) : Int :=
  let ppm (n : Nat) : Int := (n * v.khz / 1000 : Nat)
  if f.wide then clampTo 0 (s.windowRoom lane v) off
  else
    let cells := match (laneRadio lane).net? with | some n => s.laneCells n v | none => []
    let centres := cells.filterMap (fun c => (s.ctx? c.ctx).bind (fun x => x.offsetAt v.khz))
    match centres.find? (fun c => clampTo c (ppm 12) off == off) with
    | some _ => off
    | none => clampTo (centres.headD 0) (ppm 12) off

/-- AFC_FREEZE at the end of the SFD or training field: the frequency offset in Hz, the RSSI in 0.25 dBm as measured and the SNR in 0.5 dB
are held, the oscillator takes the offset, and the frame is stamped (04 R100, R112, R114, R124). -/
def execAfcFreeze (lane : Nat) (offset rssi snr : Int) (s : State) : Out :=
  .next (
    match s.lane? lane with
    | none => s
    | some v =>
      match v.frame with
      | some f =>
        if f.sfd || decide (f.at_ + (s.searchNs (s.laneMode lane v) : Int) < s.now) then s
        else
          let off := s.searched lane v f offset
          s.setLane lane { v with
            nco := v.nco + off
            frame := some { f with
              sfd := true, rssi := rssi + s.levelOffset (laneRadio lane), snr := snr, offset := off, stamp := s.now } }
      | none => s)

/-- An O-QPSK lane beside a span reception (04 R102). -/
def State.heldIdle (s : State) (k : Nat) : Bool := s.nearSpan (2405000 + 5000 * (k - 32))

/-- Whether an MB lane's own channel carries a receive cell in the timeslot (04 R105). -/
def State.ownCells (s : State) (k : Nat) : Bool :=
  let v := s.nets.snd
  v.running && v.begun && (s.slotCells .mb v.asn).any (fun p => p.2.isRx && !p.2.isTx && s.cellKhz .mb p.2.chan v.asn == 2405000 + 5000 * (k - 32))

/-- The lowest free lane that a fork of `lane` can take: an LB lane without a channel, or an MB lane whose own channel has no
receive cell in the timeslot and that no span reception holds idle; none beside the span path and on HB (04 R101, R102, R105, R116). -/
def State.forkLane (s : State) (lane : Nat) : Option Nat :=
  if lane < 32 then (List.range 32).find? (fun k => (s.lane? k).isNone)
  else if lane < 48 then
    ((List.range 16).map (fun k => 32 + k)).find? (fun k => (s.lane? k).isNone && !s.ownCells k && !s.heldIdle k)
  else none

/-- The forks of a radio that fell due in the same 2 µs, as one choice: the strongest new preamble has the first of their lanes
(04 R116). -/
def State.orderForks (s : State) (x : Radio) : State :=
  let fresh := s.bb.lanes.filter (fun p => laneRadio p.1 == x && p.2.forked
    && (match p.2.frame with | some f => f.forked && !f.sfd && decide (s.now < f.at_ + 2000) | none => false))
  let level (v : Lane) : Int := match v.frame with | some f => f.level | none => 0
  let best := (fresh.map (fun p => p.2)).mergeSort (fun a b => decide (level b ≤ level a))
  ((fresh.map (fun p => p.1)).zip best).foldl (fun (s : State) p => s.setLane p.1 p.2) s

/-- A new preamble of a level that no fork takes: a switch, which loses the frame in reception, or a stay (04 R116). -/
def State.switchOrStay (s : State) (lane : Nat) (v : Lane) (f : RxFrame) (new : RxFrame) : State :=
  let x := laneRadio lane
  if decide (f.level + 4 * (s.bbParam x 0x2001 : Int) ≤ new.level) && !f.matched then
    (((s.dropSoft lane).setLane lane { v.unfrozen with frame := some { new with forked := f.forked, switched := true } }).hbGain x).bump (.bb x) 7
  else s.bump (.bb x) 9

/-- The weakest fork of a radio that fell due in the same 2 µs and is weaker than a level, with its lane (04 R116). -/
def State.weakFork (s : State) (x : Radio) (level : Int) : Option (Nat × RxFrame) :=
  bestBy (fun a b => decide (a.2.level < b.2.level)) (s.bb.lanes.filterMap (fun p =>
    match p.2.frame with
    | some f => if laneRadio p.1 == x && f.forked && f.origin.isSome && !f.sfd && decide (s.now < f.at_ + 2000) && decide (f.level < level) then some (p.1, f) else none
    | none => none))

/-- A copy of a lane's window put on another lane, for a preamble that is acquired in wide mode. -/
def State.putFork (s : State) (k lane : Nat) (v : Lane) (new : RxFrame) : State :=
  s.setLane k { v.unfrozen with
    wide := true, open_ := false, forked := true, window := none, since := some s.now
    frame := some { new with forked := true, origin := some lane } }

/-- SECOND_PREAMBLE on a lane in a frame, with its level as measured and its ρ²: fork, switch or stay (04 R113, R116). A forked or
switched lane acquires anew in wide mode on its unchanged window. With no lane free, a stronger preamble of the same 2 µs takes the lane of
a fork, whose own preamble then finds none. A lane held idle beside a span reception detects nothing (R102). -/
def execSecondPreamble (lane : Nat) (seen : PreambleSeen) (s : State) : Out :=
  .next (
    match s.lane? lane with
    | none => s
    | some v =>
      match v.frame with
      | none => s
      | some f =>
        let x := laneRadio lane
        if !s.fires lane v seen.rho then s
        else
          let new : RxFrame := { level := seen.level + s.levelOffset x, at_ := s.now, wide := true }
          let s := s.bump (.bb x) 1
          if !(s.bbParam x 0x2002 == 1 && decide (f.level + 4 * (s.bbParam x 0x2003 : Int) ≤ new.level)) then s.switchOrStay lane v f new
          else
            match s.forkLane lane with
            | some k =>
              let b := s.bbRadio x
              let s := s.setBb x { b with cur := { b.cur with forks := b.cur.forks + 1 } }
              (((s.putFork k lane v new).orderForks x).noteLanes x).bump (.bb x) 8
            | none =>
              match s.weakFork x new.level with
              | some (k, g) =>
                let s := s.putFork k lane v new
                (match g.origin.bind (fun o => (s.lane? o).bind (fun w => w.frame.map (fun h => (o, w, h)))) with
                | some (o, w, h) => s.switchOrStay o w h { level := g.level, at_ := g.at_, wide := true }
                | none => s)
              | none => s.switchOrStay lane v f new)

/-! ### Headers (05 R139, R145, 04 R117, 09 R260-R262) -/

/-- One step of the CRC of a signal header (05 R144). -/
def sigStep (r : Nat) (b : Bool) : Nat :=
  let f := r.testBit 7 != b
  let r := (r * 2) % 256
  if f then r ^^^ 0x07 else r

/-- The CRC of the 40 low bits of a signal header, as it stands in bits [47:40]: its most significant bit at bit 40 (05 R144). -/
def sigCrc (bits : Nat) : Nat :=
  let r := (List.range 40).foldl (fun r i => sigStep r (bits.testBit i)) 0xFF
  (List.range 8).foldl (fun v i => v + flag (r.testBit (7 - i)) i) 0

/-- A span PHY header that the lane of a radio accepts, with a member of bandwidth code `bw` (05 R145). -/
def sigOk (x : Radio) (bw bits : Nat) : Bool :=
  bits / 2 ^ 40 % 256 == sigCrc bits && bits / 2 ^ 31 % 2 ^ 9 == 0
    && decide (bits % 16 ≤ 9) && bits / 64 % 4 == bw && decide (bits / 64 % 4 ≤ 2)
    && bits / 2 ^ 24 % 128 != 0 && bits / 2 ^ 22 % 4 == (if x = .mb then 1 else 2)
    && decide (8 ≤ bits / 256 % 2 ^ 14)

/-- The bandwidth code of the span member that the lane receives. -/
def State.laneBw (s : State) (lane : Nat) : Nat :=
  match (s.spanOn (laneRadio lane)).bind (fun n => s.memberOf n (laneRadio lane)) with
  | some m => spanBw m.rec_.mode
  | none => 3

/-- The PSDU length that an accepted PHR states, and the PHY mode of the frame (05 R132, R136, R139, R145). -/
def State.phrLen (s : State) (lane : Nat) (v : Lane) : Phr → Option (Nat × Nat)
  | .client (some n) mode => if lane < 48 && modeAccepted (s.laneMode lane v) mode && decide (n ≤ psduMax mode) then some (n, mode) else none
  | .client none _ => none
  | .span bits =>
    if 48 ≤ lane && sigOk (laneRadio lane) (s.laneBw lane) bits then
      some (bits / 256 % 2 ^ 14, 0xC0 + 16 * (bits / 64 % 4) + bits % 16)
    else none

/-- The bits of a signal header; a PHR of a client PHY is none. -/
def Phr.sig : Phr → Nat
  | .client _ _ => 0
  | .span bits => bits

/-- PHR_DECODE: an invalid one abandons the frame and releases the lane (05 R139, R145, 04 R105). -/
def execPhrDecode (lane : Nat) (phr : Phr) (s : State) : Out :=
  .next (
    match s.lane? lane with
    | none => s
    | some v =>
      match v.frame with
      | none => s
      | some f =>
        if !f.sfd || f.len.isSome then s
        else
          match s.phrLen lane v phr with
          | some (n, mode) => s.setLane lane { v with frame := some { f with len := some n, mode := some mode, sig := phr.sig } }
          | none => (s.bump (.bb (laneRadio lane)) 5).freeLane lane)

/-- A frame's level deviates from its context's expected level by more than the limit (04 R111). -/
def State.deviates (s : State) (x : Radio) (c : Nat) (rssi : Int) : Bool :=
  match s.ctx? c with
  | some y => (match y.level with | some q => decide (4 * s.bbParam x 0x2025 < (rssi - q).natAbs) | none => false)
  | none => false

/-- A frame whose header names context `c`: a hit, a miss, or one that finds the miss queue full (09 R260, R262). -/
def State.ctxFrame (s : State) (net : Net) (lane : Nat) (v : Lane) (f : RxFrame) (c : Nat) : State :=
  let x := laneRadio lane
  let dev := s.deviates x c f.rssi
  let s := if dev then s.bump (.bb x) 17 else s
  let f := { f with ctx := some c, dev := dev }
  let hit (s : State) : State :=
    let s := match s.slotOf c with
      | some k => s.modSlot k (fun w => { w with ref := true })
      | none => s
    (s.setLane lane { v with frame := some { f with matched := true } }).bump .firn 1
  if s.resident c then hit s
  else
    match s.revive c true with
    | some s => hit s
    | none =>
      if 256 ≤ s.missDepth then
        ((s.setNet net { s.net net with missqDrops := (s.net net).missqDrops + 1 }).bump .firn 9).freeLane lane
      else (s.missFrame c).setLane lane { v with frame := some f }

/-- The context of an acknowledgement that a lane of a TX timeslot receives: that of its cell. -/
def State.ackCtx (s : State) (net : Net) (v : Lane) : Option Nat :=
  ((s.laneCells net v).find? (fun c => c.isTx && (s.net net).awaiting.any (fun a => a.ctx == c.ctx))).map (fun c => c.ctx)

/-- A beacon counts for a network: its parent's, and, once that is lost, one of a neighbour flagged as a time parent candidate as well
(06 R193, R194). -/
def State.hearsBeacon (s : State) (net : Net) (b : Beacon) : Bool :=
  match (s.net net).parent with
  | none => false
  | some p => b.parent || (p.lost && s.site.neighbours.any (fun n => n.1 == b.link && n.2.2.2.testBit 0))

/-- The header of a frame of a client network (04 R117, 06 R163, R183, 09 R260, R261, 10 R291). In a join cell a frame from the extended
address of an assigned context is looked up like any other (log entry 189), and one from an unassigned short address is no join request:
it ends uncounted (log entry 73). -/
def State.clientHeader (s : State) (net : Net) (lane : Nat) (v : Lane) (f : RxFrame) (h : RxHdr) : State :=
  let f := { f with hdr := some h }
  let foreign := h.unsupported || h.level == 4 || !h.dstOk || h.pan != s.netParam net 0x3002
    || (match h.beacon with | some b => !s.hearsBeacon net b | none => false)
  if foreign then (s.bump (.bb (laneRadio lane)) 6).dropFrame lane
  else if h.beacon.isSome then s.setLane lane { v with frame := some f }
  else
    match s.ackCtx net v with
    | some c => s.ctxFrame net lane v { f with isAck := true } c
    | none =>
      let found := match h.srcExt with | some e => s.ctxOfEui e | none => s.ctxOfShort net.ix h.srcShort
      let inJoin := (s.laneCells net v).any (fun c => c.kind == 2)
      match found with
      | some c =>
        let joined := match s.ctx? c with | some y => y.joined | none => false
        s.ctxFrame net lane v { f with join := inJoin && h.srcExt.isSome && !joined } c
      | none =>
        if inJoin && h.srcExt.isSome then s.setLane lane { v with frame := some { f with join := true } }
        else (if inJoin then s else s.bump .firn 11).freeLane lane

/-- HEADER_DECODE of a client frame; span frames are looked at whole (07 R207). -/
def execHeaderDecode (lane : Nat) (hdr : RxHdr) (s : State) : Out :=
  .next (
    match s.lane? lane, (laneRadio lane).net? with
    | some v, some net =>
      (match v.frame with
      | some f => if f.len.isNone || f.hdr.isSome || v.cells.isEmpty then s else s.clientHeader net lane v f hdr
      | none => s)
    | _, _ => s)

/-! ### Decoder pool (04 R118-R120) -/

def softRoom : Nat := 65536

/-- The running blocks, each once, whatever decoders it takes. -/
def State.runBlocks (s : State) : List SoftBlock := (s.bb.running.map (fun p => p.2)).eraseDups

/-- Bytes that the soft-bit buffer holds: blocks queued and running. -/
def State.softUsed (s : State) : Nat := ((s.bb.soft ++ s.runBlocks).map (fun b => b.bytes)).sum

/-- A lane's frame still has blocks to decode. -/
def State.decoding (s : State) (lane : Nat) : Bool := (s.bb.soft ++ s.runBlocks).any (fun b => b.lane == lane && b.bytes != 0)

/-- Rank of a lane's frame: its class and its RSSI; lower is more urgent (04 R118). -/
def State.softRank (s : State) (lane : Nat) : Int :=
  match s.lane? lane with
  | none => 1000000
  | some v =>
    match v.frame with
    | none => 1000000
    | some f =>
      let late := lane != 48 && (v.shared || f.forked
        || (match (laneRadio lane).net? with
            | some n => (s.laneCells n v).any (fun c => c.kind == 1 || c.kind == 2)
            | none => false))
      (if late then 100000 else 0) - (if f.sfd then f.rssi else f.level)

/-- Decoders that a lane's frame takes at once: on the span path as many as the rate that its signal header states needs (04 R120). -/
def State.decodersFor (s : State) (lane : Nat) : Nat :=
  match (if lane = 48 then (s.lane? lane).bind (fun v => v.frame) else none) with
  | some f =>
    match f.mode with
    | some m => max 1 (ceilDiv (memberRate m (1 + f.sig / 16 % 2) (f.sig / 32 % 2)) 450000000)
    | none => 1
  | none => 1

/-- The queued block of highest priority: of equal ones, the first posted. -/
def State.nextBlock (s : State) : Option SoftBlock :=
  s.bb.soft.foldl (fun best b => match best with
    | some a => if s.softRank b.lane < s.softRank a.lane then some b else best
    | none => some b) none

/-- The most decoders busy and the most bytes buffered, noted for both radios of the pool. -/
def State.notePool (s : State) : State :=
  let note (s : State) (x : Radio) : State :=
    let b := s.bbRadio x
    s.setBb x { b with cur := { b.cur with softPeak := max b.cur.softPeak s.softUsed, decPeak := max b.cur.decPeak s.bb.running.length } }
  note (note s .lb) .mb

/-- Free decoders take queued blocks; one that waited more than 10 µs counts (04 R118). -/
def State.feedDecoders : Nat → State → State
  | 0, s => s
  | fuel + 1, s =>
    match s.nextBlock with
    | none => s
    | some b =>
      let free := (List.range 8).filter (fun k => !thas s.bb.running k)
      let need := min 8 (s.decodersFor b.lane)
      if free.length < need then s
      else
        let s := if 10000 < s.now - b.postedAt then s.bump (.bb (laneRadio b.lane)) 19 else s
        let s := { s with bb := { s.bb with
          soft := s.bb.soft.filter (fun c => c.id != b.id)
          running := (free.take need).foldl (fun t k => tset t k b) s.bb.running } }
        State.feedDecoders fuel s.notePool

/-- A frame abandoned for want of room in the soft-bit buffer, counted for the timeslot's event (04 R119). -/
def State.softDrop (s : State) (lane : Nat) : State :=
  let x := laneRadio lane
  let b := s.bbRadio x
  ((s.setBb x { b with overflow := min 65535 (b.overflow + 1) }).bump (.bb x) 18).freeLane lane

/-- Room made for a block of a lane, at the expense of buffered frames that rank below it; whether there is room (04 R119). -/
def State.makeRoom (lane bytes : Nat) : Nat → State → Bool × State
  | 0, s => (false, s)
  | fuel + 1, s =>
    if s.softUsed + bytes ≤ softRoom then (true, s)
    else
      match ((s.bb.soft ++ s.runBlocks).filter (fun b => b.bytes != 0)).foldl (fun worst b => match worst with
          | some a => if s.softRank (SoftBlock.lane a) < s.softRank b.lane then some b else worst
          | none => some b) none with
      | none => (false, s)
      | some w => if s.softRank lane < s.softRank w.lane then State.makeRoom lane bytes fuel (s.softDrop w.lane) else (false, s)

/-- SOFT_BLOCK_POST of a lane in a frame: at most 128 coded bits of 4 bits each, 64 bytes; HB has its own decoder (04 R118, R119). -/
def execSoftBlockPost (lane bytes : Nat) (s : State) : Out :=
  .next (
    match s.lane? lane with
    | none => s
    | some v =>
      if v.frame.isNone || lane == 49 || decide (64 < bytes) then s
      else
        match State.makeRoom lane bytes 64 s with
        | (false, s) => s.softDrop lane
        | (true, s) =>
          let s := { s with bb := { s.bb with
            soft := s.bb.soft ++ [SoftBlock.mk s.bb.softSeq lane bytes s.now], softSeq := s.bb.softSeq + 1 } }
          let s := match s.lane? lane with
            | some v => s.setLane lane { v with frame := v.frame.map (fun (f : RxFrame) => { f with lastPost := some s.now }) }
            | none => s
          State.feedDecoders 8 s.notePool)

/-- DECODER_BLOCK_DONE (04 R118). -/
def execDecoderBlockDone (decoder : Nat) (s : State) : Out :=
  .next (
    match tfind s.bb.running decoder with
    | none => s
    | some b => State.feedDecoders 8 { s with bb := { s.bb with running := s.bb.running.filter (fun p => p.2.id != b.id) } })

/-- Power sum of the measured codes of a report. -/
def codeSum (codes : Bytes) : Nat := (codes.map (fun b => if b = 255#8 then 0 else linCode b.toNat)).sum

/-! ### The receive trailer (04 R124, R125) -/

/-- LQI of an SNR in 0.5 dB; a value halfway between two rounds either way (log entry 4). -/
def State.lqi (s : State) (snr : Int) : Nat × State :=
  let n := 51 * (snr + 10)
  if n % 14 = 7 then
    (min 255 (n / 14 + (Config.free s.freeCtr % 2 : Nat)).toNat, { s with freeCtr := s.freeCtr + 1 })
  else (min 255 ((n + 7) / 14).toNat, s)

/-- The level code of a lane's window at its last measurement, or 255: of the newest period in which every bin of the window was measured,
the power sum of the bins (DESIGN CHOICE, log entry 148). -/
def State.laneNf (s : State) (lane : Nat) (v : Lane) : Nat × State :=
  let (b, n) := laneBins lane v
  if n = 0 then (255, s)
  else
    match (s.bbRadio (laneRadio lane)).nf.find? (fun codes => ((codes.drop b).take n).all (fun c => c != 255#8)) with
    | none => (255, s)
    | some codes => s.codeOf (codeSum ((codes.drop b).take n))

/-- The antenna code of a lane: both chains on the MB span path and on HB (03 R57, 04 R101, R125). -/
def State.antennaCode (s : State) (lane : Nat) : Nat := if 48 ≤ lane then 2 else (s.radio (laneRadio lane)).antenna

/-- The 16 bytes of the trailer of a frame that a lane has received in a mode; none where the parameter asks for none (04 R125). -/
def State.trailer (s : State) (lane : Nat) (v : Lane) (f : RxFrame) (mode : Nat) : Bytes × State :=
  let x := laneRadio lane
  if s.bbParam x 0x2031 = 0 then ([], s) else
  let b := s.bbRadio x
  let (q, s) := s.lqi f.snr
  let (nf, s) := s.laneNf lane v
  (leInt 2 f.rssi ++ leInt 1 f.snr ++ u8 q ++ leInt 4 f.offset ++ u8 lane ++ u8 (s.antennaCode lane)
    ++ u8 (flag b.clipped 0 + flag f.forked 1 + flag f.wide 2 + flag f.switched 3 + flag f.dev 4)
    ++ leInt 1 b.fs ++ u8 nf ++ u8 mode ++ u16 0, s)

/-! ### Frame end -/

/-- A checked frame of a client network goes on: to the backlog, or to its MIC graph (06 R183, 10 R292). A frame in a shared cell that asks
is acknowledged, whether or not the cell's own option says so (06 R171, R176; log entry 35). Its end is that of its last soft bits. -/
def State.frameUp (s : State) (net : Net) (lane : Nat) (v : Lane) (f : RxFrame) (h : RxHdr) (payload : Bytes) : State :=
  let (trailer, s) := s.trailer lane v f (f.mode.getD (s.netMode net))
  if f.join then
    match h.srcExt with
    | some e => s.joinRequest net e payload trailer
    | none => s
  else if f.ctx.isNone && h.beacon.isNone then s
  else
    let cells := s.laneCells net v
    let acks := h.ackReq && !f.isAck && !cells.any (fun c => c.kind == 2)
      && cells.any (fun c => c.kind == 0 && c.isRx && (c.acked || c.isShared))
    let b := s.bbRadio (laneRadio lane)
    let k : RxCheck := {
      id := s.bb.rxSeq
      net := net
      ctx := f.ctx.getD 0xFFFF
      waits := f.ctx.isSome && !f.matched
      lane := lane
      khz := v.khz
      rx := f
      hdr := h
      payload := payload
      asn := (s.net net).asn
      shared := v.shared
      ack := acks
      sync := cells.any (fun c => c.kind == 0 && c.isRx && c.opts.testBit 3 && some c.ctx == f.ctx)
      clipped := b.clipped
      fs := b.fs
      ended := f.lastPost.getD s.now
      trailer := trailer }
    { s with bb := { s.bb with checks := s.bb.checks ++ [k], rxSeq := s.bb.rxSeq + 1 } }.rimeTake (rxInst k.id) payload.length 0

/-- A lane whose window outlasts one frame: that of a span, of a sub-event's several frames, or of a CAP (06 R167, 07 R202). -/
def Lane.lasts (v : Lane) : Bool := !v.forked && (v.cells.isEmpty || v.cells.contains dsmeCapId)

/-- The lane of a frame that has ended: it goes on with detection where its window lasts, and is released otherwise (04 R105). -/
def State.endLane (s : State) (lane : Nat) (v : Lane) : State :=
  if v.lasts && v.open_ && !s.windowOver v then (s.noteFrameEnd lane).setLane lane { v.unfrozen with frame := none } else s.freeLane lane

/-- A frame of a span keeps what its lane has measured for its trailer (04 R125). -/
def State.keepEnded (s : State) (lane : Nat) (v : Lane) (f : RxFrame) : State :=
  if v.cells.isEmpty then
    let x := laneRadio lane
    s.setBb x { s.bbRadio x with ended := some (lane, v, f) }
  else s

/-- FRAME_END, once every block of the frame is decoded: its FCS is good or bad, and its lane is released (04 R105, R118); the frame of a
span itself is taken by SPAN_FRAME_RECEIVE. A frame that ends while its radio is blanked, as through the ramp of an emission, is lost
(R106, 03 R78). -/
def execFrameEnd (lane : Nat) (fcs : Bool) (payload : Bytes) (s : State) : Out :=
  .next (
    match s.lane? lane with
    | none => s
    | some v =>
      match v.frame with
      | none => s
      | some f =>
        if s.isBlanked (laneRadio lane) then (s.bump (s.blankRow (laneRadio lane)).1 (s.blankRow (laneRadio lane)).2).dropFrame lane
        else if !f.sfd || s.decoding lane then s
        else
          let s := ((s.bump (.bb (laneRadio lane)) (if fcs then 3 else 4)).endLane lane v).keepEnded lane v f
          match fcs, f.hdr, (laneRadio lane).net? with
          | true, some h, some net => s.frameUp net lane v f h payload
          | _, _, _ => s)

/-- The second MB capture chain is powered: in a timeslot with a span reception, and, without a network, in a sub-event (04 R101). -/
def State.secondChain (s : State) : Bool :=
  s.awake && (match (if s.netRuns .mb then s.nets.snd.cur else none) with
    | some p => p.span.isSome
    | none => s.spans.any (fun (p : Nat × SpanState) => match tfind p.2.members 1 with | some m => m.inSub | none => false))

/-! ### Clipping and CCA (04 R110, 06 R163) -/

/-- CLIP_LIMIT_EXCEEDED in the present timeslot of LB or MB: samples of a converter that have reached full scale since the last count;
above the limit the timeslot is clipped and a hold starts (04 R103, R110). -/
def execClipLimitExceeded (clip : ClipSamples) (s : State) : Out :=
  .next (
    let x := clip.radio
    let b := s.bbRadio x
    let n := tget 0 b.clipCount clip.chain + clip.samples
    let counts := tset b.clipCount clip.chain n
    if x = .hb || !s.awake then s
    else if b.clipped || decide (n ≤ s.bbParam x 0x2014) then s.setBb x { b with clipCount := counts }
    else
      (s.setBb x { b with clipped := true, clipCount := counts, cur := { b.cur with clipped := true }, clipHold := s.bbParam x 0x2016,
                          nfCfg := b.nfCfg.map (fun c => { c with clipped := true }) }).bump (.bb x) 14)

/-- The emission is subject to CCA: in TSCH one of a shared cell, in DSME one of the CAP (06 R163). -/
def State.inSharedCell (s : State) (net : Net) (e : Emission) : Bool :=
  match e.owner with
  | .client _ _ cell | .beacon _ cell | .broadcast _ cell =>
    if s.isDsme net then cell == dsmeCapId else (match s.cellOf net cell with | some c => c.isShared | none => false)
  | _ => false

/-- CCA_MEASURE on a channel, in TSCH from TsCCAOffset over TsCCA: above the threshold, the emission of a shared cell, or of the CAP, is
deferred; the standard draws the backoff (06 R163, R164; log entry 3). -/
def execCcaMeasure (net : Net) (khz : Nat) (level : Int) (s : State) : Out :=
  .next (
    let x := net.radio
    let due := (s.net net).slotStart + (1000 * (s.netParam net 0x3005 + s.netParam net 0x3006) : Nat)
    if !s.awake || (decide (s.now < due) && !s.isDsme net) || decide (level + s.levelOffset x ≤ 4 * s.schedInt net 0x3014) then s
    else
      match (s.radio x).pend.find? (fun e => e.khz == khz && s.inSharedCell net e) with
      | none => s
      | some e =>
        let r := s.radio x
        let s := (s.setRadio x { r with pend := r.pend.filter (fun y => y.id != e.id) }).bump (.sched net) 7
        let (w, s) := s.draw
        match e.owner with
        | .client c k _ =>
          s.modCtx c (fun y => match y.queue k with
            | f :: t => { y with queues := tset y.queues k ({ f with backoff := w } :: t) }
            | [] => y)
        | .beacon .. => s.setNet net { s.net net with beaconBackoff := w }
        | .broadcast .. => s.setNet net { s.net net with
            bcast := match (s.net net).bcast with | f :: t => { f with backoff := w } :: t | [] => [] }
        | _ => s)

/-! ### The noise floor (04 R121-R123) -/

/-- Values per array of a radio's report. -/
def nfCount (x : Radio) : Nat := if x = .lb then 256 else 16

/-- Time of an interval that none of several others covers (04 R121). -/
def uncovered (l : List (Int × Int)) (a b : Int) : Int :=
  let r := (l.mergeSort (fun p q => decide (p.1 ≤ q.1))).foldl (fun (r : Int × Int) p =>
    let f := max r.1 p.1
    let t := min b p.2
    if f < t then (t, r.2 + (f - r.1)) else r) (a, 0)
  r.2 + max 0 (b - r.1)

/-- The blanking of MB by an LB emission in the blocked range that is on the air (03 R78, 04 R121). -/
def State.lbBlanking (s : State) : List (Nat × Nat × Int × Int) :=
  match (s.radio .lb).group with
  | some g => if g.onAir && g.blanksMb then [(0, 256, g.stamped - rampUpNs, s.now)] else []
  | none => []

/-- The intervals of the present period in which bins of a radio are not measured: those noted, those of the lanes that still occupy
theirs, its blanking, and the 50 µs after the gain was set (04 R121). -/
def State.busyNow (s : State) (x : Radio) : List (Nat × Nat × Int × Int) :=
  let b := s.bbRadio x
  let lanes := s.bb.lanes.filterMap (fun p =>
    if laneRadio p.1 == x then p.2.since.map (fun t => ((laneBins p.1 p.2).1, (laneBins p.1 p.2).2, t, s.now)) else none)
  let blank := match (s.radio x).blankAt with | some t => [(0, 256, t, s.now)] | none => []
  let gain := if s.netRuns x then [(0, 256, b.gainAt, b.gainAt + 50000)] else []
  let ramp := match s.keysAt x with | some (_, t) => if t - rampUpNs ≤ s.now then [(0, 256, t - rampUpNs, s.now)] else [] | none => []
  b.busy ++ lanes ++ blank ++ gain ++ ramp ++ (if x = .mb then s.lbBlanking else [])

/-- The measured time of a bin in the present period, in ns. -/
def State.measuredNs (s : State) (x : Radio) (i : Nat) : Int :=
  uncovered (((s.busyNow x).filter (fun p => decide (p.1 ≤ i) && decide (i < p.1 + p.2.1))).map (fun p => p.2.2)) (s.bbRadio x).gainAt s.now

/-- The receive time of a radio since its report period began: what its own blanking leaves of it (04 R122). -/
def State.receiveNs (s : State) (x : Radio) : Int :=
  uncovered (((s.busyNow x).filter (fun p => p.2.1 == 256)).map (fun p => p.2.2)) (s.bbRadio x).gainAt s.now

/-- Level codes as reported: referred to the ball; guard bins, the O-QPSK channels that a span reception holds idle, and whatever was
measured for less than 1,000 µs are not measured (04 R99, R102, R121). A half code rounds either way (log entry 4). -/
def State.maskCodes (s : State) (x : Radio) (codes : Bytes) : Bytes × State :=
  let guard (i : Nat) : Bool :=
    match x with
    | .lb => decide (i < 8) || decide (248 ≤ i)
    | .mb => s.heldIdle (32 + i)
    | .hb => true
  let (d, s) := s.roundOpenInt (s.levelOffset x) 2
  ((List.range (nfCount x)).map (fun i =>
    let c := codes.getD i 255#8
    if guard i || c == 255#8 || decide (s.measuredNs x i < 1000000) then 255#8
    else BitVec.ofNat 8 (min 254 (max 0 ((c.toNat : Int) + d))).toNat), s)

/-- The power mean of the measured codes of a list, or not measured. -/
def State.meanCode (s : State) (l : Bytes) : Byte × State :=
  let m := l.filter (fun b => b != 255#8)
  if m = [] then (255#8, s)
  else
    let (v, s) := s.codeOf (codeSum m / m.length)
    (BitVec.ofNat 8 v, s)

/-- The power means per bin of several reports. -/
def State.meanCodes (s : State) (n : Nat) (l : List Bytes) : Bytes × State :=
  (List.range n).foldl (fun (r : Bytes × State) i =>
    let (b, s) := r.2.meanCode (l.map (fun c => c.getD i 255#8))
    (r.1 ++ [b], s)) ([], s)

/-- The highest measured code per bin of several reports. -/
def maxCodes (n : Nat) (l : List Bytes) : Bytes :=
  (List.range n).map (fun i =>
    let m := (l.map (fun c => c.getD i 255#8)).filter (fun b => b != 255#8)
    if m = [] then 255#8 else BitVec.ofNat 8 (maxOf (m.map (fun b => b.toNat))))

/-- One array of an entry by the mode: latest, mean or maximum over the covered timeslots (04 R123, R126). -/
def State.nfArray (s : State) (mode n : Nat) (l : List Bytes) : Bytes × State :=
  if mode = 0 then (l.headD [], s) else if mode = 1 then s.meanCodes n l else (maxCodes n l, s)

/-- An entry written into the circular array. -/
def State.nfEntry (s : State) (x : Radio) (c : NfCfg) (asn : Nat) : State :=
  let n := nfCount x
  let (mean, s) := s.nfArray c.mode n (c.acc.map (fun p => p.1))
  let (peak, s) := s.nfArray c.mode n (c.acc.map (fun p => p.2))
  let size := 32 + 2 * n
  let bytes := u32 c.seq ++ u64 asn ++ u32 (s.radio x).lo ++ u8 x.ix ++ leInt 1 (s.bbRadio x).fs
    ++ u8 (flag c.clipped 0 + flag c.own 1 + 4 * c.mode) ++ u8 0 ++ u16 n ++ u16 0 ++ mean ++ peak ++ padTo 8 []
  let s := s.winWrite (c.off + size * (c.seq % max 1 c.entries)) bytes
  s.setBb x { s.bbRadio x with
    nfCfg := some { c with seq := (c.seq + 1) % 2 ^ 32, count := 0, clipped := false, own := false, acc := [] } }

/-- A period's codes taken into the entry under way, which is written at the end of every d-th (04 R123). -/
def State.nfStep (s : State) (x : Radio) (asn : Nat) (means peaks : Bytes) : State :=
  match (s.bbRadio x).nfCfg with
  | none => s
  | some c =>
    let c := { c with count := c.count + 1, clipped := c.clipped || (s.bbRadio x).clipped, own := c.own || (s.bbRadio x).own,
                      acc := (means, peaks) :: c.acc }
    if c.dec ≤ c.count then s.nfEntry x c asn else s.setBb x { s.bbRadio x with nfCfg := some c }

/-- L_block's measurements with one oscillator frequency: the newest 64 (04 R107). -/
def pushBlock (l : List (Nat × Nat)) (lo p : Nat) : List (Nat × Nat) :=
  (lo, p) :: (l.filter (fun b => b.1 == lo)).take 63 ++ l.filter (fun b => b.1 != lo)

/-! ### The end of a timeslot -/

/-- A frame whose acknowledgement did not come: retried in a later cell, or dropped (09 R250, 06 R163). -/
def State.ackMissed (s : State) (p : AwaitedAck) : State :=
  match s.ctx? p.ctx with
  | none => s
  | some x =>
    match x.queue p.cls with
    | [] => s
    | f :: t =>
      if Config.frameRetries ≤ f.tries then
        ((s.modCtx p.ctx (fun y => { y with queues := tset y.queues p.cls t })).ctxCount p.ctx kTxDropped 1).txStamp f.desc none f.status
      else
        let (w, s) := s.draw
        (s.modCtx p.ctx (fun y => { y with queues := tset y.queues p.cls ({ f with tries := f.tries + 1, backoff := w } :: t) })).ctxCount
          p.ctx kTxRetries 1

/-- Frames discarded for a full miss queue in the timeslot reported (09 R262). -/
def State.reportMissq (s : State) (net : Net) : State :=
  let n := s.net net
  if n.missqDrops = 0 then s
  else (s.setNet net { n with missqDrops := 0 }).raise 0x6002 [u8 net.ix, u64 n.asn, u16 (min 65535 n.missqDrops)]

/-- The last timeslot of a beacon interval ends: without a beacon of the parent, a miss (06 R193; the parent's interval is taken
as the network's own: log entry 36). -/
def State.parentInterval (s : State) (net : Net) : State :=
  let n := s.net net
  match n.parent with
  | none => s
  | some p =>
    let len := 16 * 2 ^ (s.netParam net 0x301A - s.netParam net 0x3018)
    if (n.asn + 1) % len ≠ 0 then s
    else if p.heard then s.setNet net { n with parent := some { p with heard := false } }
    else (s.setNet net { n with parent := some { p with misses := p.misses + 1 } }).bump (.sched net) 15

/-- The wait for an acknowledgement does not reach into the next timeslot of its network: it ends with this one (06 R164, R188). -/
def State.ackOver (s : State) (net : Net) (a : AwaitedAck) : Bool := decide (a.till ≤ (s.net net).slotStart + s.slotNs net)

/-- What a network's timeslot leaves behind when it ends; frames that still wait for their counters have missed their plan lock (10
R302). -/
def State.endNetSlot (s : State) (net : Net) : State :=
  let late := (s.net net).awaiting.filter (fun a => s.ackOver net a)
  let s := late.foldl (fun (s : State) p => s.ackMissed p)
    (s.setNet net { s.net net with awaiting := (s.net net).awaiting.filter (fun a => !s.ackOver net a) })
  let s := s.bumpBy (.bbtx net.radio) txLateData (((s.net net).cur.map (fun p => p.waits.length)).getD 0)
  ((s.reportMissq net).parentInterval net)

/-- Switched diversity: the antenna changes after a timeslot with a miss; a fixed choice holds from the next one on (03 R59). -/
def State.nextAntenna (s : State) (x : Radio) : State :=
  let r := s.radio x
  let sel := match x with | .lb => s.pnat 0x1001 | .mb => s.pnat 0x1002 | .hb => 0
  let a := if sel < 2 then s.fixedAntenna x else if r.missed then 1 - r.antenna else r.antenna
  if x = .hb then s else s.setRadio x { r with antenna := a, missed := false }

/-- EV_BB_OVERFLOW of the timeslot (04 R119). -/
def State.reportOverflow (s : State) (x : Radio) (asn : Nat) : State :=
  let b := s.bbRadio x
  if b.overflow = 0 then s
  else (s.setBb x { b with overflow := 0 }).raise 0x2001 [u8 x.ix, u8 1, u16 b.overflow, u64 asn]

/-- A report period of a radio has come to its end: its timeslot, or, without a network, 10 ms of receive time (04 R121, R122). -/
def State.periodOver (s : State) (x : Radio) (net : Option Net) : Bool :=
  match net with
  | some n => decide ((s.net n).slotStart + s.slotNs n ≤ s.now)
  | none => decide (10000000 ≤ s.receiveNs x)

/-- TIMESLOT_END of a radio's timeslot, or of 10 ms of its receive time without a network, with the means and peaks measured
(04 R121-R123). -/
def execTimeslotEnd (x : Radio) (means peaks : Bytes) (s : State) : Out :=
  .next (
    let net := match x.net? with | some n => if (s.net n).running && (s.net n).begun then some n else none | none => none
    if !s.awake || !s.periodOver x net then s
    else
      let asn := match net with | some n => (s.net n).asn | none => 0xFFFFFFFFFF
      let s :=
        if x = .hb then s
        else
          let (m, s) := s.maskCodes x means
          let (p, s) := s.maskCodes x peaks
          let b := s.bbRadio x
          let s := s.setBb x { b with block := pushBlock b.block (s.radio x).lo (codeSum m), nf := (m :: b.nf).take 4096 }
          s.nfStep x asn m p
      let s := s.reportOverflow x asn
      let b := s.bbRadio x
      let s := s.setBb x { b with
        last := some { b.cur with asn := asn }, cur := { lanes := s.lanesUsed x }, own := false, clipped := false, clipCount := [], gainAt := s.now
        busy := b.busy.filter (fun p => decide (s.now < p.2.2.2)) }
      let s := s.nextAntenna x
      match net with
      | some n => s.endNetSlot n
      | none => s)

/-! ### Commands (04 R126, R127) -/

/-- BB_COUNTERS_GET. -/
def execBbCountersGet (ch : Nat) (s : State) : Out := .next (s.serve ch 0x2001 radioClearSpec (radioCountersBody .bb 20))

def nfConfigSpec : TlvSpec := { rows := [{ ty := 1, len := .exact 1 }, { ty := 2, len := .exact 4 }, { ty := 3, len := .exact 2 },
  { ty := 4, len := .exact 2 }, { ty := 5, len := .exact 1 }, { ty := 6, len := .exact 1 }] }

def nfConfigBody : Body := fun q s =>
  match Radio.ofNat? (q.nat 1) with
  | none | some .hb => (naming stRange 1, s)
  | some x =>
    if q.nat 3 < 2 ∨ 1024 < q.nat 3 then (naming stRange 3, s)
    else if q.nat 4 = 0 ∨ 1000 < q.nat 4 then (naming stRange 4, s)
    else if 2 < q.nat 5 then (naming stRange 5, s)
    else if 1 < q.nat 6 then (naming stRange 6, s)
    else if !s.areaOk (q.nat 2) (q.nat 3 * (32 + 2 * nfCount x)) then (plain stNfPlacement, s)
    else
      let c : NfCfg := { off := q.nat 2, entries := q.nat 3, dec := q.nat 4, mode := q.nat 5 }
      (okReply [], s.setBb x { s.bbRadio x with nfCfg := if q.nat 6 = 1 then some c else none })

/-- BB_NF_CONFIG (04 R123). -/
def execBbNfConfig (ch : Nat) (s : State) : Out := .next (s.serve ch 0x2002 nfConfigSpec nfConfigBody)

def nfGetBody : Body := fun q s =>
  match Radio.ofNat? (q.nat 1) with
  | none | some .hb => (naming stRange 1, s)
  | some x =>
    let l := (s.bbRadio x).nf.take (s.bbParam x 0x2030)
    let (codes, s) := s.meanCodes (nfCount x) l
    (okReply [tlvN 2 2 l.length, ⟨3, codes⟩], s)

/-- BB_NF_GET (04 R122). -/
def execBbNfGet (ch : Nat) (s : State) : Out := .next (s.serve ch 0x2003 { rows := [{ ty := 1, len := .exact 1 }] } nfGetBody)

/-- Before any timeslot has been completed the fields are free values (log entry 3). -/
def State.slotStat (s : State) (x : Radio) : SlotStat × State :=
  match (s.bbRadio x).last with
  | some t => (t, s)
  | none =>
    let v (i : Nat) := Config.free (s.freeCtr + i)
    ({ asn := v 0, fs := signed 8 (v 1), lanes := v 2, forks := v 3, clipped := v 4 % 2 == 1, softPeak := v 5, decPeak := v 6 },
      { s with freeCtr := s.freeCtr + 7 })

def slotStatusBody : Body := fun q s =>
  match Radio.ofNat? (q.nat 1) with
  | none => (naming stRange 1, s)
  | some x =>
    let (t, s) := s.slotStat x
    (okReply [tlvN 2 8 t.asn, ⟨3, leInt 1 t.fs⟩, tlvN 4 1 t.lanes, tlvN 5 1 (min 255 t.forks), ⟨6, boolByte t.clipped⟩,
      tlvN 7 4 t.softPeak, tlvN 8 1 t.decPeak], s)

/-- BB_SLOT_STATUS_GET. -/
def execBbSlotStatusGet (ch : Nat) (s : State) : Out :=
  .next (s.serve ch 0x2004 { rows := [{ ty := 1, len := .exact 1 }] } slotStatusBody)

end Sys2Proof.Machine
end

