-- ==== Sys2Proof/Machine/SpanOps.lean ====
section
/-! DEFINITION. Span links: frames, replay windows, members, the service of sub-events and the queue (07). -/

namespace Sys2Proof.Machine

def stSpanParam : Nat := 0x4101
def stSpanOpen : Nat := 0x4102
def stSpanNotOpen : Nat := 0x4103
def stMember : Nat := 0x4104
def stSpanFrameSize : Nat := 0x4105
def stSpanHeld : Nat := 0x4106

def State.span (s : State) (n : Nat) : SpanState := tget {} s.spans n

def State.setSpan (s : State) (n : Nat) (v : SpanState) : State := { s with spans := tset s.spans n v }

def State.modSpan (s : State) (n : Nat) (f : SpanState → SpanState) : State := s.setSpan n (f (s.span n))

def SpanState.isOpen (v : SpanState) : Bool := v.phase != .closed

def State.modMember (s : State) (n band : Nat) (f : MemberState → MemberState) : State :=
  match tfind (s.span n).members band with
  | some m => s.modSpan n (fun v => { v with members := tset v.members band (f m) })
  | none => s

/-- The device's link address, a number (07 R197). -/
def State.linkAddr (s : State) : Nat := leNat (s.pbytes 0x4001)

/-- The direction bit of frames from `a` to `b` (07 R197). -/
def spanDir (a b : Nat) : Nat := if a < b then 0 else 1

/-- A per-span parameter of span `n`, by the ID it has for span 0 (07 R227). -/
def State.spanParam (s : State) (n id : Nat) : Nat := s.pnat (id + 0x20 * n)

def State.supNs (s : State) (n : Nat) : Nat := 1000000 * s.spanParam n 0x4101

/-- The set gap between frames, in ns, against which member records are checked (07 R200). -/
def State.ifsNs (s : State) : Nat := 1000 * s.pnat 0x4002

/-- The row under which a member's sub-event of an event is skipped, or none. -/
def MemberState.skipIn (m : MemberState) (e : Nat) : Option Nat := tfind m.skip e

/-- The event that comes next, and its anchor (07 R201). -/
def SpanState.nextEvent (v : SpanState) : Nat := if v.begun then (v.event + 1) % 2 ^ 40 else v.event
def SpanState.nextAnchor (v : SpanState) : Int := if v.begun then v.anchor + (500000 * v.interval : Nat) else v.anchor

/-! ### Replay windows (07 R210) -/

inductive WindowVerdict where
  | accept | dup | old
  deriving DecidableEq, Repr

/-- A counter against a window, with the window after its acceptance; bit `i` of the map marks the counter `i` below the highest. -/
def Window.check (w : Window) (c : Nat) : WindowVerdict × Window :=
  match w.high with
  | none => (.accept, { high := some c, map := 1 })
  | some h =>
    if h < c then
      (.accept, { high := some c, map := if 256 ≤ c - h then 1 else (w.map * 2 ^ (c - h) + 1) % 2 ^ 256 })
    else if h - c < 256 then
      if w.map.testBit (h - c) then (.dup, w) else (.accept, { w with map := w.map + 2 ^ (h - c) })
    else (.old, w)

/-! ### Frames (07 R205, R208) -/

/-- What a header and its blocks say. -/
structure SpanHdr where
  ty : Nat
  last : Bool := false
  sel : Nat
  band : Nat
  dir : Nat
  burst : Nat := 0
  src : Nat
  dst : Nat
  counter : Nat
  event : Nat
  cls : Nat := 0
  ackHigh : Nat := 0
  ackMap : Nat := 0
  len : Nat := 0
  /-- time block: anchor, interval, tq, bound -/
  time : Option (Int × Nat × Nat × Nat) := none
  challenge : Option Bytes := none
  echo : Option Bytes := none
  deriving DecidableEq, Repr

def SpanHdr.blocks (h : SpanHdr) : Nat := (if h.time.isSome then 16 else 0) + (if h.challenge.isSome then 8 else 0) + (if h.echo.isSome then 8 else 0)

def SpanHdr.md (h : SpanHdr) : Nat := h.band % 4 + h.dir % 2 * 4

/-- The header and the blocks as they travel. -/
def SpanHdr.bytes (h : SpanHdr) : Bytes :=
  u8 (h.ty % 8 + flag h.last 3 + flag h.time.isSome 4 + flag h.challenge.isSome 5 + flag h.echo.isSome 6 + h.sel % 2 * 128)
    ++ u8 (h.md + h.burst % 8 * 8) ++ leBytes 5 h.src ++ leBytes 5 h.dst ++ leBytes 6 h.counter ++ leBytes 5 h.event
    ++ u8 (h.cls % 4) ++ leBytes 6 h.ackHigh ++ leBytes 4 h.ackMap ++ u16 h.len
    ++ (match h.time with
        | some (a, i, q, e) => leInt 8 a ++ u16 i ++ u8 q ++ u8 0 ++ u32 e
        | none => [])
    ++ h.challenge.getD [] ++ h.echo.getD []

/-- A received header with its blocks. -/
def decodeSpan (b : Bytes) : SpanHdr :=
  let at_ (o n : Nat) := leNat ((b.drop o).take n)
  let fc := at_ 0 1
  let md := at_ 1 1
  let o1 := if fc.testBit 4 then 52 else 36
  let o2 := if fc.testBit 5 then o1 + 8 else o1
  { ty := fc % 8, last := fc.testBit 3, sel := fc / 128, band := md % 4, dir := md / 4 % 2, burst := md / 8 % 8,
    src := at_ 2 5, dst := at_ 7 5, counter := at_ 12 6, event := at_ 18 5, cls := at_ 23 1 % 4, ackHigh := at_ 24 6,
    ackMap := at_ 30 4, len := at_ 34 2,
    time := if fc.testBit 4 then some (signed 64 (at_ 36 8), at_ 44 2, at_ 46 1, at_ 48 4) else none
    challenge := if fc.testBit 5 then some ((b.drop o1).take 8) else none
    echo := if fc.testBit 6 then some ((b.drop o2).take 8) else none }

def SpanHdr.nonce (h : SpanHdr) : Bytes := leBytes 6 h.counter ++ leBytes 5 h.src ++ u8 h.md

/-- A frame sealed under its key (07 R208). -/
def spanSeal (key : Bytes) (mic : Nat) (h : SpanHdr) (payload : Bytes) : Bytes :=
  let (ct, tag) := ccmSeal key h.nonce h.bytes payload mic
  h.bytes ++ ct ++ tag

/-- The payload of a received frame, where its MIC passes. -/
def spanUnseal (key : Bytes) (mic : Nat) (b : Bytes) : Option Bytes :=
  let h := decodeSpan b
  let n := 36 + h.blocks
  if b.length < n + mic then none
  else ccmOpen key h.nonce (b.take n) ((b.drop n).take (b.length - mic - n)) (b.drop (b.length - mic))

/-- Octets of the PSDU of a frame: with its FCS or CRC (07 R205). -/
def spanPsdu (blocks payload mic : Nat) : Nat := 36 + blocks + payload + mic + 4

/-- The largest payload of a member (07 R206). -/
def Member.maxPayload (m : Member) (blocks mic : Nat) : Nat := min 16384 (psduMax m.mode - (36 + blocks + mic + 4))

/-- Air time of a PSDU on a member, in thirds of a ns (05 R158). -/
def Member.air (m : Member) (psdu : Nat) : Nat := airThirds m.mode psdu 0 m.nss m.gi

/-- Half of a member's sub-event, in thirds of a ns. -/
def Member.half (m : Member) : Nat := 1500 * m.lenUs

/-- The interval in force at an event: one that a committed set brings at that event counts (07 R201, R205, 02 R48). -/
def State.intervalAt (s : State) (n e : Nat) : Nat :=
  match (s.sets.filter (fun p => p.2.committed && p.2.domain == 0x0200 + n && p.2.boundary == e)).findSome? (fun p =>
      p.2.writes.findSome? (fun w => match w with
        | .param id (.num v) => if id = 0x4100 + 0x20 * n then some v.toNat else none
        | _ => none)) with
  | some v => v
  | none => (s.span n).interval

/-- The time block of an event of T (07 R205). -/
def State.timeBlock (s : State) (n e : Nat) (a : Int) : Int × Nat × Nat × Nat := (a, s.intervalAt n e, s.tq, s.time.bound)

/-- A counter value and the key of the sending selector, taken for one frame, or the status without them; `again`: its wait has been
counted (07 R209, 10 R297, R302). -/
def State.spanCounter (s : State) (n : Nat) (again : Bool) : Except Nat (Nat × Bytes) × State :=
  let v := s.span n
  match tfind v.keys v.sel with
  | none => (.error stKeyEmpty, s)
  | some slot =>
    match s.keyFor slot 1 with
    | .error e => (.error e, s)
    | .ok k =>
      match s.takeCounter again slot 1 k with
      | (.taken c, s) => (.ok (c, k.key), s.countUse slot)
      | (.held, s) => (.error stCounterHeld, s)
      | (.exhausted, s) => (.error stExhausted, s)

/-- CCM_SPAN_TX: a frame sealed, with its blocks counted (10 R290). -/
def State.sealSpan (s : State) (key : Bytes) (mic : Nat) (h : SpanHdr) (payload : Bytes) : Bytes × State :=
  (spanSeal key mic h payload, (s.bump .cipher 1).useBlocks (aeadBlocks h.bytes.length payload.length))

/-- The sending slot's hold has been told: a frame that is not kept in a queue counts under MARK_HOLD once for each hold (log entry 197). -/
def State.spanHoldTold (s : State) (n : Nat) : Bool :=
  match (tfind (s.span n).keys (s.span n).sel).bind (fun k => tfind s.cipher.keys k) with
  | some k => k.holdRaised
  | none => false

/-- Highest counter accepted under the sending selector and the map below it; while none has been accepted the spec gives no
value (log entry 3). -/
def State.spanAck (s : State) (n : Nat) : (Nat × Nat) × State :=
  let w := tget {} (s.span n).windows (s.span n).sel
  match w.high with
  | some h => ((h, w.map / 2 % 2 ^ 32), s)
  | none => ((Config.free s.freeCtr % 2 ^ 48, Config.free (s.freeCtr + 1) % 2 ^ 32), { s with freeCtr := s.freeCtr + 2 })

/-- The header of a frame of span `n` on a band in an event, with the acknowledgement in force. -/
def State.spanHeader (s : State) (n band e ty : Nat) (last : Bool) : SpanHdr × State :=
  let v := s.span n
  let ((ah, am), s) := s.spanAck n
  ({ ty := ty, last := last, sel := v.sel, band := band, dir := spanDir s.linkAddr v.peer, src := s.linkAddr, dst := v.peer, counter := 0, event := e, ackHigh := ah, ackMap := am }, s)

/-- A built frame put on its member: the emission made pending, and the frame kept until its end. On HB one stream goes out on both
chains as well (05 R149). -/
def State.spanEmit (s : State) (n band e : Nat) (nominal : Int) (khz cls ty : Nat) (sync : Bool) (octets : Bytes)
    (desc : Option (Nat × Nat)) : State :=
  match Radio.ofNat? band, tfind (s.span n).members band with
  | some x, some m =>
    let id := (s.span n).txSeq
    let s := s.modSpan n (fun v => { v with
      txs := v.txs ++ [{ id := id, band := band, ty := ty, octets := octets, desc := desc }], txSeq := id + 1 })
    let s := s.modMember n band (fun m => { m with spoke := e :: m.spoke })
    s.addEmission x {
      id := 0, owner := .span n band id, cls := cls, nominal := nominal, sync := sync, khz := khz, mode := some m.rec_.mode,
      chains := if x = .hb then 2 else m.rec_.nss, air := m.rec_.air (octets.length + 4), power := m.rec_.power, lane := 0 }
  | _, _ => s

/-- A frame without payload built and put on its member under a counter of its own; the counter it took (07 R215, R220, R221). -/
def State.spanPlain (s : State) (n : Nat) (h : SpanHdr) (nominal : Int) (khz : Nat) : Option Nat × State :=
  match s.spanCounter n (s.spanHoldTold n) with
  | (.error _, s) => (none, s)
  | (.ok (c, key), s) =>
    let (b, s) := s.sealSpan key (s.span n).mic { h with counter := c } []
    (some c, s.spanEmit n h.band h.event nominal khz 2 h.ty h.time.isSome b none)

/-- Start of a side's half of a member's sub-event (07 R202). -/
def SpanState.halfStart (v : SpanState) (m : Member) (a : Int) : Int :=
  a + (1000 * m.offUs : Nat) + (if v.isT then 0 else ((500 * m.lenUs : Nat) : Int))

/-! ### The service of sub-events (07 R204) -/

/-- STANDBY-to-ready maximum of a radio in ns (03 R60). -/
def readyNs (x : Radio) : Nat := match x with | .lb => 120000 | .mb => 110000 | .hb => 100000

/-- The timeslot `k` on from the one in force is taken by a span cell that names the span: as planned, or as its plan will be
(06 R179). -/
def State.slotOfSpan (s : State) (net : Net) (n k : Nat) : Bool :=
  if k = 0 ∧ (s.net net).begun then (match (s.net net).cur with | some p => p.span == some n | none => false)
  else (s.basePlan net (s.asnAfter net k)).span == some n

/-- Every timeslot that an interval touches serves a span cell that names the span. -/
def State.inSpanCells (s : State) (net : Net) (n : Nat) (start stop : Int) : Bool :=
  let t0 := (s.net net).slotStart
  let len : Int := max 1 (s.slotNs net)
  let k0 := (start - t0) / len
  let k1 := (stop - 1 - t0) / len
  decide (0 ≤ k0) && ((List.range ((k1 - k0).toNat + 1)).all (fun i => s.slotOfSpan net n (k0.toNat + i)))

/-- A sub-event of span `n` on a radio may be served by the first sentence of R204. -/
def State.hasCells (s : State) (x : Radio) (n : Nat) (start stop : Int) : Bool :=
  match (if s.netRuns x then x.net? else none) with
  | some net => s.inSpanCells net n start stop
  | none => true

/-- Remaining supervision time in ns. -/
def State.supLeft (s : State) (n : Nat) : Int := (s.span n).heardAt + (s.supNs n : Int) - s.now

/-- Another span's sub-event takes the radio in place of span `n`'s; an end that scans has none. -/
def State.outranked (s : State) (n : Nat) (x : Radio) (start stop : Int) : Bool :=
  s.spans.any (fun (p : Nat × SpanState) =>
    p.1 != n && (spanActivities p.1 p.2 x 0 s.now false).any (fun a =>
      decide (a.start - (readyNs x : Int) < stop) && decide (start - (readyNs x : Int) < a.stop) && s.hasCells x p.1 a.start a.stop)
    && (decide (s.supLeft p.1 < s.supLeft n) || (decide (s.supLeft p.1 = s.supLeft n) && decide (p.1 < n))))

/-- Why a member's sub-event of an event with anchor `a` is skipped, by the row of its counter: its radio cannot serve it, it has no
cells, or another span's takes the radio. -/
def State.subSkip (s : State) (n : Nat) (x : Radio) (m : Member) (a : Int) : Option Nat :=
  let start := a + (1000 * m.offUs : Nat)
  let stop := start + (1000 * m.lenUs : Nat)
  if !s.radioServes x start stop then some 0
  else if !s.hasCells x n start stop then some 13
  else if s.outranked n x start stop then some 12
  else none

/-- A skipped sub-event counted. -/
def State.countSkip (s : State) (n : Nat) (x : Radio) (row : Nat) : State := if row = 0 then s.bump (.radio x) 11 else s.bump (.span n) row

/-! ### Member health (07 R217) -/

/-- A span enters RESYNC (07, span states). -/
def State.spanResync (s : State) (n : Nat) : State := s.modSpan n (fun v => { v with phase := .resync, owesAlive := none })

/-- A frame accepted on a member brings it UP. -/
def State.memberUp (s : State) (n band : Nat) : State :=
  match tfind (s.span n).members band with
  | none => s
  | some m =>
    if m.up then s
    else
      let e := (s.span n).event
      (s.modMember n band (fun m => { m with up := true, misses := 0 })).raise 0x4004
        [u8 n, u8 band, u32 ((e + 2 ^ 40 - m.downSince) % 2 ^ 40)]

/-- A miss of a member; at the limit it goes DOWN, and a T end with every member DOWN enters RESYNC. -/
def State.memberMiss (s : State) (n band : Nat) : State :=
  match tfind (s.span n).members band with
  | none => s
  | some m =>
    let k := m.misses + 1
    let s := s.modMember n band (fun m => { m with misses := k })
    if m.up && decide (s.spanPar n 0x4004 ≤ k) then
      let e := (s.span n).event
      let s := s.modMember n band (fun m => { m with up := false, downSince := e })
      let s := (s.bump (.span n) 14).raise 0x4003 [u8 n, u8 band, u8 (min 255 k)]
      let v := s.span n
      if v.isT && v.phase == .up && v.members.all (fun p => !p.2.up) then s.spanResync n else s
    else s

/-! ### Delivery and loss (07 R211) -/

/-- A frame of the span given up: its descriptor, if one waits, is completed without a time. -/
def State.spanDrop (s : State) (f : QFrame) : State := s.txStamp f.desc none f.status

/-- A lost frame: to be retransmitted, or dropped after the last retransmission. -/
def State.spanLose (s : State) (n : Nat) (f : SentFrame) : State :=
  let s := s.modSpan n (fun v => { v with sent := v.sent.erase f })
  if f.tries < s.spanPar n 0x4003 then s.modSpan n (fun v => { v with retx := v.retx ++ [f] })
  else (s.bump (.span n) 3).spanDrop f.frame

/-- A counter is covered by an acknowledgement. -/
def ackCovers (high map c : Nat) : Bool := c == high || (decide (c < high) && decide (high - 1 - c < 32) && map.testBit (high - 1 - c))

/-- An accepted frame's acknowledgement: what it covers is delivered, and what has fallen too far behind is lost. -/
def State.spanAcked (s : State) (n : Nat) (h : SpanHdr) : State :=
  let gone (f : SentFrame) : Bool := f.sel == h.sel && ackCovers h.ackHigh h.ackMap f.counter
  let s := s.modSpan n (fun v => { v with sent := v.sent.filter (fun f => !gone f), retx := v.retx.filter (fun f => !gone f) })
  let late := (s.span n).sent.filter (fun f => f.sel == h.sel && decide (f.counter + 32 < h.ackHigh))
  late.foldl (fun (s : State) f => s.spanLose n f) s

/-- At the end of an event: what was last sent in an earlier event and is not delivered is lost. -/
def State.spanJudge (s : State) (n : Nat) : State :=
  let late := (s.span n).sent.filter (fun f => decide (0 < sdiff 40 (s.span n).event f.lastEvent))
  late.foldl (fun (s : State) f => s.spanLose n f) s

/-! ### The queue (07 R214) -/

/-- A member could ever carry a payload. At T, whose half begins with a time block, the frame takes the block itself or stands behind a
keep-alive that does (07 R206, R207, R212). -/
def Member.carries (m : Member) (isT : Bool) (ifs mic payload : Nat) : Bool :=
  let fits (blk start : Nat) : Bool := decide (payload ≤ m.maxPayload blk mic) && decide (start + m.air (spanPsdu blk payload mic) ≤ m.half)
  if isT then fits 16 0 || fits 0 (m.air (spanPsdu 16 0 mic) + ifs) else fits 0 0

/-- What a span's queue answers to a frame. -/
inductive SpanOffer where
  | taken | tooLong | full
  deriving DecidableEq, Repr

/-- A frame offered to a span's queue: taken, refused for its size, or refused because the queue is full. -/
def State.spanQueue (s : State) (n : Nat) (f : QFrame) : SpanOffer × State :=
  let v := s.span n
  if !v.members.any (fun p => p.2.rec_.carries v.isT (3 * s.spanIfs n) v.mic f.octets.length) then (.tooLong, s.bump (.span n) 5)
  else if s.spanPar n 0x4008 ≤ v.queue.length then (.full, s)
  else (.taken, s.modSpan n (fun v => { v with queue := v.queue ++ [f] }))

/-- Every frame of the span dropped: how many (07 R218, SPAN_CLOSE). -/
def State.spanFlush (s : State) (n : Nat) : Nat × State :=
  let v := s.span n
  let all := v.queue ++ v.retx.map (fun f => f.frame) ++ v.sent.map (fun f => f.frame)
  let s := all.foldl (fun (s : State) f => s.spanDrop f) (s.modSpan n (fun v => { v with queue := [], retx := [], sent := [] }))
  (all.length, s.bumpBy (.span n) 4 all.length)

/-! ### Emissions that are not sent -/

/-- An emission that is not sent, with its status where the rule names one: a span frame is dropped from its member and keeps its
descriptor for the next attempt; every other frame stays queued for its next cell (03 R94, 05 R154, R156). -/
def State.unsent (s : State) (x : Radio) (st : Option Nat) (e : Emission) : State :=
  let mark (f : QFrame) : QFrame := { f with status := st.getD f.status }
  let s := match e.owner with
    | .span n _ id =>
      (match (s.span n).txs.find? (fun t => t.id == id) with
      | none => s
      | some t =>
        let c := (decodeSpan t.octets).counter
        s.modSpan n (fun v => { v with
          txs := v.txs.filter (fun u => u.id != id)
          sent := v.sent.map (fun f =>
            if f.counter == c then { f with frame := { mark f.frame with desc := if t.desc.isSome then t.desc else f.frame.desc } }
            else f) }))
    | .client c k _ => s.modCtx c (fun y => { y with queues := tset y.queues k (match y.queue k with | f :: t => mark f :: t | [] => []) })
    | .broadcast net _ => s.setNet net { s.net net with bcast := match (s.net net).bcast with | f :: t => mark f :: t | [] => [] }
    | _ => s
  match st with
  | some v => s.setRadio x { s.radio x with txStatus := v }
  | none => s

def State.dropPending (s : State) (x : Radio) (st : Option Nat) (e : Emission) : State :=
  (s.setRadio x { s.radio x with pend := (s.radio x).pend.filter (fun y => y.id != e.id) }).unsent x st e

/-- The pending emissions of a span's member dropped: its sub-event is skipped. -/
def State.dropMember (s : State) (n : Nat) (x : Radio) : State :=
  ((s.radio x).pend.filter (fun e => match e.owner with | .span k b _ => k == n && b == x.ix | _ => false)).foldl
    (fun (s : State) e => s.dropPending x none e) s

/-- Pending emissions of a span taken off their radios. -/
def State.spanSilence (s : State) (n : Nat) : State :=
  [Radio.lb, .mb, .hb].foldl (fun (s : State) x =>
    s.setRadio x { s.radio x with pend := (s.radio x).pend.filter (fun e => match e.owner with | .span k _ _ => k != n | _ => true) }) s

end Sys2Proof.Machine
end

