-- ==== Sys2Proof/Machine/RouterOps.lean ====
section
/-! DEFINITION. The router's shared operations: ports, table entries, the forwarding databases, meters, shapers, the packet
buffer and the queues of the wired ports and the host (12 R339-R373). -/

namespace Sys2Proof.Machine

/-! ### Ports (12 R339, 14 R402) -/

def isSpanPort (c : Nat) : Bool := decide (0x20 ≤ c) && decide (c < 0x40)

/-- E0 to E3, K, H and the spans. -/
def isBridged (c : Nat) : Bool := decide (c < 6) || isSpanPort c

def isNetPort (c : Nat) : Bool := c == 0x10 || c == 0x11

def isPort (c : Nat) : Bool := isBridged c || isNetPort c

/-- Every bridged port. -/
def bridgedPorts : List Nat := List.range 6 ++ (List.range 32).map (fun n => 0x20 + n)

/-- The role of Ethernet port `p` of BOARD_DECLARE (02 R51). -/
def State.portRole (s : State) (p : Nat) : Nat :=
  match s.board with
  | some b => (b.ports.getD p ⟨0, 0⟩).role
  | none => 0

/-- The members of the link aggregation group, rising. -/
def State.lagMembers (s : State) : List Nat := (List.range 4).filter (fun p => s.portRole p == 2)

/-- The port that the router sees for an Ethernet port: of a group, its lowest member. -/
def State.groupPort (s : State) (p : Nat) : Nat := if s.portRole p = 2 then s.lagMembers.headD p else p

/-- Whether the router sees a port of its own under a code. -/
def State.ownPort (s : State) (p : Nat) : Bool := decide (4 ≤ p) || s.groupPort p == p

/-! ### Table entries (12 R350, R351) -/

def FdbEntry.bytes (e : FdbEntry) : Bytes :=
  padTo 32 (beBytes 6 e.mac ++ u16 e.vlan ++ u8 e.port ++ u8 e.flags ++ u16 e.stamp ++ u16 e.meter)

/-- The fields of an FDB entry, its valid flag among `flags`. -/
def FdbEntry.read (b : Bytes) : FdbEntry :=
  { mac := beNat (b.take 6), vlan := leNat ((b.drop 6).take 2), port := byteAt b 8, flags := byteAt b 9,
    stamp := leNat ((b.drop 10).take 2), meter := leNat ((b.drop 12).take 2) }

def Route.bytes (r : Route) : Bytes := padTo 32 (beBytes 16 r.pfx ++ u8 r.family ++ u8 r.len ++ u16 r.hop)

def Route.read (b : Bytes) : Route :=
  { pfx := beNat (b.take 16), family := byteAt b 16, len := byteAt b 17, hop := leNat ((b.drop 18).take 2) }

def NextHop.bytes (h : NextHop) : Bytes :=
  padTo 32 (u8 h.port ++ u8 h.flags ++ u16 h.vlan ++ beBytes 6 h.mac ++ u16 h.ctx ++ u16 h.meter ++ u8 h.queue)

def NextHop.read (b : Bytes) : NextHop :=
  { port := byteAt b 0, flags := byteAt b 1, vlan := leNat ((b.drop 2).take 2), mac := beNat ((b.drop 4).take 6),
    ctx := leNat ((b.drop 10).take 2), meter := leNat ((b.drop 12).take 2), queue := byteAt b 14 }

def VlanEntry.bytes (v : VlanEntry) : Bytes := padTo 32 (u64 v.members ++ u64 v.untagged ++ u8 v.flags)

def VlanEntry.read (b : Bytes) : VlanEntry :=
  { members := leNat (b.take 8), untagged := leNat ((b.drop 8).take 8), flags := byteAt b 16 }

def PortEntry.bytes (p : PortEntry) : Bytes := padTo 32 (u16 p.pvid ++ u8 p.flags ++ u8 p.queue ++ u16 p.meter)

def PortEntry.read (b : Bytes) : PortEntry :=
  { pvid := leNat (b.take 2), flags := byteAt b 2, queue := byteAt b 3, meter := leNat ((b.drop 4).take 2) }

def zeroFrom (b : Bytes) (n : Nat) : Bool := (b.drop n).all (fun x => x == 0#8)

def meterOk (m : Nat) : Bool := decide (m < 1024) || m == 0xFFFF

def vidOk (v : Nat) : Bool := decide (1 ≤ v) && decide (v ≤ 4094)

def fdbOk (b : Bytes) : Bool :=
  let e := FdbEntry.read b
  vidOk e.vlan && isBridged e.port && decide (e.flags < 16) && meterOk e.meter && zeroFrom b 14

/-- The bits of an address below a prefix length. -/
def hostBits (len : Nat) : Nat := 2 ^ (128 - len)

def State.hop (s : State) (h : Nat) : NextHop := tget {} s.rt.hops h

/-- Whether a route may name a next hop: 0 and 1 are fixed (12 R350). -/
def State.hopValid (s : State) (h : Nat) : Bool := decide (h < 2) || (s.hop h).flags.testBit 0

def State.routeOk (s : State) (b : Bytes) : Bool :=
  let r := Route.read b
  (r.family == 4 && decide (r.len ≤ 32) || r.family == 6 && decide (r.len ≤ 128)) && r.pfx % hostBits r.len == 0
    && decide (r.hop ≤ 4095) && s.hopValid r.hop && zeroFrom b 20

def hopOk (b : Bytes) : Bool :=
  let h := NextHop.read b
  (if isBridged h.port then vidOk h.vlan else isNetPort h.port && (decide (h.ctx < 4096) || h.ctx == 0xFFFF))
    && decide (h.flags < 4) && meterOk h.meter && (decide (h.queue < 8) || h.queue == 0xFF) && zeroFrom b 15

def vlanOk (b : Bytes) : Bool :=
  let v := VlanEntry.read b
  v.members % 2 ^ 32 < 64 && v.untagged % 2 ^ 32 < 64 && decide (v.flags < 16) && zeroFrom b 17

def portOk (b : Bytes) : Bool :=
  let p := PortEntry.read b
  vidOk p.pvid && decide (p.flags < 32) && decide (p.queue < 8) && meterOk p.meter && zeroFrom b 6

/-! ### The forwarding databases (12 R346-R349) -/

def fdbBucket (vid mac : Nat) : Nat := Config.fdbHash vid mac % 8192

/-- The entry of a key, with its index. -/
def fdbFind (t : Tab FdbEntry) (vid mac : Nat) : Option (Nat × FdbEntry) :=
  let b := fdbBucket vid mac
  t.find? (fun p => p.1 / 4 == b && p.2.vlan == vid && p.2.mac == mac)

/-- A free entry of a bucket. -/
def fdbFree (t : Tab FdbEntry) (bucket : Nat) : Option Nat :=
  ((List.range 4).map (fun i => 4 * bucket + i)).find? (fun i => !thas t i)

def State.fdb (s : State) (p : Pipe) : Tab FdbEntry := s.rt.fdb.pipe p

def State.setFdb (s : State) (p : Pipe) (t : Tab FdbEntry) : State := { s with rt := { s.rt with fdb := s.rt.fdb.setPipe p t } }

/-- The age of a stamp: a signed 16-bit difference (12 R348). -/
def State.ageOf (s : State) (stamp : Nat) : Int := sdiff 16 s.rt.age stamp

/-- A learn that a full FDB refuses: the event at most once a second, with the learns refused in the last one (12 R346). -/
def State.fdbFull (s : State) (p : Pipe) : State :=
  let l := s.time.aon :: (s.rt.full.pipe p).filter (fun a => s.time.aon < a + 32768)
  let s := { s.bump (.rt p) 13 with rt := { s.rt with full := s.rt.full.setPipe p l } }
  let due := match s.rt.fullAt.pipe p with | some a => decide (a + 32768 ≤ s.time.aon) | none => true
  if due then
    { s with rt := { s.rt with fullAt := s.rt.fullAt.setPipe p (some s.time.aon) } }.raise 0x9001
      [u8 (if p = Pipe.wire then 0 else 1), u32 l.length]
  else s

/-- A source learned on a port: whether the packet goes on (12 R346). -/
def State.learn (s : State) (p : Pipe) (vid mac port : Nat) : Bool × State :=
  let t := s.fdb p
  match fdbFind t vid mac with
  | some (i, e) =>
    if e.flags.testBit 1 then
      let s := if e.port = port then s else s.bump (.rt p) 15
      if e.flags.testBit 3 then (false, s.bump (.rt p) 8) else (true, s)
    else
      let s := s.setFdb p (tset t i { e with stamp := s.rt.age, port := port })
      (true, if e.port = port then s else s.bump (.rt p) 14)
  | none =>
    if 32768 ≤ t.length then (true, s.fdbFull p)
    else
      match fdbFree t (fdbBucket vid mac) with
      | none => (true, s.bump (.rt p) 12)
      | some i => (true, (s.setFdb p (tset t i ⟨mac, vid, port, 1, s.rt.age, 0xFFFF⟩)).bump (.rt p) 11)

/-! ### Routes (12 R343 stage 6) -/

/-- The longest prefix that matches an address. -/
def State.longest (s : State) (family addr : Nat) : Option Route :=
  (s.rt.routes.filter (fun r => r.family == family && r.pfx == addr / hostBits r.len * hostBits r.len)).foldl
    (fun (best : Option Route) r =>
      match best with
      | none => some r
      | some b => if b.len < r.len then some r else some b) none

/-! ### Meters (12 R367, R368) -/

/-- The unit of buckets: what a rate of 1 kb/s gives in one raw tick is one 2,000,000th of a byte. -/
def byteUnit : Nat := 2000000

/-- Raw ticks since one. -/
def State.rawSince (s : State) (at_ : Nat) : Nat := (s.time.raw + 2 ^ 48 - at_ % 2 ^ 48) % 2 ^ 48

/-- A meter brought forward to the present: RFC 2697 fills C and then E at its one rate, RFC 2698 each at its own. -/
def State.fillMeter (s : State) (m : Meter) : Meter :=
  let dt := s.rawSince m.at_
  if m.kind = 0 then
    let c := m.tc + m.cir * dt
    let spill := c - m.cbs * byteUnit
    { m with tc := min c (m.cbs * byteUnit), tp := min (m.tp + spill) (m.pbs * byteUnit), at_ := s.time.raw }
  else
    { m with tc := min (m.tc + m.cir * dt) (m.cbs * byteUnit), tp := min (m.tp + m.pir * dt) (m.pbs * byteUnit), at_ := s.time.raw }

/-- The colour of a packet of `n` bytes (0 green, 1 yellow, 2 red) and the meter after it. -/
def Meter.colour (m : Meter) (pre n : Nat) : Nat × Meter :=
  let b := n * byteUnit
  let pre := if m.aware then pre else 0
  if m.kind = 0 then
    if pre = 0 && decide (b ≤ m.tc) then (0, { m with tc := m.tc - b })
    else if pre ≤ 1 && decide (b ≤ m.tp) then (1, { m with tp := m.tp - b })
    else (2, m)
  else if pre = 2 || decide (m.tp < b) then (2, m)
  else if pre = 1 || decide (m.tc < b) then (1, { m with tp := m.tp - b })
  else (0, { m with tc := m.tc - b, tp := m.tp - b })

/-! ### Shapers (12 R365) -/

def State.fillShaper (s : State) (x : Shaper) : Shaper :=
  { x with level := min (x.level + (x.rate * s.rawSince x.at_ : Nat)) ((x.burst * byteUnit : Nat) : Int), at_ := s.time.raw }

/-- The shaper of a target: queue 0xFF is the whole port. -/
def State.shaperOf (s : State) (port queue : Nat) : Option (Nat × Shaper) :=
  s.rt.shapers.find? (fun p => p.2.port == port && p.2.queue == queue)

def State.shaperOk (s : State) (port queue : Nat) : Bool :=
  match s.shaperOf port queue with
  | some (_, x) => decide (0 < (s.fillShaper x).level)
  | none => true

/-- The bytes of a sent frame taken from a target's shaper. -/
def State.shaperCharge (s : State) (port queue n : Nat) : State :=
  match s.shaperOf port queue with
  | some (i, x) =>
    let x := s.fillShaper x
    { s with rt := { s.rt with shapers := tset s.rt.shapers i { x with level := x.level - (n * byteUnit : Nat) } } }
  | none => s

/-! ### The packet buffer (15 R421, R426) -/

def queuedOctets (l : List QFrame) : Nat := (l.map (fun f => f.len)).sum

/-- The octets of the frame that an emission carries, where it lies in the DRAM tier. -/
def State.ownerOctets (s : State) (o : EmOwner) : Nat :=
  match o with
  | .client c k _ => (((s.ctx? c).bind (fun x => (x.queue k).head?)).map (fun f => f.len)).getD 0
  | .broadcast net _ => ((s.net net).bcast.head?.map (fun f => f.len)).getD 0
  | .span n _ id => (((s.span n).txs.find? (fun t => t.id == id)).map (fun t => t.octets.length)).getD 0
  | .ack .. | .beacon .. | .test => 0

/-- The octets that the TXF port has fetched into the SRAM tier: those of the groups that are locked (15 R426). -/
def State.fetched (s : State) : Nat :=
  ([Radio.lb, .mb, .hb].flatMap (fun x => ((s.radio x).group.toList ++ (s.radio x).follow).flatMap (fun g =>
    g.carriers.map (fun c => s.ownerOctets c.em.owner)))).sum

/-- Octets free in the SRAM tier: what the queues of E0 to E3, K and H hold, and the frames of locked groups, is taken. -/
def State.sramFree (s : State) : Nat :=
  (20 - s.pnat 0xD001) * 0x40000 - ((s.rt.queues.map (fun p => queuedOctets p.2)).sum + s.fetched)

/-- Octets held by a client context: its queues and its reassemblies. -/
def Ctx.held (x : Ctx) : Nat :=
  (x.queues.map (fun p => queuedOctets p.2)).sum + (x.reasm.map (fun r => (r.pieces.map (fun p => p.2.length)).sum)).sum

def SpanState.heldOctets (v : SpanState) : Nat :=
  queuedOctets v.queue + queuedOctets (v.sent.map (fun f => f.frame)) + queuedOctets (v.retx.map (fun f => f.frame))

/-- Octets free in the DRAM tier: what client contexts, broadcasts and spans hold is taken. -/
def State.dramFree (s : State) : Nat :=
  s.pnat 0xD002 * 0x100000 - ((s.firn.ctxs.map (fun p => p.2.held)).sum + (s.spans.map (fun p => p.2.heldOctets)).sum
    + queuedOctets s.nets.fst.bcast + queuedOctets s.nets.snd.bcast)

/-! ### Queueing (12 R362, R363) -/

/-- The key of a queue of E0 to E3, K or H. -/
def queueKey (port q : Nat) : Nat := port * 8 + q

def State.portQueue (s : State) (port q : Nat) : List QFrame := tget [] s.rt.queues (queueKey port q)

def State.setQueue (s : State) (port q : Nat) (l : List QFrame) : State :=
  { s with rt := { s.rt with queues := if l.isEmpty then tdel s.rt.queues (queueKey port q) else tset s.rt.queues (queueKey port q) l } }

/-- What became of a frame offered to a queue. -/
inductive Offer where
  | taken | tail | full
  /-- no member of the span can ever carry it (07 R214) -/
  | size
  deriving DecidableEq, Repr

/-- The status that an offer gives a frame's descriptor; R42 names none for a full queue (log entry 45). -/
def Offer.status : Offer → Nat
  | .taken => 0
  | .size => stSpanFrameSize
  | .tail | .full => stState

/-- A refused frame counted at its egress port, a queued one as well (12 R363, R373). -/
def State.countOffer (s : State) (port : Nat) (o : Offer) : State :=
  match o with
  | .taken => s.bump (.tm port) 1
  | .tail => s.bump (.tm port) 4
  | .full => s.bump (.tm port) 5
  | .size => s

/-- A frame offered to a queue of E0 to E3, K or H. -/
def State.offerWired (s : State) (port q : Nat) (f : QFrame) : Offer × State :=
  let l := s.portQueue port q
  if s.pnat 0xA001 * 1024 < queuedOctets l + f.len then (.tail, s.countOffer port .tail)
  else if s.sramFree < f.len then (.full, s.countOffer port .full)
  else (.taken, (s.setQueue port q (l ++ [f])).countOffer port .taken)

/-- A frame offered to a span in an access class; one that no member could ever carry counts under TX_LEN_REJECT (07 R214). -/
def State.offerSpan (s : State) (n : Nat) (f : QFrame) : Offer × State :=
  if s.dramFree < f.len then (.full, s.countOffer (0x20 + n) .full)
  else
    match s.spanQueue n f with
    | (.taken, s) => (.taken, s.countOffer (0x20 + n) .taken)
    | (.tooLong, s) => (.size, s)
    | (.full, s) => (.tail, s.countOffer (0x20 + n) .tail)

/-- A frame that the router has decided on, offered to a bridged port: its queue q is access class q / 2 of a span. -/
def State.offerBridged (s : State) (port q : Nat) (f : QFrame) : Offer × State :=
  if isSpanPort port then s.offerSpan (port - 0x20) { f with cls := q / 2 } else s.offerWired port q { f with cls := q }

/-- A frame queued for the host without lookup: queue 0 of H (12 R344, 13 R389, 14 R403). -/
def State.toHost (s : State) (f : QFrame) : State :=
  match s.offerWired 5 0 { f with cls := 0 } with
  | (.taken, s) => s
  | (o, s) => s.txStamp f.desc none o.status

/-- The router's use of a frame that left its egress queue (12 R373). -/
def State.countSent (s : State) (port n : Nat) : State := (s.bump (.tm port) 2).bumpBy (.tm port) 3 n

end Sys2Proof.Machine
end

