-- ==== Sys2Proof/Machine/CascOps.lean ====
section
/-! DEFINITION. Cascade links and packets: who is linked, building and reading a packet, sending over K, and PAUSE (14 R404-R410). -/

namespace Sys2Proof.Machine

def State.casc (s : State) : Casc := s.serial.casc

def State.setCasc (s : State) (c : Casc) : State := { s with serial := { s.serial with casc := c } }

def State.cascDecl (s : State) : Option CascDecl :=
  match s.board with
  | some b => b.casc
  | none => none

def State.cascId (s : State) : Nat :=
  match s.cascDecl with
  | some d => d.own
  | none => 0

/-- The devices that a lane of this one names. -/
def State.cascPeers (s : State) : List Nat :=
  match s.cascDecl with
  | some d => (List.range 4).filter (fun p => d.lanes.contains p)
  | none => []

def State.link (s : State) (p : Nat) : CascLink := tget {} s.casc.links p

def State.setLink (s : State) (p : Nat) (l : CascLink) : State := s.setCasc { s.casc with links := tset s.casc.links p l }

/-- A link with an active lane in each direction (14 R405, R406; log entry 44). -/
def State.linkUp (s : State) (p : Nat) : Bool := (s.link p).tx != 0 && (s.link p).rx != 0

/-- EV_CASC_LINK (14 R406, 17 R462). -/
def State.raiseLink (s : State) (p : Nat) : State := s.raise 0xC005 [u8 p, u8 (s.link p).tx, u8 (s.link p).rx]

/-! ### Packets (14 R407) -/

/-- The header of a packet. -/
structure CascHdr where
  ty : Nat
  src : Nat
  dst : Nat
  cls : Nat
  flags : Nat
  len : Nat
  seq : Nat
  epoch : Nat
  deriving DecidableEq, Repr

def CascHdr.bytes (h : CascHdr) : Bytes :=
  let b := u8 h.ty ++ u8 (h.src + h.dst * 4) ++ u8 h.cls ++ u8 h.flags ++ u16 h.len ++ u16 h.seq ++ u32 h.epoch
  b ++ u16 (crc16 b)

/-- The header of a received packet; none where its CRC fails. -/
def readCasc (b : Bytes) : Option (CascHdr × Bytes) :=
  if b.length < 14 ∨ leNat ((b.drop 12).take 2) ≠ crc16 (b.take 12) then none
  else
    some ({ ty := byteAt b 0, src := byteAt b 1 % 4, dst := byteAt b 1 / 4 % 4, cls := byteAt b 2 % 8, flags := byteAt b 3,
            len := leNat ((b.drop 4).take 2), seq := leNat ((b.drop 6).take 2), epoch := leNat ((b.drop 8).take 4) },
      (b.drop 14).take (leNat ((b.drop 4).take 2)))

/-- A packet sent to a peer, under the next sequence number of its link and type. -/
def State.cascSend (s : State) (peer ty cls flags : Nat) (payload : Bytes) : State :=
  let l := s.link peer
  let q := tget 0 l.seqs ty
  let h : CascHdr := ⟨ty, s.cascId, peer, cls, flags, payload.length, q, s.casc.epoch⟩
  let s := s.setLink peer { l with seqs := tset l.seqs ty ((q + 1) % 65536) }
  s.setCasc { s.casc with sent := s.casc.sent ++ [(peer, h.bytes ++ payload)] }

/-- The packets of the last command that sent any are replaced by those of this one. -/
def State.cascFresh (s : State) : State := s.setCasc { s.casc with sent := [] }

def State.serLane (s : State) (i : Nat) : SerLane := tget {} s.serial.lanes i

def State.setSerLane (s : State) (i : Nat) (l : SerLane) : State := { s with serial := { s.serial with lanes := tset s.serial.lanes i l } }

/-- A LINK message: the active lanes of the own receive direction, by the sender's numbers that their markers carry (14 R405, R406;
log entry 47). -/
def State.sendLink (s : State) (peer : Nat) : State :=
  let m := (List.range 4).foldl (fun m i => if (s.link peer).rx.testBit i then m ||| 2 ^ (s.serLane (4 + i)).far else m) 0
  s.cascSend peer 6 0 0 (padTo 4 (u8 m))

/-! ### DATA over K (14 R408) -/

def State.peerOf (s : State) (vid mac : Nat) : Option PeerEntry := s.casc.peers.find? (fun e => e.vlan == vid && e.mac == mac)

/-- One DATA packet towards a peer, or its loss for a down link. -/
def State.cascDataTo (s : State) (peer cls : Nat) (frame : Bytes) : State :=
  if s.linkUp peer then (s.cascSend peer 1 cls 0 (withFcs frame)).bump .casc 1 else s.bump .casc 5

/-- A frame that the router sends to K. -/
def State.cascData (s : State) (cls vid : Nat) (frame : Bytes) : State :=
  let d := (Eth.read frame).dst
  match (if isGroup d then none else s.peerOf vid d) with
  | some e => s.cascDataTo e.peer cls frame
  | none => (s.cascPeers.filter (fun p => s.linkUp p)).foldl (fun (s : State) p => s.cascDataTo p cls frame) (s.bump .casc 6)

/-- A source learned by the peer table (14 R409). -/
def State.peerLearn (s : State) (vid mac peer : Nat) : State :=
  let c := s.casc
  let e : PeerEntry := ⟨vid, mac, peer, s.rt.age⟩
  if (s.peerOf vid mac).isSome then
    s.setCasc { c with peers := c.peers.map (fun x => if x.vlan = vid ∧ x.mac = mac then e else x) }
  else if 4096 ≤ c.peers.length then s.bump .casc 7
  else s.setCasc { c with peers := c.peers ++ [e] }

/-! ### PAUSE (14 R410) -/

/-- PAUSE sent to every peer whose link is up. -/
def State.sendPause (s : State) (mask : Nat) : State :=
  (s.cascPeers.filter (fun p => s.linkUp p)).foldl
    (fun (s : State) p => (s.cascSend p 5 0 0 (padTo 4 (u8 mask))).bump .casc 8) s

/-- The packet buffer's level against the threshold, after a change of it. -/
def State.pauseCheck (s : State) : State :=
  let x := s.pnat 0xC037 * 1024
  if s.cascDecl.isNone then s
  else if !s.casc.pausing && decide (s.sramFree < x) then (s.setCasc { s.casc with pausing := true }).sendPause 0xF0
  else if s.casc.pausing && decide (2 * x < s.sramFree) then (s.setCasc { s.casc with pausing := false }).sendPause 0
  else s

/-- A queue of K that a PAUSE stops at the present (14 R410). -/
def State.kStopped (s : State) (q : Nat) : Bool :=
  s.casc.links.any (fun p => match tfind p.2.stopped q with | some t => decide (s.now < t) | none => false)

end Sys2Proof.Machine
end

