-- ==== Sys2Proof/Machine/Lowpan.lean ====
section
/-! DEFINITION. IPv6 over 802.15.4: header compression and its inverse, fragmentation and reassembly (12 R358-R361, RFC 6282,
RFC 4944). -/

namespace Sys2Proof.Machine

/-! ### Addresses -/

/-- The interface identifier of a link-layer address: of a short one, or of an extended one with its U/L bit inverted. -/
def iidOf (short : Option Nat) (eui : Nat) : Nat :=
  match short with
  | some a => 0x000000FFFE000000 + a
  | none => eui ^^^ 0x0200000000000000

/-- An address whose first `len` bits are those of a prefix. -/
def overlay (pfx len a : Nat) : Nat := pfx / hostBits len * hostBits len + a % hostBits len

def linkLocal : Nat := 0xFE80 * 2 ^ 112

/-- The inline octets of the address forms 0 to 3. -/
def formLen (form : Nat) : Nat := [16, 8, 2, 0].getD form 0

/-- A unicast address from its form and inline value: stateless, or under a context (RFC 6282 section 3.1.1). -/
def unicastOf (c : Option LowCtx) (iid form val : Nat) : Nat :=
  let low := if form = 1 then val else if form = 2 then 0x000000FFFE000000 + val else iid
  match c with
  | none => if form = 0 then val else linkLocal + low
  | some c => if form = 0 then 0 else overlay c.pfx c.len low

/-- The inline octets of the multicast forms. -/
def mcLen (form : Nat) : Nat := [16, 6, 4, 1].getD form 0

/-- A multicast address from its stateless form and inline value. -/
def multicastOf (form val : Nat) : Nat :=
  if form = 0 then val
  else if form = 1 then 0xFF * 2 ^ 120 + val / 2 ^ 40 * 2 ^ 112 + val % 2 ^ 40
  else if form = 2 then 0xFF * 2 ^ 120 + val / 2 ^ 24 * 2 ^ 112 + val % 2 ^ 24
  else 0xFF02 * 2 ^ 112 + val

/-! ### Headers -/

/-- An IPv6 header, with its UDP header where that is compressed; no checksum where it was elided. -/
structure LowHdr where
  tc : Nat
  flow : Nat
  nh : Nat
  hlim : Nat
  src : Nat
  dst : Nat
  udp : Option (Nat × Nat × Option Nat) := none
  deriving DecidableEq, Repr

/-- The octets of the uncompressed headers of a datagram of `total` octets. -/
def LowHdr.octets (h : LowHdr) (total : Nat) : Bytes :=
  beBytes 4 (6 * 2 ^ 28 + h.tc * 2 ^ 20 + h.flow) ++ beBytes 2 (total - 40) ++ u8 h.nh ++ u8 h.hlim ++ beBytes 16 h.src ++ beBytes 16 h.dst
    ++ (match h.udp with
        | some (a, b, ck) => beBytes 2 a ++ beBytes 2 b ++ beBytes 2 (total - 40) ++ beBytes 2 (ck.getD 0)
        | none => [])

def LowHdr.len (h : LowHdr) : Nat := if h.udp.isSome then 48 else 40

/-- What the dispatch of a frame says. -/
inductive LowHead where
  | ok (h : LowHdr) (rest : Bytes)
  | plain (rest : Bytes)
  | unsupported
  | fail
  deriving DecidableEq, Repr

/-- `n` octets off the front of a run, as the number they spell. -/
def takeBe (n : Nat) (b : Bytes) : Option (Nat × Bytes) := if b.length < n then none else some (beNat (b.take n), b.drop n)

/-- The compressed UDP header (RFC 6282 section 4.3). -/
def readUdp (h : LowHdr) (b : Bytes) : LowHead :=
  match takeBe 1 b with
  | none => .fail
  | some (n, b) =>
    if n / 8 ≠ 0x1E then .unsupported
    else
      let p := n % 4
      let ports? := if p = 0 then (takeBe 4 b).map (fun x => (x.1 / 65536, x.1 % 65536, x.2))
        else if p = 1 then (takeBe 3 b).map (fun x => (x.1 / 256, 0xF000 + x.1 % 256, x.2))
        else if p = 2 then (takeBe 3 b).map (fun x => (0xF000 + x.1 / 65536, x.1 % 65536, x.2))
        else (takeBe 1 b).map (fun x => (0xF0B0 + x.1 / 16, 0xF0B0 + x.1 % 16, x.2))
      match ports? with
      | none => .fail
      | some (a, d, b) =>
        if n.testBit 2 then .ok { h with nh := 17, udp := some (a, d, none) } b
        else
          match takeBe 2 b with
          | some (ck, b) => .ok { h with nh := 17, udp := some (a, d, some ck) } b
          | none => .fail

/-- A context that a frame names: it must be valid (12 R359). -/
def lowCtx (t : Tab LowCtx) (cid : Nat) : Option LowCtx := (tfind t cid).filter (fun c => c.valid)

/-- One unicast address of a frame. -/
def readUnicast (t : Tab LowCtx) (ac : Bool) (form cid iid : Nat) (b : Bytes) : Option (Nat × Bytes) :=
  if ac && form == 0 then some (0, b)
  else if ac && (lowCtx t cid).isNone then none
  else (takeBe (formLen form) b).map (fun x => (unicastOf (if ac then lowCtx t cid else none) iid form x.1, x.2))

/-- An IPHC header (RFC 6282 section 3.1). -/
def readIphc (t : Tab LowCtx) (srcIid dstIid : Nat) (b : Bytes) : LowHead :=
  let d0 := byteAt b 0
  let d1 := byteAt b 1
  let tf := d0 / 8 % 4
  let sac := d1.testBit 6
  let m := d1.testBit 3
  let dac := d1.testBit 2
  if m && dac then .unsupported
  else if dac && d1 % 4 == 0 then .fail
  else
    let parsed : Option (LowHdr × Bytes) := do
      let (_, b) ← takeBe 2 b
      let (cids, b) ← if d1.testBit 7 then takeBe 1 b else some (0, b)
      let (tfv, b) ← takeBe ([4, 3, 1, 0].getD tf 0) b
      let ecn := if tf = 0 then tfv / 2 ^ 30 else if tf = 1 then tfv / 2 ^ 22 else tfv / 2 ^ 6
      let dscp := if tf = 0 then tfv / 2 ^ 24 % 64 else if tf = 1 then 0 else tfv % 64
      let flow := if tf = 0 ∨ tf = 1 then tfv % 2 ^ 20 else 0
      let (nh, b) ← if d0.testBit 2 then some (0, b) else takeBe 1 b
      let (hlim, b) ← if d0 % 4 = 0 then takeBe 1 b else some ([0, 1, 64, 255].getD (d0 % 4) 0, b)
      let (src, b) ← readUnicast t sac (d1 / 16 % 4) (cids / 16) srcIid b
      let (dst, b) ← if m then (takeBe (mcLen (d1 % 4)) b).map (fun x => (multicastOf (d1 % 4) x.1, x.2))
        else readUnicast t dac (d1 % 4) (cids % 16) dstIid b
      return ({ tc := dscp * 4 + ecn, flow := flow, nh := nh, hlim := hlim, src := src, dst := dst }, b)
    match parsed with
    | none => .fail
    | some (h, b) => if d0.testBit 2 then readUdp h b else .ok h b

/-- A frame's dispatch and header (12 R358). -/
def readLow (t : Tab LowCtx) (srcIid dstIid : Nat) (b : Bytes) : LowHead :=
  match b with
  | [] => .fail
  | d :: r =>
    if d.toNat = 0x41 then .plain r
    else if d.toNat / 32 = 3 then (if b.length < 2 then .fail else readIphc t srcIid dstIid b)
    else .unsupported

/-- The UDP checksum of a complete IPv6 packet whose checksum was elided. -/
def fixUdp (p : Bytes) : Bytes :=
  let u := p.drop 40
  let s := sum16 ((p.drop 8).take 32) + u.length + 17 + sum16 (u.take 6 ++ [0#8, 0#8] ++ u.drop 8)
  let ck := 65535 - fold16 (fold16 s)
  p.take 46 ++ beBytes 2 (if ck = 0 then 65535 else ck) ++ p.drop 48

/-! ### Compression (12 R358: always the shortest encoding) -/

/-- One way to encode an address: context bit, form, inline octets, context. -/
structure AddrCode where
  ac : Bool
  form : Nat
  inl : Bytes
  cid : Nat
  deriving DecidableEq, Repr

def AddrCode.ofForm (ac : Bool) (form cid addr : Nat) : AddrCode :=
  ⟨ac, form, beBytes (formLen form) (addr % 2 ^ (8 * formLen form)), cid⟩

/-- Every encoding of a unicast address that reads back as it. -/
def unicastCodes (t : Tab LowCtx) (iid addr : Nat) : List AddrCode :=
  ([0, 1, 2, 3].filter (fun f => unicastOf none iid f (addr % 2 ^ (8 * formLen f)) == addr)).map (fun f => .ofForm false f 0 addr)
    ++ t.flatMap (fun (p : Nat × LowCtx) =>
      if p.2.valid && p.2.compress then
        ([1, 2, 3].filter (fun f => unicastOf (some p.2) iid f (addr % 2 ^ (8 * formLen f)) == addr)).map (fun f => .ofForm true f p.1 addr)
      else [])

def sourceCodes (t : Tab LowCtx) (iid addr : Nat) : List AddrCode :=
  (if addr = 0 then [⟨true, 0, [], 0⟩] else []) ++ unicastCodes t iid addr

/-- The inline value of a multicast form. -/
def mcVal (form addr : Nat) : Nat :=
  if form = 0 then addr
  else if form = 1 then addr / 2 ^ 112 % 256 * 2 ^ 40 + addr % 2 ^ 40
  else if form = 2 then addr / 2 ^ 112 % 256 * 2 ^ 24 + addr % 2 ^ 24
  else addr % 256

def multicastCodes (addr : Nat) : List AddrCode :=
  ([0, 1, 2, 3].filter (fun f => multicastOf f (mcVal f addr) == addr)).map (fun f => ⟨false, f, beBytes (mcLen f) (mcVal f addr), 0⟩)

/-- Octets that a pair of address encodings takes. -/
def pairLen (p : AddrCode × AddrCode) : Nat :=
  p.1.inl.length + p.2.inl.length + (if p.1.cid = 0 ∧ p.2.cid = 0 then 0 else 1)

/-- The first of the shortest pairs. -/
def bestPair (src dst : List AddrCode) : Option (AddrCode × AddrCode) :=
  (src.flatMap (fun a => dst.map (fun b => (a, b)))).foldl
    (fun (best : Option (AddrCode × AddrCode)) p =>
      match best with
      | none => some p
      | some q => if pairLen p < pairLen q then some p else some q) none

/-- The compressed headers of an IPv6 packet, and how many of its octets they stand for. -/
def compress (t : Tab LowCtx) (srcIid dstIid : Nat) (p : Bytes) : Bytes × Nat :=
  let tc := byteAt p 0 % 16 * 16 + byteAt p 1 / 16
  let flow := beNat ((p.drop 1).take 3) % 2 ^ 20
  let nh := byteAt p 6
  let hlim := byteAt p 7
  let src := beNat ((p.drop 8).take 16)
  let dst := beNat ((p.drop 24).take 16)
  let tc' := tc % 4 * 64 + tc / 4
  let (tf, tfb) : Nat × Bytes :=
    if flow = 0 ∧ tc = 0 then (3, [])
    else if flow = 0 then (2, beBytes 1 tc')
    else if tc / 4 = 0 then (1, beBytes 3 (tc % 4 * 2 ^ 22 + flow))
    else (0, beBytes 4 (tc' * 2 ^ 24 + flow))
  let udp := nh == 17 && decide (48 ≤ p.length) && beNat ((p.drop 44).take 2) == p.length - 40
  let (hl, hlb) : Nat × Bytes :=
    if hlim = 1 then (1, []) else if hlim = 64 then (2, []) else if hlim = 255 then (3, []) else (0, u8 hlim)
  let m := dst / 2 ^ 120 == 0xFF
  match bestPair (sourceCodes t srcIid src) (if m then multicastCodes dst else unicastCodes t dstIid dst) with
  | none => ([], 0)
  | some (a, b) =>
    let cid := a.cid ≠ 0 ∨ b.cid ≠ 0
    let d0 := 0x60 + tf * 8 + flag udp 2 + hl
    let d1 := (if cid then 128 else 0) + flag a.ac 6 + a.form * 16 + flag m 3 + flag b.ac 2 + b.form
    let head := u8 d0 ++ u8 d1 ++ (if cid then u8 (a.cid * 16 + b.cid) else []) ++ tfb ++ (if udp then [] else u8 nh) ++ hlb ++ a.inl ++ b.inl
    if udp then
      let sp := beNat ((p.drop 40).take 2)
      let dp := beNat ((p.drop 42).take 2)
      let (pp, pb) : Nat × Bytes :=
        if sp / 16 = 0xF0B ∧ dp / 16 = 0xF0B then (3, u8 (sp % 16 * 16 + dp % 16))
        else if dp / 256 = 0xF0 then (1, beBytes 2 sp ++ u8 (dp % 256))
        else if sp / 256 = 0xF0 then (2, u8 (sp % 256) ++ beBytes 2 dp)
        else (0, beBytes 2 sp ++ beBytes 2 dp)
      (head ++ u8 (0xF0 + pp) ++ pb ++ (p.drop 46).take 2, 48)
    else (head, 40)

/-! ### Fragmentation (12 R360) -/

/-- The fragments after the first, of at most `room` octets each. -/
def laterFrags (size tag room : Nat) : Nat → Nat → Bytes → List Bytes
  | 0, _, _ => []
  | fuel + 1, off, b =>
    if b = [] then []
    else
      let n := if 5 + b.length ≤ room then b.length else (room - 5) / 8 * 8
      (beBytes 2 (0xE000 + size) ++ beBytes 2 tag ++ u8 (off / 8) ++ b.take n) :: laterFrags size tag room fuel (off + n) (b.drop n)

/-- The frames of a packet under a limit of `room` payload octets; none where not even a fragment of it fits. -/
def fragment (head : Bytes) (covered room tag : Nat) (p : Bytes) : Option (List Bytes) :=
  let rest := p.drop covered
  if head.length + rest.length ≤ room then some [head ++ rest]
  else if room < 13 ∨ room < 4 + head.length then none
  else
    let k := (covered + (room - 4 - head.length)) / 8 * 8 - covered
    some ((beBytes 2 (0xC000 + p.length) ++ beBytes 2 tag ++ head ++ rest.take k)
      :: laterFrags p.length tag room p.length (covered + k) (rest.drop k))

/-- The largest payload to a context that both the PSDU limit and TsMaxTx of a network allow (05 R139, 06 R166, 12 R360). -/
def State.lowpanRoom (s : State) (net : Net) (ctx : Nat) : Nat :=
  let extra := s.frameExtra net ctx
  ((List.range (psduMax (s.netMode net) + 1)).reverse.find? (fun n =>
    decide (n + extra ≤ psduMax (s.netMode net)) && decide (s.clientAir net (n + extra) false ≤ 3000 * s.netParam net 0x300F))).getD 0

/-! ### Sending to a network -/

/-- The frames of one packet offered to a class queue of a client, or to the broadcast queue of a network: all of them or none
(12 R360, R363); those for a partner out of sync carry SYNC_LOST (06 R189). -/
def State.offerNet (s : State) (net : Net) (ctx cls : Nat) (fs : List QFrame) : Offer × State :=
  let port := 0x10 + net.ix
  let room := decide (queuedOctets fs ≤ s.dramFree)
  if ctx = 0xFFFF then
    if !room then (.full, s.countOffer port .full)
    else (.taken, (s.setNet net { s.net net with bcast := (s.net net).bcast ++ fs }).bumpBy (.tm port) 1 fs.length)
  else
    let q := (match s.ctx? ctx with | some x => x.queue cls | none => [])
    let lost := (match s.ctx? ctx with | some x => x.outSync.isSome | none => false)
    let fs := if lost then fs.map (fun f => { f with status := stSyncLost }) else fs
    if s.pnat 0xA002 < q.length + fs.length then (.tail, s.countOffer port .tail)
    else if !room then (.full, s.countOffer port .full)
    else (.taken, (s.modCtx ctx (fun y => { y with queues := tset y.queues cls (q ++ fs) })).bumpBy (.tm port) 1 fs.length)

/-- An IPv6 packet compressed, fragmented where it must be, and queued: refused frames of more than one fragment count as one
datagram; a packet of which no fragment fits is refused with ERR_PSDU_LENGTH, or,
where TsMaxTx is what it exceeds, with ERR_FRAME_SLOT (05 R139, 06 R166). The status is 0 where it is queued. -/
def State.lowpanSend (s : State) (pipe : Pipe) (net : Net) (ctx cls : Nat) (f : QFrame) : Nat × State :=
  let p := f.octets
  let dstIid := match s.ctx? ctx with
    | some x => iidOf (if x.short = 0xFFFE then none else some x.short) x.eui
    | none => iidOf (some 0xFFFF) 0
  let (head, covered) := compress (s.rt.lowpan.net net) (iidOf none Config.ownEui) dstIid p
  let tag := s.rt.tags.net net
  match fragment head covered (s.lowpanRoom net ctx) tag p with
  | none =>
    let whole := psduMax (s.netMode net) - s.frameExtra net ctx
    (if (fragment head covered whole tag p).isNone then stPsduLength else 0x310A, (s.bump (.bbtx net.radio) 6).bump (.rt pipe) 21)
  | some fs =>
    let many := decide (1 < fs.length)
    let s := if many then { s with rt := { s.rt with tags := s.rt.tags.setNet net ((tag + 1) % 65536) } } else s
    let n := fs.length
    let qs := (fs.zip (List.range n)).map (fun x =>
      { f with octets := x.1, len := x.1.length, ctx := ctx, cls := cls, desc := if x.2 + 1 = n then f.desc else none })
    let (o, s) := s.offerNet net ctx cls qs
    if o = .taken then (0, s) else (stState, if many then s.bump (.rt pipe) 21 else s)

/-! ### Reassembly (12 R361) -/

/-- The datagram of its pieces in order of offset. -/
def Reasm.whole (r : Reasm) : Bytes :=
  ((r.pieces.mergeSort (fun a b => decide (a.1 ≤ b.1))).map (fun p => p.2)).flatten

def Reasm.overlaps (r : Reasm) (off n : Nat) : Bool := r.pieces.any (fun p => decide (p.1 < off + n) && decide (off < p.1 + p.2.length))

/-- A fragment joined to its datagram: the complete datagram, if this completes it. -/
def State.joinFragment (s : State) (ctx size tag off : Nat) (b : Bytes) (noCheck : Bool) : Option Bytes × State :=
  match s.ctx? ctx with
  | none => (none, s)
  | some x =>
    if size < off + b.length then (none, s.bump (.rt .air) 17)
    else
      let put := fun (s : State) (l : List Reasm) => s.modCtx ctx (fun y => { y with reasm := l })
      let others := x.reasm.filter (fun r => !(r.size == size && r.tag == tag))
      match x.reasm.find? (fun r => r.size == size && r.tag == tag) with
      | some r =>
        if r.overlaps off b.length then (none, (put s others).bump (.rt .air) 20)
        else
          let r := { r with pieces := r.pieces ++ [(off, b)], noCheck := r.noCheck || noCheck }
          if (r.pieces.map (fun p => p.2.length)).sum = size then
            (some (if r.noCheck then fixUdp r.whole else r.whole), (put s others).bump (.rt .air) 18)
          else (none, put s (x.reasm.map (fun q => if q.size = size ∧ q.tag = tag then r else q)))
      | none =>
        let r : Reasm := { size := size, tag := tag, began := s.time.aon, pieces := [(off, b)], noCheck := noCheck }
        if b.length = size then (some (if noCheck then fixUdp b else b), s.bump (.rt .air) 18)
        else if x.reasm.length < 2 then (none, put s (x.reasm ++ [r]))
        else (none, (put s (x.reasm.drop 1 ++ [r])).bump (.rt .air) 20)

/-- What an arriving 802.15.4 payload is to the pipeline. -/
inductive LowIn where
  | packet (p : Bytes)
  | unsupported
  | nothing
  deriving DecidableEq, Repr

/-- An arriving payload decompressed, or joined to its datagram (12 R358-R361). -/
def State.lowpanIn (s : State) (net : Net) (k : InPkt) : LowIn × State :=
  let t := s.rt.lowpan.net net
  let srcIid := iidOf k.short (match s.ctx? k.ctx with | some x => x.eui | none => 0)
  let dstIid := iidOf none Config.ownEui
  let fail := (LowIn.nothing, s.bump (.rt .air) 17)
  let b := k.octets
  let d := byteAt b 0
  if d / 8 = 0x18 ∨ d / 8 = 0x1C then
    let size := beNat (b.take 2) % 2048
    let tag := beNat ((b.drop 2).take 2)
    let joined := fun (off : Nat) (o : Bytes) (nc : Bool) =>
      match s.joinFragment k.ctx size tag off o nc with
      | (some p, s) => (LowIn.packet p, s)
      | (none, s) => (LowIn.nothing, s)
    if d / 8 = 0x1C then
      if b.length < 6 then fail else joined (8 * byteAt b 4) (b.drop 5) false
    else
      match readLow t srcIid dstIid (b.drop 4) with
      | .ok h rest => joined 0 (h.octets size ++ rest) (match h.udp with | some (_, _, none) => true | _ => false)
      | .plain rest => joined 0 rest false
      | .unsupported => (.unsupported, s)
      | .fail => fail
  else
    match readLow t srcIid dstIid b with
    | .ok h rest =>
      let p := h.octets (h.len + rest.length) ++ rest
      (.packet (match h.udp with | some (_, _, none) => fixUdp p | _ => p), s)
    | .plain rest => if rest.length < 40 then fail else (.packet rest, s)
    | .unsupported => (.unsupported, s)
    | .fail => fail

/-- REASM_TIMEOUT: datagrams incomplete too long are discarded (12 R361). -/
def execReasmTimeout (s : State) : Out :=
  .next (
    if !s.awake then s else
    let old := fun (r : Reasm) => decide (r.began + s.pnat 0x9020 * 32768 ≤ s.time.aon)
    let n := (s.firn.ctxs.map (fun p => (p.2.reasm.filter old).length)).sum
    let hit := (s.firn.ctxs.filter (fun p => p.2.reasm.any old)).map (fun p => p.1)
    (s.setFirn { s.firn with
      ctxs := s.firn.ctxs.map (fun p => (p.1, { p.2 with reasm := p.2.reasm.filter (fun r => !old r) }))
      slots := s.firn.slots.map (fun p =>
        if hit.contains p.2.ctx && !p.2.evicted then (p.1, { p.2 with dirty := true }) else p) }).bumpBy (.rt .air) 19 n)

/-! ### Commands -/

def lowpanCtxSpec : TlvSpec := { rows := [{ ty := 1, len := .exact 1 }, { ty := 2, len := .exact 1 }, { ty := 3, len := .exact 16 },
  { ty := 4, len := .exact 1 }, { ty := 5, len := .exact 1 }] }

def lowpanCtxBody : Body := fun q s =>
  match Net.ofNat? (q.nat 1) with
  | none => (naming stRange 1, s)
  | some net =>
    if 15 < q.nat 2 then (naming stRange 2, s)
    else if 128 < q.nat 4 then (naming stRange 4, s)
    else if 3 < q.nat 5 then (naming stRange 5, s)
    else
      let c : LowCtx := ⟨beNat (q.bytes 3), q.nat 4, (q.nat 5).testBit 0, (q.nat 5).testBit 1⟩
      (okReply [], { s with rt := { s.rt with lowpan := s.rt.lowpan.setNet net (tset (s.rt.lowpan.net net) (q.nat 2) c) } })

/-- LOWPAN_CTX_SET (12 R359). -/
def execLowpanCtxSet (ch : Nat) (s : State) : Out := .next (s.serve ch 0x9002 lowpanCtxSpec lowpanCtxBody)

end Sys2Proof.Machine
end

