-- ==== Sys2Proof/Machine/Router.lean ====
section
/-! DEFINITION. The pipelines: admission, metering, learning, decision, bridging, routing, queueing and the egress tag; what
enters them from ports, radios, spans and host rings; aging (12 R339-R363, 13 R387-R389, 14 R400-R403). -/

namespace Sys2Proof.Machine

/-- A packet on its way through a pipeline. A packet of N.LB or N.MB is its IPv6 packet, without addresses of Ethernet. -/
structure Pkt where
  pipe : Pipe
  port : Nat
  eth : Eth
  /-- the frame as received, without FCS -/
  raw : Bytes
  /-- the bytes that meters count -/
  len : Nat
  vid : Nat := 0
  pcp : Nat := 0
  dei : Bool := false
  tagged : Bool := false
  colour : Option Nat := none
  ctx : Nat := 0xFFFF
  time : Option Nat := none
  trailer : Option (Radio × Bytes) := none
  desc : Option (Nat × Nat) := none
  deriving DecidableEq, Repr

def Pkt.isNet (k : Pkt) : Bool := isNetPort k.port

/-- An Ethernet frame without FCS as a packet. -/
def Pkt.ofFrame (pipe : Pipe) (port : Nat) (b : Bytes) : Pkt :=
  let e := Eth.read b
  { pipe := pipe, port := port, eth := e, raw := b, len := b.length + 4,
    pcp := match e.tag with | some t => t / 8192 | none => 0
    dei := match e.tag with | some t => t.testBit 12 | none => false
    tagged := match e.tag with | some t => t % 4096 != 0 | none => false }

/-- An IPv6 packet from a client network as a packet. -/
def Pkt.ofIpv6 (port : Nat) (b : Bytes) : Pkt :=
  { pipe := .air, port := port, eth := ⟨0, 0, none, 0x86DD, b⟩, raw := b, len := b.length }

/-- The packet as a queued frame for the host. -/
def Pkt.hostFrame (k : Pkt) (status : Nat) : QFrame :=
  { octets := k.raw, len := k.len, port := k.port, status := status, ctx := k.ctx, time := k.time, trailer := k.trailer, desc := k.desc,
    vlan := k.vid + k.pcp * 4096 + flag k.tagged 15 }

/-! ### Stages 1 to 3 -/

def State.portEntry (s : State) (c : Nat) : PortEntry := tget {} s.rt.ports c

def State.vlan (s : State) (v : Nat) : VlanEntry := tget {} s.rt.vlans v

/-- Port admission: the packet with its VLAN, or the counter that its drop counts under (12 R343 stage 1). -/
def State.admitPkt (s : State) (k : Pkt) : Except Nat Pkt :=
  let e := s.portEntry k.port
  if !e.flags.testBit 0 then .error 6
  else if !k.isNet && !e.flags.testBit (if k.tagged then 3 else 2) then .error 7
  else
    let vid := if k.tagged then k.eth.tag.getD 0 % 4096 else e.pvid
    let v := s.vlan vid
    if !v.flags.testBit 0 || (!k.isNet && !v.members.testBit k.port) then .error 7
    else .ok { k with vid := vid }

/-- A meter's action for a colour, on the packet; none where it drops (12 R367, R368). -/
def Pkt.act (k : Pkt) (a : Nat × Nat) : Option Pkt :=
  if a.1 = 0 then some k
  else if a.1 = 1 then some { k with pcp := a.2 }
  else if a.1 = 2 then some { k with eth := k.eth.setDscp a.2 }
  else none

/-- A packet at a meter: it goes on, or it is dropped (12 R368). -/
def State.atMeter (s : State) (id : Nat) (k : Pkt) : Option Pkt × State :=
  match tfind s.rt.meters id with
  | none => (some k, s)
  | some m =>
    let pre := match k.colour with | some c => c | none => if k.dei then 1 else 0
    let (c, m) := (s.fillMeter m).colour pre k.len
    let s := { s with rt := { s.rt with meters := tset s.rt.meters id m } }
    let a := m.acts.getD c (0, 0)
    match k.act a with
    | none => (none, s.bump (.tm k.port) 6)
    | some k =>
      (some { k with colour := some c }, if a.1 = 1 || (a.1 = 2 && k.eth.isIp) then s.bump (.tm k.port) 7 else s)

/-- Whether a frame teaches its source (12 R346). -/
def State.teaches (s : State) (k : Pkt) : Bool :=
  !k.isNet && (s.portEntry k.port).flags.testBit 1 && (s.vlan k.vid).flags.testBit 1 && !isGroup k.eth.src && k.eth.src != 0

/-! ### Stages 7 and 8 -/

/-- The egress queue of a packet; `own` is the next hop's queue (12 R362). -/
def State.egressQueue (s : State) (k : Pkt) (own : Nat) : Nat :=
  let e := s.portEntry k.port
  if own < 8 then own
  else if k.eth.isIp && e.flags.testBit 4 then byteAt (s.pbytes 0x9011) k.eth.dscp % 8
  else if k.tagged then byteAt (s.pbytes 0x9010) k.pcp % 8
  else e.queue

/-- The frame as it leaves a bridged port, tagged or not (12 R343 stage 8). -/
def State.egressFrame (s : State) (k : Pkt) (port : Nat) : QFrame :=
  let untag := (s.vlan k.vid).untagged.testBit port
  let e := { k.eth with tag := if untag then none else some (k.pcp * 8192 + flag k.dei 12 + k.vid) }
  let b := e.write
  { octets := b, len := if isSpanPort port then b.length else b.length + 4, port := k.port, ctx := k.ctx, time := k.time,
    trailer := k.trailer, desc := k.desc, vlan := k.vid + k.pcp * 4096 + flag (!untag) 15 }

/-- A descriptor that waited for a frame that goes no further (02 R42; log entry 45). -/
def State.lostFrame (s : State) (k : Pkt) (status : Nat) : State := s.txStamp k.desc none status

/-- A packet offered to a bridged port. -/
def State.toPort (s : State) (k : Pkt) (port own : Nat) : State :=
  match s.offerBridged port (s.egressQueue k own) (s.egressFrame k port) with
  | (.taken, s) => s
  | (o, s) => s.lostFrame k o.status

/-- A packet dropped at a stage and counted. -/
def State.dropAt (s : State) (k : Pkt) (row : Nat) : State := (s.bump (.rt k.pipe) row).lostFrame k stState

/-- A punted packet (12 R344). -/
def State.punt (s : State) (k : Pkt) (status : Nat) : State := (s.bump (.rt k.pipe) 10).toHost (k.hostFrame status)

/-! ### Stages 5 and 6 -/

/-- Copies to every member port but the ingress port; a waiting descriptor goes with the first (12 R343 stage 5). -/
def State.flood (s : State) (k : Pkt) : State :=
  let ports := bridgedPorts.filter (fun c => (s.vlan k.vid).members.testBit c && c != k.port && s.ownPort c)
  let s := if ports = [] then s.lostFrame k stState else s
  (ports.zip (List.range ports.length)).foldl (fun (s : State) p =>
    (s.bump (.rt k.pipe) 4).toPort (if p.2 = 0 then k else { k with desc := none }) p.1 0xFF) s

/-- Bridging by destination address in the pipeline's own FDB (12 R343 stage 5). -/
def State.bridge (s : State) (k : Pkt) : State :=
  match fdbFind (s.fdb k.pipe) k.vid k.eth.dst with
  | some (_, e) =>
    if e.flags.testBit 2 then s.dropAt k 8
    else if s.groupPort e.port = k.port then s.dropAt k 5
    else if !(s.vlan k.vid).members.testBit (s.groupPort e.port) then s.dropAt k 7
    else
      match s.atMeter e.meter k with
      | (none, s) => s.lostFrame k stState
      | (some k, s) => (s.bump (.rt k.pipe) 2).toPort k (s.groupPort e.port) 0xFF
  | none => if isGroup k.eth.dst || (s.vlan k.vid).flags.testBit 3 then s.flood k else s.dropAt k 8

/-- The IPv6 packet of a frame, without the padding of Ethernet. -/
def Eth.ipv6 (e : Eth) : Bytes := e.payload.take (40 + beNat ((e.payload.drop 4).take 2))

/-- A routed packet sent on to a next hop other than 0 and 1 (12 R343 stage 6, R345, R360). -/
def State.forward (s : State) (k : Pkt) (h : NextHop) : State :=
  let toNet := isNetPort h.port
  if toNet && (!k.eth.isV6 || (h.ctx != 0xFFFF && (s.ctx? h.ctx).isNone)) then s.dropAt k 9
  else if toNet && decide (s.pnat 0x9021 < k.eth.ipv6.length) then s.punt k 0x9124
  else
    let k := if h.flags.testBit 1 then k else { k with eth := k.eth.decHops }
    match s.atMeter h.meter k with
    | (none, s) => s.lostFrame k stState
    | (some k, s) =>
      let s := s.bump (.rt k.pipe) 3
      if toNet then
        let net : Net := if h.port = 0x10 then .lb else .mb
        let f : QFrame := { octets := k.eth.ipv6, len := 0, port := k.port, desc := k.desc }
        match s.lowpanSend k.pipe net h.ctx (s.egressQueue k h.queue / 2) f with
        | (0, s) => s
        | (st, s) => s.lostFrame k st
      else
        s.toPort { k with eth := { k.eth with dst := h.mac, src := s.pnat 0x9001 }, vid := h.vlan } (s.groupPort h.port) h.queue

/-- Routing by longest prefix (12 R343 stage 6). -/
def State.route (s : State) (k : Pkt) : State :=
  let r := if k.eth.isIp then s.longest (if k.eth.isV4 then 4 else 6) k.eth.ipDst else none
  match r with
  | none => s.punt k 0x9120
  | some r =>
    if k.eth.hops ≤ 1 then s.punt k 0x9121
    else if r.hop = 0 then s.dropAt k 9
    else if r.hop = 1 then s.punt k 0x9122
    else s.forward k (s.hop r.hop)

/-! ### The pipeline -/

/-- A packet through the stages of R343. -/
def State.pipeline (s : State) (k : Pkt) : State :=
  let s := s.bump (.rt k.pipe) 1
  match s.admitPkt k with
  | .error row => s.dropAt k row
  | .ok k =>
    match s.atMeter (s.portEntry k.port).meter k with
    | (none, s) => s.lostFrame k stState
    | (some k, s) =>
      let (on, s) := if s.teaches k then s.learn k.pipe k.vid k.eth.src k.port else (true, s)
      if !on then s.lostFrame k stState
      else if k.isNet || (k.eth.dst == s.pnat 0x9001 && (s.vlan k.vid).flags.testBit 2) then s.route k
      else s.bridge k

/-! ### What enters the pipelines -/

/-- A frame of the in-band EtherType on its port: whatever its tag, the router never forwards it (02 R28). -/
def State.isInband (s : State) (p : Nat) (e : Eth) : Bool := s.pbool 0x0010 && s.pnat 0x0011 == p && e.etype == s.pnat 0x0012

def State.isAttach (s : State) (p : Nat) (e : Eth) : Bool :=
  e.tag.isNone && s.pbool 0x0010 && s.pnat 0x9004 == 1 && s.pnat 0x0011 == p && e.src == s.pnat 0x0014 && e.etype == s.pnat 0x9005

def State.ethPort (s : State) (p : Nat) : EthPort := tget {} s.serial.eth p

def State.setEth (s : State) (p : Nat) (x : EthPort) : State := { s with serial := { s.serial with eth := tset s.serial.eth p x } }

/-- A pause frame received: counted, and honoured where the port is set so (14 R400). -/
def State.pauseFrame (s : State) (p : Nat) (e : Eth) : State :=
  let s := s.bump (.eth p) 6
  let x := s.ethPort p
  if s.pbool (0xC01C + p) && x.speed != 0 then
    s.setEth p { x with paused := s.now + (beNat ((e.payload.drop 2).take 2) * 512000 / x.speed : Nat) }
  else s

/-- A frame that the MAC of a port has accepted (12 R341, 13 R389, 14 R402, R403). -/
def State.wireFrame (s : State) (p : Nat) (b : Bytes) (time : Nat) : State :=
  let e := Eth.read b
  let port := s.groupPort p
  let k := { Pkt.ofFrame .wire port b with time := some time }
  if e.etype = 0x8808 then (if beNat (e.payload.take 2) = 1 then s.pauseFrame p e else s)
  else if s.isInband p e then s
  else if s.portRole p = 2 && e.etype == 0x8809 then (s.bump (.rt .wire) 1).toHost (k.hostFrame 0)
  else if s.pbool 0xB040 && e.isPtp then
    ((s.bump (.rt .wire) 1).bump .time 9).toHost { k.hostFrame 0 with trapped := true, port := p }
  else if s.isAttach p e then s.pipeline (Pkt.ofFrame .wire 5 e.payload)
  else s.pipeline k

/-- A frame arriving on E0 to E3, DA to FCS: the MAC's checks (14 R400). -/
def State.wireIngress (s : State) (p : Nat) (b : Bytes) (ago : Nat) : State :=
  if !s.awake || !(s.ethPort p).up then s
  else if b.length < 64 then s.bump (.eth p) 4
  else if s.pnat (0xC014 + p) < b.length then s.bump (.eth p) 5
  else
    let body := b.take (b.length - 4)
    if u32 (crc32 body) ≠ b.drop (b.length - 4) then s.bump (.eth p) 3
    else
      let s := (s.bump (.eth p) 1).bumpBy (.eth p) 2 b.length
      (s.wireFrame p body (unsigned 64 (s.now - ago - s.pnat (0xB030 + p)))).pauseCheck

/-- A packet of a client network or a span entering the air pipeline (12 R339, R358). -/
def State.airIngress (s : State) (k : InPkt) : State :=
  if isNetPort k.port then
    match s.lowpanIn (if k.port = 0x10 then .lb else .mb) k with
    | (.packet p, s) => s.pipeline { Pkt.ofIpv6 k.port p with ctx := k.ctx, time := k.time, trailer := k.trailer }
    | (.unsupported, s) =>
      s.punt { Pkt.ofIpv6 k.port k.octets with ctx := k.ctx, time := k.time, trailer := k.trailer } 0x9123
    | (.nothing, s) => s
  else s.pipeline { Pkt.ofFrame .air k.port k.octets with time := k.time, trailer := k.trailer }

/-- FRAME_INGRESS: a frame at E0 to E3, or the oldest accepted packet of the radios and spans (12 R343). -/
def execFrameIngress (src : IngressSrc) (s : State) : Out :=
  .next (
    match src with
    | .wire p b ago => if p < 4 then s.wireIngress p b ago else s
    | .air =>
      if !s.awake then s
      else
        match s.rt.inbox with
        | [] => s
        | k :: t => ({ s with rt := { s.rt with inbox := t } }.airIngress k).pauseCheck)

/-! ### Host transmit rings (12 R341, 02 R42) -/

/-- A frame of a host ring for the port that its descriptor names: the status of a refusal, or 0 where it is on its way. -/
def State.hostFrame (s : State) (port cls ctx : Nat) (b : Bytes) (desc : Option (Nat × Nat)) : Nat × State :=
  let s := s.bump (.rt .air) 1
  let k := { Pkt.ofFrame .air 5 b with desc := desc }
  if isNetPort port then
    let e : Eth := ⟨0, 0, none, 0x86DD, b⟩
    if 3 < cls ∨ !e.isV6 ∨ (ctx ≠ 0xFFFF ∧ (s.ctx? ctx).isNone) then (stRange, s)
    else if s.pnat 0x9021 < e.ipv6.length then (0, s.punt k 0x9124)
    else s.lowpanSend .air (if port = 0x10 then .lb else .mb) ctx cls { octets := e.ipv6, len := 0, desc := desc }
  else if !isBridged port ∨ (isSpanPort port ∧ 3 < cls) ∨ 7 < cls then (stRange, s)
  else
    match s.admitPkt k with
    | .error row => (stState, s.bump (.rt .air) row)
    | .ok k =>
      let p := s.groupPort port
      let f := s.egressFrame k p
      match (if isSpanPort p then s.offerSpan (p - 0x20) { f with cls := cls } else s.offerWired p cls { f with cls := cls }) with
      | (o, s) => (o.status, s)

/-- HOST_TX_RING_FRAME: the next filled entry of a host transmit ring consumed; one that asks for a timestamp holds RING_HEAD
until its frame has left (02 R42, 12 R341, 13 R388). A buffer outside the area that descriptors may name gives ERR_RANGE and no frame:
DESIGN CHOICE, log entry 173. -/
def execHostTxRingFrame (ring : Nat) (s : State) : Out :=
  .next (
    let x := s.ring ring
    if 16 ≤ ring ∨ !s.live ∨ !x.enable ∨ x.posted = 0 ∨ x.waiting then s
    else
      let d := s.winRead (x.entryAt x.head) 32
      let buf := leNat (d.take 4)
      let len := leNat ((d.drop 6).take 2)
      let port := byteAt d 8
      let cls := byteAt d 9
      let ctx := leNat ((d.drop 10).take 2)
      let stamp := (leNat ((d.drop 12).take 2)).testBit 1
      let desc := some (ring, x.head)
      let s := s.leaveDoze
      if !s.areaOk buf len then s.txStamp desc none stRange
      else
        let b := s.winRead buf len
        let s := s.setRing ring { x with waiting := true }
        let wait := if stamp then desc else none
        if port = 0xFF then
          let s := s.pipeline { Pkt.ofFrame .air 5 b with desc := wait }
          (if stamp then s else s.advanceHead ring).pauseCheck
        else
          match s.hostFrame port cls ctx b wait with
          | (0, s) => (if stamp then s else s.advanceHead ring).pauseCheck
          | (st, s) => (s.txStamp desc none st).pauseCheck)

/-! ### Aging (12 R348, 14 R409) -/

/-- One FDB swept: the table, and how many entries it loses. -/
def sweepFdb (age limit : Nat) (t : Tab FdbEntry) : Tab FdbEntry × Nat :=
  if limit = 0 then
    (t.map (fun (p : Nat × FdbEntry) =>
      if !p.2.flags.testBit 1 && decide (32767 ≤ sdiff 16 age p.2.stamp) then (p.1, { p.2 with stamp := (age + 65536 - 32767) % 65536 }) else p), 0)
  else
    let keep := fun (p : Nat × FdbEntry) => p.2.flags.testBit 1 || decide (sdiff 16 age p.2.stamp < limit)
    (t.filter keep, (t.filter (fun p => !keep p)).length)

/-- The peer table swept. -/
def sweepPeers (age limit : Nat) (l : List PeerEntry) : List PeerEntry :=
  if limit = 0 then
    l.map (fun e => if 32767 ≤ sdiff 16 age e.stamp then { e with stamp := (age + 65536 - 32767) % 65536 } else e)
  else l.filter (fun e => decide (sdiff 16 age e.stamp < limit))

/-- One tick of the age clock. -/
def State.ageTick (s : State) : State :=
  let age := (s.rt.age + 1) % 65536
  let limit := s.pnat 0x9003
  let w := sweepFdb age limit s.rt.fdb.fst
  let a := sweepFdb age limit s.rt.fdb.snd
  let s := { s with rt := { s.rt with age := age, fdb := ⟨w.1, a.1⟩ } }
  let s := (s.bumpBy (.rt .wire) 16 w.2).bumpBy (.rt .air) 16 a.2
  s.setCasc { s.casc with peers := sweepPeers age limit s.casc.peers }

/-- The ticks that have elapsed in a NAP, at once (12 R348). -/
def State.ageTicks : Nat → State → State
  | 0, s => s
  | n + 1, s => State.ageTicks n s.ageTick

/-- Raw ticks of one age tick. -/
def State.ageStep (s : State) : Nat := s.pnat 0x9002 * 250000000

/-- The age clock brought to the present after a NAP. -/
def State.ageCatchUp (s : State) : State :=
  let n := s.rawSince s.rt.ageAt / s.ageStep
  let s := State.ageTicks n s
  { s with rt := { s.rt with ageAt := (s.rt.ageAt + n * s.ageStep) % 2 ^ 48 } }

/-- AGE_TICK: one tick, once its time has passed (12 R348). -/
def execAgeTick (s : State) : Out :=
  .next (
    if s.awake && decide (s.ageStep ≤ s.rawSince s.rt.ageAt) then
      { s.ageTick with rt := { s.ageTick.rt with ageAt := (s.rt.ageAt + s.ageStep) % 2 ^ 48 } }
    else s)

/-! ### Commands -/

def rtCountersBody : Body := fun q s =>
  match Pipe.ofNat? (q.nat 1) with
  | none => (naming stRange 1, s)
  | some p => if 1 < q.nat 2 then (naming stRange 2, s) else countersReply s (.rt p) 21 (q.nat 2 == 1)

/-- RT_COUNTERS_GET (12 R372). -/
def execRtCountersGet (ch : Nat) (s : State) : Out := .next (s.serve ch 0x9001 radioClearSpec rtCountersBody)

end Sys2Proof.Machine
end

