-- ==== Sys2Proof/Machine/Egress.lean ====
section
/-! DEFINITION. Egress: gates, shapers, sending at a frame boundary, and the commands of the traffic manager (12 R364-R373). -/

namespace Sys2Proof.Machine

def stGateList : Nat := 0xA101
def stShaperTarget : Nat := 0xA102
def stMeterParam : Nat := 0xA103

/-! ### Gates (12 R369-R371) -/

/-- The entries of a cycle as (start, end, mask): cut at its end, the last one lasting until it. -/
def gateSegsFrom (cycle : Nat) : Nat → List (Nat × Nat) → List (Nat × Nat × Nat)
  | _, [] => []
  | at_, [(m, _)] => [(min at_ cycle, cycle, m)]
  | at_, (m, n) :: t => (min at_ cycle, min (at_ + n) cycle, m) :: gateSegsFrom cycle (at_ + n) t

def GateList.segs (l : GateList) : List (Nat × Nat × Nat) := gateSegsFrom l.cycle 0 l.entries

/-- The offset within the cycle of a network time; a base time after it counts the same way. -/
def GateList.phase (l : GateList) (t : Int) : Nat := ((t - l.base) % (l.cycle : Int)).toNat

/-- The number of the entry in force at a network time. -/
def GateList.entryAt (l : GateList) (t : Int) : Nat :=
  let p := l.phase t
  ((l.segs.zip (List.range l.segs.length)).find? (fun x => decide (x.1.1 ≤ p) && decide (p < x.1.2.1))).elim 0 (fun x => x.2)

def GateList.maskAt (l : GateList) (t : Int) : Nat := (l.entries.getD (l.entryAt t) (0xFF, 0)).1

/-- Whether the gate of queue `q` stays open for `d` ns from a network time. -/
def GateList.openFor (l : GateList) (q : Nat) (t : Int) (d : Nat) : Bool :=
  let p := l.phase t
  (List.range ((p + d) / l.cycle + 1)).all (fun k =>
    l.segs.all (fun x =>
      let a := x.1 + k * l.cycle
      let b := x.2.1 + k * l.cycle
      decide (b ≤ p) || decide (p + d ≤ a) || decide (b ≤ a) || x.2.2.testBit q))

/-- The longest continuous opening of a queue's gate in ns; none where it never closes. -/
def GateList.longest (l : GateList) (q : Nat) : Option Nat :=
  let segs := l.segs.filter (fun x => decide (x.1 < x.2.1))
  if segs.all (fun x => x.2.2.testBit q) then none
  else
    some (((segs ++ segs).foldl (fun (acc : Nat × Nat) x =>
      if x.2.2.testBit q then (acc.1 + (x.2.1 - x.1), max acc.2 (acc.1 + (x.2.1 - x.1))) else (0, acc.2)) (0, 0)).2)

/-- The list in force of a port; none while every gate is open (12 R369). -/
def State.gateOf (s : State) (p : Nat) : Option GateList := if p < 4 && s.pbool (0xA010 + p) then tfind s.rt.gates p else none

/-- A list that an accepted set will install, with its instant (12 R370). -/
def State.gateNext (s : State) (p : Nat) : Option (Int × GateList) :=
  (s.sets.filter (fun x => x.2.committed && x.2.cls == .gateCycle && x.2.domain == 0x300 + p)).findSome? (fun x =>
    x.2.writes.findSome? (fun w => match w with
      | .gates q l => if q = p then some ((x.2.boundary : Int), l) else none
      | _ => none))

/-- Whether a frame that takes `d` ns may start now in queue `q`: through cycle boundaries and an accepted switch (12 R370). -/
def State.gateFits (s : State) (p q d : Nat) : Bool :=
  match s.gateOf p with
  | none => true
  | some l =>
    match s.gateNext p with
    | some (t, l') =>
      let left := (t - s.now).toNat
      if s.now + d ≤ t then l.openFor q s.now d
      else l.openFor q s.now left && l'.openFor q (max t s.now) (d - left)
    | none => l.openFor q s.now d

/-! ### Sending times -/

/-- The active members of a group, or the port itself while it is up. -/
def State.activePorts (s : State) (p : Nat) : List Nat :=
  if s.portRole p = 2 then s.lagMembers.filter (fun m => (s.ethPort m).up && (s.ethPort m).active)
  else if (s.ethPort p).up then [p] else []

/-- The line rate of a port in Mb/s. -/
def State.portSpeed (s : State) (p : Nat) : Nat := match s.activePorts p with | m :: _ => (s.ethPort m).speed | [] => 0

/-- The sending time of a frame in ns, with 20 octets of preamble, SFD and gap (12 R370). -/
def sendNs (len speed : Nat) : Nat := ceilDiv ((len + 20) * 8000) speed

/-- The octets a frame has on its port: the wired ports pad it to the minimum of 802.3. -/
def wireLen (p len : Nat) : Nat := if p < 4 then max 64 len else len

/-- A head frame longer than the longest opening of its gate, dropped; the event at most once a minute a port (12 R370). -/
def State.dropTooBig (s : State) (p q : Nat) : State :=
  match s.gateOf p, s.portQueue p q with
  | some l, f :: t =>
    let speed := s.portSpeed p
    match l.longest q with
    | some n =>
      if speed != 0 && decide (n < sendNs (wireLen p f.len) speed) then
        let s := ((s.setQueue p q t).bump (.tm p) 8).txStamp f.desc none stState
        let due := match tfind s.rt.gateBig p with | some a => decide (a + 60 * 32768 ≤ s.time.aon) | none => true
        if due then
          { s with rt := { s.rt with gateBig := tset s.rt.gateBig p s.time.aon } }.raise 0xA001 [u8 p, u8 q, u16 f.len]
        else s
      else s
    | none => s
  | _, _ => s

/-- Every frame that has reached a head and can never fit. -/
def State.dropHeads (s : State) (p : Nat) : State :=
  (List.range 8).foldl (fun (s : State) q => (List.range (s.portQueue p q).length).foldl (fun (s : State) _ => s.dropTooBig p q) s) s

/-- GATE_ENTRY: the next entry is in force; frames too long for every opening of their gate leave the heads (12 R370). -/
def execGateEntry (port : Nat) (s : State) : Out := .next (if s.awake && decide (port < 4) then s.dropHeads port else s)

/-! ### Sending (12 R364) -/

/-- The queue whose head frame a port sends at a frame boundary. -/
def State.pickQueue (s : State) (p : Nat) : Option (Nat × QFrame × List QFrame) :=
  (List.range 8).findSome? (fun q =>
    match s.portQueue p q with
    | [] => none
    | f :: t =>
      if (decide (4 ≤ p) || s.gateFits p q (sendNs (wireLen p f.len) (s.portSpeed p))) && !(p == 4 && s.kStopped q)
          && s.shaperOk p q && s.shaperOk p 0xFF then some (q, f, t) else none)

/-- The frame taken off its queue, charged and counted. -/
def State.takeFrame (s : State) (p q : Nat) (f : QFrame) (t : List QFrame) : State :=
  let n := wireLen p f.len + s.pnat 0xA003
  (((s.setQueue p q t).shaperCharge p q n).shaperCharge p 0xFF n).countSent p (wireLen p f.len)

/-- A frame on the lane of an Ethernet port: from when to when, and its timestamp (13 R387). -/
def State.onLane (s : State) (m : Nat) (b : Bytes) : Nat × State :=
  let speed := max 1 (s.ethPort m).speed
  let s := { s with rt := { s.rt with
    sending := tset s.rt.sending m (s.now + (sendNs (max 64 b.length) speed : Nat))
    sent := tset s.rt.sent m b } }
  (unsigned 64 (s.now + (64000 / speed : Nat) + (s.pnat (0xB034 + m) : Nat)), s)

/-- An Ethernet port at a frame boundary: up, not sending and not paused. -/
def State.laneFree (s : State) (m : Nat) : Bool := decide (tget 0 s.rt.sending m ≤ s.now) && decide ((s.ethPort m).paused ≤ s.now)

/-- E0 to E3: the frame goes to the member that its hash names (14 R402). -/
def State.sendWire (s : State) (p : Nat) : State :=
  match s.activePorts p with
  | [] => s
  | ms =>
    let s := s.dropHeads p
    match s.pickQueue p with
    | none => s
    | some (q, f, t) =>
      let h := Config.lagHash ((Eth.read f.octets).hashOctets (s.pnat 0xC021 == 1))
      let m := ms.getD (h % ms.length) p
      if !s.laneFree m then s
      else
        let (time, s) := (s.takeFrame p q f t).onLane m (withFcs f.octets)
        s.txStamp f.desc (some time) 0

/-- K: the frame goes to the peer that its destination names (14 R408). -/
def State.sendCascade (s : State) : State :=
  match s.pickQueue 4 with
  | none => s
  | some (q, f, t) => (((s.takeFrame 4 q f t).cascFresh).cascData q (f.vlan % 4096) f.octets).txStamp f.desc none 0

/-- H: delivery into the queue's receive ring, or sending on the in-band port (12 R342). -/
def State.sendHost (s : State) : State :=
  match s.pickQueue 5 with
  | none => s
  | some (q, f, t) =>
    if s.pnat 0x9004 = 0 ∨ f.trapped then
      let r := byteAt (s.pbytes 0x9006) (if f.trapped then 0 else q)
      let e : RxEntry := { octets := f.octets, port := f.port, cls := f.cls, ctx := f.ctx, status := f.status, time := f.time,
                           vlan := f.vlan, trailer := f.trailer }
      let n := f.len + s.pnat 0xA003
      let s := ((s.setQueue 5 q t).shaperCharge 5 q n).shaperCharge 5 0xFF n
      let s := if (s.ring r).enable && (s.ring r).posted != 0 then s.countSent 5 f.len else s
      (s.ringDeliver r e).txStamp f.desc none 0
    else
      let m := s.pnat 0x0011
      if !(s.ethPort m).up || !s.laneFree m then s
      else
        let e : Eth := ⟨s.pnat 0x0014, Config.macBase % 2 ^ 48, none, s.pnat 0x9005, f.octets⟩
        (((s.takeFrame 5 q f t).onLane m (withFcs e.write)).2).txStamp f.desc none 0

/-- EGRESS_SEND: a port at a frame boundary (12 R364). -/
def execEgressSend (port : Nat) (s : State) : Out :=
  .next (
    if !s.awake then s
    else
      let s := if port < 4 then s.sendWire port else if port = 4 then s.sendCascade else if port = 5 then s.sendHost else s
      s.pauseCheck)

/-! ### Shaper, meter and gate list commands (12 R365-R371) -/

/-- Whether a shaper may name a target: a queue or the whole of a wired port or H, or a span (12 R365). -/
def shaperTargetOk (port queue : Nat) : Bool :=
  decide (port < 6) && (decide (queue < 8) || queue == 0xFF) || isSpanPort port && queue == 0xFF

/-- A shaper set at the present; rate 0 detaches it (12 R366). -/
def State.setShaper (s : State) (id port queue rate burst : Nat) (full : Bool) : State :=
  { s with rt := { s.rt with
      shapers := if rate = 0 then tdel s.rt.shapers id
        else tset s.rt.shapers id ⟨port, queue, rate, burst, if full then (burst * byteUnit : Nat) else 0, s.time.raw⟩ } }

/-- Whether another shaper serves a target. -/
def State.shaperTaken (s : State) (id port queue : Nat) : Bool :=
  match s.shaperOf port queue with
  | some (i, _) => i != id
  | none => false

def shaperSpec : TlvSpec := { rows := [{ ty := 1, len := .exact 1 }, { ty := 2, len := .exact 1 }, { ty := 3, len := .exact 1 },
  { ty := 4, len := .exact 4 }, { ty := 5, len := .exact 4 }, { ty := 6, len := .exact 1 }, { ty := 7, len := .exact 1, must := false }] }

/-- The status of a staged write as a reply. -/
def stagedReply (s : State) (r : Except Nat State) : Reply × State :=
  match r with
  | .ok s => (okReply [], s)
  | .error st => (plain st, s)

def shaperBody : Body := fun q s =>
  let rate := q.nat 4
  if !shaperTargetOk (q.nat 2) (q.nat 3) then (plain stShaperTarget, s)
  else if rate ≠ 0 ∧ (rate < 8 ∨ 10000000 < rate) then (naming stRange 4, s)
  else if q.nat 5 < 1600 ∨ 16777215 < q.nat 5 then (naming stRange 5, s)
  else if 1 < q.nat 6 then (naming stRange 6, s)
  else if rate ≠ 0 ∧ s.shaperTaken (q.nat 1) (q.nat 2) (q.nat 3) then (plain stShaperTarget, s)
  else if q.has 7 then
    stagedReply s (s.stageAny (q.nat 7) (.shaper (q.nat 1) (q.nat 2) (q.nat 3) rate (q.nat 5) (q.nat 6 == 1)))
  else (okReply [], s.setShaper (q.nat 1) (q.nat 2) (q.nat 3) rate (q.nat 5) (q.nat 6 == 1))

/-- TM_SHAPER_SET (12 R366). -/
def execTmShaperSet (ch : Nat) (s : State) : Out := .next (s.serve ch 0xA001 shaperSpec shaperBody)

def meterSpec : TlvSpec := { rows := [{ ty := 1, len := .exact 2 }, { ty := 2, len := .exact 1 }, { ty := 3, len := .exact 1 },
  { ty := 4, len := .exact 8 }, { ty := 5, len := .exact 8 }, { ty := 6, len := .exact 6 }, { ty := 7, len := .exact 1, must := false }] }

/-- A meter set at the present, with both buckets full (12 R367). -/
def State.setMeter (s : State) (id : Nat) (m : Meter) : State :=
  { s with rt := { s.rt with
      meters := tset s.rt.meters id { m with tc := m.cbs * byteUnit, tp := m.pbs * byteUnit, at_ := s.time.raw } } }

/-- An action of a meter and its value: PCP 0 to 7, DSCP 0 to 63. -/
def meterActOk (a : Nat × Nat) : Bool :=
  a.1 == 0 || a.1 == 1 && decide (a.2 < 8) || a.1 == 2 && decide (a.2 < 64) || a.1 == 3

def rateOk (r : Nat) : Bool := decide (8 ≤ r) && decide (r ≤ 10000000)

def sizeOk (n : Nat) : Bool := decide (64 ≤ n) && decide (n ≤ 16777215)

def meterBody : Body := fun q s =>
  let kind := q.nat 2
  let cir := leNat ((q.bytes 4).take 4)
  let pir := leNat ((q.bytes 4).drop 4)
  let cbs := leNat ((q.bytes 5).take 4)
  let pbs := leNat ((q.bytes 5).drop 4)
  let acts := [0, 1, 2].map (fun i => (byteAt (q.bytes 6) (2 * i), byteAt (q.bytes 6) (2 * i + 1)))
  if 1023 < q.nat 1 then (naming stRange 1, s)
  else if 1 < kind then (naming stRange 2, s)
  else if 1 < q.nat 3 then (naming stRange 3, s)
  else if !rateOk cir || (kind == 1 && !rateOk pir) || !sizeOk cbs || !sizeOk pbs then (plain stMeterParam, s)
  else if !acts.all meterActOk then (naming stRange 6, s)
  else
    let m : Meter := ⟨kind, q.nat 3 == 1, cir, pir, cbs, pbs, acts, 0, 0, 0⟩
    if q.has 7 then stagedReply s (s.stageAny (q.nat 7) (.meter (q.nat 1) m))
    else (okReply [], s.setMeter (q.nat 1) m)

/-- TM_METER_SET (12 R367). -/
def execTmMeterSet (ch : Nat) (s : State) : Out := .next (s.serve ch 0xA002 meterSpec meterBody)

/-- A port's list installed; nothing changes for its queues until their frames are next looked at (12 R371). -/
def State.setGates (s : State) (p : Nat) (l : GateList) : State := { s with rt := { s.rt with gates := tset s.rt.gates p l } }

/-- The list of an area of the host windows, if it is one that R369 allows. -/
def readGates (b : Bytes) (n cycle base : Nat) : Option GateList :=
  let es := (List.range n).map (fun i => (b.drop (8 * i)).take 8)
  let ok := es.all (fun e => (e.drop 1).take 3 == [0#8, 0#8, 0#8] && decide (100 ≤ leNat (e.drop 4)) && decide (leNat (e.drop 4) ≤ 1000000000))
  if ok && decide (1 ≤ n) && decide (n ≤ 256) && decide (1000 ≤ cycle) && decide (cycle ≤ 1000000000) then
    some ⟨es.map (fun e => (byteAt e 0, leNat (e.drop 4))), cycle, base⟩
  else none

def gateSpec : TlvSpec := { rows := [{ ty := 1, len := .exact 1 }, { ty := 2, len := .exact 4 }, { ty := 3, len := .exact 2 },
  { ty := 4, len := .exact 4 }, { ty := 5, len := .exact 8 }, { ty := 6, len := .exact 1, must := false }] }

def gateBody : Body := fun q s =>
  let p := q.nat 1
  if 3 < p then (naming stRange 1, s)
  else if 256 < q.nat 3 then (plain stGateList, s)
  else if !s.areaOk (q.nat 2) (8 * q.nat 3) then (naming stRange 2, s)
  else
    match readGates (s.winRead (q.nat 2) (8 * q.nat 3)) (q.nat 3) (q.nat 4) (q.nat 5) with
    | none => (plain stGateList, s)
    | some l =>
      if q.has 6 then
        match s.stage (q.nat 6) [.gateCycle] (0x300 + p) (.gates p l) with
        | .ok s => (okReply [tlvN 7 8 0], s)
        | .error st => (plain st, s)
      else if s.pbool (0xA010 + p) then (plain stWrongClass, s)
      else (okReply [tlvN 7 8 s.now64], s.setGates p l)

/-- GATE_LIST_SET (12 R369, R371). -/
def execGateListSet (ch : Nat) (s : State) : Out := .next (s.serve ch 0xA003 gateSpec gateBody)

/-! ### Status and counters -/

/-- Octets queued per queue of a port: of spans and networks, per access class (12 TM_STATUS_GET; log entry 46). -/
def State.queueOctets (s : State) (port q : Nat) : Nat :=
  if isSpanPort port then queuedOctets ((s.span (port - 0x20)).queue.filter (fun f => f.cls == q))
  else if isNetPort port then
    ((s.firn.ctxs.filter (fun p => p.2.net + 0x10 == port)).map (fun p => queuedOctets (p.2.queue q))).sum
  else queuedOctets (s.portQueue port q)

def tmStatusSpec : TlvSpec := { rows := [{ ty := 1, len := .exact 1 }] }

def tmStatusBody : Body := fun q s =>
  let p := q.nat 1
  if !isPort p then (naming stRange 1, s)
  else
    let (mask, entry) := match s.gateOf p with | some l => (l.maskAt s.now, l.entryAt s.now) | none => (0xFF, 0)
    (okReply [⟨2, (List.range 8).flatMap (fun i => u32 (s.queueOctets p i))⟩, tlvN 3 1 mask, tlvN 4 2 entry,
              tlvN 5 4 (if p < 6 then s.sramFree else s.dramFree)], s)

/-- TM_STATUS_GET (12 R373). -/
def execTmStatusGet (ch : Nat) (s : State) : Out := .next (s.serve ch 0xA004 tmStatusSpec tmStatusBody)

def tmCountersBody : Body := fun q s =>
  let p := q.nat 1
  if !isPort p then (naming stRange 1, s)
  else if 1 < q.nat 2 then (naming stRange 2, s)
  else
    let vs := s.bankValues (.tm p) 8 ++ (if p = 5 then (List.range 16).map (fun i => s.ctr (.tm 5) (116 + i)) else [])
    (okReply (ctrTlvs vs), if q.nat 2 = 1 then s.clearBank (.tm p) else s)

/-- TM_COUNTERS_GET (12 R373). -/
def execTmCountersGet (ch : Nat) (s : State) : Out := .next (s.serve ch 0xA005 radioClearSpec tmCountersBody)

end Sys2Proof.Machine
end

