-- ==== Sys2Proof/Machine/Cascade.lean ====
section
/-! DEFINITION. The cascade: the state of its links, received packets, time over the cascade and the cap token (14 R404-R417). -/

namespace Sys2Proof.Machine

/-! ### The time source over the cascade (14 R411) -/

/-- Source 5 is in effect and its holder is a peer. -/
def State.holderIs (s : State) (p : Nat) : Bool := s.source == 5 && s.casc.holderId == some p

/-- The source is lost with its holder (13 R379, 14 R411). -/
def State.loseHolder (s : State) (p : Nat) : State := if s.holderIs p && s.time.state == .locked then s.loseSource else s

/-! ### Links (14 R405, R406, 17 R473) -/

/-- The active sets of a link changed: its going up or down is reported, as is the loss of a lane of the receive direction (17 R462), and
with a link that goes down go the peer table entries that name it and a time source behind it. -/
def State.putLink (s : State) (p tx rx : Nat) : State :=
  let was := s.linkUp p
  let lost := decide (rx < (s.link p).rx)
  let s := s.setLink p { s.link p with tx := tx, rx := rx }
  if s.linkUp p = was then (if lost then s.raiseLink p else s)
  else
    let s := s.raiseLink p
    if was then (s.setCasc { s.casc with peers := s.casc.peers.filter (fun e => e.peer != p) }).loseHolder p else s

/-- The peer that cascade lane SD(4 + i) is wired to. -/
def State.lanePeer (s : State) (i : Nat) : Option Nat :=
  match s.cascDecl with
  | some d => match d.lanes[i]? with | some p => if p < 4 then some p else none | none => none
  | none => none

/-- A receive lane of a link lost: it leaves the active set, and a LINK message names what is left (14 R406). -/
def State.cascLaneLost (s : State) (i lost : Nat) : State :=
  match s.lanePeer i with
  | none => s
  | some p =>
    if !(s.link p).rx.testBit i then s
    else
      let s := s.cascFresh.putLink p (s.link p).tx ((s.link p).rx - 2 ^ i)
      (s.bumpBy .casc 4 lost).sendLink p

/-- CASC_MARKER_RX: with the second consecutive marker a lane joins the active set of the receive direction (14 R405, R406). -/
def execCascMarkerRx (lane far : Nat) (s : State) : Out :=
  .next (
    let l := s.serLane lane
    let i := lane - 4
    match (if 4 ≤ lane then s.lanePeer i else none) with
    | none => s
    | some p =>
      if l.st ≠ .up || !s.awake then s
      else
        let s := s.setSerLane lane { l with markers := min 2 (l.markers + 1), far := far % 4 }
        if l.markers = 0 ∨ (s.link p).rx.testBit i then s
        else (s.cascFresh.putLink p (s.link p).tx ((s.link p).rx + 2 ^ i)).sendLink p)

/-- A packet that arrived on a link: its header, where the link receives, the CRC holds and it is for this device; the highest
epoch known follows it (14 R407). -/
def State.cascTake (s : State) (peer ty : Nat) (b : Bytes) : Option (CascHdr × Bytes) × State :=
  if (s.link peer).rx = 0 || !s.awake then (none, s)
  else
    match readCasc b with
    | none => (none, s.bump .casc 3)
    | some (h, p) =>
      if h.ty ≠ ty ∨ h.src ≠ peer ∨ h.dst ≠ s.cascId then (none, s)
      else (some (h, p), s.setCasc { s.casc with epoch := max s.casc.epoch h.epoch })

/-- CASC_LINK_RX: the lanes on which this device sends to the peer, from the next marker boundary (14 R406); `lost` packets straddle
the change. -/
def execCascLinkRx (peer : Nat) (packet : Bytes) (lost : Nat) (s : State) : Out :=
  .next (
    match s.cascTake peer 6 packet with
    | (none, s) => s
    | (some (_, p), s) =>
      let wired := (List.range 4).foldl (fun m i => if s.lanePeer i = some peer then m + 2 ^ i else m) 0
      let tx := byteAt p 0 &&& wired
      if tx = (s.link peer).tx then s else (s.putLink peer tx (s.link peer).rx).bumpBy .casc 4 lost)

/-- CASC_DATA_RX: a frame arriving on K, whose source the peer table learns (14 R408, R409). -/
def execCascDataRx (peer : Nat) (packet : Bytes) (s : State) : Out :=
  .next (
    match s.cascTake peer 1 packet with
    | (none, s) => s
    | (some (_, b), s) =>
      let k := Pkt.ofFrame .wire 4 (b.take (b.length - 4))
      let s := s.bump .casc 2
      let s := match s.admitPkt k with
        | .ok k => s.peerLearn k.vid k.eth.src peer
        | .error _ => s
      (s.pipeline k).pauseCheck)

/-- CASC_PAUSE_RX: queues 4 to 7 stopped for at most 100 µs, or released (14 R410). -/
def execCascPauseRx (peer : Nat) (packet : Bytes) (s : State) : Out :=
  .next (
    match s.cascTake peer 5 packet with
    | (none, s) => s
    | (some (_, p), s) =>
      let l := s.link peer
      s.setLink peer { l with stopped := [4, 5, 6, 7].foldl (fun (t : Tab Int) q =>
        if (byteAt p 0).testBit q then tset t q (s.now + 100000) else tdel t q) l.stopped })

/-- CASC_PAUSE_TIMEOUT: a stopped queue resumes after 100 µs (14 R410). -/
def execCascPauseTimeout (peer queue : Nat) (s : State) : Out :=
  .next (
    let l := s.link peer
    match tfind l.stopped queue with
    | some t => if s.awake && decide (t ≤ s.now) then s.setLink peer { l with stopped := tdel l.stopped queue } else s
    | none => s)

/-! ### Time over the cascade (14 R411) -/

/-- CASC_TIME_SYNC_SEND, at its interval: a device with source 5 asks the holder for the time; after three intervals without an applied measurement
the source is lost. -/
def execCascTimeSyncSend (s : State) : Out :=
  .next (
    if s.source ≠ 5 ∨ !s.awake ∨ !s.dueUs s.casc.asked (1000 * s.pnat 0xC034) then s
    else
      let s := s.setCasc { s.casc with asked := some s.time.raw }
      let s := if s.sourceLost && s.time.state == .locked then s.loseSource else s
      match s.casc.holderId with
      | none => s
      | some h => if s.linkUp h then s.cascFresh.cascSend h 3 0 0 (u64 s.now64) else s)

/-- CASC_TIME_SYNC_RX: the holder answers with its receive and transmit timestamps, but not in DISPUTE (14 R411, R417). -/
def execCascTimeSyncRx (peer : Nat) (packet : Bytes) (ago : Nat) (s : State) : Out :=
  .next (
    match s.cascTake peer 3 packet with
    | (none, s) => s
    | (some (_, p), s) =>
      if !s.casc.holder || s.casc.dispute.isSome || !s.linkUp peer then s
      else s.cascFresh.cascSend peer 4 0 0 (padTo 8 p ++ u64 (unsigned 64 (s.now - ago)) ++ u64 s.now64))

/-- CASC_TIME_REPLY_RX: the phase error, applied where the round trip is short enough (14 R411). -/
def execCascTimeReplyRx (peer : Nat) (packet : Bytes) (ago : Nat) (s : State) : Out :=
  .next (
    match s.cascTake peer 4 packet with
    | (none, s) => s
    | (some (_, p), s) =>
      if !s.holderIs peer || !s.linkUp peer then s
      else
        let t1 := signed 64 (leNat (p.take 8))
        let t2 := signed 64 (leNat ((p.drop 8).take 8))
        let t3 := signed 64 (leNat ((p.drop 16).take 8))
        let t4 := s.now - ago
        if (t4 - t1) - (t3 - t2) ≤ (s.pnat 0xC035 : Int) then
          let (e, s) := s.roundOpenInt ((t2 - t1) + (t3 - t4)) 2
          let s := s.setCasc { s.casc with applied := some s.now }
          s.servo e (2 ^ (s.casc.holderTq / 4) + 8 + s.pnat 0xC036)
        else s)

/-! ### The cap token (14 R412-R417) -/

/-- The role of this device: 0 none, 1 member, 2 holder, 3 holder in DISPUTE. -/
def State.cascRole (s : State) : Nat :=
  if s.cascDecl.isNone then 0 else if !s.casc.holder then 1 else if s.casc.dispute.isSome then 3 else 2

/-- EV_CASC_MASTER. -/
def State.raiseMaster (s : State) : State := s.raise 0xC006 [u8 (s.casc.holderId.getD 0xFF), u32 s.casc.epoch, u8 s.cascRole]

/-- The token yielded: CASC_HOLD released, no more announcing as holder (14 R414); `to` is the holder it yields to, where one is
known. -/
def State.yieldToken (s : State) (target : Option Nat) : State :=
  let old := s.source
  let s := s.setCasc { s.casc with holder := false, driving := false, dispute := none, holderId := target }
  ((s.bump .casc 11).raiseMaster).changeSource old

/-- ANNOUNCE sent on every up link (14 R413). -/
def State.announce (s : State) : State :=
  (s.cascPeers.filter (fun p => s.linkUp p)).foldl (fun (s : State) p =>
    s.cascSend p 2 0 (if s.casc.holder then 1 else 0) (padTo 4 (u8 (if s.sys.straps.masterPref then 1 else 0) ++ u8 s.tq)))
    (s.cascFresh.setCasc { s.cascFresh.casc with announced := some s.time.raw })

/-- CASC_ANNOUNCE_SEND, at its interval (14 R413). -/
def execCascAnnounceSend (s : State) : Out :=
  .next (if s.cascDecl.isSome && s.awake && s.dueUs s.casc.announced (s.pnat 0xC031) then s.announce else s)

/-- CASC_HOLD_SAMPLE: the holder's sample of the line, once per interval, 0.8 µs after its release; low means another holder
(14 R413, R414). -/
def execCascHoldSample (high : Bool) (s : State) : Out :=
  .next (
    if !s.casc.holder || !s.awake || !s.dueUs s.casc.sampled (s.pnat 0xC031) then s
    else
      let s := s.setCasc { s.casc with sampled := some s.time.raw }
      if high then s else s.yieldToken none)

/-- The network time at which the slotframe in force ends: the multi-superframe in DSME (14 R417). -/
def State.frameEnd (s : State) (n : Net) : Int :=
  let v := s.net n
  match s.frameLen n 0 v.asn with
  | some l => v.slotStart + ((l - v.asn % max 1 l) * s.slotNs n : Nat)
  | none => s.now

/-- DISPUTE entered (14 R416, R417). -/
def State.enterDispute (s : State) : State :=
  (s.setCasc { s.casc with dispute := some ⟨s.now, s.now, [(0, s.frameEnd .lb), (1, s.frameEnd .mb)]⟩ }).bump .casc 12

/-- A holder that hears another: the claims compared (14 R416). -/
def State.contest (s : State) (h : CascHdr) : State :=
  let fresh := s.casc.dispute.isNone
  let s := if fresh then s.enterDispute else s
  let lose := decide (s.casc.claim < h.epoch) || (s.casc.claim == h.epoch && decide (h.src < s.cascId))
  let s := if fresh then s.raise 0xC007 [u8 h.src, u32 h.epoch, boolByte lose] else s
  if lose then s.yieldToken (some h.src)
  else
    match s.casc.dispute with
    | some d => s.setCasc { s.casc with dispute := some { d with heard := s.now } }
    | none => s

/-- A member hears a second holder beside `q`, whom it follows. Both are then in DISPUTE, and a source behind `q` is lost (R411). The
member follows the claim that wins by R416: the higher epoch, or the lower ID of two with one epoch; `known` is the highest epoch before
this message (DESIGN CHOICE, log entry 199). -/
def State.secondHolder (s : State) (q : Nat) (h : CascHdr) (tq known : Nat) : State :=
  let s := (s.loseHolder q).setCasc { (s.loseHolder q).casc with heardHolder := some s.now }
  if s.linkUp q && (decide (h.epoch < known) || h.epoch == known && decide (q < h.src)) then s
  else s.setCasc { s.casc with holderId := some h.src, holderTq := tq }

/-- CASC_ANNOUNCE_RX (14 R413, R416). -/
def execCascAnnounceRx (peer : Nat) (packet : Bytes) (s : State) : Out :=
  .next (
    let known := s.casc.epoch
    match s.cascTake peer 2 packet with
    | (none, s) => s
    | (some (h, p), s) =>
      if h.flags.testBit 0 then
        let t := s.setCasc { s.casc with heardHolder := some s.now, holderTq := byteAt p 1 }
        if s.casc.holder then t.contest h
        else
          match s.casc.holderId with
          | some q => if q = peer then t else s.secondHolder q h (byteAt p 1) known
          | none => t.setCasc { t.casc with holderId := some peer }
      else if s.casc.holderId = some peer then (s.loseHolder peer).setCasc { (s.loseHolder peer).casc with holderId := none }
      else s)

/-- DISPUTE_CLEAR: the quiet intervals have passed (14 R416). -/
def execDisputeClear (s : State) : Out :=
  .next (
    match s.casc.dispute with
    | some d =>
      if s.awake && decide (d.heard + (s.pnat 0xC033 * s.pnat 0xC031 * 1000 : Nat) ≤ s.now) then s.setCasc { s.casc with dispute := none } else s
    | none => s)

/-- No ANNOUNCE of a holder has arrived for the timeout (14 R415). -/
def State.holderSilent (s : State) : Bool :=
  match s.casc.heardHolder with
  | some t => decide (t + (s.pnat 0xC032 * s.pnat 0xC031 * 1000 : Nat) ≤ s.now)
  | none => true

/-- CASC_TAKE_WAIT_MET: the line has been high for the wait; the new epoch is stored (14 R415). -/
def execCascTakeWaitMet (s : State) : Out :=
  .next (
    if s.cascDecl.isNone || !s.awake || !s.pbool 0xC030 || s.casc.holder || s.casc.taking.isSome || !s.holderSilent then s
    else (s.setCasc { s.casc with taking := some ((max s.storedEpoch s.casc.epoch + 1) % 2 ^ 32, false) }).recordDue 0x0600 false)

/-- CASC_TAKE_DRIVE: with the epoch stored and the line still high the token is taken; otherwise the attempt restarts (14 R412, R415). -/
def execCascTakeDrive (high : Bool) (s : State) : Out :=
  .next (
    match (if s.awake then s.casc.taking else none) with
    | some (e, true) =>
      let s := s.setCasc { s.casc with taking := none }
      if !high then s
      else
        let old := s.source
        let s := s.setCasc { s.casc with holder := true, driving := true, epoch := e, claim := e, holderId := some s.cascId }
        (((s.bump .casc 10).raiseMaster).changeSource old).announce
    | _ => s)

/-! ### Commands -/

def stNotHolder : Nat := 0xC103

/-- CASC_RELEASE (14 R414). -/
def execCascRelease (ch : Nat) (s : State) : Out :=
  .next (s.serve ch 0xC00B noTlvs (fun _ s => if s.casc.holder then (okReply [], s.yieldToken none) else (plain stNotHolder, s)))

def cascStatusBody : Body := fun _ s =>
  (okReply [tlvN 1 1 s.cascId, tlvN 2 1 s.cascRole, tlvN 3 4 s.casc.epoch, tlvN 4 1 (s.casc.holderId.getD 0xFF),
    ⟨5, (List.range 4).flatMap (fun p => u8 ((s.link p).tx + 16 * (s.link p).rx))⟩], s)

/-- CASC_STATUS_GET (14 R412). -/
def execCascStatusGet (ch : Nat) (s : State) : Out := .next (s.serve ch 0xC009 noTlvs cascStatusBody)

/-- CASC_COUNTERS_GET (14 R419). -/
def execCascCountersGet (ch : Nat) (s : State) : Out := .next (s.serve ch 0xC00A clearSpec (countersBody .casc 12))

end Sys2Proof.Machine
end

