-- ==== Sys2Proof/Machine/SpanPlan.lean ====
section
/-! DEFINITION. The plan of a span event: eligibility, the striping policies, the frames built for it, held data and resync
bursts (07 R209-R216, R220). -/

namespace Sys2Proof.Machine

/-- A data frame to place: new, or a retransmission. -/
structure SpanJob where
  frame : QFrame
  old : Option SentFrame := none
  deriving DecidableEq, Repr

/-- A placed frame: a data frame on its bands, each with its start in thirds of a ns from the start of the half; or, without
one, the keep-alive that brings T's time block ahead of a stored retransmission (07 R207, R209). -/
structure Placed where
  job : Option SpanJob
  spots : List (Nat × Nat)
  deriving DecidableEq, Repr

/-- What the plan has assigned so far: by band the end of the last frame and the air time, in thirds of a ns, and the credit. -/
structure PlanAcc where
  ends : Tab Nat := []
  spent : Tab Nat := []
  credits : Tab Int := []
  placed : List Placed := []
  /-- PSDU octets assigned, against the span's shaper (12 R364, R365) -/
  octets : Nat := 0
  deriving DecidableEq, Repr

/-- The blocks of T's first frame of a half on a band: time, and the echo where it is due on that band. -/
def leadBlocks (v : SpanState) (echoBand : Option Nat) (band : Nat) : Nat :=
  if v.isT then (if v.echo.isSome && echoBand == some band then 24 else 16) else 0

/-- The stored bytes with which a job goes out unchanged on a band. -/
def SpanJob.stored (j : SpanJob) (v : SpanState) (band : Nat) : Option Bytes :=
  match j.old with
  | some o => if o.sel = v.sel then tfind o.octets band else none
  | none => none

/-- Where a job would stand on a band: whether a keep-alive leads it, its own start and its air time, in thirds of a ns; none where it does
not fit or is too long (07 R206, R212). A new frame that fits T's half only without the time block stands behind a keep-alive. -/
def State.spotOn (s : State) (n : Nat) (v : SpanState) (echoBand : Option Nat) (acc : PlanAcc) (band : Nat) (m : Member) (j : SpanJob) :
    Option (Bool × Nat × Nat) :=
  let ifs := 3 * s.spanIfs n
  let first := !thas acc.ends band
  let blk := if first then leadBlocks v echoBand band else 0
  let place (lead : Bool) (psdu : Nat) : Option (Bool × Nat × Nat) :=
    let start := match tfind acc.ends band with
      | some e => e + ifs
      | none => if lead then m.air (spanPsdu blk 0 v.mic) + ifs else 0
    if start + m.air psdu ≤ m.half then some (lead, start, m.air psdu) else none
  match j.stored v band with
  | some b => place (first && v.isT) (b.length + 4)
  | none =>
    let len := j.frame.octets.length
    (if m.maxPayload blk v.mic < len then none else place false (spanPsdu blk len v.mic)).or
      (if first && v.isT && decide (len ≤ m.maxPayload 0 v.mic) then place true (spanPsdu 0 len v.mic) else none)

/-- The ordinary budget left for a channel beyond what is assigned in this event, both in thirds of a ns: none where ablation refuses
every data frame there; `some none` where no limit holds (07 R212, R213, 08 R237). -/
def State.spanBudget (s : State) (khz spent : Nat) : Option (Option Nat) :=
  if s.ablShut.isSome then none
  else
    match s.subOf khz with
    | none => none
    | some l =>
      if l.dwellOn && s.dwellClosed l.ix then none
      else
        some (match s.ordinary100 l, s.dwellLeft100 l khz with
          | some a, some b => some (30 * min a b - spent)
          | some a, none => some (30 * a - spent)
          | none, some b => some (30 * b - spent)
          | none, none => none)

def budgetCovers (b : Option (Option Nat)) (air : Nat) : Bool :=
  match b with
  | none => false
  | some none => true
  | some (some left) => decide (3000 * airUs air ≤ left)

/-- An eligible member for a job. -/
structure Eligible where
  band : Nat
  lead : Bool
  start : Nat
  air : Nat
  left : Option Nat
  rate : Nat
  deriving DecidableEq, Repr

/-- The eligible members for a job, HB first (07 R212). -/
def State.eligible (s : State) (n : Nat) (v : SpanState) (e : Nat) (echoBand : Option Nat) (acc : PlanAcc) (j : SpanJob) : List Eligible :=
  [2, 1, 0].filterMap (fun band =>
    match tfind v.members band with
    | none => none
    | some m =>
      if !m.up || (m.skipIn e).isSome then none
      else
        match s.spotOn n v echoBand acc band m.rec_ j with
        | none => none
        | some (lead, start, air) =>
          let b := s.spanBudget (m.rec_.khzAt band e) (tget 0 acc.spent band)
          if budgetCovers b air then
            some { band := band, lead := lead, start := start, air := air, left := b.getD none, rate := memberRate m.rec_.mode m.rec_.nss m.rec_.gi }
          else none)

/-- The better of two members under BUDGET-AWARE (07 R213); an equal one stands behind. -/
def Eligible.beats (a b : Eligible) : Bool :=
  match a.left, b.left with
  | none, none => decide (b.rate < a.rate)
  | none, some _ => true
  | some _, none => false
  | some x, some y => decide (y * a.air < x * b.air) || (decide (y * a.air = x * b.air) && decide (b.rate < a.rate))

/-- The members that the policy chooses, and the credits after the choice (07 R213). -/
def choose (policy : Nat) (l : List Eligible) (credits : Tab Int) : List Eligible × Tab Int :=
  if policy = 0 then (l, credits)
  else if policy = 1 then
    let raised := l.foldl (fun (t : Tab Int) x => tset t x.band (tget 0 t x.band + (x.rate : Int))) credits
    match bestBy (fun a b => decide (tget 0 raised b.band < tget 0 raised a.band)) l with
    | none => ([], credits)
    | some x => ([x], tset raised x.band (tget 0 raised x.band - ((l.map (fun y => y.rate)).sum : Nat)))
  else
    match bestBy Eligible.beats l with
    | none => ([], credits)
    | some x => ([x], credits)

/-- Whether the span's shaper is still eligible beyond what is assigned (12 R364, R365). -/
def State.spanShaped (s : State) (n : Nat) (acc : PlanAcc) : Bool :=
  match s.shaperOf (0x20 + n) 0xFF with
  | some (_, x) => decide ((acc.octets * byteUnit : Nat) < (s.fillShaper x).level)
  | none => true

/-- One job assigned, or none where no member is eligible, or the span's shaper is not. -/
def State.assignJob (s : State) (n : Nat) (v : SpanState) (e : Nat) (echoBand : Option Nat) (acc : PlanAcc) (j : SpanJob) : Option PlanAcc :=
  match (if s.spanShaped n acc then s.eligible n v e echoBand acc j else []) with
  | [] => none
  | l =>
    let (chosen, credits) := choose (s.spanParam n 0x4102) l acc.credits
    let leads := chosen.filter (fun x => x.lead)
    some {
      ends := chosen.foldl (fun t x => tset t x.band (x.start + x.air)) acc.ends
      spent := chosen.foldl (fun t x => tset t x.band (tget 0 t x.band + x.air)) acc.spent
      credits := credits
      octets := acc.octets + spanPsdu 0 j.frame.octets.length v.mic
      placed := acc.placed ++ leads.map (fun x => { job := none, spots := [(x.band, 0)] })
        ++ [{ job := some j, spots := chosen.map (fun x => (x.band, x.start)) }] }

/-- The jobs of one class in order; the first that nothing takes ends the class (07 R212). -/
def State.assignClass (s : State) (n : Nat) (v : SpanState) (e : Nat) (echoBand : Option Nat) : List SpanJob → PlanAcc → PlanAcc
  | [], acc => acc
  | j :: js, acc =>
    match s.assignJob n v e echoBand acc j with
    | none => acc
    | some acc => s.assignClass n v e echoBand js acc

def SpanState.jobs (v : SpanState) (cls : Nat) : List SpanJob :=
  (v.retx.filter (fun f => f.frame.cls == cls)).map (fun f => { frame := f.frame, old := some f })
    ++ (v.queue.filter (fun f => f.cls == cls)).map (fun f => { frame := f })

/-- The assignment of an event. -/
def State.assignAll (s : State) (n e : Nat) (echoBand : Option Nat) : PlanAcc :=
  let v := s.span n
  let credits := v.members.map (fun p => (p.1, p.2.credit))
  (List.range 4).foldl (fun acc k => s.assignClass n v e echoBand (v.jobs k) acc) { credits := credits }

/-! ### Building the frames -/

/-- The header of T's first frame of a half, with its blocks; of any other frame, unchanged. -/
def State.leadHeader (s : State) (n e : Nat) (a : Int) (echoBand : Option Nat) (first : Bool) (h : SpanHdr) : SpanHdr :=
  let v := s.span n
  if v.isT && first then
    { h with time := some (s.timeBlock n e a), echo := if echoBand = some h.band then v.echo else none }
  else h

/-- A data frame's bytes on one band: the stored ones, or a fresh encryption. -/
def State.dataOctets (s : State) (n e : Nat) (a : Int) (echoBand : Option Nat) (j : SpanJob) (c : Nat) (key : Bytes) (band start : Nat)
    (last : Bool) : Bytes × Bool × State :=
  let v := s.span n
  match j.stored v band with
  | some b => (b, false, s)
  | none =>
    let (h, s) := s.spanHeader n band e 0 last
    let h := s.leadHeader n e a echoBand (start == 0) { h with counter := c, cls := j.frame.cls, len := j.frame.octets.length }
    let (b, s) := s.sealSpan key v.mic h j.frame.octets
    (b, h.time.isSome, s)

/-- A data frame without a counter keeps its place, with the status of its wait; it misses its plan lock (07 R209, 10 R302, 05 R156). -/
def State.noCounter (s : State) (n st : Nat) (j : SpanJob) (spots : List (Nat × Nat)) : State :=
  let s := if j.old.isSome then s
    else s.modSpan n (fun v => { v with queue := v.queue.replace j.frame { j.frame with status := st } })
  match (if st = stCounterHeld then (spots.head?).bind (fun p => Radio.ofNat? p.1) else none) with
  | some x => s.bump (.bbtx x) txLateData
  | none => s

/-- One placed data frame sent on its bands under one counter; where no counter can be had it keeps its place (07 R209). -/
def State.sendData (s : State) (n e : Nat) (a : Int) (echoBand : Option Nat) (j : SpanJob) (spots : List (Nat × Nat)) (later : List Placed) :
    State :=
  let v := s.span n
  let kept := match j.old with | some o => if o.sel = v.sel then some o else none | none => none
  let key := match tfind v.keys v.sel with
    | some slot => (match tfind s.cipher.keys slot with | some k => k.key | none => [])
    | none => []
  let (got, s) : Except Nat (Nat × Bytes) × State := match kept with
    | some o => (.ok (o.counter, key), s)
    | none => s.spanCounter n (j.frame.status == stCounterHeld)
  match got with
  | .error st => s.noCounter n st j spots
  | .ok (c, key) =>
    let (octets, s) := spots.foldl (fun (r : Tab Bytes × State) p =>
      let (b, sync, s) := r.2.dataOctets n e a echoBand j c key p.1 p.2 (!later.any (fun q => q.spots.any (fun x => x.1 == p.1)))
      match tfind v.members p.1 with
      | none => (r.1, s)
      | some m =>
        (tset r.1 p.1 b, s.spanEmit n p.1 e (v.halfStart m.rec_ a + (ceilDiv p.2 3 : Nat)) (m.rec_.khzAt p.1 e) 4 0 sync b
          (if (spots.head?).map (fun x => x.1) = some p.1 then j.frame.desc else none)))
      ((match kept with | some o => o.octets | none => []), s)
    let f : SentFrame := {
      frame := { j.frame with desc := none, status := 0 }
      counter := c
      sel := v.sel
      lastEvent := e
      tries := match j.old with | some o => o.tries + 1 | none => 0
      octets := octets }
    let s := if j.old.isSome then s.bump (.span n) 2 else s
    s.modSpan n (fun v => { v with
      sent := v.sent ++ [f]
      queue := if j.old.isNone then v.queue.erase j.frame else v.queue
      retx := match j.old with | some o => v.retx.erase o | none => v.retx })

/-- A keep-alive of an event on a member (07 R215). -/
def State.sendAlive (s : State) (n e : Nat) (a : Int) (echoBand : Option Nat) (band : Nat) (last : Bool) : State :=
  match tfind (s.span n).members band with
  | none => s
  | some m =>
    let (h, s) := s.spanHeader n band e 1 last
    (s.spanPlain n (s.leadHeader n e a echoBand true h) ((s.span n).halfStart m.rec_ a) (m.rec_.khzAt band e)).2

/-- The placed frames sent in their order. -/
def State.sendPlaced (n e : Nat) (a : Int) (echoBand : Option Nat) : List Placed → State → State
  | [], s => s
  | p :: rest, s =>
    State.sendPlaced n e a echoBand rest (match p.job with
      | some j => s.sendData n e a echoBand j p.spots rest
      | none => p.spots.foldl (fun (s : State) x => s.sendAlive n e a echoBand x.1 false) s)

/-- Once the frames of an event are sent: data is held while every member's ordinary budget refuses the first frame that waits; the event is raised once (07 R216). -/
def State.watchHeld (s : State) (n e : Nat) (acc : PlanAcc) : State :=
  let v := s.span n
  let waits := (List.range 4).flatMap v.jobs
  let dry : Bool := match waits with
    | [] => false
    | j :: _ => acc.placed.isEmpty && v.members.all (fun p =>
        !budgetCovers (s.spanBudget (p.2.rec_.khzAt p.1 e) 0) (p.2.rec_.air (spanPsdu 0 j.frame.octets.length v.mic)))
  if dry then
    let s := s.bump (.span n) 15
    if v.held then s
    else
      (s.modSpan n (fun v => { v with held := true, queue := v.queue.map (fun f => { f with status := stSpanHeld }) })).raise 0x4006
        [u8 n, u16 waits.length, u64 e]
  else if v.held then
    s.modSpan n (fun v => { v with held := false, queue := v.queue.map (fun f => if f.status = stSpanHeld then { f with status := 0 } else f) })
  else s

/-- The peer's clock may have drifted too far: R marks it out of sync and enters RESYNC (06 R189; the cap is that of N.LB:
log entry 38). -/
def State.spanOutOfSync (s : State) (n : Nat) : State :=
  let v := s.span n
  if v.lastSync.isNone then s
  else
    let w := s.spanWiden n
    if v.isT || v.phase != .up || decide (w ≤ 1000 * s.pnat 0x3031) then s
    else
      let s := (s.modSpan n (fun v => { v with outSync := some s.now })).spanResync n
      let (us, s) := s.roundOpen w 1000
      let (net, s) := s.draw
      let (ctx, s) := s.draw
      s.raise 0x3003 [u8 net, u16 ctx, u32 (min 0xFFFFFFFF us)]

/-- In DISPUTE the holder starts no span event whose anchor lies after entry (14 R417). -/
def State.eventHeld (s : State) (n : Nat) (a : Int) : Bool :=
  (s.span n).isT && (match s.serial.casc.dispute with | some d => decide (d.since < a) | none => false)

/-- Which members' sub-events of event `e` are skipped (07 R204); what is noted of the present event stays. -/
def State.planSkips (s : State) (n e : Nat) (a : Int) : State :=
  s.modSpan n (fun v => { v with members := v.members.map (fun p =>
    match Radio.ofNat? p.1 with
    | some x =>
      let old := p.2.skip.filter (fun q => q.1 == v.event)
      (p.1, { p.2 with
        skip := match s.subSkip n x p.2.rec_ a with | some row => tset old e row | none => tdel old e
        spoke := p.2.spoke.filter (fun q => q == v.event && q != e) })
    | none => p) })

/-- The changes of members that are due at an event, with the skips of members that join (07 R224, R204). -/
def State.membersAt (s : State) (n e : Nat) (a : Int) : State :=
  s.modSpan n (fun v =>
    let due := v.changes.filter (fun c => decide (0 ≤ sdiff 40 e c.event))
    { v with
      changes := v.changes.filter (fun c => decide (sdiff 40 e c.event < 0))
      members := due.foldl (fun t c =>
        match c.rec_ with
        | none => tdel t c.band
        | some r => tset t c.band (match tfind t c.band with
            | some m => { m with rec_ := r }
            | none => { rec_ := r, downSince := e, skip := ((Radio.ofNat? c.band).bind (fun x => s.subSkip n x r a)).toList.map (fun row => (e, row)) })) v.members })

/-- The changes of members that are due at the present event. -/
def State.applyMembers (s : State) (n : Nat) : State := s.membersAt n (s.span n).event (s.span n).anchor

/-- One staged write as the plan of a span's event sees it. -/
def State.previewSpanWrite (n e : Nat) (s : State) (w : Staged) : State :=
  match w with
  | .param id v =>
    let s := { s with params := tset s.params id v }
    if id = 0x4100 + 0x20 * n then s.modSpan n (fun x => { x with interval := (match v with | .num i => i.toNat | .bytes _ => x.interval) }) else s
  | .member k b r => if k = n then s.modSpan n (fun v => { v with changes := v.changes ++ [{ band := b, rec_ := r, event := e }] }) else s
  | _ => s

/-- The new selector is used from the anchor of the event that the rollover names (07 R225). -/
def State.switchAt (s : State) (n e : Nat) : State :=
  let v := s.span n
  match v.roll with
  | some (at_, _) =>
    if !v.rolled && decide (0 ≤ sdiff 40 e at_) then s.modSpan n (fun v => { v with rolled := true, sel := 1 - v.sel }) else s
  | none => s

/-- The span as it stands from event `e` on: waiting changes, a rollover and committed sets applied (02 R48, 07 R224, R225). -/
def State.spanAt (s : State) (n e : Nat) (a : Int) : State :=
  (((s.dueWrites (0x0200 + n) e).foldl (State.previewSpanWrite n e) s).membersAt n e a).switchAt n e

/-- What a plan made ahead leaves, with members, selector, interval and parameters as they are until the anchor. -/
def State.spanBackTo (s old : State) (n : Nat) : State :=
  let v := old.span n
  { s with params := old.params }.modSpan n (fun x => { x with
    interval := v.interval
    changes := v.changes
    sel := v.sel
    rolled := v.rolled
    members := v.members.map (fun (p : Nat × MemberState) => match tfind x.members p.1 with | some m => (p.1, { m with rec_ := p.2.rec_ }) | none => p) })

/-- The band of T's earliest served sub-event: its first frame there is its first to R (07 R221). -/
def SpanState.firstBand (v : SpanState) (e : Nat) : Option Nat :=
  (bestBy (fun (a b : Nat × MemberState) => decide (a.2.rec_.offUs < b.2.rec_.offUs))
    (v.members.filter (fun p => (p.2.skipIn e).isNone))).map (fun p => p.1)

/-- The frames of an event whose members are known (07 R212-R216). -/
def State.planEvent (s : State) (n e : Nat) (a : Int) : State :=
  let s := s.planSkips n e a
  let v := s.span n
  if !(v.phase == .up || (v.phase == .resync && v.isT)) || s.burstEvent n e || s.eventHeld n a then s
  else
    let echoBand := v.firstBand e
    let acc := s.assignAll n e echoBand
    let s := s.modSpan n (fun v => { v with members := v.members.map (fun p => (p.1, { p.2 with credit := tget 0 acc.credits p.1 })) })
    let s := (State.sendPlaced n e a echoBand acc.placed s).watchHeld n e acc
    let s := (s.span n).members.foldl (fun (s : State) (p : Nat × MemberState) =>
      if (v.isT || v.owesAlive == some p.1) && (p.2.skipIn e).isNone && !p.2.spoke.contains e then s.sendAlive n e a echoBand p.1 true else s) s
    s.modSpan n (fun v => { v with echo := none, owesAlive := none })

/-- The plan point of the next event has come, 500 µs before its anchor (07 R212); an R end that has heard no burst knows of none. -/
def State.planPoint (s : State) (n : Nat) : Bool :=
  ((s.span n).isT || (s.span n).begun) && decide ((s.span n).nextAnchor - 500000 ≤ s.now)

/-- The IMMEDIATE parameters taken at a plan point (07 R227). -/
def State.latchSpan (s : State) (n : Nat) : State := s.modSpan n (fun v => { v with par := spanLatched.map (fun id => (id, s.pnat id)) })

/-- SPAN_EVENT_PLAN of the next event of a span, on what holds from its anchor on (07 R212-R216, 02 R48). -/
def execSpanEventPlan (span : Nat) (s : State) : Out :=
  .next (
    let n := span
    if !(s.span n).isOpen || !s.awake || (s.span n).planned = some (s.span n).nextEvent || !s.planPoint n then s
    else
      let e := (s.span n).nextEvent
      let a := (s.span n).nextAnchor
      let s := ((s.latchSpan n).spanOutOfSync n).modSpan n (fun v => { v with planned := some e })
      ((s.spanAt n e a).planEvent n e a).spanBackTo s n)

/-- The frames of a burst on one member, back to back on its first channel (07 R220). -/
def State.burstOn (n e : Nat) (a : Int) (band : Nat) (m : Member) : List Nat → State → State
  | [], s => s
  | i :: is, s =>
    let v := s.span n
    let air := m.air (spanPsdu 16 0 v.mic)
    let start := v.halfStart m a + (i * (ceilDiv air 3 + s.spanIfs n) : Nat)
    let (h, s) := s.spanHeader n band e 2 is.isEmpty
    let (c, s) := s.spanPlain n { h with time := some (s.timeBlock n e a), burst := i } start (m.khzAt band 0)
    let s := match c with | some c => s.modSpan n (fun v => { v with bursts := v.bursts ++ [c] }) | none => s
    State.burstOn n e a band m is s

/-- A burst on every member whose sub-event is served; one that no member could send is not counted (07 R220). -/
def State.sendBurst (s : State) (n e : Nat) (a : Int) : State :=
  let s := s.planSkips n e a
  let s := (s.span n).members.foldl (fun (s : State) (p : Nat × MemberState) =>
    if (p.2.skipIn e).isSome then s else State.burstOn n e a p.1 p.2.rec_ (List.range (s.spanPar n 0x4005)) s) s
  if (s.span n).bursts.isEmpty then s else s.bump (.span n) 16

/-- RESYNC_BURST_SEND: T's burst of an event that has one, on what holds from its anchor on (07 R220, 02 R48). -/
def execResyncBurstSend (span : Nat) (s : State) : Out :=
  .next (
    let n := span
    let v := s.span n
    let e := v.nextEvent
    let a := v.nextAnchor
    if !v.isOpen || !s.awake || !s.burstEvent n e || !v.bursts.isEmpty || s.eventHeld n a || !s.planPoint n then s
    else ((s.spanAt n e a).sendBurst n e a).spanBackTo s n)

end Sys2Proof.Machine
end

