-- ==== Sys2Proof/Machine/Span.lean ====
section
/-! DEFINITION. Span links: anchors, sub-events, received frames, the search for the peer and the commands of the group (07). -/

namespace Sys2Proof.Machine

/-! ### Anchors (07 R201, R224, R225) -/

/-- A time parent's announcement was missed in the event that ends (07 R219). -/
def State.parentEvent (s : State) (n : Nat) : State :=
  match s.parentOf (0x0200 + n) with
  | none => s
  | some p => s.setParent (0x0200 + n) (if p.heard then { p with heard := false } else { p with misses := p.misses + 1 })

/-- SPAN_ANCHOR: the anchor of the next event falls; an R end that scans from the start knows of none (07 R201, R221). -/
def execSpanAnchor (span : Nat) (s : State) : Out :=
  .next (
    let n := span
    let v := s.span n
    if !v.isOpen || !s.awake || (!v.isT && !v.begun) || decide (s.now < v.nextAnchor) then s
    else
      let s := if v.begun && v.phase != .acquire then s.parentEvent n else s
      let s := s.modSpan n (fun v => { v with event := v.nextEvent, anchor := v.nextAnchor, begun := true })
      (s.applyMembers n).switchAt n (s.span n).event)

/-! ### Sub-events (07 R202, R204, R217) -/

/-- A radio without a network gets ready for a sub-event: antenna, oscillator, state and lanes (03 R58-R60, R67, 07 R202). -/
def State.readySub (s : State) (n : Nat) (x : Radio) (e : Nat) (a : Int) : State :=
  let s := s.setRadio x { s.radio x with antenna := s.fixedAntenna x }
  (((s.resumeRadio x).tune x (s.listenKhz n x e)).installLanes x (s.spanLane x n e a)).noteLanes x

/-- One lane of a sub-event in force in a timeslot of its network: on the channel that it had it goes on as it is, with its new window. -/
def State.subLane (s : State) (p : Nat × Lane) : State :=
  match s.lane? p.1 with
  | some v => if v.frame.isSome then s else s.setLane p.1 (if v.khz = p.2.khz then { v with window := p.2.window } else p.2)
  | none => s.setLane p.1 p.2

/-- A client radio in a timeslot of the span turns to an event of it: another event may fall in the timeslot than that of its plan
(07 R203, R204). -/
def State.turnSub (s : State) (n : Nat) (x : Radio) (e : Nat) (a : Int) : State :=
  let khz := s.listenKhz n x e
  let s := if x = .lb ∧ (s.radio x).lo ≠ khz then s.tune x khz else s
  (((s.spanLane x n e a).foldl State.subLane s).holdNear x).noteLanes x

/-- A radio gets ready for a sub-event of an event. -/
def State.toSub (s : State) (n : Nat) (x : Radio) (e : Nat) (a : Int) : State :=
  if s.netRuns x then s.turnSub n x e a else s.readySub n x e a

/-- A sub-event that is served starts; a re-lock under way loses it (03 R67). -/
def State.startSub (s : State) (n : Nat) (x : Radio) : State :=
  let s := s.modMember n x.ix (fun m => { m with inSub := true, heard := false })
  let r := s.radio x
  let s := match r.relock with | some (st, k) => s.setRadio x { r with relock := some (st, k + 1) } | none => s
  s.toSub n x (s.span n).event (s.span n).anchor

/-- The earliest that a radio gets ready for a sub-event that starts at `t`: in time for it, and for the widened window (07 R202, R204). -/
def State.readyAt (s : State) (n : Nat) (x : Radio) (t : Int) : Int := t - (readyNs x : Int) - (s.spanWiden n : Int)

/-- A radio is free for a sub-event of a span: between its activities, or, with a network, in a timeslot of the span's own. -/
def State.freeForSub (s : State) (n : Nat) (x : Radio) : Bool :=
  match (if s.netRuns x then x.net? else none) with
  | some net => s.slotOfSpan net n 0
  | none => betweenAt (s.activities x) s.now

/-- A member's sub-event of the coming event is still before its anchor, and near enough for its radio to get ready. -/
def State.leadIn (s : State) (n : Nat) (x : Radio) (m : MemberState) : Bool :=
  let t := (s.span n).nextAnchor + (1000 * m.rec_.offUs : Nat)
  decide (s.readyAt n x t ≤ s.now) && decide (s.now < t) && !m.inSub && (s.subSkip n x m.rec_ (s.span n).nextAnchor).isNone && s.freeForSub n x

/-- SUBEVENT_START of a member, from its radio's STANDBY-to-ready maximum before its start on: served, or skipped and counted, with what it
would have sent (07 R204, 03 R60, R67, R89); R serves none while it scans, but waits in them for the echo of its challenge (R221). Before the anchor of its event the radio only gets
ready. -/
def execSubeventStart (span : Nat) (radio : Radio) (s : State) : Out :=
  .next (
    let n := span
    let v := s.span n
    match tfind v.members radio.ix with
    | none => s
    | some m =>
      if !s.awake || !v.serves then s
      else if s.leadIn n radio m && !s.eventHeld n v.nextAnchor then s.toSub n radio v.nextEvent v.nextAnchor
      else if !v.begun || m.inSub || s.eventHeld n v.anchor || decide (s.now < s.readyAt n radio (v.anchor + (1000 * m.rec_.offUs : Nat))) then s
      else
        match (m.skipIn v.event).or (s.subSkip n radio m.rec_ v.anchor) with
        | some row => ((s.modMember n radio.ix (fun m => { m with skip := tset m.skip v.event row })).countSkip n radio row).dropMember n radio
        | none => s.startSub n radio)

/-- No sub-event of the present event is still to come or under way. -/
def SpanState.eventOver (v : SpanState) (band : Nat) : Bool :=
  match tfind v.members band with
  | none => true
  | some m => v.members.all (fun p => p.1 == band || (!p.2.inSub && decide (p.2.rec_.offUs < m.rec_.offUs + m.rec_.lenUs)))

/-- The lanes of a span's sub-event on a radio without a network come to their end; a widened window lasts longer (07 R202). -/
def State.closeSub (s : State) (x : Radio) : State :=
  let ended (v : Lane) : Bool := v.cells.isEmpty && s.windowOver v
  let t := s.freeLanes (fun l v => laneRadio l == x && ended v && v.frame.isNone)
  { t with bb := { t.bb with lanes := t.bb.lanes.map (fun p =>
    if laneRadio p.1 == x && ended p.2 then (p.1, { p.2 with open_ := false }) else p) } }

/-- SUBEVENT_END: the member's health, and with the last sub-event the frames that are lost (07 R211, R217). -/
def execSubeventEnd (span : Nat) (radio : Radio) (s : State) : Out :=
  .next (
    let n := span
    match tfind (s.span n).members radio.ix with
    | none => s
    | some m =>
      if !(s.span n).isOpen || !s.awake || !(m.inSub || (m.skipIn (s.span n).event).isSome)
          || decide (s.now < (s.span n).anchor + (1000 * (m.rec_.offUs + m.rec_.lenUs) : Nat)) then s
      else
        let s := s.modMember n radio.ix (fun m => { m with inSub := false, skip := tdel m.skip (s.span n).event })
        let s := if m.inSub && m.heard then s.modMember n radio.ix (fun m => { m with misses := 0 }) else s.memberMiss n radio.ix
        let s := if s.netRuns radio || !m.inSub then s else s.closeSub radio
        if (s.span n).eventOver radio.ix then (s.spanJudge n).modSpan n (fun v => { v with bursts := [] }) else s)

/-! ### Received frames (07 R207) -/

/-- The open span whose peer has a link address. -/
def State.spanOfPeer (s : State) (addr : Nat) : Option Nat :=
  (s.spans.find? (fun (p : Nat × SpanState) => p.2.isOpen && p.2.peer == addr)).map (fun p => p.1)

/-- A frame that R207 discards; where its source names no open span it counts for the span that the radio receives, if any. -/
def State.spanForeign (s : State) (n : Option Nat) (x : Radio) : State :=
  match (match n with | some k => some k | none => s.spanOn x) with
  | some k => s.bump (.span k) 11
  | none => s

/-- The lane of a radio that receives a span where no frame has ended on it (04 R101, R102). -/
def spanLaneOf (x : Radio) : Nat := match x with | .lb => 0 | .mb => 48 | .hb => 49

/-- The trailer of a span frame: with the flags, offset and mode that its lane has kept (04 R125). -/
def State.spanTrailer (s : State) (n : Nat) (x : Radio) (meas : RxMeas) (rssi : Int) : Bytes × State :=
  let mode := match tfind (s.span n).members x.ix with | some m => m.rec_.mode | none => 0
  let b := s.bbRadio x
  match b.ended with
  | some (lane, v, f) => (s.setBb x { b with ended := none }).trailer lane v f (f.mode.getD mode)
  | none => s.trailer (spanLaneOf x) { khz := 0, cells := [], shared := false }
      { level := rssi, rssi := rssi, snr := meas.snr, offset := meas.offset } mode

/-- SPAN_FRAME_RECEIVE: a frame of good FCS or CRC on a radio (07 R207, R225); the rest waits for its MIC graph. R207 names neither a frame
shorter than its header nor one on a band where the span has no member here: both are discarded as foreign (DESIGN CHOICE, log
entry 181). -/
def execSpanFrameReceive (radio : Radio) (octets : Bytes) (meas : RxMeas) (s : State) : Out :=
  .next (
    if !s.awake then s
    else
      let h := decodeSpan octets
      match s.spanOfPeer h.src with
      | none => s.spanForeign none radio
      | some n =>
        let v := s.span n
        if octets.length < 36 || h.dst != s.linkAddr || h.band != radio.ix || h.dir == spanDir s.linkAddr v.peer || decide (3 < h.ty)
            || !thas v.members radio.ix then s.spanForeign (some n) radio
        else if !thas v.keys h.sel then s.bump (.span n) 10
        else
          let rssi := meas.rssi + s.levelOffset radio
          let (trailer, s) := s.spanTrailer n radio meas rssi
          let r : SpanRx := { id := s.bb.rxSeq, span := n, band := radio.ix, octets := octets, meas := { meas with rssi := rssi },
                              stamp := s.now - (meas.ago : Int), trailer := trailer }
          { s with spanRx := s.spanRx ++ [r], bb := { s.bb with rxSeq := s.bb.rxSeq + 1 } }.rimeTake (rxInst s.bb.rxSeq) (octets.length - 36 - h.blocks - v.mic) 0)

/-! ### Accepted frames (07 R210, R211, R218-R222) -/

/-- EV_SPAN_UP and the state it reports (07 R221). -/
def State.spanUp (s : State) (n band : Nat) : State :=
  let s := s.modSpan n (fun v => { v with phase := .up, challenge := none })
  let v := s.span n
  s.raise 0x4001 [u8 n, u8 (if v.isT then 1 else 2), u8 band, u64 v.event]

/-- A span's return to UP from RESYNC (07 R222, 06 R189; the event's network and context: log entry 3). -/
def State.spanBack (s : State) (n : Nat) : State :=
  let v := s.span n
  let s := (s.modSpan n (fun v => { v with phase := .up, outSync := none })).bump (.span n) 17
  match v.outSync with
  | none => s
  | some t =>
    let (secs, s) := s.roundOpen (s.now - t).toNat 1000000000
    let (net, s) := s.draw
    let (ctx, s) := s.draw
    s.raise 0x3004 [u8 net, u16 ctx, u32 secs]

/-- Receive timestamp accuracy of a member's PHY in ns (13 R387). -/
def phyAccuracy (mode : Nat) : Nat :=
  match phyFamily mode with
  | .ofdm => 1000
  | .span => 50
  | .oqpsk => 250
  | .fsk => ceilDiv 1000000 (8 * fskRate mode)

/-- The anchor that a frame of T with time block shows: of a burst frame, by its index (07 R220). -/
def anchorSeen (ifs : Nat) (m : Member) (h : SpanHdr) (len : Nat) (stamp : Int) : Int :=
  let ahead := if h.ty = 2 then h.burst * (ceilDiv (m.air (len + 4)) 3 + ifs) else 0
  stamp - (1000 * m.offUs : Nat) - (ahead : Int)

/-- R takes over T's interval where it differs (07 R219). -/
def State.adoptInterval (s : State) (n iv : Nat) : State :=
  if (s.span n).interval = iv then s else (s.modSpan n (fun v => { v with interval := iv })).bump (.span n) 18

/-- T's time block as the device's time parent: one measurement, and the parent regained if it was lost (07 R219, 06 R194,
13 R379, R380, R384). -/
def State.parentTime (s : State) (domain : Nat) (e : Int) (bound : Nat) : State :=
  match s.parentOf domain with
  | none => s
  | some p =>
    let s := s.setParent domain { p with heard := true, misses := 0, lost := false, bound := s.time.bound }
    let s := if p.lost then
        let (ms, s) := s.roundOpen (s.now - p.lostAt).toNat 1000000
        s.raise 0x3006 [u16 domain, u32 ms, leInt 4 e]
      else s
    if s.isSource domain then s.servo e bound else s

/-- R's frames that wait for their half move with the anchor (07 R202). -/
def State.shiftSpan (s : State) (n : Nat) (d : Int) : State :=
  if d = 0 then s
  else
    [Radio.lb, .mb, .hb].foldl (fun (s : State) x =>
      s.setRadio x { s.radio x with pend := (s.radio x).pend.map (fun e =>
        match e.owner with
        | .span k _ _ => if k = n then { e with nominal := e.nominal + d } else e
        | _ => e) }) s

/-- What an accepted time block brings at R: anchor, interval and time (07 R201, R219); a stored retransmission's block of an
earlier event brings nothing. -/
def State.takeTime (s : State) (n : Nat) (m : Member) (h : SpanHdr) (len : Nat) (stamp : Int) : State :=
  match h.time with
  | none => s
  | some (t, iv, _, b) =>
    if (s.span n).isT || h.event != (s.span n).event then s
    else
      let a := anchorSeen (s.spanIfs n) m h len stamp
      let s := ((s.shiftSpan n (a - (s.span n).anchor)).modSpan n (fun v => { v with anchor := a })).adoptInterval n iv
      s.parentTime (0x0200 + n) (t - a) (b + phyAccuracy m.mode + s.pnat 0xB009)

/-- R sets its event and anchor from a frame with time block (07 R221, R222). -/
def State.alignTo (s : State) (n : Nat) (m : Member) (h : SpanHdr) (len : Nat) (stamp : Int) : State :=
  let a := anchorSeen (s.spanIfs n) m h len stamp
  s.modSpan n (fun v => { v with event := h.event, anchor := a, begun := true, planned := none })

/-- A frame of the peer accepted: counted, and the supervision timer restarted (07 R218, R226). -/
def State.spanHeard (s : State) (n : Nat) : State := (s.bump (.span n) 6).modSpan n (fun v => { v with heardAt := s.now, expired := false })

/-- What every accepted frame does: supervision, level, synchronisation, the member, the acknowledgement and the payload (07 R210,
R211, R217, R218). -/
def State.spanTake (s : State) (r : SpanRx) (h : SpanHdr) (payload : Bytes) : State :=
  let n := r.span
  let s := (s.spanHeard n).modSpan n (fun v => { v with lastSync := some s.now, syncBound := s.time.bound })
  let s := s.modMember n r.band (fun m => { m with heard := true, level := some r.meas.rssi })
  let s := (s.memberUp n r.band).spanAcked n h
  if h.ty = 0 then
    let x := (Radio.ofNat? r.band).getD .lb
    let p : InPkt := { octets := payload, port := 0x20 + n, cls := h.cls, time := some (unsigned 64 r.stamp),
                       trailer := if r.trailer = [] then none else some (x, r.trailer) }
    { s with rt := { s.rt with inbox := s.rt.inbox ++ [p] } }
  else s

/-- R's keep-alive in a sub-event in which it has accepted a frame and has no data (07 R215). -/
def State.answerAlive (s : State) (n band : Nat) : State :=
  let v := s.span n
  match tfind v.members band with
  | some m =>
    if !v.isT && v.phase == .up && m.inSub && !m.spoke.contains v.event then
      let e := v.event
      s.sendAlive n e v.anchor none band true
    else s
  | none => s

def State.setWindow (s : State) (n sel : Nat) (w : Window) : State := s.modSpan n (fun v => { v with windows := tset v.windows sel w })

/-- A frame that must pass the replay window: taken, or counted (07 R210). -/
def State.spanWindowed (s : State) (r : SpanRx) (h : SpanHdr) (payload : Bytes) (before after : State → State) : State :=
  let n := r.span
  match (tget {} (s.span n).windows h.sel).check h.counter with
  | (.dup, _) => s.bump (.span n) 7
  | (.old, _) => s.bump (.span n) 8
  | (.accept, w) => after ((before (s.setWindow n h.sel w)).spanTake r h payload)

/-- R answers a burst with a resync reply behind its end, under a challenge of the DRBG, and counts events from the burst on: T's echo comes
on the channel of the next one (07 R221; log entry 185; the random value: log entry 3). The rule names the burst index and the frame length, not whose number of frames counts: R takes its own `span.burst_frames` (DESIGN CHOICE, log
entry 156). -/
def State.answerBurst (s : State) (r : SpanRx) (h : SpanHdr) (m : Member) : State :=
  let n := r.span
  if (s.span n).challenge.isSome then s
  else match s.drbgUse with
  | (.waits, s) | (.fails, s) => s
  | (.served, s) =>
    let air := ceilDiv (m.air (r.octets.length + 4)) 3
    let left := s.spanPar n 0x4005 - h.burst
    let stop := r.stamp + (left * air + (left - 1) * s.spanIfs n : Nat)
    let (chal, s) := s.randomBytes 8
    let iv := match h.time with | some (_, iv, _, _) => iv | none => (s.span n).interval
    let deadline := anchorSeen (s.spanIfs n) m h r.octets.length r.stamp + (3 * iv * 500000 : Nat)
    let (hd, s) := s.spanHeader n r.band h.event 3 true
    let (c, s) := s.spanPlain n { hd with challenge := some chal, ackHigh := h.counter, ackMap := 0 } (stop + (s.spanIfs n : Int))
      (m.khzAt r.band 0)
    if c.isNone then s
    else ((s.alignTo n m h r.octets.length r.stamp).modSpan n (fun v => { v with challenge := some (chal, deadline) })).adoptInterval n iv

/-- The next sub-event of a span that is served, of the present event or of the next: its band, event and anchor. -/
def State.nextSub (s : State) (n : Nat) : Option (Nat × Nat × Int) :=
  let v := s.span n
  let all := [(v.event, v.anchor), (v.nextEvent, v.nextAnchor)].flatMap (fun e => v.members.map (fun p => (p.1, p.2.rec_, e.1, e.2)))
  let start (c : Nat × Member × Nat × Int) : Int := c.2.2.2 + (1000 * c.2.1.offUs : Nat)
  (bestBy (fun a b => decide (start a < start b)) (all.filter (fun c =>
    decide (s.now < start c) && (match Radio.ofNat? c.1 with | some x => (s.subSkip n x c.2.1 c.2.2.2).isNone | none => false)))).map
      (fun c => (c.1, c.2.2.1, c.2.2.2))

/-- R that has realigned itself sends a keep-alive in the second half of the next sub-event: at once, where that is of the present event, else
with the frames of the next (07 R222). -/
def State.oweAlive (s : State) (n : Nat) : State :=
  match s.nextSub n with
  | some (band, e, a) =>
    if e = (s.span n).event then s.sendAlive n e a none band true else s.modSpan n (fun v => { v with owesAlive := some band })
  | none => s

/-- R and a frame whose MIC has passed. Of what comes in RESYNC R222 names the bursts alone: other frames are discarded, uncounted and without
a look at the replay window (DESIGN CHOICE, log entry 182). -/
def State.spanAtR (s : State) (r : SpanRx) (h : SpanHdr) (m : Member) (payload : Bytes) : State :=
  let n := r.span
  let len := r.octets.length
  match (s.span n).phase with
  | .closed => s
  | .acquire =>
    if h.ty = 2 then (s.spanHeard n).answerBurst r h m
    else
      match (s.span n).challenge, h.echo with
      | some (c, _), some e =>
        if c = e && h.time.isSome then
          let s := ((s.setWindow n h.sel { high := some h.counter, map := 1 }).alignTo n m h len r.stamp).spanUp n r.band
          let s := s.modMember n r.band (fun m => { m with inSub := true })
          ((s.spanTake r h payload).takeTime n m h len r.stamp).answerAlive n r.band
        else s
      | _, _ => s
  | .resync =>
    if h.ty = 2 then
      s.spanWindowed r h payload (fun s => s.alignTo n m h len r.stamp) (fun s =>
        ((s.takeTime n m h len r.stamp).oweAlive n).spanBack n)
    else s
  | .up => s.spanWindowed r h payload id (fun s => (s.takeTime n m h len r.stamp).answerAlive n r.band)

/-- T and a frame whose MIC has passed. -/
def State.spanAtT (s : State) (r : SpanRx) (h : SpanHdr) (payload : Bytes) : State :=
  let n := r.span
  match (s.span n).phase with
  | .closed => s
  | .acquire =>
    if h.ty = 3 && (s.span n).bursts.contains h.ackHigh then
      match h.challenge with
      | some c =>
        let s := (s.setWindow n h.sel { high := some h.counter, map := 1 }).modSpan n (fun v => { v with echo := some c })
        (s.spanTake r h payload).spanUp n r.band
      | none => s
    else s
  | .up => if h.ty ≤ 1 then s.spanWindowed r h payload id id else s
  | .resync => if h.ty ≤ 1 then s.spanWindowed r h payload id (fun s => s.spanBack n) else s

/-- Two T ends: the one of higher link address becomes R (07 R198). -/
def State.roleConflict (s : State) (n : Nat) : State :=
  let v := s.span n
  if s.linkAddr ≤ v.peer then s
  else
    ((s.modSpan n (fun v => { v with isT := false, begun := v.begun && v.phase != .acquire })).bump (.span n) 19).raise 0x4007
      [u8 n, leBytes 5 v.peer]

/-- A T end accepts a resync burst: where it becomes R, it follows T from this burst on (07 R198, R210, R222). -/
def State.burstAtT (s : State) (r : SpanRx) (h : SpanHdr) (m : Member) (payload : Bytes) : State :=
  let n := r.span
  let len := r.octets.length
  match (s.span n).phase with
  | .closed => s
  | .acquire =>
    let s := s.roleConflict n
    if (s.span n).isT then s.spanHeard n else s.spanAtR r h m payload
  | .up | .resync =>
    s.spanWindowed r h payload id (fun s =>
      let s := s.roleConflict n
      if (s.span n).isT then s
      else
        let s := (s.alignTo n m h len r.stamp).takeTime n m h len r.stamp
        if (s.span n).phase = .resync then (s.oweAlive n).spanBack n else s)

/-- The MIC graph of a span frame is done (07 R208, R210). -/
def State.spanCheck (s : State) (id : Nat) : State :=
  match s.spanRx.find? (fun r => r.id == id) with
  | none => s
  | some r =>
    let s := { s with spanRx := s.spanRx.filter (fun x => x.id != id) }.rimeFreeFor (rxInst id)
    let h := decodeSpan r.octets
    let v := s.span r.span
    match tfind v.keys h.sel, tfind v.members r.band with
    | some slot, some m =>
      (match s.keyFor slot 1 with
      | .error _ => s
      | .ok k =>
        let s := (s.countUse slot).useBlocks (aeadBlocks (36 + h.blocks) (r.octets.length - 36 - h.blocks - v.mic))
        match spanUnseal k.key v.mic r.octets with
        | none => (s.bump (.span r.span) 9).bump .cipher 3
        | some payload =>
          let s := s.bump .cipher 2
          if !v.isT then s.spanAtR r h m.rec_ payload
          else if h.ty = 2 then s.burstAtT r h m.rec_ payload
          else s.spanAtT r h payload)
    | _, _ => s

/-! ### Timers (07 R218, R221, R225) -/

/-- ACQUIRE_ECHO_TIMEOUT: R forgets its challenge, and the events that it counted with it, and scans again (07 R221). -/
def execAcquireEchoTimeout (span : Nat) (s : State) : Out :=
  .next (
    match (s.span span).challenge with
    | some (_, t) => if s.awake && decide (t ≤ s.now) then s.modSpan span (fun v => { v with challenge := none, begun := v.begun && v.phase != .acquire }) else s
    | none => s)

/-- SUPERVISION_EXPIRY of a span that is UP or in RESYNC, once until the timer restarts; it runs in wall time, NAP included (07 R218; in
ACQUIRE no frame has started the timer: log entry 89). -/
def execSupervisionExpiry (span : Nat) (s : State) : Out :=
  .next (
    let v := s.span span
    if (v.phase != .up && v.phase != .resync) || v.expired || decide (0 < s.supLeft span) then s
    else
      let (k, s) := s.spanFlush span
      ((s.spanResync span).modSpan span (fun v => { v with expired := true })).raise 0x4002 [u8 span, u32 k])

/-- KEY_OVERLAP_END: the old selector is unbound. -/
def execKeyOverlapEnd (span : Nat) (s : State) : Out :=
  .next (
    let v := s.span span
    match v.roll with
    | some (e, _) =>
      if s.awake && v.rolled && decide ((s.spanPar span 0x4007 : Int) ≤ sdiff 40 v.event e) then
        (s.modSpan span (fun v => { v with
          roll := none, rolled := false, keys := tdel v.keys (1 - v.sel), windows := tdel v.windows (1 - v.sel) })).raise 0x4005
          [u8 span, u8 v.sel, u64 v.event]
      else s
    | none => s)

/-! ### Commands (07 R197-R200, R224-R226) -/

/-- A member record as read (07 R199). -/
def decodeMember (b : Bytes) : Nat × Member :=
  let at_ (o n : Nat) := leNat ((b.drop o).take n)
  (at_ 0 1, { mode := at_ 1 1, nss := at_ 2 1, gi := at_ 3 1, offUs := at_ 4 4, lenUs := at_ 8 4, power := signed 16 (at_ 12 2),
              hop := at_ 14 1, lbBase := at_ 16 4, lbSpacing := at_ 20 2, map := (b.drop 24).take 32 })

/-- The reserved bytes of a record are 0, and so are the fields of another band. -/
def memberZeros (b : Bytes) : Bool :=
  let at_ (o n : Nat) := leNat ((b.drop o).take n)
  at_ 15 1 == 0 && at_ 22 2 == 0 && (at_ 0 1 == 0 || (at_ 16 4 == 0 && at_ 20 2 == 0))

/-- The mode of a member is one that its band carries (07 R200, 05 R130). -/
def memberModeOk (x : Radio) (m : Member) : Bool :=
  phySupported m.mode &&
  match x, phyFamily m.mode with
  | .lb, .ofdm => decide (ofdmOption m.mode ≤ 2) && m.nss == 1 && m.gi == 0 && decide (200 ≤ m.lbSpacing) && decide (m.lbSpacing ≤ 2000)
  | .mb, .span => spanBw m.mode == 0 && (m.nss == 1 || m.nss == 2) && decide (m.gi ≤ 1)
  | .hb, .span => (m.nss == 1 || m.nss == 2) && decide (m.gi ≤ 1)
  | _, _ => false

/-- The status with which a member record is refused (07 R199, R200), for an interval in 0.5 ms: a mode code that R129 does not list, or
none supports, is ERR_PHY_MODE wherever it is written, a channel outside the band ERR_RANGE (03 R57, 05 R129, R151). -/
def State.recFault (s : State) (interval band : Nat) (m : Member) : Option Nat :=
  match Radio.ofNat? band with
  | none => some stSpanParam
  | some x =>
    let k := m.air 80
    if !phySupported m.mode then some stPhyMode
    else if !memberModeOk x m || decide (500 * interval < m.offUs + m.lenUs) || m.lenUs % 2 != 0
        || decide (3000 * m.lenUs < 2 * (k + 3 * s.ifsNs)) || m.hop == 0 || m.channels.isEmpty then some stSpanParam
    else if x != .lb && !m.channels.all (fun n => spanChannelOk x m.mode n) then some stRange
    else if x == .lb && !m.channels.all (fun n => inBand .lb (m.chanKhz 0 n)) then some stRange
    else none

def State.memberFault (s : State) (interval : Nat) (b : Bytes) : Option Nat :=
  let (band, m) := decodeMember b
  if memberZeros b then s.recFault interval band m else some stSpanParam

/-- The records of SPAN_OPEN checked in order: the members, or the first status. -/
def State.readMembers (s : State) (interval : Nat) : List Bytes → Tab MemberState → Except Nat (Tab MemberState)
  | [], t => .ok t
  | b :: bs, t =>
    match s.memberFault interval b with
    | some e => .error e
    | none =>
      let (band, m) := decodeMember b
      if thas t band then .error stMember else s.readMembers interval bs (tset t band { rec_ := m })

/-- A supervision timeout is at least three intervals of 0.5 ms (07 R218). -/
def supOk (supMs interval : Nat) : Bool := decide (3 * interval ≤ 2 * supMs)

/-- Every radio of a list of bands has a declared FEM (03 R73). -/
def State.bandsDeclared (s : State) (bands : List Nat) : Bool :=
  bands.all (fun b => match Radio.ofNat? b with | some x => (s.femOf x).isSome | none => true)

def spanOpenSpec : TlvSpec := { rows := [{ ty := 1, len := .exact 1 }, { ty := 2, len := .exact 5 }, { ty := 3, len := .exact 1 },
  { ty := 4, len := .exact 2 }, { ty := 5, len := .exact 1 }, { ty := 6, len := .exact 1, must := false },
  { ty := 7, len := .exact 56, multi := true }, { ty := 8, len := .exact 8, must := false }, { ty := 9, len := .exact 8, must := false }] }

/-- SPAN_OPEN's fields that stand outside their ranges: status and TLV. -/
def spanOpenFault (q : Req) : Option (Nat × Nat) :=
  if 31 < q.nat 1 then some (stRange, 1)
  else if q.nat 3 ≠ 1 ∧ q.nat 3 ≠ 2 then some (stRange, 3)
  else if 8191 < q.nat 4 then some (stRange, 4)
  else if q.nat 5 ≠ 8 ∧ q.nat 5 ≠ 16 then some (stRange, 5)
  else if q.has 6 ∧ (q.nat 6 = 0 ∨ 100 < q.nat 6) then some (stRange, 6)
  else if 3 < (q.all 7).length then some (stBadTlv, 7)
  else if q.nat 3 = 2 ∧ q.has 8 then some (stBadTlv, 8)
  else if q.nat 3 = 2 ∧ q.has 9 then some (stBadTlv, 9)
  else if 2 ^ 40 ≤ q.nat 8 then some (stRange, 8)
  else none

def spanOpenBody : Body := fun q s =>
  let n := q.nat 1
  let peer := q.nat 2
  let iv := s.spanParam n 0x4100
  match spanOpenFault q with
  | some (e, t) => (naming e t, s)
  | none =>
    if s.board.isNone then (plain stNotDeclared, s)
    else if !s.ddrReady then (plain stState, s)
    else if (s.span n).isOpen then (plain stSpanOpen, s)
    else if peer = s.linkAddr ∨ (s.spanOfPeer peer).isSome then (plain stSpanParam, s)
    else if !supOk (s.spanParam n 0x4101) iv then (plain stSpanParam, s)
    else
      match s.keyFor (q.nat 4) 1, s.readMembers iv (q.all 7) [] with
      | .error e, _ => (naming e 4, s)
      | _, .error e => (naming e 7, s)
      | .ok _, .ok members =>
        if !s.bandsDeclared (members.map (fun p => p.1)) then (plain stNotDeclared, s)
        else
          let isT := q.nat 3 == 1
          let first : Int := if !isT then 0 else if q.has 9 then signed 64 (q.nat 9) else s.now + (1000 * s.pnat 0x0020 : Nat)
          let v : SpanState := {
            phase := .acquire
            isT := isT
            peer := peer
            mic := q.nat 5
            drift := if q.has 6 then q.nat 6 else s.pnat 0x3030
            members := members.map (fun p => (p.1, { p.2 with downSince := q.nat 8 }))
            event := q.nat 8
            anchor := first
            interval := iv
            keys := [(0, q.nat 4)]
            heardAt := s.now
            par := spanLatched.map (fun id => (id, s.pnat id)) }
          let s := (s.clearBank (.span n)).setSpan n v
          let s := members.foldl (fun (s : State) p => match Radio.ofNat? p.1 with | some x => s.firstUse x | none => s) s
          (okReply [tlvN 0x000A 8 (unsigned 64 first)], s)

/-- SPAN_OPEN (07 R197-R200, R218, R223). -/
def execSpanOpen (ch : Nat) (s : State) : Out := .next (s.serve ch 0x4001 spanOpenSpec spanOpenBody)

/-- A body for a command whose TLV 1 is an open span. -/
def withSpan (f : Nat → Req → State → Reply × State) : Body := fun q s =>
  if 31 < q.nat 1 then (naming stRange 1, s)
  else if !(s.span (q.nat 1)).isOpen then (plain stSpanNotOpen, s)
  else f (q.nat 1) q s

def oneSpanSpec : TlvSpec := { rows := [{ ty := 1, len := .exact 1 }] }

def spanCloseBody : Body := withSpan fun n _ s =>
  let (k, s) := s.spanFlush n
  let s := s.spanSilence n
  let s := (s.spanRx.filter (fun r => r.span == n)).foldl (fun (s : State) r => s.rimeFreeFor (rxInst r.id)) s
  let s := { s with spans := tdel s.spans n, spanRx := s.spanRx.filter (fun r => r.span != n) }
  (okReply [tlvN 2 4 k], s.domainStopped (0x0200 + n))

/-- SPAN_CLOSE (07, 02 R50). -/
def execSpanClose (ch : Nat) (s : State) : Out := .next (s.serve ch 0x4002 oneSpanSpec spanCloseBody)

/-- The first event whose anchor lies at least the commit lead after now (07 R224); an R end that has heard no burst knows of no event, and
a change holds there at once (DESIGN CHOICE, log entry 186). -/
def State.spanEffEvent (s : State) (n : Nat) : Nat :=
  let v := s.span n
  if !v.isT && !v.begun then v.event else
  let t := s.now + (1000 * s.pnat 0x0020 : Nat) - v.anchor
  let k := ceilDiv t.toNat (max 1 (500000 * v.interval))
  (v.event + max k (if v.begun then 1 else 0)) % 2 ^ 40

/-- The changes of a span's members that a set holds. -/
def State.stagedMembers (s : State) (n : Nat) (set : Option Nat) : List (Nat × Option Member) :=
  ((set.bind (fun k => s.set? k)).map (fun x => x.writes)).toList.flatten.filterMap (fun w =>
    match w with | .member k b r => if k = n then some (b, r) else none | _ => none)

/-- The bands of a span once its waiting changes hold, and those of the set that a command names (07 R224). -/
def State.bandsAfter (s : State) (n : Nat) (set : Option Nat) : List Nat :=
  let v := s.span n
  (((v.changes.map (fun c => (c.band, c.rec_))) ++ s.stagedMembers n set).foldl
    (fun (t : Tab Unit) c => if c.2.isSome then tset t c.1 () else tdel t c.1) (v.members.map (fun p => (p.1, ())))).map (fun p => p.1)

/-- A change of a member, at once or in a set (07 R224; a staged one's event is fixed by its commit: log entry 33). -/
def memberChange (n band : Nat) (r : Option Member) (set : Option Nat) (s : State) : Reply × State :=
  match set with
  | some k =>
    match s.stage k [.spanEvent] (0x0200 + n) (.member n band r) with
    | .error e => (plain e, s)
    | .ok s => (okReply [tlvN 4 8 0], s)
  | none =>
    let e := s.spanEffEvent n
    let s := s.modSpan n (fun v => { v with
      changes := v.changes.filter (fun c => c.band != band) ++ [{ band := band, rec_ := r, event := e }] })
    (okReply [tlvN 4 8 e], if !(s.span n).isT && !(s.span n).begun then s.applyMembers n else s)

def memberSetSpec : TlvSpec := { rows := [{ ty := 1, len := .exact 1 }, { ty := 2, len := .exact 56 },
  { ty := 3, len := .exact 1, must := false }] }

/-- The record is checked against the interval in force, not against one that the named set holds; COMMIT_AT checks it against that
(DESIGN CHOICE, log entry 184). -/
def memberSetBody : Body := withSpan fun n q s =>
  let (band, m) := decodeMember (q.bytes 2)
  match s.memberFault (s.span n).interval (q.bytes 2) with
  | some e => (naming e 2, s)
  | none =>
    if !s.bandsDeclared [band] then (plain stNotDeclared, s)
    else
      let s := match Radio.ofNat? band with | some x => s.firstUse x | none => s
      memberChange n band (some m) (stagedHandle q 3) s

/-- SPAN_MEMBER_SET (07 R200, R224). -/
def execSpanMemberSet (ch : Nat) (s : State) : Out := .next (s.serve ch 0x4003 memberSetSpec memberSetBody)

def memberDropSpec : TlvSpec := { rows := [{ ty := 1, len := .exact 1 }, { ty := 2, len := .exact 1 },
  { ty := 3, len := .exact 1, must := false }] }

/-- A band on which the span has no member is out of range: the rule names no status (DESIGN CHOICE, log entry 157). -/
def memberDropBody : Body := withSpan fun n q s =>
  let bands := s.bandsAfter n (stagedHandle q 3)
  if !bands.contains (q.nat 2) then (naming stRange 2, s)
  else if bands.length ≤ 1 then (plain stMember, s)
  else memberChange n (q.nat 2) none (stagedHandle q 3) s

/-- SPAN_MEMBER_DROP (07 R224). -/
def execSpanMemberDrop (ch : Nat) (s : State) : Out := .next (s.serve ch 0x4004 memberDropSpec memberDropBody)

def keyRollSpec : TlvSpec := { rows := [{ ty := 1, len := .exact 1 }, { ty := 2, len := .exact 2 }, { ty := 3, len := .exact 8 }] }

/-- Until the anchor of its event a rollover has no overlap, and another one takes its place (07 R225). -/
def keyRollBody : Body := withSpan fun n q s =>
  if 8191 < q.nat 2 then (naming stRange 2, s)
  else if 2 ^ 40 ≤ q.nat 3 then (naming stRange 3, s)
  else if (s.span n).rolled then (plain stState, s)
  else
    match s.keyFor (q.nat 2) 1 with
    | .error e => (naming e 2, s)
    | .ok _ =>
      let sel := 1 - (s.span n).sel
      (okReply [tlvN 4 1 sel], s.modSpan n (fun v => { v with
        keys := tset v.keys sel (q.nat 2), windows := tset v.windows sel {}, roll := some (q.nat 3, q.nat 2), rolled := false }))

/-- SPAN_KEY_ROLL (07 R225). -/
def execSpanKeyRoll (ch : Nat) (s : State) : Out := .next (s.serve ch 0x4005 keyRollSpec keyRollBody)

def SpanPhase.code : SpanPhase → Nat
  | .closed => 0 | .acquire => 1 | .up => 2 | .resync => 3

/-- H of a selector; while no frame has been accepted the spec gives no value (log entry 3). -/
def State.windowHigh (s : State) (n sel : Nat) : Nat × State :=
  match (tget {} (s.span n).windows sel).high with
  | some h => (h, s)
  | none => s.draw

def spanStatusBody : Body := withSpan fun n _ s =>
  let v := s.span n
  let (left, s) := s.roundOpen (s.supLeft n).toNat 1000000
  let (h0, s) := s.windowHigh n 0
  let (h1, s) := s.windowHigh n 1
  (okReply [tlvN 2 1 v.phase.code, tlvN 3 1 (if v.isT then 1 else 2), tlvN 4 8 v.event,
    tlvN 5 1 ((v.members.filter (fun p => p.2.up)).map (fun p => 2 ^ p.1)).sum, tlvN 6 4 left, tlvN 7 2 v.queue.length,
    ⟨8, u64 h0 ++ u64 h1⟩], s)

/-- SPAN_STATUS_GET. -/
def execSpanStatusGet (ch : Nat) (s : State) : Out := .next (s.serve ch 0x4006 oneSpanSpec spanStatusBody)

/-- SPAN_COUNTERS_GET (07 R226). -/
def execSpanCountersGet (ch : Nat) (s : State) : Out :=
  .next (s.serve ch 0x4007 radioClearSpec (withSpan fun n q s =>
    if 1 < q.nat 2 then (naming stRange 2, s) else countersReply s (.span n) 19 (q.nat 2 == 1)))

end Sys2Proof.Machine
end

