-- ==== Sys2Proof/Machine/Emission.lean ====
section
/-! DEFINITION. Emissions: groups at the plan lock, their start, deferral and end, and the wires of the coexistence ports (03 R63, R64, R77-R85,
05 R152-R157, 08 R239-R241). -/

namespace Sys2Proof.Machine

/-! ### Groups (05 R152, R153) -/

/-- An emission's carrier lies within the LB capture (05 R152; its occupied band is taken as its lane window: log entry 39). -/
def State.carrierIn (s : State) (x : Radio) (e : Emission) : Bool :=
  match x, e.mode with
  | .lb, some m => windowFits (s.radio x).lo e.khz (windowBins m false)
  | _, _ => true

/-- Two carriers of a group may stand together: one PHY, far enough apart. -/
def carriersAgree (x : Radio) (a b : Emission) : Bool :=
  match a.mode, b.mode with
  | some m, some k =>
    (if x = .lb then m == k else phyFamily m == .oqpsk && phyFamily k == .oqpsk)
      && decide (carrierSpacing m ≤ a.khz - b.khz + (b.khz - a.khz))
  | _, _ => false

/-- An emission may join a group (05 R152, R153). -/
def State.mayJoin (s : State) (x : Radio) (g : List Emission) (e : Emission) : Bool :=
  match g with
  | [] => s.carrierIn x e
  | _ =>
    x != .hb && decide (g.length < s.maxCarriers x) && s.carrierIn x e && g.all (carriersAgree x e)
      && g.all (fun f => decide ((e.nominal - f.nominal).natAbs ≤ 1000 * s.pnat 0x2058))

/-- The order in which emissions are considered: by class, nominal start and lane (05 R153). -/
def emissionLe (a b : Emission) : Bool :=
  decide (a.cls < b.cls) || (a.cls == b.cls && (decide (a.nominal < b.nominal) || (a.nominal == b.nominal && decide (a.lane ≤ b.lane))))

/-- The groups that the pending emissions form. -/
def State.formGroups (s : State) (x : Radio) (l : List Emission) : List (List Emission) :=
  (l.mergeSort emissionLe).foldl (fun gs e =>
    match gs.findIdx? (fun g => s.mayJoin x g e) with
    | some i => gs.set i ((gs.getD i []) ++ [e])
    | none => if s.mayJoin x [] e then gs ++ [[e]] else gs) []

def groupStart (g : List Emission) : Int := (g.map (fun e => e.nominal)).foldl min ((g.map (fun e => e.nominal)).headD 0)

/-- The group that starts first. -/
def firstGroup (gs : List (List Emission)) : List Emission := (bestBy (fun a b => decide (groupStart a < groupStart b)) gs).getD []

/-- How late an emission may start in ns; its limit is the one held when its REQ or its deferral began (03 R63, R64, R97). -/
def State.lateNs (s : State) (e : Emission) : Nat := 1000 * e.late.getD (s.pnat (if e.sync then 0x1012 else 0x1011))

/-- Latest permissible start of an emission (03 R63, R64). -/
def State.latestStart (s : State) (e : Emission) : Int := e.nominal + s.lateNs e

/-- A first symbol at `t` comes after an emission's latest permissible start; the rule gives a test emission no latest start (03 R63; DESIGN
CHOICE, log entry 177). -/
def State.tooLate (s : State) (e : Emission) (t : Int) : Bool := e.owner != .test && decide (s.latestStart e < t)

/-- The content of the segment IE that an enhanced beacon carries, as of its plan lock: the OUI, version 1, the backoff hint, tq and the
backlog (06 R186). -/
def State.segmentIe (s : State) (net : Net) : State :=
  let b := (s.net net).backlog.length
  let hint := min 255 (ceilDiv (10 * b) (max 1 (s.schedParam net 0x3020)))
  s.setNet net { s.net net with beaconIe := beBytes 3 Config.oui ++ u8 1 ++ u8 hint ++ u8 s.tq ++ u16 (min 65535 b) }

/-- Rows of the transmit counters: TX_SKIP_BUSY and TX_CARRIER_ABLATED (05 R161). -/
def txSkipBusy : Nat := 4
def txRefused : Nat := 7

/-- The groups that a plan lock finds due: the first of its radio, once its lead is reached (05 R153, R156). -/
def State.dueGroup (s : State) (x : Radio) : List Emission :=
  let g := firstGroup (s.formGroups x (s.radio x).pend)
  if s.now < groupStart g - s.lockLead x then [] else g

/-- The first symbol of a group locked now: its earliest nominal one, or, where an earlier group held the radio, after the ramp-up
(05 R153, R154). -/
def State.firstSymbol (s : State) (g : List Emission) : Int :=
  if groupStart g < s.now + rampUpNs then s.now + rampUpNs else groupStart g

/-- A group of a radio put behind those it holds; an idle radio takes it at once (05 R154, R156). -/
def State.putGroup (s : State) (x : Radio) (g : EmGroup) : State :=
  let r := s.radio x
  s.setRadio x (if r.group.isSome then { r with follow := r.follow ++ [g] } else { r with group := some g })

/-- A group locked: what can no longer start in time is skipped, ablation projects the rest as one, and the powers are decided
(05 R153-R156). -/
def State.lockGroup (s : State) (x : Radio) (g : List Emission) : State :=
  let t := s.firstSymbol g
  let busy := g.filter (fun e => s.tooLate e t)
  let g := g.filter (fun e => !busy.any (fun y => y.id == e.id))
  let s := busy.foldl (fun (s : State) e => (s.bump (.bbtx x) txSkipBusy).dropPending x (some stCarrierBusy) e) s
  let s := g.foldl (fun (s : State) e => match e.owner with | .beacon net _ => s.segmentIe net | _ => s) s
  let (adm, s) := State.project g [] s
  let (cs, ext, _, s) := State.decidePower x (g.length + 1) adm s
  let gone := g.filter (fun e => !cs.any (fun c => c.em.id == e.id))
  let s := gone.foldl (fun (s : State) e => (s.bump (.bbtx x) txRefused).dropPending x (some stAblated) e) s
  let s := s.setRadio x { s.radio x with pend := (s.radio x).pend.filter (fun e => !g.any (fun y => y.id == e.id)) }
  (if cs.isEmpty then s else s.putGroup x { carriers := cs, start := t, due := t, extPa := ext }).watchSubs

/-- PLAN_LOCK of a radio's next group, L before its first symbol; `late` names emissions whose frames are not complete, which the group
leaves out. A group that follows one still on its radio is locked at its own L; on a radio that sends a test, which runs alone, none is
(05 R153-R156). -/
def execPlanLock (radio : Radio) (late : List Nat) (s : State) : Out :=
  .next (
    let x := radio
    if !s.awake then s
    else
      let miss := (s.dueGroup x).filter (fun e => late.contains e.id)
      let s := miss.foldl (fun (s : State) e => (s.bump (.bbtx x) txLateData).dropPending x none e) s
      match s.dueGroup x with
      | [] => s
      | g => s.lockGroup x g)

/-! ### The coexistence wires (03 R82-R85) -/

def State.setGroup (s : State) (x : Radio) (g : Option EmGroup) : State := s.setRadio x { s.radio x with group := g }

/-- The class of a group's most urgent carrier is set in a mask. -/
def EmGroup.inMask (g : EmGroup) (mask : Nat) : Bool := g.carriers.any (fun c => mask.testBit c.em.cls)

/-- The group whose first symbol comes next on a radio: the one it holds, or, while that is on the air, the one after it (03 R82). -/
def RadioState.nextGroup (r : RadioState) : Option EmGroup :=
  match r.group with
  | some g => if g.onAir then r.follow.head? else some g
  | none => none

/-- COEX_REQ_LEAD: at its lead before a group's first symbol, or before a receive window where the port asks for those too (03 R82). What
the port does for this emission is held from here on (R97); a request that is up already for the emission before goes on. -/
def execCoexReqLead (portB receive : Bool) (s : State) : Out :=
  .next (
    match (if s.awake then s.coexRadio portB false else none) with
    | none => s
    | some x =>
      let p := s.coexPort portB
      if receive then
        (if s.coexParam portB 0x1033 = 1 then s.setCoex portB { p with rx := true } else s)
      else
        match (s.radio x).nextGroup with
        | none => s
        | some g =>
          if s.now < g.start - (1000 * s.coexParam portB 0x1030 : Nat) then s
          else s.setCoex portB { p with
            req := true, pri := g.inMask (s.coexParam portB 0x1032), gnt := p.req && p.gnt, gntAt := none
            sample := s.coexParam portB 0x1031
            revoke := if p.req then p.revoke else s.coexParam portB 0x1034 == 1 })

/-- COEX_GNT_SAMPLE: the level of GNT at the sampling point before a group's first symbol; later on the port watches GNT (03 R82, R83). -/
def execCoexGntSample (portB gnt : Bool) (s : State) : Out :=
  .next (
    match (if s.awake then s.coexRadio portB false else none) with
    | none => s
    | some x =>
      let p := s.coexPort portB
      let due := match (s.radio x).nextGroup with
        | some g => decide (g.start - (1000 * p.sample : Nat) ≤ s.now) && decide (s.now ≤ g.start)
        | none => false
      if p.req && due then s.setCoex portB { p with gnt := s.coexRead portB 3 gnt } else s)

/-- COEX_GNT_RISE: a grant has been asserted for the sample time; a deferred group starts as soon as its radio can key (03 R83). -/
def execCoexGntRise (portB : Bool) (s : State) : Out :=
  .next (
    match (if s.awake then s.coexRadio portB false else none) with
    | none => s
    | some _ =>
      let p := s.coexPort portB
      if p.req && !p.gnt then s.setCoex portB { p with gnt := true, gntAt := some s.now } else s)

/-- COEX_GNT_FALL (03 R84). -/
def execCoexGntFall (portB : Bool) (s : State) : Out :=
  .next (
    match (if s.awake then s.coexRadio portB false else none) with
    | none => s
    | some x =>
      let p := s.coexPort portB
      let s := s.setCoex portB { p with gnt := false }
      match (s.radio x).group with
      | none => s
      | some g =>
        if g.onAir then
          let s := s.bump (.radio x) 13
          if p.revoke then s.cutGroup x stCoexRevoked else s
        else s)

/-- The emission of a radio that is in progress or starts within the guard of a granting port. -/
def State.guarded (s : State) (x : Radio) (portB : Bool) : List Emission :=
  let soon : Int := s.now + (1000 * s.coexParam portB 0x1035 : Nat)
  (match (s.radio x).group with
    | some g => if g.onAir || decide (g.start ≤ soon) then g.carriers.map (fun c => c.em) else []
    | none => [])
    ++ ((s.radio x).follow.filter (fun g => decide (g.start ≤ soon))).flatMap (fun g => g.carriers.map (fun c => c.em)) ++ (s.radio x).pend.filter (fun e => decide (e.nominal ≤ soon))

/-- COEX_REQ_RISE on a granting port, with the level of PRI (03 R85). -/
def execCoexReqRise (portB pri : Bool) (s : State) : Out :=
  .next (
    match (if s.awake then s.coexRadio portB true else none) with
    | none => s
    | some x =>
      let pri := s.coexRead portB 2 pri
      let p := { s.coexPort portB with req := true, pri := pri }
      let busy := s.guarded x portB
      let mask := s.coexParam portB 0x1032
      let grant := if pri then !busy.any (fun e => mask.testBit e.cls) else busy.isEmpty
      s.setCoex portB { p with gnt := grant && !p.spent, rose := s.time.raw, limit := s.coexParam portB 0x1036 })

/-- COEX_REQ_FALL on a granting port (03 R85). -/
def execCoexReqFall (portB : Bool) (s : State) : Out :=
  .next (
    match (if s.awake then s.coexRadio portB true else none) with
    | none => s
    | some _ => s.setCoex portB { req := false, pri := false, gnt := false, spent := false })

/-- COEX_MAX_GRANT_EXPIRY: at the limit of a continuous grant, as it stood when GNT rose (03 R85, R97). -/
def execCoexMaxGrantExpiry (portB : Bool) (s : State) : Out :=
  .next (
    match (if s.awake then s.coexRadio portB true else none) with
    | none => s
    | some _ =>
      let p := s.coexPort portB
      if p.gnt && s.ranUs (some p.rose) p.limit then s.setCoex portB { p with gnt := false, spent := true } else s)

/-! ### Start, deferral and end -/

/-- The carriers of a group that send a SUN OFDM frame, each with the next scrambler seed (05 R136). -/
def EmGroup.ofdmFrames (g : EmGroup) : Nat := (g.carriers.filter (fun c => c.em.mode.map phyFamily == some .ofdm)).length

/-- The power decision just before the ramp, at the temperature and supply sensed last; a carrier that no setting serves any more is
refused (03 R68, R70). -/
def State.rampPower (s : State) (x : Radio) (g : EmGroup) : EmGroup × State :=
  let adm := g.carriers.filterMap (fun c => (s.subLimit? c.sub).map (fun l => (c.em, l)))
  let (cs, ext, _, s) := State.decidePower x (g.carriers.length + 1) adm s
  let gone := g.carriers.filter (fun c => !cs.any (fun d => d.em.id == c.em.id))
  ({ g with carriers := cs, extPa := ext },
    gone.foldl (fun (s : State) c => (s.bump (.bbtx x) txRefused).unsent x (some stAblated) c.em) s)

/-- A decided group on the air: it counts, as deferred where the synthesiser was ready too late for its instant, the lanes of the radio are
blanked, as they were through the ramp, and the first symbol is stamped (05 R136, R157, 03 R63, R78, R80, 04 R106). -/
def State.takeAir (s : State) (x : Radio) (g : EmGroup) : State :=
  let n := g.carriers.length
  let early := (g.carriers.filter (fun c => decide (s.now < c.em.nominal))).length
  let blocks := x == .lb && g.blocksMb && s.pnat 0x1020 == 0
  let s := ((s.bumpBy (.radio x) 1 n).bump (.bbtx x) 1).bumpBy (.bbtx x) 2 n
  let s := s.bumpBy (.bbtx x) 3 early
  let s := if (match (s.radio x).lockedAt with | some t => decide (g.start < t + s.keyNs x) | none => false) then s.bumpBy (.radio x) 2 n else s
  let s := s.setGroup x (some { g with onAir := true, hold := none, stamped := s.now, blanksMb := blocks })
  let s := s.moveRadio x .tx g.extPa
  let s := s.setRadio x { s.radio x with blankAt := (s.radio x).blankAt.map (fun t => min t (s.now - rampUpNs)) }
  let s := s.setBb x { s.bbRadio x with
    own := true
    nfCfg := (s.bbRadio x).nfCfg.map (fun c => { c with own := true })
    ofdmSeed := ((s.bbRadio x).ofdmSeed + g.ofdmFrames) % 4 }
  let s := if x = .lb then { s with rf := { s.rf with thaw := { s.rf.thaw with blanked := true } } } else s
  if blocks then s.blankLanes .mb (.radio .mb) 15 else s

/-- The requests of a radio's coexistence ports for its emission released, but for the next group's where that is within its lead
(03 R82, R83). -/
def State.dropReqs (s : State) (x : Radio) : State :=
  (s.portsOf x false).foldl (fun (s : State) p =>
    let next := match (s.radio x).nextGroup with
      | some g => decide (g.start - (1000 * s.coexParam p 0x1030 : Nat) ≤ s.now)
      | none => false
    if next then s else s.setCoex p { s.coexPort p with req := false, pri := false, gnt := false, gntAt := none }) s

/-- A radio is free of its group and takes the next one that is locked: that one starts after the ramp-up at the earliest, and those of its
carriers that cannot start so late find their radio busy (05 R154). -/
def State.endGroup (s : State) (x : Radio) : State :=
  let r := s.radio x
  match r.follow with
  | [] => (s.setGroup x none).dropReqs x
  | g :: rest =>
    let t := if g.start < s.now + rampUpNs then s.now + rampUpNs else g.start
    let busy := g.carriers.filter (fun c => s.tooLate c.em t)
    let left := g.carriers.filter (fun c => !busy.any (fun b => b.em.id == c.em.id))
    let s := s.setRadio x { r with
      group := if left.isEmpty then none else some { g with carriers := left, start := t }
      follow := rest }
    (busy.foldl (fun (s : State) c => (s.bump (.bbtx x) txSkipBusy).unsent x (some stCarrierBusy) c.em) s).dropReqs x

/-- A group keyed: its power is decided, and what remains of it takes the air (03 R68, 08 R243). -/
def State.keyGroup (s : State) (x : Radio) (g : EmGroup) : State :=
  let (h, s) := s.rampPower x g
  let s := if h.carriers.isEmpty then s.endGroup x else s.takeAir x h
  if h.carriers.length = g.carriers.length then s else s.watchSubs

/-- The counter and the status of an emission that has not started by its latest permissible start (03 R63, R78, R83, R85). -/
def HoldCause.row : HoldCause → Nat
  | .synth => 3 | .coex => 12 | .yielded => 14 | .selfcoex => 16

def HoldCause.status : HoldCause → Nat
  | .synth => stSynthNotReady | .coex => stCoexDenied | .yielded => stCoexYielded | .selfcoex => stSelfcoex

/-- A group skipped carrier by carrier, each counted, with its status; its requests fall (03 R82). -/
def State.skipGroup (s : State) (x : Radio) (g : EmGroup) (h : HoldCause) : State :=
  g.carriers.foldl (fun (s : State) c => (s.bump (.radio x) h.row).unsent x (some h.status) c.em) (s.endGroup x)

/-- A deferral takes the group's end beyond its projected emission, which allows for the lateness limits of its carriers from its first
symbol on (05 R156; log entry 145). -/
def State.beyondProjection (s : State) (g : EmGroup) : Bool :=
  decide (g.due + ((g.carriers.map (fun c => s.lateNs c.em)).foldl max 0 : Nat) < s.now)

/-- A group released back to plan lock: its emissions are pending again, its pending air time is released (05 R156, 08 R240). -/
def State.backToLock (s : State) (x : Radio) (g : EmGroup) : State :=
  let s := s.endGroup x
  (s.setRadio x { s.radio x with pend := g.carriers.map (fun c => c.em) ++ (s.radio x).pend }).watchSubs

/-- What holds a group at its instant: what blocks it now, or what has ended too late for it (03 R63, R83). -/
def State.heldBy (s : State) (x : Radio) (g : EmGroup) : Option HoldCause :=
  match s.blockedBy x g with
  | some c => some c
  | none => if s.firstAt x g ≤ g.start then none else (s.lastHold x g).map (fun c => c.1)

/-- A due group starts, is deferred, yields, or goes back to plan lock (03 R63, R78, R83, R85, 05 R156). -/
def State.startGroup (s : State) (x : Radio) (g : EmGroup) : State :=
  if s.yields x then (s.skipGroup x g .yielded).watchSubs
  else if s.beyondProjection g then s.backToLock x g
  else s.keyGroup x g

/-- A radio's group may start with its first symbol now, to within 0.1 µs, by the latest permissible start of every carrier of it
(03 R63, 05 R157). -/
def State.mayStart (s : State) (g : EmGroup) (t : Int) : Bool :=
  s.awake && !g.onAir && decide ((s.now - t).natAbs ≤ 100) && !g.carriers.any (fun c => s.tooLate c.em t)

/-- EMISSION_START of a radio's group at its first symbol's instant: it starts, yields, or is deferred (05 R157, 03 R63, R83, R85). -/
def execEmissionStart (radio : Radio) (s : State) : Out :=
  .next (
    match (s.radio radio).group with
    | none => s
    | some g =>
      if !(s.mayStart g g.start && g.hold.isNone) then s
      else
        match (if s.yields radio then none else s.heldBy radio g) with
        | some c => s.setGroup radio (some { g with hold := some c })
        | none => s.startGroup radio g)

/-- EMISSION_DEFERRED_START: what held the group has ended, and its first symbol comes at the first moment after it, by the latest
permissible start of every carrier left (03 R63). -/
def execEmissionDeferredStart (radio : Radio) (s : State) : Out :=
  .next (
    match (s.radio radio).group with
    | none => s
    | some g =>
      if s.mayStart g (s.firstAt radio g) && g.hold.isSome && (s.blockedBy radio g).isNone then s.startGroup radio g else s)

/-- A group that nothing holds any more still starts by an emission's latest permissible start (03 R63, R83). -/
def State.stillStarts (s : State) (x : Radio) (g : EmGroup) (e : Emission) : Bool :=
  (s.blockedBy x g).isNone && !s.tooLate e (s.firstAt x g) && decide (s.now ≤ s.firstAt x g + 100)

/-- An emission out of a group that has not started: counted and given its status by what holds the group now, or held it last; the
group's end follows where nothing is left (03 R63, R78, R83). -/
def State.skipCarrier (s : State) (x : Radio) (g : EmGroup) (c : Carrier) : State :=
  let h := ((s.blockedBy x g).orElse (fun _ => g.hold)).getD .synth
  let left := g.carriers.filter (fun d => d.em.id != c.em.id)
  let s := (s.bump (.radio x) h.row).unsent x (some h.status) c.em
  (if left.isEmpty then s.endGroup x else s.setGroup x (some { g with carriers := left })).watchSubs

/-- An emission out of a group that waits behind another: its radio is busy (05 R154). -/
def State.skipFollower (s : State) (x : Radio) (e : Emission) : State :=
  let r := s.radio x
  let follow := (r.follow.map (fun g => { g with carriers := g.carriers.filter (fun d => d.em.id != e.id) })).filter (fun g => !g.carriers.isEmpty)
  (((s.setRadio x { r with follow := follow }).bump (.bbtx x) txSkipBusy).unsent x (some stCarrierBusy) e).watchSubs

/-- EMISSION_LATEST_START of an emission: skipped, with what holds it; one that no group took, or whose group waits behind another,
finds its radio busy (03 R63, R83, R78, 05 R154). -/
def execEmissionLatestStart (radio : Radio) (emission : Nat) (s : State) : Out :=
  .next (
    let x := radio
    let isPast (e : Emission) : Bool := e.owner != .test && decide (s.latestStart e ≤ s.now)
    match (s.radio x).pend.find? (fun e => e.id == emission) with
    | some e => if isPast e then (s.bump (.bbtx x) txSkipBusy).dropPending x (some stCarrierBusy) e else s
    | none =>
      match ((s.radio x).follow.flatMap (fun g => g.carriers)).find? (fun c => c.em.id == emission) with
      | some c => if isPast c.em then s.skipFollower x c.em else s
      | none =>
        match (s.radio x).group with
        | none => s
        | some g =>
          match g.carriers.find? (fun c => c.em.id == emission) with
          | some c => if g.onAir || !isPast c.em || s.stillStarts x g c.em then s else s.skipCarrier x g c
          | none => s)

/-- A lateness parameter is about to change: emissions whose REQ or deferral has begun keep the limit they have (03 R97). -/
def State.freezeLate (s : State) : State :=
  let keep (e : Emission) : Emission := { e with late := some (e.late.getD (s.pnat (if e.sync then 0x1012 else 0x1011))) }
  let keepCarrier (c : Carrier) : Carrier := { c with em := keep c.em }
  [Radio.lb, .mb, .hb].foldl (fun (s : State) x =>
    let r := s.radio x
    let req := (s.portsOf x false).any (fun p => (s.coexPort p).req)
    s.setRadio x { r with
      pend := r.pend.map (fun e => if e.nominal < s.now then keep e else e)
      group := r.group.map (fun g =>
        if g.hold.isSome || req || decide (g.start < s.now) then { g with carriers := g.carriers.map keepCarrier } else g)
      follow := r.follow.map (fun g => if decide (g.start < s.now) then { g with carriers := g.carriers.map keepCarrier } else g) }) s

/-- The widening that the plan in force gives a cell. -/
def State.cellWiden (s : State) (net : Net) (cell : Nat) : Nat :=
  match ((s.net net).cur.map SlotPlan.cells).bind (fun l => l.find? (fun p => p.cell == cell)) with
  | some p => p.widen
  | none => 0

/-- The lane of a cell waits for the acknowledgement of a frame that ended at `t`: TsRxAckDelay after it, for TsAckWait, both widened
(06 R164, R187). -/
def State.ackWindow (s : State) (net : Net) (cell : Nat) (t : Int) : State :=
  let w : Int := s.cellWiden net cell
  let a := t + (1000 * s.netParam net 0x3009 : Nat) - w
  let b := t + (1000 * (s.netParam net 0x3009 + s.netParam net 0x300C) : Nat) + w
  { s with bb := { s.bb with lanes := s.bb.lanes.map (fun p =>
    if laneRadio p.1 == net.radio && p.2.cells.contains cell && p.2.frame.isNone then
      (p.1, { p.2 with window := some (a, b), since := some (a - 20000) })
    else p) } }

/-- The head frame of a class queue of a client has left its radio: acknowledged later, or done with (06 R163, 09 R250, 13 R388). -/
def State.clientSent (s : State) (net : Net) (c k cell : Nat) (stamp air : Nat) : State :=
  let acked := match s.cellOf net cell with | some v => v.acked | none => false
  match s.ctx? c with
  | none => s
  | some x =>
    match x.queue k with
    | [] => s
    | f :: t =>
      let s := s.ctxCount c kTxSent 1
      let s := s.modCtx c (fun y => { y with queues := tset y.queues k (if acked then { f with desc := none } :: t else t) })
      let s := if acked then
          let ended := signed 64 stamp + (airNs air : Int)
          let till := ended + (1000 * (s.netParam net 0x3009 + s.netParam net 0x300C) + s.cellWiden net cell : Nat)
          (s.setNet net { s.net net with awaiting := (s.net net).awaiting ++ [⟨c, k, till⟩] }).ackWindow net cell ended
        else s.countSent (0x10 + net.ix) f.len
      s.txStamp f.desc (some stamp) 0

/-- What a carrier's owner does once its frame has left whole. -/
def State.ownerSent (s : State) (x : Radio) (stamp : Nat) (e : Emission) : State :=
  match e.owner, x.net? with
  | .client c k cell, some net => s.clientSent net c k cell stamp e.air
  | .beacon net _, _ => s.bump (.sched net) 8
  | .broadcast net _, _ =>
    (match (s.net net).bcast with
    | f :: t => ((s.setNet net { s.net net with bcast := t }).countSent (0x10 + net.ix) f.len).txStamp f.desc (some stamp) 0
    | [] => s)
  | .span n _ id, _ =>
    (match (s.span n).txs.find? (fun t => t.id == id) with
    | some t =>
      let s := (s.bump (.span n) 1).modSpan n (fun v => { v with txs := v.txs.filter (fun u => u.id != id) })
      let psdu := t.octets.length + 4
      let s := if t.ty = 0 then (s.shaperCharge (0x20 + n) 0xFF psdu).countSent (0x20 + n) psdu else s
      s.txStamp t.desc (some stamp) 0
    | none => s)
  | _, _ => s

/-- A group ramped down: the union of its carriers is charged, the radio returns to RX and stays blanked 20 µs more, what its emission
held is released, and the next group that is locked takes the radio (03 R78, R80, R82, 04 R106, 05 R154, 08 R239). -/
def State.rampDown (s : State) (x : Radio) (g : EmGroup) : State :=
  let s := (s.setGroup x none).chargeGroup g
  let s := if (s.radio x).st = .tx then s.moveRadio x .rx false else s
  let s := s.setRadio x { s.radio x with blankTill := s.now + 20000, txStatus := g.cut.getD 0 }
  let s := if x = .lb then
      { s with rf := { s.rf with thaw := { s.rf.thaw with blanked := false, blankTill := s.slowNs + 100000 } } }
    else s
  let s := s.noteBusy x allBins s.now (s.now + 20000)
  let s := if g.blanksMb then
      (s.setRadio .mb { s.radio .mb with blankTill := s.now + 20000 }).noteBusy .mb allBins (g.stamped - rampUpNs) (s.now + 20000)
    else s
  s.endGroup x

/-- EMISSION_END: the ramp-down, and what follows for each frame; one that was cut short is charged whole and counts as not sent
(08 R239). -/
def execEmissionEnd (radio : Radio) (s : State) : Out :=
  .next (
    match (s.radio radio).group with
    | none => s
    | some g =>
      if !g.onAir then s
      else
        match g.cut with
        | some v => g.carriers.foldl (fun (s : State) c => s.unsent radio (some v) c.em) (s.rampDown radio g)
        | none => g.carriers.foldl (fun (s : State) c => s.ownerSent radio (unsigned 64 g.stamped) c.em) (s.rampDown radio g))

end Sys2Proof.Machine
end

