-- ==== Sys2Proof/Machine/Cipher.lean ====
section
/-! DEFINITION. The cipher engine: the end of receiving graphs, requests, entropy and the commands of the group (10). -/

namespace Sys2Proof.Machine

/-! ### The end of a receiving graph (10 R292, R299, 06 R171, 09 R254, R274) -/

def State.modCheck (s : State) (id : Nat) (f : RxCheck → RxCheck) : State :=
  { s with bb := { s.bb with checks := s.bb.checks.map (fun k => if k.id = id then f k else k) } }

/-- The replay verdict on a frame whose MIC has passed, with the context as the acceptance leaves it (09 R254, 10 R299). -/
def State.replayVerdict (s : State) (k : RxCheck) (x : Ctx) : ReplayVerdict × Ctx :=
  if !x.joined || (k.keyB && x.keyB == 0xFFFF) then (.reject, x)
  else if s.asnNonce k.net then
    if x.lastAsn = 0 ∨ 0 < sdiff 40 k.asn x.lastAsn then (.accept, { x with lastAsn := k.asn }) else (.reject, x)
  else if k.keyB then
    let (v, h, m) := replayCheck x.highB x.mapB k.hdr.counter
    (v, { x with highB := h, mapB := m, lastAsn := k.asn })
  else
    let (v, h, m) := replayCheck x.highA x.mapA k.hdr.counter
    (v, { x with highA := h, mapA := m, lastAsn := k.asn })

/-- The emissions of a network's radio that already answer in the timeslot: acknowledgements pending or in the group. -/
def State.acksPending (s : State) (x : Radio) : Nat :=
  (((s.radio x).pend ++ ((s.radio x).group.toList ++ (s.radio x).follow).flatMap (fun g => g.carriers.map (fun c => c.em))).filter
    (fun e => match e.owner with | .ack .. => true | _ => false)).length

/-- The acknowledgement of an accepted frame made pending, where R14 allows it and a carrier is left (01 R14, 06 R171, R191, 10 R299),
sealed under the slot for frames to its client (log entry 192). One
whose checks ended after its plan lock counts under TX_LATE_DATA (05 R156); one whose context is not resident any more, as a miss, where
its frame did not count as one (09 R260). -/
def State.answerAck (s : State) (k : RxCheck) (x : Ctx) : State :=
  let r := k.net.radio
  let slot := if x.txB then x.keyB else x.keyA
  let at_ := k.ended + (1000 * s.netParam k.net 0x300A : Nat)
  if !k.ack then s
  else if !s.resident k.ctx then (if k.rx.matched then s.bump .firn 2 else s)
  else if s.asnHeld k.net k.asn then s.setRadio r { s.radio r with txStatus := stAsnMarkHold }
  else if at_ < s.now + s.lockLead r then s.bump (.bbtx r) txLateData
  else if s.maxCarriers r ≤ s.acksPending r then s.bump (.sched k.net) 6
  else if s.asnNonce k.net && (s.asnTaken k.net false).contains slot then s
  else
    match s.sealFrame k.net false slot 0 (Config.ackLen k.net.ix) 0 with
    | (some st, s) => s.setRadio r { s.radio r with txStatus := st }
    | (none, s) => s.addEmission r {
      id := 0, owner := .ack k.ctx k.lane, cls := 1, nominal := at_, sync := k.sync, khz := k.khz, mode := some (s.netMode k.net),
      chains := 1, air := s.clientAir k.net (Config.ackLen k.net.ix + micLen (frameLevel k.net k.ctx) + s.fcsLen k.net) false, power := s.txMax r, lane := k.lane }

/-- An acknowledgement that has passed its checks: the frame it answers is done with (09 R250, R251). -/
def State.ackArrived (s : State) (k : RxCheck) : State :=
  match (s.net k.net).awaiting.find? (fun a => a.ctx == k.ctx), s.ctx? k.ctx with
  | some a, some x =>
    let s := s.setNet k.net { s.net k.net with awaiting := (s.net k.net).awaiting.filter (fun b => b != a) }
    (match x.queue a.cls with
    | f :: t =>
      (((s.countSent (0x10 + k.net.ix) f.len).modCtx k.ctx (fun y => { y with queues := tset y.queues a.cls t })).ctxCount k.ctx kTxAcked 1).ctxCount k.ctx kTxOctets
        (s.framePsdu k.net f)
    | [] => s)
  | _, _ => s

/-- A DSME-GTS command is served by the slot engine: a request is answered by a reply in the CAP, in a queue of its own behind the access
classes, by slotted CSMA-CA; the standard fixes its octets and draws its backoff (06 R163; log entries 3, 158). -/
def State.serveGts (s : State) (k : RxCheck) : State :=
  match k.hdr.gts with
  | some .request =>
    let b := Config.gtsReply k.net.ix
    let (w, s) := s.draw
    s.modCtx k.ctx (fun y => { y with queues := tset y.queues 4 (y.queue 4 ++ [{ octets := b, len := b.length, ctx := k.ctx, backoff := w }]) })
  | _ => s

/-- An accepted client frame (01 R14, 04 R111, R115, 06 R187, 09 R251, 10 R295). -/
def State.acceptClient (s : State) (k : RxCheck) (x : Ctx) : State :=
  let s := (s.endCheck k.id).modCtx k.ctx (fun _ => x)
  let s := ((s.bump .cipher 2).ctxCount k.ctx kRxAccepted 1).ctxCount k.ctx kRxOctets (k.rx.len.getD 0)
  let s := (s.syncClient k.ctx).levelUpdate k.ctx k.rx.rssi k.rx.offset k.khz
  let s := s.modCtx k.ctx (fun y => { y with narrowMiss := 0 })
  if k.rx.isAck then s.ackArrived k
  else if k.hdr.gts.isSome then (s.serveGts k).answerAck k x
  else
    let p : InPkt := { octets := k.payload, port := 0x10 + k.net.ix, cls := 0, ctx := k.ctx,
                       short := if k.hdr.srcExt.isSome then none else some k.hdr.srcShort, time := some (unsigned 64 k.rx.stamp),
                       trailer := if k.trailer = [] then none else some (laneRadio k.lane, k.trailer) }
    { s with rt := { s.rt with inbox := s.rt.inbox ++ [p] } }.answerAck k x

/-- A client frame whose MIC has passed: the replay check, and the wait for the void summary (09 R254, R274). -/
def State.clientPassed (s : State) (k : RxCheck) : State :=
  match s.ctx? k.ctx with
  | none => s.endCheck k.id
  | some x =>
    match s.replayVerdict k x with
    | (.dup, _) => ((s.endCheck k.id).bump .cipher 4).ctxCount k.ctx kRxDup 1
    | (.reject, _) => ((s.endCheck k.id).bump .cipher 4).ctxCount k.ctx kReplay 1
    | (.accept, y) =>
      if s.summaryFinal then
        if !s.holdupOk (writeCost (recSize 0x0400)) then ((s.endCheck k.id).raiseShort 0x0400 (recSize 0x0400))
        else
          let s := s.modCheck k.id (fun c => { c with voidWait := true, keyB := k.keyB })
          if s.voidUnderWay then s else s.voidSummary [deviceOwner]
      else s.acceptClient k y

/-- The void summary is written: the frames that waited for it go on (09 R274). -/
def State.afterVoid (s : State) : State :=
  (s.bb.checks.filter (fun k => k.voidWait)).foldl (fun (s : State) k => s.clientPassed { k with voidWait := false }) s

/-- A beacon of the time parent whose MIC has passed: one measurement (06 R193, R194, 13 R380, R384). -/
def State.beaconPassed (s : State) (k : RxCheck) (e : Int) (bound : Nat) : State :=
  (s.endCheck k.id).parentTime (0x0100 + k.net.ix) e (bound + phyAccuracy (s.netMode k.net) + s.pnat 0xB009)

/-- TAG_CHECK_DONE of the graph of instance `inst`, whose rime units end with it; it can come only once the frame's units are reserved
(10 R292-R295). Of a client frame the decoder gives fields and payload, and the command the verdict on its MIC (log entry 194). -/
def execTagCheckDone (check : TagCheck) (s : State) : Out :=
  .next (
    if !s.awake then s else
    match check with
    | .span id inst => if s.rimeHeld (rxInst id) then (s.spanCheck id).rimeFreeFor inst else s
    | .client id pass keyB inst =>
      match s.bb.checks.find? (fun k => k.id == id) with
      | none => s
      | some k =>
        if k.waits || k.voidWait || !s.rimeHeld (rxInst id) then s
        else
        let s := s.modCheck id (fun c => { c with inst := some inst })
        if !pass then
          let s := (s.endCheck id).bump .cipher 3
          if k.hdr.beacon.isSome then s else s.ctxCount k.ctx kMicFail 1
        else
          match k.hdr.beacon with
          | some b => (s.bump .cipher 2).beaconPassed k b.corr b.bound
          | none => s.clientPassed { k with keyB := keyB, inst := some inst })

/-! ### Requests and the mask generator (10 R280, R281, R286-R288, R296) -/

/-- MASK_RESEED after 4,096 blocks; without conditioned output the seed is late, and is taken as soon as there is some (10 R280). -/
def execMaskReseed (s : State) : Out :=
  .next (
    if s.cipher.maskBlocks < 4096 || !s.awake then s
    else
      let s := { s with cipher := { s.cipher with maskBlocks := s.cipher.maskBlocks - 4096 } }
      if s.entropyOk then s else { s with cipher := { s.cipher with maskLate := true } }.bump .cipher 17)

/-- KEY_SHARE_REFRESH after 65,536 requests (10 R281). -/
def execKeyShareRefresh (slot : Nat) (s : State) : Out :=
  .next (
    match (if s.awake then tfind s.cipher.keys slot else none) with
    | some k =>
      if k.requests < 65536 then s
      else
        match s.drbgUse with
        | (.served, s) => s.setKey slot { k with requests := k.requests - 65536 }
        | (_, s) => s
    | none => s)

/-- A host request that waits names a slot: for its operation, or as the key that unwraps another (10 R286). -/
def State.hostNames (s : State) (slot : Nat) : Bool :=
  (s.cipher.hostWait ++ s.cipher.drbgWait.map (fun p => p.2)).any (fun q =>
    if q.opcode = 0x7001 then q.has 5 && q.nat 5 == slot else q.opcode != 0x7009 && q.nat 1 == slot)

/-- KEY_ERASE_DONE: the requests queued for the slot are complete, and the slot is zeroed (10 R286). -/
def execKeyEraseDone (slot : Nat) (s : State) : Out :=
  .next (
    match (if s.awake then tfind s.cipher.keys slot else none) with
    | some k =>
      (match k.erasing with
      | some ch =>
        if s.cipher.queues.any (fun q => q.2.any (fun r => r.slot == slot)) || s.hostNames slot then s
        else { s with cipher := { s.cipher with keys := tdel s.cipher.keys slot } }.release ch stOk []
      | none => s)
    | none => s)

/-! ### Commands (10 R284-R286, R303-R306) -/

/-- A body for a command whose TLV 1 is a key slot. -/
def withSlot (f : Nat → Req → State → Reply × State) : Body := fun q s =>
  if 8191 < q.nat 1 then (naming stRange 1, s) else f (q.nat 1) q s

/-- A usage byte that R283 allows. -/
def usageOk (u : Nat) : Bool :=
  let counted := flag (u.testBit 0) 0 + flag (u.testBit 1) 0 + flag (u.testBit 5) 0
  !u.testBit 7 && decide (counted ≤ 1) && !(u.testBit 2 && counted == 1) && !(u.testBit 6 && u != 64)

def keyLoadSpec : TlvSpec := { rows := [{ ty := 1, len := .exact 2 }, { ty := 2, len := .exact 1 },
  { ty := 3, len := .range 16 32, must := false }, { ty := 4, len := .range 24 40, must := false },
  { ty := 5, len := .exact 2, must := false }, { ty := 6, len := .exact 8, must := false }] }

/-- The request has been run before, and its response waits. -/
def State.hasWaited (s : State) (q : Req) : Bool := (s.chan q.ch).held.isSome

/-- The key of a slot for a host request; one that was queued before the slot's erasure is served with the key (10 R286). -/
def State.keyServe (s : State) (q : Req) (slot use_ : Nat) : Except Nat KeySlot :=
  match s.keyFor slot use_ with
  | .ok k => .ok k
  | .error e =>
    match (if s.hasWaited q then tfind s.cipher.keys slot else none) with
    | some k => if k.erasing.isSome && k.usage.testBit use_ then .ok k else .error e
    | none => .error e

/-- The key that a load brings, or the fault of its TLVs (10 R284). -/
def State.loadKey (s : State) (q : Req) : Except Reply Bytes :=
  if q.has 3 && q.has 4 then .error (naming stBadTlv 4)
  else if !q.has 3 && !q.has 4 then .error (naming stBadTlv 3)
  else if q.has 4 && !q.has 5 then .error (naming stBadTlv 5)
  else if q.has 3 && q.has 5 then .error (naming stBadTlv 5)
  else if q.has 3 then
    (if (q.bytes 3).length = 16 ∨ (q.bytes 3).length = 32 then .ok (q.bytes 3) else .error (naming stBadLength 3))
  else if (q.bytes 4).length ≠ 24 ∧ (q.bytes 4).length ≠ 40 then .error (naming stBadLength 4)
  else
    match s.keyServe q (q.nat 5) 6 with
    | .error e => .error (naming e 5)
    | .ok k =>
      match keyUnwrap k.key (q.bytes 4) with
      | some v => .ok v
      | none => .error (plain stUnwrap)

/-- The start value of a counted load (10 R303). -/
def State.startCounter (s : State) (slot use_ : Nat) (key : Bytes) (least : Nat) : Nat :=
  let base := match s.nvMark slot with
    | some e => if e.check = keyCheck key % 65536 then e.mark + 4096 else 0
    | none => 0
  min (lastCounter use_) (max base least)

/-- A request waits for a reseed (10 R309). -/
def State.awaitSeed (s : State) (q : Req) : State :=
  { s with cipher := { s.cipher with drbgWait := s.cipher.drbgWait ++ [(s.time.raw, q)] } }

/-- The load itself, once its shares can be made: at once, or with its mark entry's write for a counted use (10 R303). -/
def State.startLoad (s : State) (ch slot usage : Nat) (key : Bytes) (least : Nat) : Reply × State :=
  match countedUse usage with
  | none => (okReply [tlvN 7 4 (keyCheck key), tlvN 8 8 0], s.setKey slot { key := key, usage := usage })
  | some u =>
    let c := s.startCounter slot u key least
    let e : MarkEntry := { mark := c / 4096 * 4096, check := keyCheck key % 65536 }
    match s.writeRefused (writeCost (recSize (markRecord slot))) with
    | some st => (plain st, s)
    | none =>
      let s := { s with cipher := { s.cipher with loads := tset s.cipher.loads slot { slot := { key := key, usage := usage, counter := c }, entry := e } } }
      (.wait [tlvN 7 4 (keyCheck key), tlvN 8 8 c],
        s.recordFor (markRecord slot) true [{ chan := some ch, eff := .keyLoad slot }])

/-- A host service request waits: it is served again when what it waits for may have come (10 R287, R296). -/
def State.awaitHost (s : State) (q : Req) : State := { s with cipher := { s.cipher with hostWait := s.cipher.hostWait ++ [q] } }

/-- A host service request goes to queue `cipher.host_queue`; while that queue is full it is held back, and counted once (10 R287). Once it
has its place it is served within the step (DESIGN CHOICE: log entry 195). -/
def onHostQueue (f : Nat → Req → State → Reply × State) : Nat → Req → State → Reply × State := fun slot q s =>
  if 64 ≤ (s.cipherQueue (s.pnat 0x7001)).length then
    (.wait [], (s.bumpBy .cipher 6 (if s.hasWaited q then 0 else 1)).awaitHost q)
  else f slot q s

/-- KEY_UNWRAP has run under its key-encryption key: a use of that slot, in six steps per word of the key; a load that comes back from a
wait has been counted (10 R281, R290). -/
def State.unwrapUse (s : State) (q : Req) : State :=
  if q.has 3 || !q.has 4 || s.hasWaited q then s
  else (s.countUse (q.nat 5)).useBlocks (6 * ((q.bytes 4).length / 8 - 1))

def keyLoadBody : Body := withSlot <| onHostQueue fun slot q s =>
  if !usageOk (q.nat 2) then (naming stKeyUsage 2, s)
  else if thas s.cipher.keys slot || thas s.cipher.loads slot then (plain stKeyOccupied, s)
  else
    match s.loadKey q with
    | .error r => (r, if r = plain stUnwrap then (s.unwrapUse q).bump .cipher 13 else s)
    | .ok key =>
      match (s.unwrapUse q).drbgUse with
      | (.fails, s) => (plain stEntropy, s)
      | (.waits, s) => (.wait [], s.awaitSeed q)
      | (.served, s) => (s.useBlocks 1).startLoad q.ch slot (q.nat 2) key (q.nat 6)

/-- CIPHER_KEY_LOAD (10 R283-R285, R303, R308). -/
def execCipherKeyLoad (ch : Nat) (s : State) : Out := .next (s.serve ch 0x7001 keyLoadSpec keyLoadBody)

/-- A context, a span selector or the key set of a running network names a slot (10 R286). -/
def State.keyInUse (s : State) (slot : Nat) : Bool :=
  s.firn.ctxs.any (fun p => p.2.keyA == slot || p.2.keyB == slot)
    || s.spans.any (fun p => p.2.isOpen && p.2.keys.any (fun k => k.2 == slot))
    || [Net.lb, .mb].any (fun n => (s.net n).running && (s.net n).keys.contains slot)

def oneSlotSpec : TlvSpec := { rows := [{ ty := 1, len := .exact 2 }] }

def keyEraseBody : Body := withSlot fun slot q s =>
  match tfind s.cipher.keys slot with
  | none => (plain stKeyEmpty, s)
  | some k =>
    if k.erasing.isSome then (plain stKeyEmpty, s)
    else if s.keyInUse slot then (plain stKeyInUse, s)
    else (.wait [], s.setKey slot { k with erasing := some q.ch })

/-- CIPHER_KEY_ERASE (10 R286); KEY_ERASE_DONE answers it. -/
def execCipherKeyErase (ch : Nat) (s : State) : Out := .next (s.serve ch 0x7002 oneSlotSpec keyEraseBody)

/-- An empty slot has no check value: that field is a free value (log entry 3). -/
def keyInfoBody : Body := withSlot fun slot _ s =>
  let tail (pending : Bool) : List Tlv := [tlvN 7 8 (s.markInNv slot), ⟨8, boolByte pending⟩]
  match tfind s.cipher.keys slot with
  | none =>
    let (v, s) := s.draw
    (okReply ([tlvN 2 1 0, tlvN 3 1 0, tlvN 4 1 0, tlvN 5 4 v, tlvN 6 8 0] ++ tail (thas s.cipher.loads slot)), s)
  | some k =>
    (okReply ([tlvN 2 1 (if k.isExhausted then 2 else 1), tlvN 3 1 k.key.length, tlvN 4 1 k.usage, tlvN 5 4 (keyCheck k.key),
      tlvN 6 8 k.counter] ++ tail k.markDue.isSome), s)

/-- CIPHER_KEY_INFO (10 R285). -/
def execCipherKeyInfo (ch : Nat) (s : State) : Out := .next (s.serve ch 0x7003 oneSlotSpec keyInfoBody)

/-- An area of `n` octets lies in the host area (10 R304); one of no octets needs none. -/
def State.cipherArea (s : State) (off n : Nat) : Bool := n == 0 || s.areaOk off n

/-- Output that overlaps input at another offset; an area of no octets overlaps nothing (10 R304). -/
def overlaps (inOff inLen outOff outLen : Nat) : Bool :=
  inOff != outOff && inLen != 0 && outLen != 0 && decide (inOff < outOff + outLen) && decide (outOff < inOff + inLen)

/-- A host service request executed on a slot: counted, with its blocks (10 R310). -/
def State.hostUse (s : State) (slot n : Nat) : State := ((s.bump .cipher 12).countUse slot).useBlocks n

def rawSpec : TlvSpec := { rows := [{ ty := 1, len := .exact 2 }, { ty := 2, len := .exact 1 }, { ty := 3, len := .exact 4 },
  { ty := 4, len := .exact 4 }, { ty := 5, len := .exact 2 }] }

def rawBody : Body := withSlot <| onHostQueue fun slot q s =>
  let n := q.nat 5
  if 1 < q.nat 2 then (naming stRange 2, s)
  else if n = 0 ∨ 1024 < n then (naming stRange 5, s)
  else if !s.cipherArea (q.nat 3) (16 * n) || !s.cipherArea (q.nat 4) (16 * n) || overlaps (q.nat 3) (16 * n) (q.nat 4) (16 * n) then
    (plain stCipherPlacement, s)
  else
    match s.keyServe q slot 2 with
    | .error e => (plain e, s)
    | .ok k =>
      let f := if q.nat 2 = 0 then aesEncrypt k.key else aesDecrypt k.key
      let out := (blocks (s.winRead (q.nat 3) (16 * n))).flatMap f
      (okReply [], (s.winWrite (q.nat 4) out).hostUse slot n)

/-- CIPHER_RAW (10 R304, R305). -/
def execCipherRaw (ch : Nat) (s : State) : Out := .next (s.serve ch 0x7004 rawSpec rawBody)

def ctrSpec : TlvSpec := { rows := [{ ty := 1, len := .exact 2 }, { ty := 2, len := .exact 16 }, { ty := 3, len := .exact 4 },
  { ty := 4, len := .exact 4 }, { ty := 5, len := .exact 2 }] }

def ctrBody : Body := withSlot <| onHostQueue fun slot q s =>
  let n := q.nat 5
  if 16384 < n then (naming stRange 5, s)
  else if !s.cipherArea (q.nat 3) n || !s.cipherArea (q.nat 4) n || overlaps (q.nat 3) n (q.nat 4) n then (plain stCipherPlacement, s)
  else
    match s.keyServe q slot 3 with
    | .error e => (plain e, s)
    | .ok k =>
      let out := ctrMode k.key 4 (q.bytes 2) (blocks (s.winRead (q.nat 3) n))
      (okReply [], (s.winWrite (q.nat 4) out).hostUse slot (ceilDiv n 16))

/-- CIPHER_CTR (10 R304, R305). -/
def execCipherCtr (ch : Nat) (s : State) : Out := .next (s.serve ch 0x7005 ctrSpec ctrBody)

def cmacSpec : TlvSpec := { rows := [{ ty := 1, len := .exact 2 }, { ty := 3, len := .exact 4 }, { ty := 5, len := .exact 2 }] }

def cmacBody : Body := withSlot <| onHostQueue fun slot q s =>
  let n := q.nat 5
  if 16384 < n then (naming stRange 5, s)
  else if !s.cipherArea (q.nat 3) n then (plain stCipherPlacement, s)
  else
    match s.keyServe q slot 4 with
    | .error e => (plain e, s)
    | .ok k => (okReply [⟨6, cmac k.key (s.winRead (q.nat 3) n)⟩], s.hostUse slot (1 + max 1 (ceilDiv n 16)))

/-- CIPHER_CMAC (10 R304). -/
def execCipherCmac (ch : Nat) (s : State) : Out := .next (s.serve ch 0x7006 cmacSpec cmacBody)

def aeadSpec : TlvSpec := { rows := [{ ty := 1, len := .exact 2 }, { ty := 2, len := .exact 4 }, { ty := 3, len := .exact 2 },
  { ty := 4, len := .exact 4 }, { ty := 5, len := .range 7 13 }, { ty := 6, len := .exact 1 }, { ty := 7, len := .exact 2 },
  { ty := 8, len := .exact 4 }, { ty := 9, len := .exact 1 }] }

/-- The checks that seal and open share: `inLen` and `outLen` octets move. -/
def State.aeadFault (s : State) (q : Req) (nonceLen inLen outLen : Nat) : Option Reply :=
  if 1 < q.nat 6 then some (naming stRange 6)
  else if (q.bytes 5).length ≠ nonceLen then some (naming stBadLength 5)
  else if q.nat 9 ≠ 8 ∧ q.nat 9 ≠ 16 then some (naming stRange 9)
  else if 16384 < q.nat 7 ∨ 1024 < q.nat 3 then some (plain stAeadLength)
  else if !s.cipherArea (q.nat 2) (q.nat 3) || !s.cipherArea (q.nat 4) inLen || !s.cipherArea (q.nat 8) outLen
      || overlaps (q.nat 4) inLen (q.nat 8) outLen || overlaps (q.nat 2) (q.nat 3) (q.nat 8) outLen then some (plain stCipherPlacement)
  else none

/-- The sealed message written to the host area. -/
def State.sealOut (s : State) (slot : Nat) (key nonce : Bytes) (q : Req) : Reply × State :=
  let (ct, tag) := ccmSeal key nonce (s.winRead (q.nat 2) (q.nat 3)) (s.winRead (q.nat 4) (q.nat 7)) (q.nat 9)
  (okReply [⟨0xA, nonce⟩], ((s.winWrite (q.nat 8) (ct ++ tag)).bump .cipher 1).hostUse slot (aeadBlocks (q.nat 3) (q.nat 7)))

/-- A counter that waits for its mark answers COUNTER_HELD: R37 gives the command 1 ms (10 R302; log entry 40). -/
def sealBody : Body := withSlot <| onHostQueue fun slot q s =>
  let own := q.nat 6 == 1
  match s.aeadFault q (if own then 13 else 7) (q.nat 7) (q.nat 7 + q.nat 9) with
  | some r => (r, s)
  | none =>
    match s.keyServe q slot 5 with
    | .error e => (plain e, s)
    | .ok k =>
      if own then s.sealOut slot k.key (q.bytes 5) q
      else
        match s.takeCounter false slot 5 k with
        | (.exhausted, s) => (plain stExhausted, s)
        | (.held, s) => (plain stCounterHeld, s)
        | (.taken c, s) => s.sealOut slot k.key (leBytes 6 c ++ q.bytes 5) q

/-- CIPHER_SEAL (10 R293, R304, R306). -/
def execCipherSeal (ch : Nat) (s : State) : Out := .next (s.serve ch 0x7007 aeadSpec sealBody)

/-- CIPHER_OPEN: an operation that cannot reserve its rime units waits for them in its order; it gives them back in the step that serves it
(10 R294-R296). -/
def openBody : Body := withSlot <| onHostQueue fun slot q s =>
  let n := q.nat 7
  let use_ : RimeUse := ⟨hostInst q.ch, rimeNeed n, s.pnat 0x7001, []⟩
  match s.aeadFault q 13 (n + q.nat 9) n with
  | some r => (r, s.rimeFreeFor use_.inst)
  | none =>
    match s.keyServe q slot 5 with
    | .error e => (plain e, s.rimeFreeFor use_.inst)
    | .ok k =>
      if !s.rimeHeld use_.inst && !s.rimeReady use_ then (.wait [], (s.rimeHold use_).awaitHost q)
      else
        let s := s.rimeFreeFor use_.inst
        let ct := s.winRead (q.nat 4) n
        let tag := s.winRead (q.nat 4 + n) (q.nat 9)
        let s' := s.hostUse slot (aeadBlocks (q.nat 3) n)
        match ccmOpen k.key (q.bytes 5) (s.winRead (q.nat 2) (q.nat 3)) ct tag with
        | some pt => (okReply [], (s'.winWrite (q.nat 8) pt).bump .cipher 2)
        | none => (plain stTag, s'.bump .cipher 3)

def execCipherOpen (ch : Nat) (s : State) : Out := .next (s.serve ch 0x7008 aeadSpec openBody)

def randomBody : Body := fun q s =>
  if q.nat 1 = 0 ∨ 256 < q.nat 1 then (naming stRange 1, s)
  else
    match s.drbgUse with
    | (.fails, s) => (plain stEntropy, s)
    | (.waits, s) => (.wait [], s.awaitSeed q)
    | (.served, s) =>
      let (b, s) := s.randomBytes (q.nat 1)
      (okReply [⟨2, b⟩], s)

/-- CIPHER_RANDOM (10 R308, R309). -/
def execCipherRandom (ch : Nat) (s : State) : Out :=
  .next (s.serve ch 0x7009 { rows := [{ ty := 1, len := .exact 2 }] } randomBody)

/-- CIPHER_COUNTERS_GET (10 R310). -/
def execCipherCountersGet (ch : Nat) (s : State) : Out := .next (s.serve ch 0x700A clearSpec (countersBody .cipher 17))

/-! ### Waiting requests, entropy and the DRBG (10 R296, R307-R309) -/

/-- A request that waited is run again: answered now, or left waiting with what its response will carry. -/
def State.rerun (s : State) (q : Req) (body : Body) : State :=
  match body q s with
  | (.now st tlvs, s) => s.release q.ch st tlvs
  | (.wait tlvs, s) =>
    match (s.chan q.ch).held with
    | some h => { s with chans := tset s.chans q.ch { s.chan q.ch with held := some { h with tlvs := tlvs } } }
    | none => s

/-- What a waiting host service request runs. -/
def hostBody (opcode : Nat) : Body :=
  if opcode = 0x7001 then keyLoadBody else if opcode = 0x7004 then rawBody else if opcode = 0x7005 then ctrBody else if opcode = 0x7006 then cmacBody
  else if opcode = 0x7007 then sealBody else openBody

/-- Waiting host service requests run again, the oldest first; one that must still wait goes on waiting. -/
def State.serveHost (s : State) : State :=
  s.cipher.hostWait.foldl (fun (s : State) q => s.rerun q (hostBody q.opcode)) { s with cipher := { s.cipher with hostWait := [] } }

/-- Requests that waited for the DRBG run again, the oldest first. -/
def State.serveDrbg (s : State) : State :=
  let l := s.cipher.drbgWait
  l.foldl (fun (s : State) p => s.rerun p.2 (if p.2.opcode = 0x7001 then keyLoadBody else randomBody))
    { s with cipher := { s.cipher with drbgWait := [] } }

/-- CIPHER_REQUEST_COMPLETE: the oldest request of a queue is done, its output and its completion record are written (10 R288; which queue
is served next is the pipeline's, block by block: log entry 195); a node or a host request that found the
queue full may go on. -/
def execCipherRequestComplete (queue : Nat) (s : State) : Out :=
  .next (
    match (if s.awake then tget [] s.cipher.queues queue else []) with
    | [] => s
    | r :: rest =>
      let s := { s with cipher := { s.cipher with queues := tset s.cipher.queues queue rest } }
      let s := (((s.pipeOut r).cipherDone r 0 r.blocks).countUse r.slot).useBlocks r.blocks
      let s := match r.graph with
        | .transmit _ | .transmitAsn _ => s.bump .cipher 1
        | _ => s
      s.retryNodes.serveHost)

/-- RIME_UNITS_RESERVED: the first waiting graph reserves its units, and its node fires; host operations that wait try again
(10 R296). -/
def execRimeUnitsReserved (inst : Nat) (s : State) : Out :=
  .next (if s.awake then (s.rimeGrant inst).retryNodes.serveHost else s)

/-- ENTROPY_STARTUP_PASS (10 R307); what waited for a seed is served. -/
def execEntropyStartupPass (s : State) : Out :=
  .next (
    if s.cipher.entropyFailed || !s.awake then s
    else { s with cipher := { s.cipher with entropyReady := true, maskLate := false } }.serveDrbg)

def EntropyTest.code : EntropyTest → Nat
  | .repetition => 1 | .proportion => 2 | .startup => 3

/-- ENTROPY_TEST_FAIL (10 R308). -/
def execEntropyTestFail (test : EntropyTest) (s : State) : Out :=
  .next (
    if s.cipher.entropyFailed || !s.awake then s
    else
      let s := match test with
        | .repetition => s.bump .cipher 14
        | .proportion => s.bump .cipher 15
        | .startup => s
      let fails := s.time.aon :: s.cipher.entropyFails.filter (fun t => decide (s.time.aon < t + 32768))
      let s := { s with cipher := { s.cipher with entropyReady := false, entropyFails := fails } }
      if fails.length < 3 then s
      else
        let s := { s with cipher := { s.cipher with entropyFailed := true } }
        (s.serveDrbg).raise 0x7005 [u8 test.code, u8 (min 255 fails.length)])

/-- DRBG_RESEED once it is due and the source can serve it (10 R309). -/
def execDrbgReseed (s : State) : Out :=
  .next (if s.awake && s.reseedDue && s.entropyOk then s.drbgSeed.serveDrbg else s)

/-- DRBG_RESEED_WAIT_EXPIRY: what has waited 10 ms is refused (10 R309). -/
def execDrbgReseedWaitExpiry (s : State) : Out :=
  .next (
    let late := fun (p : Nat × Req) => s.ranUs (some p.1) 10000
    if !s.awake then s
    else (s.cipher.drbgWait.filter late).foldl (fun (s : State) p => s.release p.2.ch stEntropy [])
      { s with cipher := { s.cipher with drbgWait := s.cipher.drbgWait.filter (fun p => !late p) } })

end Sys2Proof.Machine
end

