-- ==== Sys2Proof/Machine/Lanes.lean ====
section
/-! DEFINITION. Serial lanes, their tests, Ethernet ports, MDIO (14 R394-R403, R418, R419). -/

namespace Sys2Proof.Machine

def stLaneRole : Nat := 0xC101
def stMdioAddr : Nat := 0xC102

/-! ### Lanes and what they carry -/

/-- A lane is in use: its port has a role, or it is wired to a peer (14 R395, R404). -/
def State.laneUsed (s : State) (i : Nat) : Bool := if i < 4 then s.portRole i != 0 else (s.lanePeer (i - 4)).isSome

/-- The SERDES domain runs: in ACTIVE, DOZE, and in NAP while a lane is up (01 R17, R18). -/
def State.serdesOn (s : State) : Bool :=
  !s.sys.hold.held && (s.sys.pstate == .active || s.sys.pstate == .doze
    || (s.sys.pstate == .nap && (List.range 8).any (fun i => (s.serLane i).st == .up)))

/-- Baud rate in Mbaud: SGMII and 1000BASE-X 1,250; 2500BASE-X 3,125; cascade 6,250. -/
def State.laneRate (s : State) (i : Nat) : Nat :=
  if 4 ≤ i then 6250 else if s.pnat (0xC010 + i) = 2 then 3125 else 1250

/-- The active members of the aggregation group as a mask. -/
def State.lagMask (s : State) : Nat :=
  s.lagMembers.foldl (fun m p => if (s.ethPort p).up && (s.ethPort p).active then m + 2 ^ p else m) 0

/-- A port goes down: EV_ETH_LINK; a member leaves the active set, and the frame it was sending is lost (14 R399, R403, 17 R462). `fault` is what the
kind of the log entry has added, where the loss is a fault. -/
def State.portDown (s : State) (p : Nat) (fault : Option Nat) : State :=
  let x := s.ethPort p
  if !x.up then s
  else
    let s := (s.setEth p { x with up := false, active := false }).raise 0xC003 [u8 p, boolByte false, u16 0]
    if s.portRole p ≠ 2 then s
    else
      let s := if s.now < tget 0 s.rt.sending p then s.bump (.eth (s.groupPort p)) 9 else s
      let s := s.raise 0xC004 [u8 p, u8 s.lagMask]
      match fault with
      | some extra => s.logFault (5 + extra) p 0
      | none => s

/-- A lane taken out of UP: its port or link loses it (14 R397, R406, R418). -/
def State.laneGone (s : State) (i lost : Nat) (fault : Option Nat) : State :=
  if i < 4 then s.portDown i fault
  else
    let s := match fault with
      | some extra => s.logFault (4 + extra) i 0
      | none => s
    s.cascLaneLost (i - 4) lost

/-- A lane put into a state that is not UP, with EV_LANE_DOWN where it was UP. -/
def State.laneDrop (s : State) (i : Nat) (target : LaneState) (cause lost : Nat) (fault : Option Nat) : State :=
  let l := s.serLane i
  let s := s.setSerLane i { l with st := target, markers := 0, locked := false }
  if l.st = .up then (s.raise 0xC002 [u8 i, u8 cause]).laneGone i lost fault else s

/-- A lane lost under R396: to ACQUIRE, counted, and logged as a fault. -/
def State.laneLoss (s : State) (i : Nat) (lockLost : Bool) (lost extra : Nat) : State :=
  let s := if lockLost then s else s.setSerLane i { s.serLane i with invalid := satAdd 0xFFFFFFFF (s.serLane i).invalid 4 }
  let s := if i < 4 then s.bump (.eth i) 8 else s.bump .casc 9
  s.laneDrop i .acquire (if lockLost then 0 else 1) lost (some extra)

/-- A lane through bring-up again, as by LANE_RETRAIN (14 R418). -/
def State.retrain (s : State) (i : Nat) : State :=
  let was := (s.serLane i).st
  let s := s.laneDrop i .acquire 3 0 none
  if was = .up then s else s.raise 0xC002 [u8 i, u8 3]

/-- A lane enabled, disabled or brought up again after a declaration (02 R51, 14 R395). -/
def State.laneDeclared (s : State) (i : Nat) (changed : Bool) : State :=
  if !s.laneUsed i then (s.laneDrop i .disabled 3 0 none).setSerLane i {}
  else if (s.serLane i).st = .disabled then s.setSerLane i { s.serLane i with st := .acquire }
  else if changed then s.retrain i
  else s

/-! ### Bring-up (14 R395, R396) -/

/-- LANE_CDR_LOCK. -/
def execLaneCdrLock (lane : Nat) (s : State) : Out :=
  .next (if s.serdesOn && (s.serLane lane).st == .acquire then s.setSerLane lane { s.serLane lane with st := .align } else s)

/-- LANE_COMMA_FOUND: in either polarity. -/
def execLaneCommaFound (lane : Nat) (inverted : Bool) (s : State) : Out :=
  .next (
    if s.serdesOn && (s.serLane lane).st == .align then s.setSerLane lane { s.serLane lane with st := .sync, inverted := inverted } else s)

/-- LANE_SYNC_DONE: 64 consecutive valid code groups. -/
def execLaneSyncDone (lane : Nat) (s : State) : Out :=
  .next (
    if s.serdesOn && (s.serLane lane).st == .sync then
      (s.setSerLane lane { s.serLane lane with st := .up, markers := 0 }).raise 0xC001 [u8 lane]
    else s)

/-- LANE_SYNC_LOSS: four invalid code groups of 32, or loss of lock; `lost` cascade packets straddle the change (14 R396, R406). -/
def execLaneSyncLoss (lane : Nat) (lockLost : Bool) (lost : Nat) (s : State) : Out :=
  .next (if s.serdesOn && (s.serLane lane).st == .up then s.laneLoss lane lockLost lost 0 else s)

/-! ### Tests (14 R397, R398) -/

/-- LANE_TEST_END: a timed test has reached its duration. -/
def execLaneTestEnd (lane : Nat) (s : State) : Out :=
  .next (
    let l := s.serLane lane
    if s.serdesOn ∧ l.st = .test ∧ l.timed ∧ s.ranMs l.testAt l.testMs then s.setSerLane lane { l with st := .acquire, locked := false, timed := false } else s)

/-- Whether the PRBS checker of a lane works: modes 1 to 3. -/
def SerLane.checks (l : SerLane) : Bool := l.st == .test && decide (1 ≤ l.mode) && decide (l.mode ≤ 3)

/-- PRBS_LOCK: 64 consecutive error-free bits. -/
def execPrbsLock (lane : Nat) (s : State) : Out :=
  .next (if s.serdesOn && (s.serLane lane).checks then s.setSerLane lane { s.serLane lane with locked := true } else s)

/-- Bits compared and found in error since the last report, counted while the checker is locked. -/
def SerLane.count (l : SerLane) (bits errors : Nat) : SerLane :=
  if l.checks && l.locked then
    { l with bits := satAdd 0xFFFFFFFFFFFFFFFF l.bits bits, errors := satAdd 0xFFFFFFFF l.errors (min bits errors) }
  else l

/-- PRBS_LOCK_LOSS: 64 consecutive bit errors. -/
def execPrbsLockLoss (lane bits errors : Nat) (s : State) : Out :=
  .next (if s.serdesOn then s.setSerLane lane { (s.serLane lane).count bits errors with locked := false } else s)

/-- A request that names a lane in use (14 R397, R418). -/
def withLane (f : Nat → Body) : Body := fun q s =>
  if 7 < q.nat 1 then (naming stRange 1, s)
  else if s.board.isNone then (plain stNotDeclared, s)
  else if !s.laneUsed (q.nat 1) then (plain stLaneRole, s)
  else f (q.nat 1) q s

def laneTestSpec : TlvSpec := { rows := [{ ty := 1, len := .exact 1 }, { ty := 2, len := .exact 1 }, { ty := 3, len := .exact 1 },
  { ty := 4, len := .exact 4 }] }

def laneTestBody : Body := withLane fun i q s =>
  let mode := q.nat 2
  if 4 < mode then (naming stRange 2, s)
  else if 3 < q.nat 3 then (naming stRange 3, s)
  else if mode = 0 then
    (okReply [], if (s.serLane i).st = .test then s.setSerLane i { s.serLane i with st := .acquire, locked := false, timed := false } else s)
  else
    let s := s.laneDrop i .test 2 0 none
    (okReply [], s.setSerLane i { s.serLane i with mode := mode, pattern := q.nat 3, timed := q.nat 4 != 0, testAt := s.time.aon, testMs := q.nat 4 })

/-- LANE_TEST (14 R397). -/
def execLaneTest (ch : Nat) (s : State) : Out := .next (s.serve ch 0xC002 laneTestSpec laneTestBody)

def laneSpec : TlvSpec := { rows := [{ ty := 1, len := .exact 1 }] }

/-- LANE_RETRAIN (14 R418). -/
def execLaneRetrain (ch : Nat) (s : State) : Out :=
  .next (s.serve ch 0xC004 laneSpec (withLane fun i _ s => (okReply [], s.retrain i)))

/-- LANE_PRBS_GET: `bits` compared and `errors` among them since the last report (14 R398). -/
def lanePrbsBody (bits errors : Nat) : Body := fun q s =>
  if 7 < q.nat 1 then (naming stRange 1, s)
  else if 1 < q.nat 2 then (naming stRange 2, s)
  else
    let l := (s.serLane (q.nat 1)).count bits errors
    (okReply [⟨3, boolByte l.locked⟩, tlvN 4 4 l.errors, tlvN 5 8 l.bits],
      s.setSerLane (q.nat 1) (if q.nat 2 = 1 then { l with errors := 0, bits := 0 } else l))

def execLanePrbsGet (ch bits errors : Nat) (s : State) : Out := .next (s.serve ch 0xC003 radioClearSpec (lanePrbsBody bits errors))

def LaneState.code : LaneState → Nat
  | .disabled => 0 | .acquire => 1 | .align => 2 | .sync => 3 | .up => 4 | .test => 5

/-- LANE_STATUS_GET: `invalid` further code groups have been invalid since the last report (14 R395, R396). -/
def laneStatusBody (invalid : Nat) : Body := fun q s =>
  if 7 < q.nat 1 then (naming stRange 1, s)
  else
    let l := s.serLane (q.nat 1)
    (okReply [tlvN 2 1 l.st.code, tlvN 3 2 (s.laneRate (q.nat 1)), ⟨4, boolByte l.inverted⟩,
              tlvN 5 4 (satAdd 0xFFFFFFFF l.invalid invalid)],
      s.setSerLane (q.nat 1) { l with invalid := 0 })

def execLaneStatusGet (ch invalid : Nat) (s : State) : Out := .next (s.serve ch 0xC001 laneSpec (laneStatusBody invalid))

/-! ### Ethernet ports (14 R399, R403) -/

/-- The line rate of an up port: what SGMII's control word says, or that of the mode. -/
def State.ethSpeed (s : State) (p speed : Nat) : Nat :=
  if s.pnat (0xC010 + p) = 2 then 2500 else if s.pnat (0xC010 + p) = 1 then 1000
  else if speed = 10 ∨ speed = 100 then speed else 1000

/-- ETH_LINK_CHANGE: a port up, with the partner's speed and abilities, or down; a failed auto-negotiation or a half-duplex partner
leaves it down (14 R399). -/
def execEthLinkChange (port : Nat) (up : Bool) (speed abilities : Nat) (anFail : Bool) (s : State) : Out :=
  .next (
    if 4 ≤ port ∨ s.portRole port = 0 ∨ !s.serdesOn then s
    else
      let x := { s.ethPort port with abilities := abilities % 65536 }
      if anFail then ((s.setEth port x).portDown port (some 0)).bump (.eth port) 7
      else if !up then (s.setEth port x).portDown port (some 0)
      else if (s.serLane port).st ≠ .up ∨ x.up then s
      else
        let v := s.ethSpeed port speed
        (s.setEth port { x with up := true, speed := v, active := s.portRole port == 2 }).raise 0xC003 [u8 port, boolByte true, u16 v])

def ethStatusBody : Body := fun q s =>
  if 3 < q.nat 1 then (naming stRange 1, s)
  else
    let x := s.ethPort (q.nat 1)
    (okReply [⟨2, boolByte x.up⟩, tlvN 3 2 x.speed, tlvN 4 2 x.abilities, ⟨5, boolByte (x.up && x.active)⟩], s)

/-- ETH_STATUS_GET (14 R399). -/
def execEthStatusGet (ch : Nat) (s : State) : Out := .next (s.serve ch 0xC005 laneSpec ethStatusBody)

def ethCountersBody : Body := fun q s =>
  if 3 < q.nat 1 then (naming stRange 1, s)
  else if 1 < q.nat 2 then (naming stRange 2, s)
  else countersReply s (.eth (q.nat 1)) 9 (q.nat 2 == 1)

/-- ETH_COUNTERS_GET (14 R419). -/
def execEthCountersGet (ch : Nat) (s : State) : Out := .next (s.serve ch 0xC006 radioClearSpec ethCountersBody)

/-! ### MDIO (14 R401) -/

def mdioRows : List TlvRow := [{ ty := 1, len := .exact 1 }, { ty := 2, len := .exact 1 }, { ty := 3, len := .exact 1, must := false },
  { ty := 4, len := .exact 2 }]

/-- The checks of both commands, and the access on MDC and MDIO. -/
def mdioBody (act : Req → State → Reply × State) : Body := fun q s =>
  match s.board with
  | none => (plain stNotDeclared, s)
  | some b =>
    if q.nat 2 ≠ 22 ∧ q.nat 2 ≠ 45 then (naming stRange 2, s)
    else if q.nat 2 = 45 ∧ !q.has 3 then (naming stBadTlv 3, s)
    else if q.nat 2 = 45 ∧ 31 < q.nat 3 then (naming stRange 3, s)
    else if q.nat 2 = 22 ∧ 31 < q.nat 4 then (naming stRange 4, s)
    else if !b.ports.any (fun p => p.phy == q.nat 1) then (plain stMdioAddr, s)
    else act q { s with pins := { s.pins with mdcDriven := true } }

/-- What is noted of an access. -/
def State.noteMdio (s : State) (q : Req) (v : Option Nat) : State :=
  { s with pins := { s.pins with mdio := some (q.nat 2, q.nat 1, q.nat 3, q.nat 4, v) } }

/-- MDIO_READ: `reply` is what the PHY drives; where none answers, the line reads as ones. -/
def execMdioRead (ch : Nat) (reply : Option Nat) (s : State) : Out :=
  .next (s.serve ch 0xC007 { rows := mdioRows } (mdioBody (fun q s => (okReply [tlvN 5 2 (reply.getD 0xFFFF)], s.noteMdio q none))))

/-- MDIO_WRITE. -/
def execMdioWrite (ch : Nat) (s : State) : Out :=
  .next (s.serve ch 0xC008 { rows := mdioRows ++ [{ ty := 5, len := .exact 2 }] }
    (mdioBody (fun q s => (okReply [], s.noteMdio q (some (q.nat 5))))))

end Sys2Proof.Machine
end

