-- ==== Sys2Proof/Machine/ParamOps.lean ====
section
/-! DEFINITION. Writing parameters: the checks of a value, the rules that bind parameters together, and what a write brings about
(02 R43, R44, R53, R495). -/

namespace Sys2Proof.Machine

def stTimeSource : Nat := 0xB102

/-- Parameters that record 0x0010 keeps: user offsets and ablation overlays (02 R53, 08 R235). -/
def isOverlay (id : Nat) : Bool :=
  [0x1040, 0x1041, 0x1042, 0x2040, 0x2041, 0xB010].contains id || (decide (0x5100 ≤ id) && decide (id < 0x5200))

/-- Parameters that record 0x0020 keeps (02 R44). -/
def isResetClass (id : Nat) : Bool := match paramRow? id with | some (r, _) => r.cls == .reset | none => false

/-- Values looked up among new ones first, then among those in force. -/
def State.newVal (s : State) (l : List (Nat × PVal)) (id : Nat) : PVal :=
  match (l.filter (fun p => p.1 == id)).getLast? with
  | some p => p.2
  | none => s.pval id

def PVal.int : PVal → Int
  | .num i => i
  | .bytes b => leNat b

def PVal.octets : PVal → List Nat
  | .num _ => []
  | .bytes b => b.map (fun x => x.toNat)

/-- The rules of single parameters that intervals and steps do not express, with the status each returns (02 R495, 05 R129, 07 R197,
09 R278, 12 R374, 13 R379, R390, 15 R423, R427). -/
def State.ruleFault (s : State) (l : List (Nat × PVal)) (id : Nat) (v : PVal) : Option Nat :=
  let n := v.int.toNat
  let refuse (ok : Bool) (st : Nat) : Option Nat := if ok then none else some st
  let each (lo hi : Nat) : Bool := v.octets.all (fun b => decide (lo ≤ b) && decide (b ≤ hi))
  if id = 0x0012 then refuse (v != s.newVal l 0x9005) stRange
  else if id = 0x9005 then refuse (v != s.newVal l 0x0012) stRange
  else if id = 0x2050 then refuse (phyFamily n == .fsk || phyFamily n == .ofdm) stRange
  else if 0x3010 ≤ id ∧ id ≤ 0x3012 then
    let t := { s with params := l.foldl (fun (t : Tab PVal) (p : Nat × PVal) => tset t p.1 p.2) s.params }
    refuse (!s.cells.any (fun p => p.2.net == 0) || t.cellInBand .lb) stRange
  else if id = 0x3210 then refuse (each 11 26) stRange
  else if id = 0x4001 then if v.int = 0 then some stRange else refuse (!s.spans.any (fun p => p.2.isOpen)) stState
  else if id = 0x6001 then refuse (decide (s.pinnedCount ≤ n)) stRange
  else if id = 0x9001 then refuse (!(n / 2 ^ 40).testBit 0) stRange
  else if id = 0x9006 then refuse (each 16 31) stRange
  else if id = 0x9010 ∨ id = 0x9011 then refuse (each 0 7) stRange
  else if id = 0xB001 then
    if n = 2 then refuse s.time.wallTime stTimeSource
    else if n = 3 then refuse s.timeSpan.isSome stTimeSource
    else if n = 4 then refuse (s.isDsme .lb || s.isDsme .mb) stTimeSource
    else if n = 5 then refuse (s.cascDecl.isSome) stTimeSource
    else none
  else if id = 0xD003 then refuse (!n.testBit 6) stRange
  else if id = 0xD010 then refuse (each 1 16) stRange
  else none

/-- The first fault of writing `v` to parameter `id`, among the values `l` of one command (02 R43, R495). -/
def State.valueFault (s : State) (l : List (Nat × PVal)) (id : Nat) (v : PVal) : Option Nat :=
  match paramRow? id with
  | none => some stUnknownParam
  | some (r, _) =>
    if id = 0x2050 && !phySupported v.int.toNat then some stPhyMode
    else if r.inRange v then s.ruleFault l id v
    else some stRange

/-- A TLV of a parameter command read as a value: access and length checked (02 R43; a wrong length: log entry 11). -/
def paramTlv (t : Tlv) : Except Nat PVal :=
  match paramRow? t.ty with
  | none => .error stUnknownParam
  | some (r, _) =>
    if r.access = .ro then .error stAccess
    else
      match r.ty.size with
      | some n => if t.val.length = n then .ok (decodeVal r.ty t.val) else .error stBadLength
      | none =>
        if r.ranges.any (fun p => decide (p.1 ≤ t.val.length) && decide ((t.val.length : Int) ≤ p.2)) then .ok (.bytes t.val)
        else .error stBadLength

/-- The value in force replaced; a value equal to the default is still listed. -/
def State.putParam (s : State) (id : Nat) (v : PVal) : State := { s with params := tset s.params id v }

/-- The crystal offset changed: the rate starts again from its new start value, the present held (02 R53, 13 R376). -/
def State.setXo (s : State) (v : PVal) : State :=
  let s := s.fold
  let c := rateOf (calSum 0xB010 Config.xoCalPpb v.int) 1
  { s with time := { s.time with cf := s.time.cf + (c - s.time.cStart), cStart := c } }.putParam 0xB010 v

/-- The AON timer set: its first period counts from the write that sets it to its present non-zero value (16 R450). -/
def State.setAonTimer (s : State) (v : PVal) : State :=
  if v = s.pval 0xE008 then s
  else
    let n := v.int.toNat
    { s with pwr := { s.pwr with aonDue := if n = 0 then none else some ((s.time.aon + 32768 * n) % 2 ^ 48) } }.putParam 0xE008 v

/-- A network follows a parent coordinator while it runs in DSME and source 4 is selected (06 R193, 13 R379). -/
def State.followParent (s : State) (n : Net) : State :=
  let x := s.net n
  let follows := x.running && s.isDsme n && s.pnat 0xB001 == 4
  if follows = x.parent.isSome then s else s.setNet n { x with parent := if follows then some {} else none }

/-- A parameter's value put into force, with what the change brings about. Every write of `thaw.freq_khz` retunes, one of the value it
holds already among them: the rule says 'a change' (DESIGN CHOICE, log entry 146). -/
def State.setParam (s : State) (id : Nat) (v : PVal) : State :=
  if id = 0xB001 then (((s.putParam id v).changeSource s.source).followParent .lb).followParent .mb
  else if id = 0xB010 then s.setXo v
  else if id = 0xE008 then s.setAonTimer v
  else if id = 0x1051 then s.retuneThaw.putParam id v
  else if id = 0x1050 ∨ (0x1052 ≤ id ∧ id ≤ 0x1054) then s.keepThaw.putParam id v
  else if id = 0x1011 ∨ id = 0x1012 then s.freezeLate.putParam id v
  else if 0xA010 ≤ id ∧ id < 0xA014 then
    let s := s.putParam id v
    if v.int = 0 then s.domainStopped (0x0300 + (id - 0xA010)) else s
  else if 0xC010 ≤ id ∧ id < 0xC014 then
    let old := s.pval id
    let s := s.putParam id v
    if old != v && s.laneUsed (id - 0xC010) then s.retrain (id - 0xC010) else s
  else if 0xC018 ≤ id ∧ id < 0xC01C then
    let old := s.pval id
    let s := s.putParam id v
    if old != v && s.laneUsed (id - 0xC018) then s.retrain (id - 0xC018) else s
  else if 0x4100 ≤ id ∧ id < 0x4500 ∧ id % 0x20 = 0 then
    let s := s.putParam id v
    let n := (id - 0x4100) / 0x20
    if (s.span n).isOpen then s.modSpan n (fun x => { x with interval := v.int.toNat }) else s
  else if 0x5001 ≤ id ∧ id < 0x5200 then (s.putParam id v).watchSubs
  else s.putParam id v

/-- Several values put into force in order. -/
def State.setParams (s : State) (l : List (Nat × PVal)) : State := l.foldl (fun (s : State) p => s.setParam p.1 p.2) s

end Sys2Proof.Machine
end

