-- ==== Sys2Proof/Machine/Tables.lean ====
section
/-! DEFINITION. The table command block and its operations (12 R350-R357). -/

namespace Sys2Proof.Machine

/-! ### Result codes (12 R352) -/

def tOk : Nat := 0
def tNotFound : Nat := 1
def tExists : Nat := 2
def tFull : Nat := 3
def tBucketFull : Nat := 4
def tBadEntry : Nat := 5
def tInUse : Nat := 6
def tBadOp : Nat := 7
def tNoSet : Nat := 8
def tSetFull : Nat := 9

/-- The pipeline whose FDB a table number names. -/
def tblPipe (table : Nat) : Pipe := if table = 0 then .wire else .air

/-- The index of an entry lies inside its table (12 R351). -/
def indexOk (table i : Nat) : Bool :=
  if table < 2 then decide (i < 32768)
  else if table = 3 then decide (i < 4096)
  else if table = 4 then vidOk i
  else isPort i

/-- Whether an operation is defined for a table, and whether the entry is named in a way that the table has (12 R354; log entry
41). -/
def opDefined (t : TblOp) : Bool :=
  if t.table < 2 then decide (1 ≤ t.op) && decide (t.op ≤ 6)
  else if t.table = 2 then decide (1 ≤ t.op) && decide (t.op ≤ 5) && (t.op == 3 || t.op == 5 || !t.byIndex)
  else if t.table < 6 then (t.op == 1 || t.op == 2 || t.op == 4) && t.byIndex
  else false

/-- The checks of R351 on an operation, before it looks for its entry. -/
def State.tblCheck (s : State) (t : TblOp) : Nat :=
  if !opDefined t then tBadOp
  else
    let byIndex := t.byIndex && (t.table != 2) && (t.op == 1 || t.op == 2 || t.op == 4)
    if byIndex && !indexOk t.table t.index then tBadEntry
    else if t.table = 3 && t.op != 1 && decide (t.index < 2) then tBadEntry
    else if t.op = 2 ∨ t.op = 3 then
      let ok :=
        if t.table < 2 then fdbOk t.data
        else if t.table = 2 then s.routeOk t.data
        else if t.table = 3 then hopOk t.data
        else if t.table = 4 then vlanOk t.data
        else portOk t.data
      if ok then tOk else tBadEntry
    else tOk

/-! ### FDB operations -/

/-- The index that an FDB operation names. -/
def State.fdbNamed (s : State) (t : TblOp) : Option (Nat × FdbEntry) :=
  let f := s.fdb (tblPipe t.table)
  if t.byIndex then (tfind f t.index).map (fun e => (t.index, e))
  else fdbFind f (FdbEntry.read t.data).vlan (FdbEntry.read t.data).mac

/-- An FDB entry written at an index; one without its valid flag leaves the index empty. -/
def State.fdbPut (s : State) (p : Pipe) (i : Nat) (e : FdbEntry) : State :=
  s.setFdb p (if e.flags.testBit 0 then tset (s.fdb p) i e else tdel (s.fdb p) i)

def State.fdbRead (s : State) (t : TblOp) : TblRes × State :=
  match s.fdbNamed t with
  | some (i, e) => ({ code := tOk, index := i, data := some e.bytes }, s)
  | none => ({ code := tNotFound }, s)

/-- A replacement by index keeps to the bucket of its key, and to one entry per key (12 R349; log entry 42). -/
def State.fdbWrite (s : State) (t : TblOp) : TblRes × State :=
  let p := tblPipe t.table
  let e := FdbEntry.read t.data
  match s.fdbNamed t with
  | none => ({ code := tNotFound }, s)
  | some (i, _) =>
    if i / 4 ≠ fdbBucket e.vlan e.mac then ({ code := tBadEntry }, s)
    else
      match fdbFind (s.fdb p) e.vlan e.mac with
      | some (j, _) => if j = i then ({ code := tOk, index := i }, s.fdbPut p i e) else ({ code := tExists }, s)
      | none => ({ code := tOk, index := i }, s.fdbPut p i e)

def State.fdbInsert (s : State) (t : TblOp) : TblRes × State :=
  let p := tblPipe t.table
  let f := s.fdb p
  let e := FdbEntry.read t.data
  let e := if e.flags.testBit 1 then e else { e with stamp := s.rt.age }
  match fdbFind f e.vlan e.mac with
  | some _ => ({ code := tExists }, s)
  | none =>
    if 32768 ≤ f.length then ({ code := tFull }, s)
    else
      match fdbFree f (fdbBucket e.vlan e.mac) with
      | none => ({ code := tBucketFull, index := 4 * fdbBucket e.vlan e.mac }, s)
      | some i => ({ code := tOk, index := i }, s.fdbPut p i e)

def State.fdbDelete (s : State) (t : TblOp) : TblRes × State :=
  let p := tblPipe t.table
  match s.fdbNamed t with
  | some (i, _) => ({ code := tOk, index := i }, s.setFdb p (tdel (s.fdb p) i))
  | none => ({ code := tNotFound }, s)

/-- AGE_SCAN from the cursor upward (12 R357). -/
def State.fdbScan (s : State) (t : TblOp) : TblRes × State :=
  let p := tblPipe t.table
  match (s.fdb p).find? (fun x => decide (t.index ≤ x.1) && !x.2.flags.testBit 1 && decide ((t.threshold : Int) ≤ s.ageOf x.2.stamp)) with
  | some (i, e) =>
    ({ code := tOk, index := i, data := some e.bytes, cursor := some (i + 1) },
      if t.del then (s.setFdb p (tdel (s.fdb p) i)).bump (.rt p) 16 else s)
  | none => ({ code := tNotFound, cursor := some 0 }, s)

/-! ### Route operations -/

def Route.sameKey (a b : Route) : Bool := a.family == b.family && a.pfx == b.pfx && a.len == b.len

def State.routeOp (s : State) (t : TblOp) : TblRes × State :=
  let r := Route.read t.data
  let here := s.rt.routes.find? (fun x => x.sameKey r)
  let put := fun (l : List Route) => { s with rt := { s.rt with routes := l } }
  if t.op = 1 then
    (match here with | some x => { code := tOk, data := some x.bytes } | none => { code := tNotFound }, s)
  else if t.op = 2 then
    if here.isNone then ({ code := tNotFound }, s)
    else ({ code := tOk }, put (s.rt.routes.map (fun x => if x.sameKey r then r else x)))
  else if t.op = 3 then
    if here.isSome then ({ code := tExists }, s)
    else if (if r.family = 4 then 16384 else 8192) ≤ (s.rt.routes.filter (fun x => x.family == r.family)).length then
      ({ code := tFull }, s)
    else ({ code := tOk }, put (s.rt.routes ++ [r]))
  else if t.op = 4 then
    if here.isNone then ({ code := tNotFound }, s)
    else ({ code := tOk }, put (s.rt.routes.filter (fun x => !x.sameKey r)))
  else
    (match s.longest r.family r.pfx with
    | some x => { code := tOk, data := some x.bytes }
    | none => { code := tNotFound }, s)

/-! ### Next hops, VLANs and ports -/

/-- Whether a route names a next hop. -/
def State.hopUsed (s : State) (h : Nat) : Bool := s.rt.routes.any (fun r => r.hop == h)

def State.hopOp (s : State) (t : TblOp) : TblRes × State :=
  let put := fun (h : NextHop) => { s with rt := { s.rt with hops := tset s.rt.hops t.index h } }
  let new := if t.op = 2 then NextHop.read t.data else { s.hop t.index with flags := (s.hop t.index).flags / 2 * 2 }
  if t.op = 1 then ({ code := tOk, index := t.index, data := some (s.hop t.index).bytes }, s)
  else if !new.flags.testBit 0 && s.hopUsed t.index then ({ code := tInUse }, s)
  else ({ code := tOk, index := t.index }, put new)

def State.vlanOp (s : State) (t : TblOp) : TblRes × State :=
  let v := tget {} s.rt.vlans t.index
  let put := fun (v : VlanEntry) => { s with rt := { s.rt with vlans := tset s.rt.vlans t.index v } }
  if t.op = 1 then ({ code := tOk, index := t.index, data := some v.bytes }, s)
  else ({ code := tOk, index := t.index }, put (if t.op = 2 then VlanEntry.read t.data else { v with flags := v.flags / 2 * 2 }))

/-- A port entry has no valid flag: a deleted one reads 0, as at reset (log entry 43). -/
def State.portOp (s : State) (t : TblOp) : TblRes × State :=
  let put := fun (p : PortEntry) => { s with rt := { s.rt with ports := tset s.rt.ports t.index p } }
  if t.op = 1 then ({ code := tOk, index := t.index, data := some (tget {} s.rt.ports t.index).bytes }, s)
  else ({ code := tOk, index := t.index }, put (if t.op = 2 then PortEntry.read t.data else {}))

/-! ### The operation as a whole -/

/-- A table operation in one step (12 R354, R355). -/
def State.tblDo (s : State) (t : TblOp) : TblRes × State :=
  if s.tblCheck t ≠ tOk then ({ code := s.tblCheck t }, s)
  else if t.table < 2 then
    if t.op = 1 then s.fdbRead t
    else if t.op = 2 then s.fdbWrite t
    else if t.op = 3 then s.fdbInsert t
    else if t.op = 4 then s.fdbDelete t
    else if t.op = 5 then s.fdbRead { t with byIndex := false }
    else s.fdbScan t
  else if t.table = 2 then s.routeOp t
  else if t.table = 3 then s.hopOp t
  else if t.table = 4 then s.vlanOp t
  else s.portOp t

/-- A table operation put into a staging set: only its staging is reported (12 R356). -/
def State.tblStage (s : State) (t : TblOp) (handle : Nat) : TblRes × State :=
  if !(t.op == 2 || t.op == 3 || t.op == 4) then ({ code := tBadOp }, s)
  else if s.tblCheck t ≠ tOk then ({ code := s.tblCheck t }, s)
  else
    match s.stageAny handle (.table t) with
    | .ok s => ({ code := tOk }, s)
    | .error st => ({ code := if st = stSetFull then tSetFull else tNoSet }, s)

/-! ### The register block (12 R352, R353) -/

def State.setBlk (s : State) (b : TblBlock) : State := { s with rt := { s.rt with blk := b } }

/-- A read of the block at a word offset; words beyond TBL_DATA(7) read 0. -/
def State.blkRead (s : State) (w : Nat) : Nat :=
  let b := s.rt.blk
  if w = 0 then b.op + b.table * 2 ^ 4 + flag b.byIndex 8 + flag b.stage 9 + b.handle * 2 ^ 16 + flag b.busy 31
  else if w = 1 then b.code + flag b.overrun 8 + b.resIndex * 2 ^ 16
  else if w = 2 then b.index
  else if w = 3 then b.threshold + flag b.del 16
  else if w < 12 then leNat ((b.data.drop (4 * (w - 4))).take 4)
  else 0

/-- A command started: its registers are latched, and OVERRUN is cleared; an operation or table that no row has ends in BAD_OP. -/
def State.blkStart (s : State) (b : TblBlock) : State :=
  let t : TblOp := ⟨b.op, b.table, b.byIndex, b.index, b.data, b.threshold, b.del⟩
  s.setBlk { b with busy := true, overrun := false, latched := some (t, if b.stage then some b.handle else none),
                    answer := if (1 ≤ b.op ∧ b.op ≤ 6) ∧ b.table < 6 then none else some { code := tBadOp } }

/-- A write of the block at a word offset. -/
def State.blkWrite (s : State) (w v : Nat) : State :=
  let b := s.rt.blk
  if w = 1 ∨ 12 ≤ w then s
  else if b.busy then s.setBlk { b with overrun := true }
  else if w = 0 then
    let b := { b with op := v % 16, table := v / 2 ^ 4 % 16, byIndex := v.testBit 8, stage := v.testBit 9, handle := v / 2 ^ 16 % 256 }
    if v.testBit 31 then s.blkStart b else s.setBlk b
  else if w = 2 then s.setBlk { b with index := v % 65536 }
  else if w = 3 then s.setBlk { b with threshold := v % 65536, del := v.testBit 16 }
  else s.setBlk { b with data := b.data.take (4 * (w - 4)) ++ u32 v ++ b.data.drop (4 * (w - 4) + 4) }

/-- The started command acts, if it is the operation named and has not acted yet. -/
def State.tblAct (s : State) (op : Nat) : State :=
  let b := s.rt.blk
  match b.latched, b.answer with
  | some (t, h), none =>
    if b.busy && t.op == op then
      let (r, s) := match h with
        | some h => s.tblStage t h
        | none => s.tblDo t
      s.setBlk { s.rt.blk with answer := some r }
    else s
  | _, _ => s

/-- TBL_READ (12 R354). -/
def execTblRead (s : State) : Out := .next (if s.awake then s.tblAct 1 else s)

/-- TBL_WRITE (12 R354-R356). -/
def execTblWrite (s : State) : Out := .next (if s.awake then s.tblAct 2 else s)

/-- TBL_INSERT (12 R349, R354-R356). -/
def execTblInsert (s : State) : Out := .next (if s.awake then s.tblAct 3 else s)

/-- TBL_DELETE (12 R351, R354-R356). -/
def execTblDelete (s : State) : Out := .next (if s.awake then s.tblAct 4 else s)

/-- TBL_SEARCH (12 R354). -/
def execTblSearch (s : State) : Out := .next (if s.awake then s.tblAct 5 else s)

/-- TBL_AGE_SCAN (12 R357). -/
def execTblAgeScan (s : State) : Out := .next (if s.awake then s.tblAct 6 else s)

/-- TBL_OVERRUN (12 R353). -/
def execTblOverrun (s : State) : Out := .next (if s.awake && s.rt.blk.busy then s.setBlk { s.rt.blk with overrun := true } else s)

/-- TBL_CMD_COMPLETION: the result words, then TBL_RESULT, then BUSY (12 R353). -/
def execTblCmdCompletion (s : State) : Out :=
  .next (
    let b := s.rt.blk
    match (if s.awake then b.answer else none) with
    | none => s
    | some r =>
      s.setBlk { b with data := r.data.getD b.data, index := r.cursor.getD b.index, code := r.code, resIndex := r.index,
                        busy := false, latched := none, answer := none })

end Sys2Proof.Machine
end

