-- ==== Sys2Proof/Machine/Calving.lean ====
section
/-! DEFINITION. Calving: validating a set, choosing its boundary, and applying it in one step (02 R46-R50). -/

namespace Sys2Proof.Machine

/-- No parameter: the code in EV_CALVED for a failure that lies in none (02 R50). -/
def noParam : Nat := 0xFFFF

/-- What fails a set: a status and the first failing parameter. -/
abbrev CalveFault := Nat × Nat

/-! ### Validation (02 R46) -/

/-- The first parameter whose value may not be written. -/
def State.paramsFault (s : State) (l : List (Nat × PVal)) : Option CalveFault :=
  l.findSome? (fun p => (s.valueFault l p.1 p.2).map (fun e => (e, p.1)))

/-- The network whose timing template a parameter belongs to (06 R165, R167, R177). -/
def templateNet (id : Nat) : Option Net :=
  if (0x3000 ≤ id ∧ id < 0x3200) ∨ (0x2050 ≤ id ∧ id < 0x2056) then some .lb
  else if 0x3200 ≤ id ∧ id < 0x3400 then some .mb
  else none

/-- The template of each network that a set touches stays valid, and so does the fixed oscillator; `s` holds the new values. -/
def State.templateFault (s : State) (l : List (Nat × PVal)) : Option CalveFault :=
  l.findSome? (fun p =>
    match templateNet p.1 with
    | none => none
    | some n => if !s.templateOk n then some (stTemplate, p.1) else if n == .lb && !s.fixedLoOk then some (stSpanLo, p.1) else none)

/-- The member records that a span will have in events from `at_` on under a set's own writes: those of its members then, and those that
wait for a later event (07 R200, R224). -/
def State.recordsAt (s : State) (n at_ : Nat) (writes : List Staged) : List (Nat × Member) :=
  let v := s.span n
  let put (t : Tab Member) (b : Nat) (r : Option Member) : Tab Member := match r with | some m => tset t b m | none => tdel t b
  let due := v.changes.filter (fun c => decide (0 ≤ sdiff 40 at_ c.event))
  let late := v.changes.filter (fun c => decide (sdiff 40 at_ c.event < 0))
  let own := writes.filterMap (fun w => match w with | .member k b r => if k = n then some (b, r) else none | _ => none)
  own.foldl (fun t p => put t p.1 p.2) (due.foldl (fun t c => put t c.band c.rec_) (v.members.map (fun p => (p.1, p.2.rec_))))
    ++ late.filterMap (fun c => c.rec_.map (fun m => (c.band, m)))

/-- A span whose interval or supervision timeout a set changes keeps three intervals of supervision, and its members as the set leaves them
keep within the interval; a set that changes the gap between frames keeps every open span's members long enough (07 R200, R218); `s` holds the
new values. -/
def State.spanFault (s : State) (x : StageSet) (at_ : Nat) : Option CalveFault :=
  x.params.findSome? (fun p =>
    let n := (p.1 - 0x4100) / 0x20
    if p.1 = 0x4002 then
      ((s.spans.filter (fun q => q.2.isOpen)).findSome? (fun q =>
        (s.recordsAt q.1 (if x.domain = 0x0200 + q.1 then at_ else q.2.event) x.writes).findSome? (fun m =>
          s.recFault (s.spanParam q.1 0x4100) m.1 m.2))).map (fun e => (e, p.1))
    else if 0x4100 ≤ p.1 ∧ p.1 < 0x4500 ∧ p.1 % 0x20 < 2 then
      if !supOk (s.spanParam n 0x4101) (s.spanParam n 0x4100) then some (stSpanParam, p.1)
      else if !(s.span n).isOpen then none
      else ((s.recordsAt n at_ x.writes).findSome? (fun (m : Nat × Member) => s.recFault (s.spanParam n 0x4100) m.1 m.2)).map (fun e => (e, p.1))
    else none)

/-- The checks of a set's parameters for a boundary: each value, then the rules among them. -/
def State.valuesFault (s : State) (x : StageSet) (at_ : Nat) : Option CalveFault :=
  match s.paramsFault x.params with
  | some e => some e
  | none =>
    let t := x.params.foldl (fun (s : State) p => s.putParam p.1 p.2) s
    match t.templateFault x.params with
    | some e => some e
    | none => t.spanFault x at_

/-! ### The writes -/

/-- A cell with its placement already chosen, checked again (06 R170-R176, 09 R252). -/
def State.cellStands (s : State) (c : Cell) : Option Nat :=
  match s.placeCell { c with opts := c.opts % 32 + c.opts / 128 * 128 } with
  | .error e => some e
  | .ok _ => none

/-- A member's change, checked, that holds from event `at_` on (07 R200, R224). -/
def State.memberWrite (s : State) (at_ n band : Nat) (r : Option Member) : Except CalveFault State :=
  let add := s.modSpan n (fun v => { v with changes := v.changes ++ [{ band := band, rec_ := r, event := at_ }] })
  if !(s.span n).isOpen then .error (stSpanNotOpen, noParam)
  else
    match r with
    | some m =>
      (match s.recFault (s.spanParam n 0x4100) band m with
      | some e => .error (e, noParam)
      | none => .ok add)
    | none => if (s.bandsAfter n none) == [band] then .error (stMember, noParam) else .ok add

/-- One write of a set that is no parameter. `atBoundary`: the checks that only the boundary makes are made, of table operations and
shaper targets (12 R356, R366). -/
def State.otherWrite (atBoundary : Bool) (at_ : Nat) (s : State) (w : Staged) : Except CalveFault State :=
  match w with
  | .param _ _ => .ok s
  | .frame n h len => .ok (s.setFrame ((Net.ofNat? n).getD .lb) h len at_)
  | .cell id (some c) =>
    (match s.cellStands c with
    | some e => .error (e, noParam)
    | none => .ok { s with cells := tset s.cells id { c with from_ := at_ } })
  | .cell id none => .ok (s.deleteCell id at_)
  | .member n band r => s.memberWrite at_ n band r
  | .table t =>
    if !atBoundary then .ok s
    else
      let (res, s) := s.tblDo t
      if res.code = tOk then .ok s else .error (0x9100 + res.code, noParam)
  | .shaper id port queue rate burst full =>
    if atBoundary && rate != 0 && s.shaperTaken id port queue then .error (stShaperTarget, noParam)
    else .ok (s.setShaper id port queue rate burst full)
  | .meter id m => .ok (s.setMeter id m)
  | .gates p l => .ok (s.setGates p l)

/-- The writes of a set that are no parameters, in the order in which they were staged. -/
def State.otherWrites (atBoundary : Bool) (at_ : Nat) : List Staged → State → Except CalveFault State
  | [], s => .ok s
  | w :: ws, s =>
    match s.otherWrite atBoundary at_ w with
    | .error e => .error e
    | .ok s => State.otherWrites atBoundary at_ ws s

/-- The count from which a set's writes hold: its boundary, or, where its domain does not run, at once (02 R48, R50). -/
def State.holdsFrom (s : State) (x : StageSet) (at_ : Nat) : Nat :=
  if s.domainRuns x.domain then at_
  else
    match x.cls with
    | .slotframe | .superframe => 0
    | .spanEvent => (tget {} s.spans (x.domain - 0x0200)).event
    | _ => at_

/-- What COMMIT_AT finds wrong with a set (02 R46). -/
def State.setFault (s : State) (x : StageSet) (at_ : Nat) : Option CalveFault :=
  let at_ := s.holdsFrom x at_
  match s.valuesFault x at_ with
  | some e => some e
  | none =>
    match State.otherWrites false at_ x.writes (x.params.foldl (fun (s : State) p => s.putParam p.1 p.2) s) with
    | .error e => some e
    | .ok _ => none

/-- The hold-up check of a set that holds overlays (02 R48, R55). -/
def State.overlayFault (s : State) (x : StageSet) : Option CalveFault :=
  match x.params.filter (fun p => isOverlay p.1) with
  | [] => none
  | p :: _ => (s.writeRefused (writeCost 256)).map (fun e => (e, p.1))

/-- The record write of a set that holds overlays (02 R48). -/
def State.overlayRecord (s : State) (x : StageSet) : State :=
  match x.params.filter (fun p => isOverlay p.1) with
  | [] => s
  | l => s.recordFor 0x0010 false [⟨none, .calve l⟩]

/-- Every write of a set put into force in one step, or the fault that keeps all of them out (02 R48). -/
def State.runSet (s : State) (x : StageSet) (at_ : Nat) : Except CalveFault State :=
  let at_ := s.holdsFrom x at_
  match s.valuesFault x at_, s.overlayFault x with
  | some e, _ => .error e
  | none, some e => .error e
  | none, none =>
    match State.otherWrites true at_ x.writes (s.setParams x.params) with
    | .error e => .error e
    | .ok s => .ok ((if x.cls = .spanEvent then s.applyMembers (x.domain - 0x0200) else s).overlayRecord x)

/-- A set applies or fails at a boundary: it is freed, and EV_CALVED reports it (02 R48, R50). -/
def State.calve (s : State) (h : Nat) (x : StageSet) (at_ : Nat) : State :=
  let s := { s with sets := tdel s.sets h }
  match s.runSet x at_ with
  | .ok t => t.raiseCalved h x at_ x.slips stOk noParam
  | .error (e, p) => s.raiseCalved h x at_ x.slips e p

/-! ### Boundaries (02 R43, R47) -/

/-- The instant of a committed set's boundary, network time (02 R48). -/
def State.boundaryAt (s : State) (x : StageSet) : Int :=
  match x.cls with
  | .slotframe | .superframe =>
    let n : Net := if x.domain = 0x0100 then .lb else .mb
    s.slotAt n 0 + sdiff 40 x.boundary (s.net n).asn * (s.slotNs n : Int)
  | .spanEvent =>
    let v := tget {} s.spans (x.domain - 0x0200)
    v.anchor + sdiff 40 x.boundary v.event * ((500000 * v.interval : Nat) : Int)
  | _ => signed 64 x.boundary

/-- A boundary chosen, and the slips to it from the target (02 R47, R50). -/
structure Choice where
  boundary : Nat
  slips : Nat
  deriving DecidableEq, Repr

/-- The first multiple of `len` at or after `a`, where counts of 40 bits wrap to 0, a boundary of every length. -/
def nextMultiple (len a : Nat) : Nat :=
  let base := a / 2 ^ 40 * 2 ^ 40
  min (base + ceilDiv (a - base) len * len) (base + 2 ^ 40)

/-- Boundaries of `len` from one to a later one, across the wrap. -/
def multiplesBetween (len a b : Nat) : Nat :=
  let w := b / 2 ^ 40 * 2 ^ 40
  if b ≤ a then 0 else if a < w then ceilDiv (w - a) len + (b - w) / len else (b - a) / len

/-- The choice among counts of 40 bits, from the least that keeps the lead: the target, rounded up to a boundary (02 R47). -/
def chooseCount (len least target : Nat) (next : Bool) : Choice :=
  let lo : Nat := least + 2 ^ 40
  let t : Nat := ((lo : Int) + sdiff 40 target least).toNat
  let b : Nat := if next || decide (t < lo) then nextMultiple len lo else nextMultiple len t
  ⟨b % 2 ^ 40, multiplesBetween len (nextMultiple len t) b⟩

/-- The least ASN whose timeslot starts the commit lead or more after now. -/
def State.leadAsn (s : State) (n : Net) : Nat :=
  let t := s.now + (1000 * s.pnat 0x0020 : Nat) - (s.net n).slotStart
  s.asnAfter n (max (if (s.net n).begun then 1 else 0) (ceilDiv t.toNat (max 1 (s.slotNs n))))

/-- The boundary of a SLOTFRAME or SUPERFRAME set; none where slotframe handle 0 has no length, or no multi-superframe runs. -/
def State.chooseSlot (s : State) (n : Net) (sup : Bool) (target : Nat) (next : Bool) : Option Choice :=
  let least := s.leadAsn n
  match s.frameLen n 0 least with
  | some len => if len = 0 ∨ (sup ∧ !s.isDsme n) then none else some (chooseCount len least (target % 2 ^ 40) next)
  | none => none

/-- The boundary of a SPAN_EVENT set. -/
def State.chooseEvent (s : State) (n target : Nat) (next : Bool) : Choice := chooseCount 1 (s.spanEffEvent n) (target % 2 ^ 40) next

/-- The first cycle boundary of a list at or after an instant. -/
def GateList.cycleAfter (l : GateList) (t : Int) : Int := l.base + -((-(t - l.base)) / (l.cycle : Int)) * (l.cycle : Int)

/-- The list in force at an instant of a port whose gates are enabled (12 R371). -/
def State.gateListAt (s : State) (p : Nat) (t : Int) : Option GateList :=
  match s.gateNext p with
  | some (i, l) => if i ≤ t then some l else s.gateOf p
  | none => s.gateOf p

/-- The boundary of a GATE_CYCLE set; none where the port's gates have no list. -/
def State.chooseCycle (s : State) (p : Nat) (target : Int) (next : Bool) : Option Choice :=
  let lo := s.now + (1000 * s.pnat 0x0020 : Nat)
  let t := if next || decide (target < lo) then lo else target
  match s.gateListAt p t with
  | none => none
  | some l =>
    let b := l.cycleAfter t
    let first := l.cycleAfter target
    some ⟨unsigned 64 b, ((b - first) / (l.cycle : Int)).toNat⟩

/-- The instant of a TIME set. -/
def State.chooseTime (s : State) (target : Int) (next : Bool) : Choice :=
  let lo := s.now + (1000 * s.pnat 0x0020 : Nat)
  let b := if next || decide (target < lo) then lo else target
  ⟨unsigned 64 b, if b = target then 0 else 1⟩

/-- The boundary of a set whose domain runs (02 R47); none where its class has none. -/
def State.choose (s : State) (x : StageSet) (target : Nat) (next : Bool) : Option Choice :=
  match x.cls with
  | .slotframe => s.chooseSlot (if x.domain = 0x0100 then .lb else .mb) false target next
  | .superframe => s.chooseSlot (if x.domain = 0x0100 then .lb else .mb) true target next
  | .spanEvent => some (s.chooseEvent (x.domain - 0x0200) target next)
  | .gateCycle => s.chooseCycle (x.domain - 0x0300) (signed 64 target) next
  | _ => some (s.chooseTime (signed 64 target) next)

/-- Whether a committed set's boundary has come (02 R48): for a network the boundary's timeslot is due to start, or has started
(log entry 53). -/
def State.boundaryDue (s : State) (x : StageSet) : Bool :=
  match x.cls with
  | .slotframe | .superframe =>
    let n : Net := if x.domain = 0x0100 then .lb else .mb
    let k := if (s.net n).begun then 1 else 0
    decide (0 ≤ sdiff 40 (s.asnAfter n (if s.slotAt n k ≤ s.now then k else 0)) x.boundary)
      && ((s.net n).begun || decide (s.slotAt n k ≤ s.now))
  | .spanEvent =>
    let v := s.span (x.domain - 0x0200)
    v.begun && decide (0 ≤ sdiff 40 v.event x.boundary)
  | _ => decide (signed 64 x.boundary ≤ s.now)

end Sys2Proof.Machine
end

