-- ==== Sys2Proof/Machine/NvEngine.lean ====
section
/-! DEFINITION. The one engine that writes NV: which write starts, what a started write holds, what a completed one brings about,
and the commands and events of non-volatile records (02 R54-R56, 06 R190, 08 R245, 09 R271-R276, 10 R301-R303, 14 R415, 15 R441-R443,
17 R465, R469). -/

namespace Sys2Proof.Machine

/-! ### What a device record holds at the moment its write starts (15 R441) -/

/-- A counter mark record: the stored entries, those whose marks are due and those of pending key loads (10 R300-R303). -/
def State.marksNow (s : State) (id : Nat) : NvData :=
  let old : Tab MarkEntry := match s.nvData id with | some (.marks l) => l | _ => []
  let due := s.cipher.keys.filterMap (fun (p : Nat × KeySlot) =>
    p.2.markDue.map (fun m => (p.1, ({ mark := m, check := keyCheck p.2.key % 65536 } : MarkEntry))))
  let loads := s.cipher.loads.map (fun (p : Nat × KeyLoad) => (p.1, p.2.entry))
  .marks (((due ++ loads).filter (fun p => markRecord p.1 == id)).foldl (fun t p => tset t p.1 p.2) old)

/-- An ASN mark record: the pending mark, or in the flush the ASN in force (06 R190). -/
def State.asnNow (s : State) (n : Net) : NvData :=
  let x := s.net n
  let mark := if s.nv.flush.isSome then x.asn else x.markDue.getD x.asn
  let keys := x.keys.filterMap (fun k => (tfind s.cipher.keys k).map (fun v => (k, keyCheck v.key)))
  .asn mark (s.netParam n 0x3002) keys

/-- The fault log record: its newest 64 entries with those that wait (17 R465). -/
def State.faultsNow (s : State) : NvData :=
  let l := s.nvFaults ++ s.flt.waiting
  .faults (l.drop (l.length - 64))

def NvEffect.values : NvEffect → List (Nat × PVal)
  | .params l _ => l
  | .calve l => l
  | _ => []

/-- Whether a parameter's value is kept in record `id`. -/
def keptIn (id p : Nat) : Bool := if id = 0x0010 then isOverlay p else isResetClass p

/-- A parameter record: the stored values and those of the write's owners, in their order. -/
def State.paramsNow (s : State) (w : NvWrite) : NvData :=
  .params (((w.owners.flatMap (fun o => o.eff.values)).filter (fun p => keptIn w.id p.1)).foldl (fun t p => tset t p.1 p.2) (s.nvParams w.id))

/-- The content of a write. -/
def State.contentOf (s : State) (w : NvWrite) : NvData :=
  match w.data with
  | some d => d
  | none =>
    if isMarkRecord w.id then s.marksNow w.id
    else if w.id = 0x0010 ∨ w.id = 0x0020 then s.paramsNow w
    else if w.id = 0x0200 then s.asnNow .lb
    else if w.id = 0x0201 then s.asnNow .mb
    else if w.id = 0x0300 then s.snapshotData
    else if w.id = 0x0400 then s.finalSummary
    else if 0x0410 ≤ w.id ∧ w.id < 0x0430 then s.imagesOf w.id
    else if w.id = 0x0600 then .number ((s.casc.taking.map (fun t => t.1)).getD s.casc.epoch)
    else if w.id = 0x0700 then s.faultsNow
    else .bytes []

/-! ### Writes that the check holds (02 R55) -/

def NvWrite.chans (w : NvWrite) : List Nat := (w.owners.filterMap (fun o => o.chan)).eraseDups

def NvOwner.waits (o : NvOwner) (ch : Nat) : Bool := o.chan == some ch

/-- A host record that has neither a copy nor a write to come gives its space back. -/
def State.dropUnwritten (s : State) (id : Nat) : State :=
  let r := s.nvRec id
  if 0x8000 ≤ id ∧ r.newest.isNone ∧ !s.nv.queue.any (fun w => w.id == id) then { s with nv := { s.nv with recs := tdel s.nv.recs id } }
  else s

/-- The key loads of a channel given up. -/
def State.dropLoads (s : State) (l : List NvOwner) : State :=
  l.foldl (fun (s : State) o => match o.eff with
    | .keyLoad k => { s with cipher := { s.cipher with loads := tdel s.cipher.loads k } }
    | _ => s) s

/-- The TLV that names the first parameter not applied, where a command had more than one record to write. -/
def unapplied (l : List NvOwner) : List Tlv :=
  match l.head? with
  | some ⟨_, .params ((id, _) :: _) true⟩ => [⟨0xFFFF, u16 id⟩]
  | _ => []

/-- A command whose write the check refuses: none of its writes that are left takes effect, and it answers ERR_HOLDUP_SHORT. -/
def State.failCommand (s : State) (ch : Nat) : State :=
  let mine := s.nv.queue.flatMap (fun w => w.owners.filter (fun o => o.waits ch))
  let ids := (s.nv.queue.filter (fun w => w.owners.any (fun o => o.waits ch))).map (fun w => w.id)
  let q := (s.nv.queue.map (fun w => { w with owners := w.owners.filter (fun o => !o.waits ch) })).filter (fun w => !w.owners.isEmpty)
  let s := { s with nv := { s.nv with queue := q } }.dropLoads mine
  (ids.foldl (fun (s : State) id => s.dropUnwritten id) s).release ch stHoldupShort (unapplied mine)

/-- A frame waits for the void summary. -/
def State.voidAwaited (s : State) : Bool := s.bb.checks.any (fun k => k.voidWait)

/-- Frames that wait for the void summary are discarded when the summary's write is held, each with its EV_HOLDUP_SHORT (09 R274). -/
def State.dropVoidWaits (s : State) : State :=
  (s.bb.checks.filter (fun k => k.voidWait)).foldl (fun (s : State) k => (s.endCheck k.id).raiseShort 0x0400 (recSize 0x0400)) s

/-- A device write held by the check: EV_HOLDUP_SHORT once, and what else the hold brings (02 R55, 09 R274, R277). The event's record
ID for a piece of firmware is a free value (log entry 3). -/
def State.noteHeld (s : State) (w : NvWrite) : State :=
  let told := w.id == 0x0400 && s.voidAwaited
  let s := if w.id = 0x0400 then s.dropVoidWaits else s
  if w.heldRaised then s
  else
    let s := { s with nv := { s.nv with queue := s.nv.queue.map (fun (x : NvWrite) => if x.id = w.id then { x with heldRaised := true } else x) } }
    let s := if 0x0410 ≤ w.id ∧ w.id < 0x0430 then s.bump .firn 14 else s
    if told then s
    else if w.id = 0 then
      let (n, s) := s.draw
      s.raiseShort (n % 65536) w.size
    else s.raiseShort w.id w.size

/-- One write that the check holds: the commands that wait for it fail; what the device itself wants stays pending. -/
def State.holdWrite (s : State) (w : NvWrite) : State :=
  let s := w.chans.foldl (fun (s : State) c => s.failCommand c) s
  match s.nv.queue.find? (fun x => x.id == w.id && x.id < 0x8000) with
  | some x => s.noteHeld x
  | none => s

def State.mayWrite (s : State) (w : NvWrite) : Bool := s.holdupOk (writeCost w.size)

/-- The writes ahead of the first that passes are held, one after another. -/
def State.holdHeads : Nat → State → State
  | 0, s => s
  | fuel + 1, s =>
    match (s.nv.queue.takeWhile (fun w => !s.mayWrite w)).find? (fun w =>
        !w.chans.isEmpty || !w.heldRaised || (w.id == 0x0400 && s.voidAwaited)) with
    | none => s
    | some w => State.holdHeads fuel (s.holdWrite w)

/-! ### Starting a write (02 R55, R56, 15 R441) -/

def State.beginWrite (s : State) (w : NvWrite) : State :=
  { s with nv := { s.nv with queue := s.nv.queue.erase w, busy := some { w with data := some (s.contentOf w) } } }

/-- A write started as the next record of the flush; one already under way at the fall is none of it (02 R56). -/
def State.beginFlushed (s : State) (w : NvWrite) : State :=
  let s := s.beginWrite w
  { s with nv := { s.nv with busy := s.nv.busy.map (fun x => { x with ofFlush := true }) } }

/-- Outside a flush the first write in the queue whose check passes starts. -/
def State.startAny (s : State) : State :=
  let s := State.holdHeads (2 * s.nv.queue.length) s
  match s.nv.queue.find? (fun w => s.mayWrite w) with
  | some w => s.beginWrite w
  | none => s

/-- The end of a flush: records written and left pending (02 R56). -/
def State.endFlush (s : State) (written left : Nat) : State :=
  { s with nv := { s.nv with flush := none } }.raise 0xD003 [u16 written, u16 left]

/-- A flush with what it still has to write: a counter mark that has fallen due since goes ahead of its records (02 R56, 10 R301). -/
def State.flushNow (s : State) : Option (Nat × List Nat) :=
  match s.nv.flush with
  | some (n, id :: ids) =>
    some (n, ((s.nv.queue.map (fun w => w.id)).filter (fun i => isMarkRecord i && !(id :: ids).contains i)).eraseDups ++ id :: ids)
  | f => f

/-- The next write starts, if one can: in a flush only its next record, whose failing check ends the flush. -/
def State.startWrite (s : State) : State :=
  if s.nv.busy.isSome || s.board.isNone then s
  else
    let s := { s with nv := { s.nv with flush := s.flushNow } }
    match s.nv.flush with
    | some (n, id :: ids) =>
      match s.nv.queue.find? (fun w => w.id == id) with
      | some w => if s.mayWrite w then s.beginFlushed w else (s.holdWrite w).endFlush n (ids.length + 1)
      | none => s.endFlush n ids.length
    | some (n, []) => s.endFlush n 0
    | none => s.startAny

/-- NV_WRITE_START: with the present code of HOLDUP_SENSE, the next write starts, or those held stay pending or fail. -/
def execNvWriteStart (sense : Nat) (s : State) : Out :=
  .next (if s.awake then { s with pins := { s.pins with holdup := sense } }.startWrite else s)

/-! ### The end of a write -/

/-- Marks that the record now holds are no longer due (10 R301, R302). -/
def State.marksWritten (s : State) (l : Tab MarkEntry) : State :=
  let keys := s.cipher.keys.map (fun (p : Nat × KeySlot) =>
    match p.2.markDue, tfind l p.1 with
    | some m, some e => if m = e.mark then (p.1, { p.2 with markDue := none, holdRaised := false }) else p
    | _, _ => p)
  { s with cipher := { s.cipher with keys := keys } }.bump .cipher 9

/-- An ASN mark is in NV; a network whose first timeslot has waited for it starts the commit lead later, where its own start has passed
(06 R191, R192; log entry 151). -/
def State.asnWritten (s : State) (n : Net) (mark : Nat) : State :=
  let x := s.net n
  let late : Int := s.now + (1000 * s.pnat 0x0020 : Nat)
  s.setNet n { x with waitMark := false, slotStart := if x.waitMark && decide (x.slotStart < s.now) then late else x.slotStart, markDue := if x.markDue.any (fun m => decide (mark < m)) then x.markDue else none, holdRaised := false }

/-- The void summary is in NV: the frames that waited go on, and a restore is reported (09 R273-R275). -/
def State.voidWritten (s : State) : State :=
  let s := (s.bump .firn 15).afterVoid
  match s.firn.restoring with
  | some (kept, cleared, final) =>
    { s with firn := { s.firn with restoring := none, restored := true } }.raise 0x6001 [u16 kept, u16 cleared, boolByte final]
  | none => s

/-- A final summary is in NV: if frames or a restore wait for the void one, that follows at once (09 R274, R275). -/
def State.finalWritten (s : State) : State :=
  if (s.voidAwaited || s.firn.restoring.isSome) && !s.voidUnderWay then s.voidSummary [deviceOwner] else s

def State.faultsWritten (s : State) (l : List FaultEntry) : State :=
  let (done, left) := s.flt.waiting.partition (fun e => l.any (fun f => f.seq == e.seq))
  { s with flt := { s.flt with waiting := left } }.bumpBy .flt 2 done.length

/-- What the record's own chapter makes of the content that is now in NV. -/
def State.contentWritten (s : State) (id : Nat) (d : NvData) : State :=
  match d with
  | .marks l => s.marksWritten l
  | .asn m _ _ => s.asnWritten (if id = 0x0200 then .lb else .mb) m
  | .images _ => s.bump .firn 13
  | .summary none => s.voidWritten
  | .summary (some _) => s.finalWritten
  | .number n => match s.casc.taking with
    | some (e, false) => if e = n then s.setCasc { s.casc with taking := some (e, true) } else s
    | _ => s
  | .faults l => s.faultsWritten l
  | .params _ => s
  | .bytes _ => if id = 0x0300 then { s with abl := { s.abl with snapLive := true } }.bump .abl 10 else s

/-- The last piece of an image is written: the slot is committed (17 R469). -/
def State.fwWritten (s : State) (f : FwWrite) : State :=
  let s := { s with fw := { s.fw with writing := none, slots := tset s.fw.slots f.slot ⟨f.version, f.sec, .committed⟩ } }
  ((s.bump .flt 4).raise 0xF002 [u32 f.version, u8 f.slot]).release f.chan stOk []

/-- One piece of a firmware image to write. -/
def fwPieceWrite : NvWrite := { id := 0, data := some (.bytes []), size := 8192, urgent := false, owners := [⟨none, .fwPiece⟩] }

def State.fwPieceWritten (s : State) : State :=
  match s.fw.writing with
  | none => s
  | some f =>
    if f.pieces ≤ 1 then s.fwWritten f
    else { s with fw := { s.fw with writing := some { f with pieces := f.pieces - 1 } } }.pushNv fwPieceWrite

/-- One copy made invalid; the second follows ahead of every other write of the record (15 R443). -/
def State.copyDropped (s : State) (id : Nat) (o : NvOwner) : State :=
  let r := (s.nvRec id).drop
  let s := { s with nv := { s.nv with recs := tset s.nv.recs id r } }
  if r.newest.isNone then s.dropUnwritten id
  else
    let w : NvWrite := { id := id, data := some (.bytes []), size := 0, urgent := false, owners := [o] }
    { s with nv := { s.nv with queue := s.nv.queue.takeWhile (fun x => x.urgent) ++ w :: s.nv.queue.dropWhile (fun x => x.urgent) } }

/-- A key whose mark entry is stored enters its slot (10 R303). -/
def State.keyLoaded (s : State) (slot : Nat) : State :=
  match tfind s.cipher.loads slot with
  | some l => { s with cipher := { s.cipher with loads := tdel s.cipher.loads slot } }.setKey slot l.slot
  | none => s

/-- What a completed write does for one of its owners. -/
def State.ownerWritten (s : State) (w : NvWrite) (o : NvOwner) : State :=
  match o.eff with
  | .none => s
  | .params l _ => s.setParams (l.filter (fun p => !isResetClass p.1))
  | .calve _ => s
  | .stored => s.raise 0xD001 [u16 w.id, u32 (((s.nvRec w.id).newest.map (fun c => c.seq)).getD 0)]
  | .invalidate => s.copyDropped w.id o
  | .fwPiece => s.fwPieceWritten
  | .ablLocked p => (s.raise 0x5001 [u32 p]).watchSubs
  | .keyLoad slot => s.keyLoaded slot

/-- Whether a write puts its content into a record. -/
def NvWrite.isRecord (w : NvWrite) : Bool := w.id != 0 && !w.owners.any (fun o => o.eff == .invalidate)

/-- The TLVs that the store of a host record adds to its command's response (02 NV_STORE). -/
def State.storeTlvs (s : State) (w : NvWrite) : List Tlv :=
  if w.owners.any (fun o => o.eff == .stored) then [tlvN 4 4 (((s.nvRec w.id).newest.map (fun c => c.seq)).getD 0)] else []

/-- A channel answers once no write of its command is left. -/
def State.releaseDone (s : State) (w : NvWrite) (tlvs : List Tlv) : State :=
  w.chans.foldl (fun (s : State) c =>
    if s.nv.queue.any (fun x => x.chans.contains c) then s else s.release c stOk tlvs) s

/-- A record of the flush has been written (02 R56). -/
def State.flushStep (s : State) (id : Nat) : State :=
  match s.nv.flush with
  | some (n, i :: ids) =>
    if i ≠ id then s
    else if ids.isEmpty then s.endFlush (n + 1) 0
    else { s with nv := { s.nv with flush := some (n + 1, ids) } }
  | _ => s

/-- The write in progress completes. -/
def State.writeDone (s : State) (w : NvWrite) : State :=
  let s := { s with nv := { s.nv with busy := none } }.bump .mem 17
  let d := w.data.getD (.bytes [])
  let s := if w.isRecord then { s with nv := { s.nv with recs := tset s.nv.recs w.id ((s.nvRec w.id).write d) } } else s
  let s := w.owners.foldl (fun (s : State) o => s.ownerWritten w o) s
  let s := if w.isRecord then s.contentWritten w.id d else s
  let s := s.releaseDone w (s.storeTlvs w)
  let s := if w.ofFlush then s.flushStep w.id else s
  if isMarkRecord w.id then (s.retryNodes.retryWaits .lb).retryWaits .mb else s

/-- NV_WRITE_COMPLETE (02 R54, 15 R441). -/
def execNvWriteComplete (s : State) : Out :=
  .next (match s.nv.busy with | some w => if s.awake then s.writeDone w else s | none => s)

/-! ### Mains and hold-up (02 R56, 16 R450, R454) -/

/-- The critical records of the flush, in priority order (02 R56): the pending mark records, the ASN marks of the TSCH networks that
run, the snapshot and the summary. -/
def State.flushIds (s : State) : List Nat :=
  let marks := ((s.nv.queue.map (fun w => w.id)).filter isMarkRecord).eraseDups.mergeSort (fun a b => decide (a ≤ b))
  let asn (n : Net) : List Nat := if (s.net n).running && !s.isDsme n then [0x0200 + n.ix] else []
  marks ++ asn .lb ++ asn .mb ++ [0x0300, 0x0400]

/-- MAINS_FALL: EV_MAINS, and the flush begins; without hold-up values nothing can be written (02 R55, R56). -/
def execMainsFall (s : State) : Out :=
  .next (
    if s.sys.hold.held || s.sys.pstate == .off || !s.pins.mains then s
    else
      let s := ({ s with pins := { s.pins with mains := false } }.latchWake 6).raise 0xE003 [boolByte false]
      if s.sys.pstate = .hibernate then s
      else
        let ids := s.flushIds
        let s := ids.foldl (fun (s : State) id => s.recordDue id true) s
        if s.board.isNone then s.endFlush 0 ids.length else { s with nv := { s.nv with flush := some (0, ids) } })

/-- MAINS_RISE (16 R450, R454). -/
def execMainsRise (s : State) : Out :=
  .next (
    if s.sys.hold.held || s.sys.pstate == .off || s.pins.mains then s
    else ({ s with pins := { s.pins with mains := true } }.latchWake 3).raise 0xE003 [boolByte true])

/-- EV_HOLDUP_WARNING (16 R454). -/
def State.raiseWarning (s : State) (below : Bool) : State := s.raise 0xE002 [u16 (min 65535 s.supplyMv), boolByte below]

/-- A recognised fall below the warning level: the latch, the event, and Firn's final summary (16 R454, 09 R273). -/
def State.holdupFell (s : State) : State :=
  ({ s with pwr := { s.pwr with below := true } }.latchWake 4).raiseWarning true |>.askFinal [deviceOwner]

/-- A code of HOLDUP_SENSE against the warning level, `rise` mV at the ball above it: negative where it lies below (16 R454). -/
def State.senseOver (s : State) (sense rise : Nat) : Int :=
  match s.board with
  | some b => (supplyFrac sense b.holdup.ratio : Int) - (1024000 * b.holdup.warnMv + 1024 * rise * b.holdup.ratio : Nat)
  | none => 0

/-- HOLDUP_WARNING_FALL at a code of HOLDUP_SENSE; compared from BOARD_DECLARE on (16 R454). -/
def execHoldupWarningFall (sense : Nat) (s : State) : Out :=
  .next (
    if s.sys.hold.held || s.sys.pstate == .off || s.pwr.below || decide (0 ≤ s.senseOver sense 0) then s
    else { s with pins := { s.pins with holdup := sense } }.holdupFell)

/-- HOLDUP_WARNING_RISE (16 R454). -/
def execHoldupWarningRise (sense : Nat) (s : State) : Out :=
  .next (
    if s.sys.hold.held || s.sys.pstate == .off || !s.pwr.below || s.board.isNone || decide (s.senseOver sense 10 < 0) then s
    else { s with pins := { s.pins with holdup := sense }, pwr := { s.pwr with below := false } }.raiseWarning false)

/-! ### Commands -/

def stNvSpace : Nat := 0xD103
def stNvLength : Nat := 0xD104
def stNvNotFound : Nat := 0xD105

def nvStoreSpec : TlvSpec := { rows := [{ ty := 1, len := .exact 2 }, { ty := 2, len := .exact 4 }, { ty := 3, len := .exact 4 }] }

/-- The store accepted: its place is taken and its payload copied (15 R442). -/
def State.startStore (s : State) (ch id place len : Nat) (b : Bytes) : Reply × State :=
  match s.writeRefused (writeCost len) with
  | some st => (plain st, s)
  | none =>
    let s := { s with nv := { s.nv with recs := tset s.nv.recs id { s.nvRec id with place := place, len := len } } }
    (.wait [], s.pushNv { id := id, data := some (.bytes b), size := len, urgent := false, owners := [⟨some ch, .stored⟩] })

def nvStoreBody : Body := fun q s =>
  let id := q.nat 1
  let len := q.nat 3
  if id < 0x8000 then (plain stNvArea, s)
  else if 8192 < len then (plain stNvLength, s)
  else if len = 0 then (naming stRange 3, s)
  else if !s.areaOk (q.nat 2) len then (naming stRange 2, s)
  else
    let b := s.winRead (q.nat 2) len
    match tfind s.nv.recs id with
    | some r => if r.len ≠ len then (plain stNvLength, s) else s.startStore q.ch id r.place len b
    | none =>
      match s.userFit len with
      | none => (plain stNvSpace, s)
      | some p => s.startStore q.ch id p len b

/-- NV_STORE (02 R54, R55, 15 R442). -/
def execNvStore (ch : Nat) (s : State) : Out := .next (s.serve ch 0xD010 nvStoreSpec nvStoreBody)

def nvReadBody : Body := fun q s =>
  if q.nat 1 < 0x8000 then (plain stNvArea, s)
  else
    match (s.nvRec (q.nat 1)).newest with
    | some ⟨seq, .bytes b⟩ =>
      if !s.areaOk (q.nat 2) b.length then (naming stRange 2, s)
      else (okReply [tlvN 3 4 b.length, tlvN 4 4 seq], s.winWrite (q.nat 2) b)
    | _ => (plain stNvNotFound, s)

/-- NV_READ (02 R54, R496). -/
def execNvRead (ch : Nat) (s : State) : Out :=
  .next (s.serve ch 0xD011 { rows := [{ ty := 1, len := .exact 2 }, { ty := 2, len := .exact 4 }] } nvReadBody)

def nvDeleteBody : Body := fun q s =>
  if q.nat 1 < 0x8000 then (plain stNvArea, s)
  else if (s.nvRec (q.nat 1)).newest.isNone then (plain stNvNotFound, s)
  else
    match s.writeRefused (writeCost 0) with
    | some st => (plain st, s)
    | none =>
      (.wait [], s.pushNv { id := q.nat 1, data := some (.bytes []), size := 0, urgent := false, owners := [⟨some q.ch, .invalidate⟩] })

/-- NV_DELETE (15 R443). -/
def execNvDelete (ch : Nat) (s : State) : Out := .next (s.serve ch 0xD012 { rows := [{ ty := 1, len := .exact 2 }] } nvDeleteBody)

def nvStatusBody : Body := fun _ s =>
  let gaps := s.userGaps.map (fun g => g.2)
  let hosts := (s.nv.recs.filter (fun p => decide (0x8000 ≤ p.1) && p.2.newest.isSome)).length
  let waiting := s.nv.queue.length + (if s.nv.busy.isSome then 1 else 0)
  (okReply [tlvN 1 4 gaps.sum, tlvN 2 4 (gaps.foldl max 0), tlvN 3 2 hosts, tlvN 4 1 (min 255 waiting)], s)

/-- NV_STATUS_GET (15 R441, R442). -/
def execNvStatusGet (ch : Nat) (s : State) : Out := .next (s.serve ch 0xD014 noTlvs nvStatusBody)

end Sys2Proof.Machine
end

