-- ==== Sys2Proof/Machine/Reset.lean ====
section
/-! DEFINITION. Resets, what survives them, and the start of the device (17 R464, R466-R468, R471, 18 R482, R484, R485). -/

namespace Sys2Proof.Machine

/-! ### Reset causes (17 R467) -/

def rcPowerOn : Nat := 1
def rcPin : Nat := 2
def rcHost : Nat := 3
def rcWatchdog : Nat := 4
def rcFatalEcc : Nat := 5
def rcBrownout : Nat := 6
def rcHibernateCold : Nat := 7
def rcJtag : Nat := 8

/-- A loss of the core supply: the write in progress is cut short (17 R467). -/
def cutsWrite (cause : Nat) : Bool := cause == rcPowerOn || cause == rcBrownout

/-- The write in progress completes before the reset takes hold, or is cut short and leaves the previous copy in force; writes still
queued are lost (02 R54, 17 R467). -/
def State.settleNv (s : State) (cause : Nat) : State :=
  match s.nv.busy with
  | none => s
  | some w =>
    if !cutsWrite cause then s.writeDone w
    else if w.isRecord then { s with nv := { s.nv with busy := none, recs := tset s.nv.recs w.id (s.nvRec w.id).cut } }
    else { s with nv := { s.nv with busy := none } }

/-- The records as Eotre finds them at a start: a host record exists where a valid copy does (15 R442). -/
def State.startRecs (s : State) : Tab NvRec := s.nv.recs.filter (fun p => decide (p.1 < 0x8000) || p.2.newest.isSome)

/-- The parameters in force after a reset: those of the overlay and configuration records, every other at its default
(02 R44, R53, 17 R467). -/
def State.startParams (s : State) : Tab PVal := (s.nvParams 0x0020).foldl (fun t p => tset t p.1 p.2) (s.nvParams 0x0010)

/-- Firmware slots over a reset: a slot that was being written holds no image (17 R469, R471). -/
def State.startSlots (s : State) : Tab FwSlot :=
  match s.fw.writing with
  | some f => tset s.fw.slots f.slot {}
  | none => s.fw.slots

/-- A reset: everything at its reset value but what its cause keeps; the device is then held until RESET_RELEASE (17 R467, 16 R456).
The levels at the balls are the board's. -/
def State.deviceReset (s0 : State) (cause : Nat) : State :=
  let s := s0.settleNv cause
  let lost := cause == rcPowerOn
  let r := State.reset
  let ps := s.startParams
  let xo := match tfind ps 0xB010 with | some v => v.int | none => 0
  let c := rateOf (calSum 0xB010 Config.xoCalPpb xo) 1
  { r with
    pending := s.pending
    freeCtr := s.freeCtr
    sys := { r.sys with
      hold := { held := true }
      cause := cause
      count := if lost then 0 else min 65535 (s.sys.count + 1)
      scratch := if cutsWrite cause then 0#32 else s.sys.scratch
      straps := s.sys.straps }
    params := ps
    nv := { recs := s.startRecs }
    time := { r.time with cf := c, cStart := c }
    pwr := if lost then {} else {
      latch := s.pwr.latch
      latchState := s.pwr.latchState
      thawAddr := s.pwr.thawAddr
      thawCmd := s.pwr.thawCmd
      thawRate := s.pwr.thawRate
      thawPending := s.pwr.thawPending }
    pins := { holdup := s.pins.holdup, mains := s.pins.mains }
    fw := { slots := s.startSlots }
    flt := { waiting := if lost || cause == rcHibernateCold then [] else s.flt.waiting } }

/-- The waiting log entries written at once, before a reset, when the check passes (17 R465). -/
def State.writeFaults (s : State) : State :=
  if s.flt.waiting.isEmpty || !s.holdupOk (writeCost (recSize 0x0700)) then s
  else
    let d := s.faultsNow
    let s := { s with nv := { s.nv with recs := tset s.nv.recs 0x0700 ((s.nvRec 0x0700).write d) } }
    (s.bump .mem 17).contentWritten 0x0700 d

/-- A fault that resets the device: logged, and written before the reset when it may be (17 R465). -/
def State.faultReset (s : State) (cause : Nat) : State := ((s.settleNv cause).writeFaults).deviceReset cause

/-! ### Rows of resets -/

/-- Whether any supply but the always-on one can reset the device: OFF ends only by POWER_ON. -/
def State.powered (s : State) : Bool := s.sys.pstate != .off

/-- VDD_AON_LOSS: OFF (16 R446, 18 R484). -/
def execVddAonLoss (s : State) : Out :=
  .next (
    if !s.powered then s
    else
      let s := s.deviceReset rcPowerOn
      { s with sys := { s.sys with pstate := .off, hold := { s.sys.hold with aonLost := true } } })

/-- POWER_ON_RESET (18 R484). -/
def execPowerOnReset (s : State) : Out := .next (if s.powered then s else s.deviceReset rcPowerOn)

/-- BROWNOUT_RESET (18 R484). -/
def execBrownoutReset (s : State) : Out :=
  .next (
    if !s.powered then s
    else
      let s := s.deviceReset rcBrownout
      { s with sys := { s.sys with hold := { s.sys.hold with coreLow := true } } })

/-- VDD_IO18_BELOW_THRESHOLD: held in reset; the spec names no cause for it, so its code is a free value, and it keeps what a pin
reset keeps (18 R484; log entries 3, 48). -/
def execVddIo18BelowThreshold (s : State) : Out :=
  .next (
    if !s.powered then s
    else
      let s := s.deviceReset rcPin
      let (n, s) := s.draw
      { s with sys := { s.sys with cause := n % 256, hold := { s.sys.hold with io18Low := true } } })

/-- RESET_PIN: a low pulse of `lowNs`; between 100 ns and 1 µs the spec leaves open whether it resets (18 R485; log entry 3). -/
def execResetPin (lowNs : Nat) (s : State) : Out :=
  .next (
    if !s.powered || decide (lowNs < 100) then s
    else if 1000 ≤ lowNs then s.deviceReset rcPin
    else
      let (n, s) := s.draw
      if n % 2 = 0 then s else s.deviceReset rcPin)

/-- JTAG_RESET (17 R467). -/
def execJtagReset (s : State) : Out := .next (if s.powered then s.deviceReset rcJtag else s)

/-- SYS_RESET: the reset follows 10 ms after the response; commands consumed later are ignored (17 R468). -/
def execSysReset (ch : Nat) (s : State) : Out :=
  .next (s.serve ch 0xF001 noTlvs (fun _ s => (okReply [], { s with sys := { s.sys with resetPending := true, resetAt := (s.time.aon + 328) % 2 ^ 48 } })))

/-- SYS_RESET_TAKES_EFFECT (17 R468). -/
def execSysResetTakesEffect (s : State) : Out := 
  .next (if s.powered && s.sys.resetPending && decide (0 ≤ sdiff 48 s.time.aon s.sys.resetAt) then s.deviceReset rcHost else s)

/-- SYS_WATCHDOG_EXPIRY, after its time without a completed operation: logged, then a reset (17 R464). -/
def execSysWatchdogExpiry (s : State) : Out :=
  .next (if s.live && decide (1000000 * s.pnat 0xF001 ≤ 4 * s.cc.quiet) then (s.logFault 8 0 0).faultReset rcWatchdog else s)

/-! ### The start (17 R471, 18 R482, R485) -/

/-- RESET_RELEASE: every monitor and RESET_N have risen, the reference has been counted, and the straps are sampled; STRAP_BOOT 0b11
starts no image (18 R482, R485). -/
def execResetRelease (straps : Straps) (s : State) : Out :=
  .next (
    if !s.powered || !s.sys.hold.held then s
    else
      let s := { s with sys := { s.sys with hold := {}, straps := straps } }
      if straps.boot = 3 then s.setBoot 0xF else s)

def State.slot (s : State) (k : Nat) : FwSlot := tget {} s.fw.slots k

/-- The slots in the order in which the boot ROM tries them (17 R471, 18 R482). -/
def State.bootOrder (s : State) : List Nat :=
  if s.sys.straps.boot = 1 then [0]
  else if s.sys.straps.boot = 2 then [1]
  else if (s.slot 0).state = .trial then [1, 0]
  else if (s.slot 1).state = .trial then [0, 1]
  else if (s.slot 0).state = .confirmed ∧ (s.slot 1).state = .confirmed then
    if (s.slot 0).version < (s.slot 1).version then [1, 0] else [0, 1]
  else if (s.slot 1).state = .confirmed then [1, 0]
  else [0, 1]

/-- Whether the start of slot `k` takes the image before a trial. -/
def State.rollsBack (s : State) (k : Nat) : Bool := s.sys.straps.boot == 0 && (s.slot (1 - k)).state == .trial && (s.slot k).state != .trial

/-- BOOT_IMAGE_CHECK_DONE, at BOOT 0 or 1: the checks of R469 on the images of slots A and B; the first of the order that holds a good
one starts. -/
def execBootImageCheckDone (okA okB : Bool) (s : State) : Out :=
  .next (
    if s.sys.hold.held || !s.powered || decide (1 < s.sys.boot) then s
    else
      let ok (k : Nat) : Bool := (if k = 0 then okA else okB) && (s.slot k).state != .empty
      match s.bootOrder.find? ok with
      | none => s.setBoot 0xF
      | some k =>
        { s with
          sys := { s.sys with boot := 2, fwSlot := k, fwVersion := (s.slot k).version, rollback := s.rollsBack k }
          pins := { s.pins with ppsDriven := true } })

/-- The interrupt sources and groups as Eotre sets them up (11 R326, R331). -/
def EotreImage.sources (i : EotreImage) : Tab IrqSource :=
  i.irqs.map (fun p => (p.1, { level := p.2.level, targets := p.2.targets, home := p.2.home, group := p.2.group }))

def EotreImage.coalescers (i : EotreImage) : Tab Group := i.groups.map (fun p => (p.1, { count := p.2.count, timeUs := p.2.timeUs }))

/-- EOTRE_READY: BOOT 3, with the events of the start, a Thaw match latched before it, and the answers to unknown opcodes that wait at
the front of a channel (02 R36, 03 R92, 08 R234, 11 R336, 17 R471, 18 R485). -/
def execEotreReady (image : EotreImage) (s : State) : Out :=
  .next (
    if s.sys.hold.held || !s.powered || s.sys.boot ≠ 2 then s
    else
      let s := { s with cc := { s.cc with templates := image.templates, irqs := image.sources, groups := image.coalescers } }
      let s := (s.setBoot 3).raise 0x0002 [u8 3]
      let s := if s.sys.rollback then s.raise 0xF004 [u8 s.sys.fwSlot, u32 s.sys.fwVersion] else s
      let s := match s.lockBytes with
        | some l => if s.lockedProfile.isNone then s.raise 0x5002 [u32 (fieldAt l 0 4)] else s
        | none => s
      let s := if s.flt.waiting.isEmpty then s else s.recordDue 0x0700 false
      (List.range 8).foldl (fun (s : State) ch => State.refuseUnknown ch 16 s) s.reportThaw)

end Sys2Proof.Machine
end

