-- ==== Sys2Proof/Machine/Power.lean ====
section
/-! DEFINITION. Power states: scheduled events, blockers, the entries and exits of DOZE, NAP and HIBERNATE, the AON timer (16). -/

namespace Sys2Proof.Machine

/-! ### Scheduled events (16 R447) -/

/-- The plan point of the next timeslot of a network in which anything falls, 500 µs before it starts (06 R173). -/
def State.netEvent (s : State) (n : Net) : List Int :=
  let x := s.net n
  if !x.running then []
  else
    let k0 := (if x.begun then 1 else 0) + (if x.plan.isSome then 1 else 0)
    match (List.range 65536).find? (fun k => s.slotServes n (s.asnAfter n (k0 + k))) with
    | some k => [s.slotAt n (k0 + k) - 500000]
    | none => []

/-- The plan point of the next event of a span, 500 µs before its anchor (07 R212). -/
def spanEvent (v : SpanState) : List Int :=
  if v.phase = .closed then []
  else [(if v.planned = some v.nextEvent then v.nextAnchor + (500000 * v.interval : Nat) else v.nextAnchor) - 500000]

/-- The plan lock of what a radio is to send (05 R156). -/
def State.lockEvents (s : State) (x : Radio) : List Int :=
  ((s.radio x).pend.map (fun e => e.nominal - (s.lockLead x : Int)))
    ++ (match (s.radio x).group with | some g => [g.start] | none => [])
    ++ (match (s.radio x).gap with | some g => [g.1] | none => [])

/-- What has passed its plan point and is still to be served: the planned timeslot, the receive windows of lanes but for scanning ones, and
the sub-events of spans. Units must act for it, so that it counts as an event at its start, or as one now (DEDUCED, log entry 52). -/
def State.pendingWork (s : State) : List Int :=
  [Net.lb, .mb].flatMap (fun n => match (s.net n).plan with
      | some _ => if (s.net n).running then [s.slotAt n (if (s.net n).begun then 1 else 0)] else []
      | none => [])
    ++ s.bb.lanes.flatMap (fun p => if p.2.scan then [] else if p.2.open_ || p.2.frame.isSome then [s.now] else match p.2.window with
      | some w => if s.now ≤ w.2 then [max w.1 s.now] else []
      | none => [])
    ++ s.spans.flatMap (fun p => [Radio.lb, .mb, .hb].flatMap (fun x =>
      ((spanActivities p.1 p.2 x 0 s.now false).filter (fun a => decide (s.now ≤ a.stop))).map (fun a => max a.start s.now)))

/-- The next entry boundary of a port's gate list (12 R369). -/
def State.gateEvent (s : State) (p : Nat) : List Int :=
  match s.gateOf p with
  | none => []
  | some l =>
    let ph := l.phase s.now
    [s.now - (ph : Int) + (((l.segs.map (fun g => g.1 + g.2.1)).find? (fun e => decide (ph < e))).getD l.cycle : Nat)]

/-- The next edge of PPS_OUT (13 R391). -/
def State.ppsEvent (s : State) : List Int :=
  let sec : Int := 1000000000
  if s.time.ppsOut then [s.time.ppsFall]
  else if s.pnat 0xB022 = 0 then []
  else [(s.now / sec + 1) * sec]

/-- Always-on ticks as ns. -/
def aonNs (n : Int) : Int := n * 1000000000 / 32768

/-- A pending calibration gap: one forced on a radio (`lockEvents`), or one that is open now to a calibration that waits. -/
def State.calEvent (s : State) (x : Radio) : List Int := if (s.radio x).cals.any (fun c => s.calMayStart x c) then [s.now] else []

/-- A host transmit ring that is not empty. -/
def State.txRingBusy (s : State) : Bool := s.rings.any (fun p => decide (p.1 < 16) && p.2.enable && p.2.head != p.2.tail)

/-- A calibration or a test runs on a radio. -/
def State.radioBusy (s : State) (x : Radio) : Bool := (s.radio x).calRun.isSome || s.hasTest x

/-- The blockers that both states share: bits 0 to 5, 7 and 13 (16 R448). -/
def State.commonBlockers (s : State) : Nat :=
  flag (!s.pbool 0xE002) 0 + flag (s.evs.line || s.evs.held != 0) 1 + flag (s.pbool 0x0010) 2 + flag (s.pnat 0xB001 == 2) 3
    + flag (!s.nv.queue.isEmpty || s.nv.busy.isSome) 4
    + flag ((List.range 8).any (fun n => (s.chan n).outstanding != 0) || s.txRingBusy) 5
    + flag (s.radioBusy .lb || s.radioBusy .mb || s.radioBusy .hb) 7
    + flag (s.ddr.phase == .training || s.ddr.phase == .failed) 13

def State.hibBlockers (s : State) : Nat :=
  s.commonBlockers + flag (s.nets.fst.running || s.nets.snd.running) 8 + flag (s.spans.any (fun p => p.2.isOpen)) 9
    + flag (s.cascPeers.any (fun p => s.linkUp p) || s.casc.holder) 10 + flag (!s.pbool 0xE004) 11
    + flag (!s.pbool 0xE006 && (List.range 4).any (fun i => (s.serLane i).st == .up)) 12

/-- The always-on tick at which the HIBERNATE idle timer runs out: it runs while no blocker is set (16 R448). -/
def State.hibDue (s : State) : Option Nat :=
  if s.hibBlockers != 0 then none
  else some ((s.pwr.hibSince.getD s.time.aon + ceilDiv (32768 * s.pnat 0xE005) 1000) % 2 ^ 48)

/-- An always-on tick as an instant of network time. -/
def State.aonEvent (s : State) (t : Option Nat) : List Int :=
  match t with
  | some t => [s.now + aonNs (sdiff 48 t s.time.aon)]
  | none => []

/-- The scheduled events of R447. -/
def State.schedEvents (s : State) : List Int :=
  s.netEvent .lb ++ s.netEvent .mb ++ s.spans.flatMap (fun p => spanEvent p.2) ++ s.pendingWork
    ++ s.lockEvents .lb ++ s.lockEvents .mb ++ s.lockEvents .hb
    ++ (List.range 4).flatMap (fun p => s.gateEvent p)
    ++ (s.sets.filter (fun p => p.2.committed)).map (fun p => s.boundaryAt p.2)
    ++ s.ppsEvent
    ++ s.cc.delays.map (fun d => s.now + 4 * sdiff 48 d.due s.time.raw)
    ++ (s.cc.groups.filter (fun p => !p.2.held.isEmpty)).map (fun p => s.now + 4 * sdiff 48 p.2.start s.time.raw + 1000 * (p.2.timeUs : Int))
    ++ s.calEvent .lb ++ s.calEvent .mb ++ s.calEvent .hb
    ++ s.aonEvent s.pwr.aonDue ++ s.aonEvent s.hibDue

/-- The earliest scheduled event, network time. -/
def State.nextEvent (s : State) : Option Int := s.schedEvents.min?

/-! ### Blockers (16 R448) -/

def State.napBlockers (s : State) : Nat :=
  s.commonBlockers + flag (match s.nextEvent with | some t => decide (t - s.now ≤ 251000) | none => false) 6

/-! ### Idle timers (16 R446, R448) -/

/-- Every unparked core is idle (16 R446). -/
def State.coresIdle (s : State) : Bool := (List.range 8).all (fun i => (s.core i).st == .idle || (s.core i).st == .parked)

/-- Where a timer started whose condition holds now, or none (16 R446, R448). -/
def runSince (holds : Bool) (since : Option Nat) (now : Nat) : Option Nat := if holds then some (since.getD now) else none

/-- The idle timers looked after at each tick: each runs while its condition holds, and starts again after it has failed (log entry 160). -/
def State.watchIdle (s : State) : State :=
  { s with pwr := { s.pwr with
      dozeSince := runSince (s.live && s.sys.pstate == .active && s.coresIdle) s.pwr.dozeSince s.time.raw
      napSince := runSince (s.live && s.sys.pstate == .doze && s.napBlockers == 0) s.pwr.napSince s.time.raw
      hibSince := runSince (!s.sys.hold.held && s.eotre && s.sys.pstate != .hibernate && s.sys.pstate != .off && s.hibBlockers == 0) s.pwr.hibSince s.time.aon } }

/-- What passes in 4 ns with no command; a Thaw frame that a masked match left waiting in DOZE is reported now that the device is ACTIVE
(03 R92). -/
def State.pass (s : State) : State := s.tick.countOps.watchIdle.reportThaw

/-! ### Wake sources (16 R450, R456) -/

def WakeSource.bit : WakeSource → Nat
  | .aonTimer => 0 | .mser => 1 | .thaw => 2 | .mainsRise => 3 | .holdup => 4 | .scheduled => 5 | .mainsFall => 6

/-- The power counter of a source. -/
def WakeSource.row : WakeSource → Nat
  | .scheduled => 7 | .aonTimer => 8 | .mser => 9 | .thaw => 10 | .mainsRise | .mainsFall => 11 | .holdup => 12

/-- Whether a source that is latched ends a state: those of the mask unless masked, the others only NAP. -/
def State.wakes (s : State) (src : WakeSource) (fromNap : Bool) : Bool :=
  if src.bit < 5 then (s.pnat 0xE007).testBit src.bit else fromNap

def State.latchAll (s : State) (l : List WakeSource) : State := l.foldl (fun (s : State) w => s.latchWake w.bit) s

/-! ### DOZE (16 R446) -/

/-- DOZE_ENTRY: every unparked core has been idle for its time, and their clocks stop. -/
def execDozeEntry (s : State) : Out :=
  .next (
    if s.live && s.sys.pstate == .active && s.coresIdle && s.ranUs s.pwr.dozeSince (s.pnat 0xE001) then
      let cores := (List.range 8).foldl (fun (t : Tab Core) i =>
        if (s.core i).st = .idle then tset t i { s.core i with st := .gated } else t) s.cc.cores
      { s with sys := { s.sys with pstate := .doze }, cc := { s.cc with cores := cores } }.bump .pwr 1
    else s)

/-! ### NAP (16 R447, R451, R456) -/

/-- Every trained DRAM channel in self-refresh, or out of it (15 R432). -/
def State.dramSleep (s : State) (b : Bool) : State :=
  if !s.ddrReady then s
  else (List.range s.ddrChans).foldl (fun (s : State) c =>
    let x := s.ddrChan c
    let t := s.setDdrChan c { x with selfRefresh := b, dqsAt := if b then [] else x.dqsAt, busyAt := s.time.raw }
    if b && !x.selfRefresh then t.bump .mem 12 else t) s

/-- The SERDES domain goes off unless a lane is up in NAP: what a lane had reached below UP, or the test it ran, is lost, and it starts
again from ACQUIRE (01 R17, R18; log entry 161). -/
def State.serdesDown (s : State) : State :=
  if (List.range 8).any (fun i => (s.serLane i).st == .up) then s
  else
    { s with serial := { s.serial with lanes := s.serial.lanes.map (fun p =>
        if p.2.st = .disabled then p else (p.1, { p.2 with st := .acquire, locked := false, timed := false, markers := 0 })) } }

/-- The AON wake timer: the last slow edge at or before the earliest scheduled event less 180 µs (16 R451). -/
def State.wakeTick (s : State) : Option Nat :=
  s.nextEvent.map (fun t => (((s.slowNs : Int) + (t - s.now - 180000)) * 32768 / 1000000000).toNat % 2 ^ 48)

/-- Every radio that is not off goes off (03, 16 R457). -/
def State.radiosOff (s : State) : State :=
  [Radio.lb, .mb, .hb].foldl (fun (s : State) x => if (s.radio x).st = .off then s else s.moveRadio x .off false) s

/-- The ratio kept at an entry: raw ticks counted over 2,048 always-on ticks, a measured value within the declared tolerances of both
crystals and one tick (13 R386; log entries 3, 200). -/
def State.measureRatio (s : State) : State :=
  let d := 15625 * (s.tol40 + s.tol32) / 10000 + 1
  let (n, s) := s.draw
  { s with time := { s.time with q := 15625000 - d + n % (2 * d + 1) } }

/-- Common to both sleeping states: DRAM in self-refresh, radios and receive array off, HSPI_IO high-impedance, the raw counter stopped
(01 R16, R17, 02 R25); NAP keeps the die temperature at its entry (01 R18), the coexistence wires are inactive, and high-impedance in HIBERNATE
(03 R81, 16 R457). -/
def State.sleep (s : State) (p : PState) : State :=
  let wake := if p = .nap then s.wakeTick else none
  let s := ((s.dramSleep true).radiosOff.serdesDown).measureRatio
  { s with
    sys := { s.sys with pstate := p }
    pwr := { s.pwr with sleptFrom := s.time.aon, napWake := wake, dozeSince := none, napSince := none }
    hif := { s.hif with hspiOut := none }
    rf := { s.rf with
      napTemp := if p = .nap then some s.rf.dieTemp else none
      coexA := {}
      coexB := {} }
    bb := { s.bb with lanes := [], soft := [], running := [] } }

/-- Always-on ticks since the entry. -/
def State.slept (s : State) : Nat := (s.time.aon + 2 ^ 48 - s.pwr.sleptFrom) % 2 ^ 48

/-- The device is ACTIVE again: cores run, and time, ablation and ages catch up (08 R244, 12 R348, 13 R386); the counts that the AOC has
given out are cleared (16 R453). -/
def State.awaken (s : State) : State :=
  let n := s.slept
  let s := ((s.ungate.sleepAdvance n).ablCatchUp).ageCatchUp
  let hif := if s.hif.mserCleared then { s.hif with badOp := 0, unmapped := 0, mbxOverrun := 0, inbandReject := 0 } else s.hif
  (({ s with hif := { hif with mserCleared := false, sclHeld := false } }).dramSleep false).raiseLate

/-- The duration of the exit, a measured value (log entry 3). -/
def State.noteExit (s : State) : State :=
  let (n, s) := s.draw
  { s with pwr := { s.pwr with lastExitUs := n % 2 ^ 32 } }

/-- The exit from NAP for a source; EV_PWR_WAKE unless it is a scheduled event (16 R451, R456). -/
def State.endNap (s : State) (src : WakeSource) : State :=
  let ms := s.slept * 1000 / 32768
  let s := ((s.awaken.bumpBy .pwr 6 ms).bump .pwr src.row).noteExit
  let s := if src = .scheduled then s else s.raise 0xE001 [u8 2, u8 s.pwr.latch, u32 (min 0xFFFFFFFF ms), u8 0]
  s.reportThaw

/-- NAP_ENTRY, with the sources that arrive during the entry sequence: the first that wakes causes an exit at once (16 R447, R456). -/
def execNapEntry (during : List WakeSource) (s : State) : Out :=
  .next (
    if !s.live || s.sys.pstate ≠ .doze || s.napBlockers != 0 || !s.ranUs s.pwr.napSince (s.pnat 0xE003) then s
    else
      let s := (((s.sleep .nap).bump .pwr 2).latchAll during)
      match during.find? (fun w => s.wakes w true) with
      | some w => (s.endNap w).bump .pwr 13
      | none => s)

/-- Whether a source has come: it stands in the latch, or the AON wake timer of the NAP has run out (16 R450, R451). -/
def State.latched (s : State) (src : WakeSource) : Bool :=
  if src = .scheduled then (match s.pwr.napWake with | some t => decide (0 ≤ sdiff 48 s.time.aon t) | none => false)
  else s.pwr.latch.testBit src.bit

/-- NAP_EXIT (16 R451). -/
def execNapExit (src : WakeSource) (s : State) : Out :=
  .next (
    if s.sys.hold.held || s.sys.pstate ≠ .nap || !s.latched src || !s.wakes src true then s
    else (if src = .scheduled then s.latchWake 5 else s).endNap src)

/-! ### HIBERNATE (16 R449, R452, R456-R458) -/

/-- One record of the preparation written: none where R55 holds it, and it then stays pending. -/
def State.prepRecord (s : State) (id : Nat) : Bool × State :=
  let s := s.recordDue id false
  match s.nv.queue.find? (fun w => w.id == id) with
  | none => (false, s)
  | some w =>
    if !s.mayWrite w then (false, s.noteHeld w)
    else
      let s := s.beginWrite w
      (true, match s.nv.busy with | some w => s.writeDone w | none => s)

def State.prepRecords : List Nat → State → Bool × State
  | [], s => (true, s)
  | id :: ids, s =>
    match s.prepRecord id with
    | (true, s) => State.prepRecords ids s
    | r => r

/-- Every lane disabled without an event (16 R449). -/
def State.lanesSilent (s : State) : State :=
  { s with serial := { s.serial with
      lanes := s.serial.lanes.map (fun p => (p.1, ({} : SerLane)))
      eth := s.serial.eth.map (fun (p : Nat × EthPort) => (p.1, { p.2 with up := false, active := false }))
      casc := { s.serial.casc with links := [] } } }

/-- The entry sequence: keys and rime cleared, lanes disabled, outputs high-impedance, every domain but AON off. -/
def State.enterHibernate (s : State) : State :=
  let s := (s.cc.insts.map (fun p => p.1)).foldl (fun (s : State) i => s.cancelInst i) s
  let s := { s with cc := { s.cc with insts := [], store := [], running := [], ready := [], waitTriggers := [], waitNodes := [], delays := [] } }
  let s := (s.sleep .hibernate).lanesSilent
  { s with cipher := {}, pins := { s.pins with outputsHiZ := true }, time := { s.time with ppsOut := false } }.bump .pwr 3

/-- Whether every bank of a use keeps its contents (15 R423). -/
def State.usesKept (s : State) (use_ : Nat) : Bool :=
  (List.range 32).all (fun b => bankUse (s.pnat 0xD001) b != use_ || (s.pnat 0xD003).testBit b)

/-- The host windows of the banks that are retained; the others read as zeros (15 R421, R423). -/
def State.keptWindows (s : State) : List Host.Cell :=
  s.mem.filter (fun c => decide (winBase ≤ c.1) && (s.pnat 0xD003).testBit (11 + (c.1 - winBase) / 0x40000))

/-- The SRAM of the banks that are retained; the others read as zeros (15 R423). -/
def State.keptSram (s : State) : List Host.Cell := s.sram.filter (fun c => (s.pnat 0xD003).testBit (c.1 / 0x40000))

/-- The static entries of an FDB (16 R458). -/
def staticFdb (t : Tab FdbEntry) : Tab FdbEntry := t.filter (fun p => p.2.flags.testBit 1)

/-- What the sleep has not kept: everything but the wake context, the DRAM and the retained banks (16 R449, R458). -/
def State.afterHibernate (s : State) : State :=
  let kept := s.usesKept 5
  { s with
    mem := s.keptWindows
    sram := s.keptSram
    chans := []
    evt := { late := s.evt.late }
    rings := []
    evs := {}
    sets := []
    hif := { s.hif with cache := [], hspiOut := none, inbandOut := none }
    bb := {}
    spanRx := []
    spans := []
    nets := ⟨{ frames := s.nets.fst.frames }, { frames := s.nets.snd.frames }⟩
    firn := { s.firn with slots := if s.usesKept 1 then s.firn.slots else [], loads := [], hand := 0, missPeak := 0 }
    rt := { s.rt with
      inbox := []
      fdb := ⟨staticFdb s.rt.fdb.fst, staticFdb s.rt.fdb.snd⟩
      blk := {}
      full := ⟨[], []⟩
      queues := if kept then s.rt.queues else []
      sending := []
      sent := [] }
    pins := { s.pins with outputsHiZ := false } }

/-- A used lane starts its blind bring-up (14 R395). -/
def State.lanesWake (s : State) : State :=
  (List.range 8).foldl (fun (s : State) i => if s.laneUsed i then s.setSerLane i { s.serLane i with st := .acquire } else s) s

/-- Every context rebuilt from its image under the restore table, then the void summary (09 R275, 16 R452). -/
def State.restoreAll (s : State) : State :=
  let r := s.firn.ctxs.map (fun (p : Nat × Ctx) =>
    let x := { newCtx p.2.eui p.2.short p.2.net p.2.keyA p.2.sleepy with pinned := p.2.pinned }
    (p.1, restoreCtx x (s.nvImage p.1) (s.summaryValue p.1)))
  let kept := (r.filter (fun p => p.2.2)).length
  let final := match s.nvData 0x0400 with | some (.summary (some _)) => true | _ => false
  let s := { s with firn := { s.firn with
    ctxs := r.map (fun (p : Nat × (Ctx × Bool)) => (p.1, p.2.1)), slots := [], loads := [], restored := false,
    restoring := some (kept, r.length - kept, final) } }
  s.voidSummary [deviceOwner]

/-- The DRAM contents are lost: training, contexts from their images, and an empty bulk (16 R452). -/
def State.dramLost (s : State) : State :=
  let s := { s with
    rt := { s.rt with fdb := ⟨[], []⟩, routes := [], hops := [], vlans := [], ports := [], meters := [], shapers := [], gates := [],
                      lowpan := ⟨[], []⟩ }
    nets := ⟨{}, {}⟩
    cells := []
    fw := { s.fw with staged := [] }
    ddr := {}
    sys := { s.sys with boot := 3 } }
  let s := match s.board with | some b => s.startTraining b.ddr | none => s
  s.restoreAll.bump .pwr 14

/-- A cold exit, without bank 31: a full boot, with cause HIBERNATE_COLD (16 R452). -/
def State.coldExit (s : State) : State := s.deviceReset rcHibernateCold

/-- The exit from HIBERNATE for a source, on the path that retention leaves (16 R452, R456). -/
def State.endHibernate (s : State) (src : WakeSource) : State :=
  if !(s.pnat 0xD003).testBit 31 then s.coldExit
  else
    let n := s.slept
    let keptDram := s.pbool 0xE009
    let s := s.afterHibernate.awaken.lanesWake
    let s := if keptDram then s else s.dramLost
    let s := ((s.bumpBy .pwr 7 (n / 32768)).bump .pwr src.row).noteExit
    (s.raise 0xE001 [u8 3, u8 s.pwr.latch, u32 (min 0xFFFFFFFF (n * 1000 / 32768)), u8 (if keptDram then 1 else 2)]).reportThaw

/-- The HIBERNATE idle timer has run out (16 R448). -/
def State.hibRun (s : State) : Bool :=
  match s.pwr.hibSince, s.hibDue with
  | some _, some t => decide (0 ≤ sdiff 48 s.time.aon t)
  | _, _ => false

/-- HIBERNATE_PREPARE: the preparation, whose first failing step ends the attempt, then the entry sequence with the sources that arrive
in it (16 R448, R449, R456). -/
def execHibernatePrepare (during : List WakeSource) (s : State) : Out :=
  .next (
    if !s.live || s.sys.pstate ≠ .doze || !s.hibRun then s
    else
      match State.prepRecords (s.imageRecords s.imageStale ++ [0x0400, 0x0300]) s with
      | (false, s) => { s with pwr := { s.pwr with hibSince := some s.time.aon } }.bump .pwr 4
      | (true, s) =>
        let s := s.enterHibernate.latchAll during
        match during.find? (fun w => s.wakes w false) with
        | some w => (s.bump .pwr 13).endHibernate w
        | none => s)

/-- HIBERNATE_EXIT (16 R452). -/
def execHibernateExit (src : WakeSource) (s : State) : Out :=
  .next (if s.sys.hold.held || s.sys.pstate ≠ .hibernate || !s.latched src || !s.wakes src false then s else s.endHibernate src)

/-! ### The AON timer and the commands -/

/-- AON_TIMER_FIRE: the next period starts with each firing (16 R450). -/
def execAonTimerFire (s : State) : Out :=
  .next (
    if s.sys.hold.held || !s.powered then s
    else
      match s.pwr.aonDue with
      | none => s
      | some t =>
        if sdiff 48 t s.time.aon > 0 then s
        else { s with pwr := { s.pwr with aonDue := some ((t + 32768 * s.pnat 0xE008) % 2 ^ 48) } }.latchWake 0)

/-- The earliest scheduled event as PWR_STATUS_GET reports it; the spec gives no value where there is no event (log entry 3). -/
def State.reportedEvent (s : State) : Nat × State :=
  match s.nextEvent with
  | some t => (unsigned 64 t, s)
  | none =>
    let (n, s) := s.draw
    (n % 2 ^ 64, s)

def pwrStatusBody : Body := fun q s =>
  if 1 < q.nat 1 then (naming stRange 1, s)
  else
    let (e, s) := s.reportedEvent
    let r := okReply [tlvN 2 1 s.sys.pstate.code, tlvN 3 4 s.napBlockers, tlvN 4 4 s.hibBlockers, tlvN 5 8 e, tlvN 6 1 s.pwr.latch,
      ⟨7, u16 s.pwr.thawAddr ++ u8 s.pwr.thawCmd⟩, tlvN 8 4 s.pwr.lastExitUs, tlvN 9 2 (min 65535 s.supplyMv), ⟨10, boolByte s.pins.mains⟩]
    (r, if q.nat 1 = 1 then
      { s with pwr := { s.pwr with latch := 0, latchState := none, thawAddr := 0, thawCmd := 0 } } else s)

/-- PWR_STATUS_GET (16 R448, R456). -/
def execPwrStatusGet (ch : Nat) (s : State) : Out := .next (s.serve ch 0xE001 clearSpec pwrStatusBody)

/-- PWR_COUNTERS_GET (16 R460). -/
def execPwrCountersGet (ch : Nat) (s : State) : Out := .next (s.serve ch 0xE002 clearSpec (countersBody .pwr 14))

end Sys2Proof.Machine
end

