-- ==== Sys2Proof/Machine/SysCmds.lean ====
section
/-! DEFINITION. Identification, parameters, factory items and memory status (02 R36, R43, R44, R55, R495, 15, 18 R483). -/

namespace Sys2Proof.Machine

/-! ### Identification and status -/

/-- SYS_PING (02 R36). -/
def execSysPing (ch : Nat) (s : State) : Out := .next (s.serve ch 0x0001 noTlvs (fun _ s => (okReply [], s)))

def sysInfoBody : Body := fun _ s =>
  (okReply [tlvN 1 2 (if Config.isZk4832 then 0x4832 else 0x4816), tlvN 2 1 0xB0, tlvN 3 4 s.sys.fwVersion, tlvN 4 4 Config.serial,
    tlvN 5 1 s.sys.fwSlot, ⟨6, beBytes 6 Config.macBase⟩], s)

/-- SYS_INFO_GET (02 R36, R43). -/
def execSysInfoGet (ch : Nat) (s : State) : Out := .next (s.serve ch 0x0002 noTlvs sysInfoBody)

def factoryBody : Body := fun q s =>
  match (if q.nat 1 = 0x0031 then some (beBytes 3 Config.oui) else Config.factoryItem (q.nat 1)) with
  | some b => (okReply [⟨2, b⟩], s)
  | none => (naming stRange 1, s)

/-- FACTORY_READ (02 R36, 06 R186). -/
def execFactoryRead (ch : Nat) (s : State) : Out := .next (s.serve ch 0xD013 { rows := [{ ty := 1, len := .exact 2 }] } factoryBody)

def memStatusBody : Body := fun _ s =>
  (okReply [⟨1, (List.range 32).flatMap (fun b => u8 (bankUse (s.pnat 0xD001) b))⟩, tlvN 2 4 (s.pnat 0xD003), tlvN 3 4 s.sramFree,
    tlvN 4 4 (s.dramFree / 1024)], s)

/-- MEM_STATUS_GET (15 R421, R423). -/
def execMemStatusGet (ch : Nat) (s : State) : Out := .next (s.serve ch 0xD001 noTlvs memStatusBody)

/-! ### PARAM_GET (02 R43, R44) -/

/-- The level of a GPIO ball: what the device drives, or the board's level where it drives none (18 R483). -/
def gpioLevel (dir out od board i : Nat) : Bool :=
  if !dir.testBit i then board.testBit i
  else if od.testBit i && out.testBit i then board.testBit i
  else out.testBit i

/-- sys.gpio_in, with the levels that the board puts on the balls (18 R483). -/
def State.gpioIn (s : State) (board : Nat) : Nat :=
  ((List.range 24).map (fun i => flag (gpioLevel (s.pnat 0x0030) (s.pnat 0x0031) (s.pnat 0x0032) board i) i)).sum

/-- The value a set holds for a parameter. -/
def StageSet.valOf (x : StageSet) (id : Nat) : Option PVal := (x.params.find? (fun p => p.1 == id)).map (fun p => p.2)

/-- A parameter's staged value: of the lowest open set that holds one, or of the last accepted. -/
def State.stagedVal (s : State) (id : Nat) : Option PVal :=
  let last := (s.sets.filter (fun p => p.2.committed)).mergeSort (fun a b => decide (b.2.order ≤ a.2.order))
  ((s.sets.filter (fun p => !p.2.committed)) ++ last).findSome? (fun p => p.2.valOf id)

/-- One parameter of PARAM_GET, or the fault. -/
def State.getParam (s : State) (staged : Bool) (gpio : Nat) (t : Tlv) : Except Nat Tlv :=
  match paramRow? t.ty with
  | none => .error stUnknownParam
  | some (r, _) =>
    if t.val ≠ [] then .error stBadLength
    else if r.access = .wo then .error stAccess
    else
      let now := if t.ty = 0x0033 then .num (s.gpioIn gpio) else s.pval t.ty
      .ok ⟨t.ty, encodeVal r.ty (if staged then (s.stagedVal t.ty).getD now else now)⟩

/-- Every TLV of a list mapped in order, or the first fault with its type. -/
def mapTlvs {α : Type} (f : Tlv → Except Nat α) : List Tlv → Except (Nat × Nat) (List α)
  | [] => .ok []
  | t :: ts =>
    match f t with
    | .error e => .error (e, t.ty)
    | .ok a =>
      match mapTlvs f ts with
      | .error e => .error e
      | .ok l => .ok (a :: l)

def paramGetSpec : TlvSpec := { rows := [{ ty := 0xFFFE, len := .exact 1, must := false }], open_ := true }

def paramGetBody (gpio : Nat) : Body := fun q s =>
  if 1 < q.nat 0xFFFE then (naming stRange 0xFFFE, s)
  else
    match mapTlvs (s.getParam (q.nat 0xFFFE == 1) gpio) (q.tlvs.filter (fun t => t.ty != 0xFFFE)) with
    | .error (e, ty) => (naming e ty, s)
    | .ok l => (okReply l, s)

/-- PARAM_GET; `gpio`: the levels that the board puts on the GPIO balls (02 R43, R44, 18 R483). -/
def execParamGet (ch gpio : Nat) (s : State) : Out := .next (s.serve ch 0x0010 paramGetSpec (paramGetBody gpio))

/-! ### PARAM_SET (02 R44, R53, R55) -/

/-- A parameter may be written by PARAM_SET now (02 R44). -/
def State.classOpen (s : State) (id : Nat) : Bool :=
  match paramRow? id with
  | some (r, k) => r.cls == .immediate || r.cls == .reset || !s.domainRuns (r.domainOf k)
  | none => false

/-- The values of a PARAM_SET, checked; or the first fault with its parameter. -/
def State.setValues (s : State) (ts : List Tlv) : Except (Nat × Nat) (List (Nat × PVal)) :=
  match mapTlvs (fun t => match paramTlv t with | .ok v => .ok (t.ty, v) | .error e => .error e) ts with
  | .error e => .error e
  | .ok l =>
    match l.findSome? (fun p => (s.valueFault l p.1 p.2).map (fun e => (e, p.1))) with
    | some e => .error e
    | none =>
      match l.find? (fun p => !s.classOpen p.1) with
      | some p => .error (stWrongClass, p.1)
      | none => .ok l

/-- The record writes that a PARAM_SET brings: the overlay record, then the configuration record, the values of no record with the
first of them (02 R55). -/
def paramWrites (l : List (Nat × PVal)) : List (Nat × List (Nat × PVal)) :=
  let ovl := l.filter (fun p => isOverlay p.1)
  let conf := l.filter (fun p => isResetClass p.1)
  let rest := l.filter (fun p => !isOverlay p.1 && !isResetClass p.1)
  if ovl.isEmpty && conf.isEmpty then []
  else if ovl.isEmpty then [(0x0020, conf ++ rest)]
  else if conf.isEmpty then [(0x0010, ovl ++ rest)]
  else [(0x0010, ovl ++ rest), (0x0020, conf)]

def paramSetSpec : TlvSpec := { rows := [], open_ := true }

def paramSetBody : Body := fun q s =>
  match s.setValues q.tlvs with
  | .error (e, ty) => (naming e ty, s)
  | .ok l =>
    match paramWrites l with
    | [] => (okReply [], s.setParams l)
    | ws =>
      match s.writeRefused ((ws.map (fun w => writeCost (recSize w.1))).sum) with
      | some e => (plain e, s)
      | none =>
        (.wait [], ws.foldl (fun (s : State) w => s.recordFor w.1 false [⟨some q.ch, .params w.2 (decide (1 < ws.length))⟩]) s)

/-- PARAM_SET (02 R43, R44, R53, R55). -/
def execParamSet (ch : Nat) (s : State) : Out := .next (s.serve ch 0x0011 paramSetSpec paramSetBody)

/-! ### PARAM_DESCRIBE (02 R495) -/

/-- The runs of supported LB modes of the client networks (05 R129, R130). -/
def lbModeRuns : List (Int × Int) :=
  let ok := fun (n : Nat) => phySupported n && (phyFamily n == .fsk || phyFamily n == .ofdm)
  (List.range 128).filterMap (fun n =>
    if ok n && (n == 0 || !ok (n - 1)) then
      some ((n : Int), (((List.range (128 - n)).find? (fun k => !ok (n + k))).elim 127 (fun k => n + k - 1) : Nat))
    else none)

/-- The intervals of a parameter's allowed values; none where every value of its type is allowed. -/
def describedRanges (id : Nat) (r : ParamRow) : List (Int × Int) :=
  let l := if id = 0x2050 then lbModeRuns else r.ranges
  if r.ty == .bytes then l else if l == [r.ty.full] then [] else l

/-- One end of an interval as it travels: in the parameter's type, or for BYTES a length of 2 bytes. -/
def rangeEnd (t : PType) (i : Int) : Bytes := if t = .bytes then u16 i.toNat else encodeVal t (.num i)

def describe (s : State) (id : Nat) (r : ParamRow) (k : Nat) : List Tlv :=
  [tlvN 1 1 r.ty.code]
    ++ (describedRanges id r).map (fun p => ⟨2, rangeEnd r.ty p.1 ++ rangeEnd r.ty p.2⟩)
    ++ (if r.dflt = .absent then [] else [⟨3, encodeVal r.ty (defaultOf s r k)⟩])
    ++ [tlvN 4 1 r.access.code, tlvN 5 1 r.cls.code]
    ++ (if r.step = 0 then [] else [tlvN 6 4 r.step])

/-- A request without any TLV lacks a mandatory one whose type it alone could name, so the answer names none: DESIGN CHOICE, log entry
138. -/
def paramDescribeBody : Body := fun q s =>
  match q.tlvs with
  | [t] =>
    match paramRow? t.ty with
    | none => (naming stUnknownParam t.ty, s)
    | some (r, k) => if t.val = [] then (okReply (describe s t.ty r k), s) else (naming stBadLength t.ty, s)
  | [] => (plain stBadTlv, s)
  | _ :: t :: _ => (naming stBadTlv t.ty, s)

/-- PARAM_DESCRIBE (02 R495). -/
def execParamDescribe (ch : Nat) (s : State) : Out := .next (s.serve ch 0x0012 paramSetSpec paramDescribeBody)

end Sys2Proof.Machine
end

