-- ==== Sys2Proof/Machine/Staging.lean ====
section
/-! DEFINITION. The commands of calving and the boundary of a set (02 R45-R50). -/

namespace Sys2Proof.Machine

/-- The domains that a class takes (02 R45). -/
def CommitClass.takes : CommitClass → Nat → Bool
  | .slotframe, d | .superframe, d => d == 0x0100 || d == 0x0101
  | .spanEvent, d => decide (0x0200 ≤ d) && decide (d < 0x0220)
  | .gateCycle, d => decide (0x0300 ≤ d) && decide (d < 0x0304)
  | .time, d | .immediate, d => d == 0
  | .reset, _ => false

def stageOpenBody : Body := fun q s =>
  match CommitClass.ofCode? (q.nat 1) with
  | none => (naming stRange 1, s)
  | some .reset => (plain stWrongClass, s)
  | some c =>
    if !c.takes (q.nat 2) then (naming stRange 2, s)
    else
      match tfree s.sets 4 with
      | none => (plain stSetFull, s)
      | some h => (okReply [tlvN 3 1 h], s.putSet h { cls := c, domain := q.nat 2 })

/-- STAGE_OPEN (02 R45). -/
def execStageOpen (ch : Nat) (s : State) : Out :=
  .next (s.serve ch 0x0020 { rows := [{ ty := 1, len := .exact 1 }, { ty := 2, len := .exact 2 }] } stageOpenBody)

/-- A body for a command whose TLV 3 is a set's handle. -/
def withSet (f : Nat → StageSet → Req → State → Reply × State) : Body := fun q s =>
  match s.set? (q.nat 3) with
  | none => (plain stNoSet, s)
  | some x => f (q.nat 3) x q s

/-- A body for a command that needs an open set. -/
def withOpenSet (f : Nat → StageSet → Req → State → Reply × State) : Body :=
  withSet (fun h x q s => if x.committed then (plain stNoSet, s) else f h x q s)

/-- A set takes a parameter: of its class and domain, or IMMEDIATE (02 R45). -/
def StageSet.accepts (x : StageSet) (id : Nat) : Bool :=
  match paramRow? id with
  | some (r, k) => r.cls == .immediate || (r.cls != .reset && r.cls == x.cls && r.domainOf k == x.domain)
  | none => false

/-- The faults of a value that already staging refuses: those of the value itself (02 R495). -/
def stageRefuses (e : Nat) : Bool := e == stRange || e == stUnknownParam || e == stPhyMode

/-- The values of a STAGE_WRITE, checked; or the first fault with its parameter. -/
def State.stageValues (s : State) (x : StageSet) (ts : List Tlv) : Except (Nat × Nat) (List (Nat × PVal)) :=
  match mapTlvs (fun t => match paramTlv t with
    | .ok v => if x.accepts t.ty then .ok (t.ty, v) else .error stWrongClass
    | .error e => .error e) ts with
  | .error e => .error e
  | .ok l =>
    match l.findSome? (fun p => ((s.valueFault (x.params ++ l) p.1 p.2).filter stageRefuses).map (fun e => (e, p.1))) with
    | some e => .error e
    | none => .ok l

/-- Writes added to a list, one after another; none where one finds no room. -/
def addWrites : List Staged → List Staged → Option (List Staged)
  | l, [] => some l
  | l, w :: ws => (addWrite l w).bind (fun l => addWrites l ws)

def stageWriteSpec : TlvSpec := { rows := [{ ty := 3, len := .exact 1 }], open_ := true }

def stageWriteBody : Body := withOpenSet fun h x q s =>
  match s.stageValues x (q.tlvs.filter (fun t => t.ty != 3)) with
  | .error (e, ty) => (naming e ty, s)
  | .ok l =>
    match addWrites x.writes (l.map (fun p => .param p.1 p.2)) with
    | none => (plain stSetFull, s)
    | some ws => (okReply [tlvN 4 2 ws.length], s.putSet h { x with writes := ws })

/-- STAGE_WRITE (02 R36, R45, R495). -/
def execStageWrite (ch : Nat) (s : State) : Out := .next (s.serve ch 0x0021 stageWriteSpec stageWriteBody)

def handleSpec : TlvSpec := { rows := [{ ty := 3, len := .exact 1 }] }

def stageAbortBody : Body := withSet fun h x _ s =>
  if x.committed && decide (s.boundaryAt x - s.now < (1000 * s.pnat 0x0020 : Nat)) then (plain stState, s)
  else (okReply [], { s with sets := tdel s.sets h })

/-- STAGE_ABORT (02 R49). -/
def execStageAbort (ch : Nat) (s : State) : Out := .next (s.serve ch 0x0022 handleSpec stageAbortBody)

def stageStatusBody : Body := withSet fun _ x _ s =>
  (okReply [tlvN 1 1 x.cls.code, tlvN 2 2 x.domain, tlvN 4 2 x.writes.length, tlvN 5 8 x.target, tlvN 7 8 x.boundary,
    tlvN 8 1 (if x.committed then 1 else 0)], s)

/-- STAGE_STATUS (02 R36). -/
def execStageStatus (ch : Nat) (s : State) : Out := .next (s.serve ch 0x0024 handleSpec stageStatusBody)

/-! ### COMMIT_AT (02 R46-R50) -/

def commitSpec : TlvSpec := { rows := [{ ty := 3, len := .exact 1 }, { ty := 5, len := .exact 8, must := false },
  { ty := 6, len := .exact 1, must := false }] }

/-- The response to a set that fails validation (02 R46). -/
def faultReply (e : CalveFault) : Reply := if e.2 = noParam then plain e.1 else naming e.1 e.2

/-- A set applies at once (02 R50): of class IMMEDIATE, or of a domain that does not run. -/
def State.atOnce (s : State) (x : StageSet) : Bool := x.cls == .immediate || (x.cls != .time && !s.domainRuns x.domain)

/-- A network-time target lies further than 2^47 ticks of 4 ns from the present (02 R47). -/
def State.targetFar (s : State) (x : StageSet) (target : Nat) : Bool :=
  (x.cls == .gateCycle || x.cls == .time) && decide (2 ^ 49 < (signed 64 target - s.now).natAbs)

/-- A valid set committed: applied at once, or to wait for the boundary chosen. -/
def State.commitSet (s : State) (h : Nat) (x : StageSet) (target : Nat) (next : Bool) : Reply × State :=
  if s.atOnce x then
    match s.setFault x target with
    | some e => (faultReply e, s)
    | none =>
      if s.board.isNone && x.params.any (fun p => isOverlay p.1) then (plain stNotDeclared, s)
      else (okReply [tlvN 7 8 target], s.calve h { x with target := target } target)
  else
    match s.choose x target next with
    | none => (plain stState, s)
    | some c =>
      match s.setFault x c.boundary with
      | some e => (faultReply e, s)
      | none =>
        (okReply [tlvN 7 8 c.boundary], { s.putSet h { x with
          committed := true
          target := target
          boundary := c.boundary
          slips := min 65535 c.slips
          order := s.setOrder } with setOrder := s.setOrder + 1 })

def commitBody : Body := withOpenSet fun h x q s =>
  let free := x.cls == .immediate
  let flags := q.nat 6
  if !free && !q.has 5 then (naming stBadTlv 5, s)
  else if !free && !q.has 6 then (naming stBadTlv 6, s)
  else if !free && decide (1 < flags) then (naming stRange 6, s)
  else if flags ≠ 1 && s.targetFar x (q.nat 5) then (plain stTargetRange, s)
  else s.commitSet h x (q.nat 5) (flags == 1)

/-- COMMIT_AT (02 R46-R50). -/
def execCommitAt (ch : Nat) (s : State) : Out := .next (s.serve ch 0x0023 commitSpec commitBody)

/-! ### The boundary (02 R48, R49) -/

/-- The committed sets whose boundary falls at the instant of a set's own, in the order of their acceptance. -/
def State.boundaryGroup (s : State) (x : StageSet) : List (Nat × StageSet) :=
  (s.sets.filter (fun (p : Nat × StageSet) => p.2.committed && s.boundaryDue p.2 && s.boundaryAt p.2 == s.boundaryAt x)).mergeSort
    (fun a b => decide (a.2.order ≤ b.2.order))

/-- COMMIT_BOUNDARY of the set of a handle, with every set of its boundary (02 R48, R49); a set that another's effect has freed
meanwhile is passed over. -/
def execCommitBoundary (handle : Nat) (s : State) : Out :=
  .next (
    match s.set? handle with
    | none => s
    | some x =>
      if !x.committed || !s.awake || !s.boundaryDue x then s
      else (s.boundaryGroup x).foldl (fun (s : State) p => if thas s.sets p.1 then s.calve p.1 p.2 p.2.boundary else s) s)

end Sys2Proof.Machine
end

