-- ==== Sys2Proof/Machine/Declare.lean ====
section
/-! DEFINITION. BOARD_DECLARE and SITE_DECLARE (02 R51, R52, 03 R73, R74, R81, 08 R233, R246, 09 R253, R267, R275, 14 R402, R404,
15 R424, R425, R437, 16 R454). -/

namespace Sys2Proof.Machine

/-- A status and the TLV that it names. -/
abbrev TlvFault := Nat × Nat

/-- The first of several checks that fails. -/
def firstFault (l : List (Option TlvFault)) : Option TlvFault := l.findSome? id

/-- A check of TLV `ty`: its status where it fails. -/
def need (ok : Bool) (st ty : Nat) : Option TlvFault := if ok then none else some (st, ty)

/-! ### The FEM record (03 R73, R74) -/

def readFem (b : Bytes) : FemDecl :=
  let entry (i : Nat) : Nat × Nat := (byteAt b (12 + 4 * i), byteAt b (13 + 4 * i))
  { radio := byteAt b 0, kind := byteAt b 1, used := byteAt b 2, paLines := byteAt b 3, openDrain := byteAt b 4, lead := byteAt b 5,
    lag := byteAt b 6, extGain := signed 16 (fieldAt b 8 2), extMax := signed 16 (fieldAt b 10 2),
    states := (List.range (byteAt b 7)).foldl (fun t i => tset t (entry i).1 (entry i).2) [] }

/-- The fields of a FEM record stand in their ranges, and its reserved bits are 0. -/
def femRangeOk (b : Bytes) : Bool :=
  let f := readFem b
  decide (f.radio ≤ 2) && decide (f.kind ≤ 3) && (f.kind != 3 || f.radio == 0) && decide (f.used < 16) && decide (f.openDrain < 16)
    && f.paLines &&& f.used == f.paLines && decide (f.lead ≤ 40) && decide (f.lag ≤ 40)
    && (f.kind == 3 || (f.extGain == 0 && f.extMax == 0))
    && (List.range (byteAt b 7)).all (fun i =>
      decide (byteAt b (12 + 4 * i) ≤ 6) && decide (byteAt b (13 + 4 * i) < 16) && fieldAt b (14 + 4 * i) 2 == 0)

/-- The states of a FEM record: each once, the mandatory ones there, and the PA lines at their OFF value where nothing is sent. -/
def femStatesOk (f : FemDecl) (n : Nat) : Bool :=
  let pa (c : Nat) : Nat := tget 0 f.states c &&& f.paLines
  f.states.length == n && [femOff, femStandby, femRx, femTx].all (fun c => thas f.states c)
    && [femStandby, femRx, femBypass, femCal].all (fun c => !thas f.states c || pa c == pa femOff)

def femFault (b : Bytes) : Option TlvFault :=
  firstFault [
    need (decide (12 ≤ b.length) && decide (byteAt b 7 ≤ 12) && b.length == 12 + 4 * byteAt b 7) stBadTlv 0x0102,
    need (femRangeOk b) stRange 0x0102,
    need (femStatesOk (readFem b) (byteAt b 7)) stBadTlv 0x0102]

/-! ### The other board TLVs -/

def readPorts (b : Bytes) : List PortDecl := (List.range 4).map (fun i => ⟨byteAt b (2 * i), byteAt b (2 * i + 1)⟩)

/-- Roles and addresses in their ranges; a group of at least two ports, of one mode (14 R402). -/
def State.portsFault (s : State) (l : List PortDecl) : Option TlvFault :=
  let lag := (List.range 4).filter (fun i => (l.getD i ⟨0, 0⟩).role == 2)
  let modes := (lag.map (fun i => s.pnat (0xC010 + i))).eraseDups
  firstFault [
    need (l.all (fun p => decide (p.role ≤ 3) && decide (p.phy ≤ 31))) stRange 0x0101,
    need (lag.length != 1 && decide (modes.length ≤ 1)) stBadTlv 0x0101]

def readHoldup (b : Bytes) : HoldupDecl := ⟨fieldAt b 0 4, fieldAt b 4 2, fieldAt b 6 2, fieldAt b 8 2, fieldAt b 10 2⟩

def holdupFault (h : HoldupDecl) : Option TlvFault :=
  need (decide (1 ≤ h.cUf) && decide (1000 ≤ h.ratio) && decide (1 ≤ h.eta) && decide (h.eta ≤ 1000)) stRange 0x0105

def readDdr (b : Bytes) : DdrDecl := ⟨byteAt b 0, byteAt b 1, byteAt b 2, (byteAt b 3).testBit 0, fieldAt b 4 2⟩

/-- Bytes of DRAM that the regions may use: 31/32 of it with ECC (15 R424). -/
def DdrDecl.usable (d : DdrDecl) : Nat :=
  let all := d.channels * d.ranks * d.density * 2 ^ 27
  if d.ecc then all * 31 / 32 else all

/-- The DRAM is one that R424 lists, and its regions fit; a reserved flag is a field outside its range (02 R51, 15 R424, R425). -/
def State.ddrFault (s : State) (b : Bytes) : Option TlvFault :=
  let d := readDdr b
  if 1 < byteAt b 3 then some (stRange, 0x0106)
  else need ((d.channels == 1 || (d.channels == 2 && Config.isZk4832)) && (d.ranks == 1 || d.ranks == 2)
    && [4, 6, 8, 12, 16].contains d.density && [2133, 3200, 3733, 4266].contains d.maxMts && decide (d.ranks * d.density ≤ 16)
    && fieldAt b 6 2 == 0 && decide ((76 + s.pnat 0xD002) * 2 ^ 20 ≤ d.usable)) stBadTlv 0x0106

def readCascDecl (b : Bytes) : CascDecl := ⟨byteAt b 0, byteAt b 1, (List.range 4).map (fun i => byteAt b (2 + i))⟩

/-- The cascade declaration (14 R404). -/
def State.cascFault (s : State) (b : Bytes) : Option TlvFault :=
  let d := readCascDecl b
  firstFault [
    need (decide (d.members < 16) && fieldAt b 6 2 == 0) stRange 0x0107,
    need (d.own == s.sys.straps.cascId && d.members.testBit d.own
      && d.lanes.all (fun p => p == 0xFF || (decide (p ≤ 3) && p != d.own && d.members.testBit p))) stBadTlv 0x0107]

def readCoex (b : Bytes) : List CoexDecl := if b = [] then [] else [⟨byteAt b 0, byteAt b 1⟩, ⟨byteAt b 2, byteAt b 3⟩]

def coexFault (l : List CoexDecl) : Option TlvFault :=
  need (l.all (fun c => decide (c.radio ≤ 3) && decide (c.dir < 16))) stRange 0x0108

/-! ### The declaration as a whole -/

def boardSpec : TlvSpec := { rows := [{ ty := 0x0101, len := .exact 8 }, { ty := 0x0102, len := .any, must := false, multi := true },
  { ty := 0x0103, len := .exact 12 }, { ty := 0x0104, len := .exact 4 }, { ty := 0x0105, len := .exact 12 },
  { ty := 0x0106, len := .exact 8 }, { ty := 0x0107, len := .exact 8, must := false }, { ty := 0x0108, len := .exact 4, must := false }] }

/-- The board that a request declares. -/
def readBoard (q : Req) : Board :=
  { ports := readPorts (q.bytes 0x0101)
    fems := (q.all 0x0102).map readFem
    gains := (List.range 6).map (fun i => signed 16 (fieldAt (q.bytes 0x0103) (2 * i) 2))
    tol40 := fieldAt (q.bytes 0x0104) 0 2
    tol32 := fieldAt (q.bytes 0x0104) 2 2
    holdup := readHoldup (q.bytes 0x0105)
    ddr := readDdr (q.bytes 0x0106)
    casc := if q.has 0x0107 then some (readCascDecl (q.bytes 0x0107)) else none
    coex := readCoex (q.bytes 0x0108) }

/-- What is wrong with a board on its own: the first offending TLV in the order of the table. -/
def State.boardFault (s : State) (q : Req) : Option TlvFault :=
  let b := readBoard q
  firstFault ([s.portsFault b.ports] ++ (q.all 0x0102).map femFault ++ [
    need (decide ((b.fems.map (fun f => f.radio)).eraseDups.length = b.fems.length)) stBadTlv 0x0102,
    holdupFault b.holdup,
    s.ddrFault (q.bytes 0x0106),
    if q.has 0x0107 then s.cascFault (q.bytes 0x0107) else none,
    coexFault b.coex])

/-- A radio carries a network, a span member, a calibration or a test (02 R51). -/
def State.radioCarries (s : State) (x : Radio) : Bool := s.netRuns x || s.hasMember x || s.radioBusy x

/-- A coexistence port's assignment: radio 0 where it is not declared. -/
def Board.coexAt (b : Board) (i : Nat) : CoexDecl := b.coex.getD i ⟨0, 0⟩

def Board.femAt (b : Board) (x : Radio) : Option FemDecl := b.fems.find? (fun f => f.radio == x.ix)

/-- A coexistence port changes while a radio before or after the change carries something. -/
def State.coexBusy (s : State) (old new : Board) (i : Nat) : Bool :=
  old.coexAt i != new.coexAt i && [(old.coexAt i).radio, (new.coexAt i).radio].any (fun r =>
    r != 0 && (match Radio.ofNat? (r - 1) with | some x => s.radioCarries x | none => false))

/-- What a repeat may not change (02 R51), and the locked gains (08 R233). -/
def State.repeatFault (s : State) (new : Board) : Option TlvFault :=
  let lock := need (s.lockBytes.isNone || (List.range 6).all (fun i => new.gains.getD i 0 == s.lockedGain i)) stLocked 0x0103
  match s.board with
  | none => lock
  | some old =>
    firstFault [
      need ([Radio.lb, .mb, .hb].all (fun x => old.femAt x == new.femAt x || !s.radioCarries x)) stState 0x0102,
      lock,
      need (old.ddr == new.ddr || s.ddr.phase == .failed) stState 0x0106,
      need (!s.coexBusy old new 0 && !s.coexBusy old new 1) stState 0x0108]

/-- What a serial lane is declared for: a port's role, or a cascade peer. -/
def Board.laneUse (b : Board) (i : Nat) : Option Nat :=
  if i < 4 then (if (b.ports.getD i ⟨0, 0⟩).role = 0 then none else some (b.ports.getD i ⟨0, 0⟩).role)
  else
    match b.casc with
    | some d => if d.lanes.getD (i - 4) 0xFF = 0xFF then none else some (d.lanes.getD (i - 4) 0xFF)
    | none => none

def State.laneUseNow (s : State) (i : Nat) : Option Nat := match s.board with | some b => b.laneUse i | none => none

/-- Lanes whose role or peer changes go down under the old board and are brought up under the new one (02 R51, 14 R395, R418). -/
def State.takeBoard (s : State) (b : Board) : State :=
  let s := (List.range 8).foldl (fun (s : State) i =>
    if (s.laneUseNow i).isNone || s.laneUseNow i == b.laneUse i then s
    else if (b.laneUse i).isNone then s.laneDrop i .disabled 3 0 none
    else s.retrain i) s
  (List.range 8).foldl (fun (s : State) i => s.laneDeclared i false) { s with board := some b }

/-- A device in a cascade knows the epoch of its own record; one that is no longer in a cascade keeps nothing of it but the epoch. -/
def State.settleCascade (s : State) : State :=
  if s.cascDecl.isSome then s.setCasc { s.casc with epoch := max s.casc.epoch s.storedEpoch }
  else
    let src := s.source
    (s.setCasc { epoch := s.casc.epoch }).changeSource src

/-- The board accepted: lanes, wires, tolerances, hold-up comparison and DRAM training (02 R51, 15 R436, R437, 16 R454). -/
def State.acceptBoard (s : State) (b : Board) : State :=
  let old := s.board
  let moved (i : Nat) : Bool := match old with | some o => o.coexAt i != b.coexAt i | none => true
  let s := (s.takeBoard b).settleCascade
  let s := { s with
    sys := { s.sys with boardOk := true }
    rf := { s.rf with coexA := if moved 0 then {} else s.rf.coexA, coexB := if moved 1 then {} else s.rf.coexB } }
  let s := match old with
    | none => s.startTraining b.ddr
    | some o => if o.ddr = b.ddr then s else s.startTraining b.ddr
  if !s.pwr.below && decide (s.supplyMv < b.holdup.warnMv) then s.holdupFell else s

def boardBody (sense : Nat) : Body := fun q s =>
  match s.boardFault q with
  | some (e, t) => (naming e t, s)
  | none =>
    match s.repeatFault (readBoard q) with
    | some (e, t) => (naming e t, s)
    | none => (okReply [], { s with pins := { s.pins with holdup := sense } }.acceptBoard (readBoard q))

/-- BOARD_DECLARE; `sense`: the code of HOLDUP_SENSE, whose comparison starts with it (02 R51, 16 R454). -/
def execBoardDeclare (ch sense : Nat) (s : State) : Out := .next (s.serve ch 0x0030 boardSpec (boardBody sense))

/-! ### SITE_DECLARE (02 R52) -/

def siteSpec : TlvSpec := { rows := [{ ty := 0x0201, len := .exact 1 }, { ty := 0x0202, len := .exact 12, must := false },
  { ty := 0x0203, len := .exact 5, must := false }, { ty := 0x0204, len := .exact 8, must := false },
  { ty := 0x0205, len := .exact 8, must := false }] }

/-- A client list record (02). -/
structure ClientRec where
  eui : Nat
  short : Nat
  net : Nat
  flags : Nat
  keyslot : Nat
  ctx : Nat
  deriving DecidableEq, Repr

def readClient (b : Bytes) : ClientRec := ⟨fieldAt b 0 8, fieldAt b 8 2, byteAt b 10, byteAt b 11, fieldAt b 12 2, fieldAt b 14 2⟩

def ClientRec.ok (r : ClientRec) : Bool :=
  decide (r.net ≤ 1) && decide (r.flags ≤ 3) && decide (r.keyslot ≤ 8191) && decide (r.ctx ≤ 4095)

/-- A neighbour list record: link address, span, members, flags (02). -/
def readNeighbour (b : Bytes) : Nat × Nat × Nat × Nat := (fieldAt b 0 5, byteAt b 5, byteAt b 6, byteAt b 7)

def neighbourOk (r : Nat × Nat × Nat × Nat) : Bool := decide (r.2.1 ≤ 31) && decide (r.2.2.1 ≤ 7) && decide (r.2.2.2 ≤ 1)

/-- The records of a list of `size` bytes each, or the TLV's fault (02 R52, R496). -/
def State.readList (s : State) (q : Req) (ty size limit : Nat) : Except TlvFault (List Bytes) :=
  let off := fieldAt (q.bytes ty) 0 4
  let n := fieldAt (q.bytes ty) 4 4
  if n = 0 then .ok []
  else if limit < n ∨ !s.areaOk off (n * size) then .error (stRange, ty)
  else .ok ((List.range n).map (fun i => s.winRead (off + size * i) size))

/-- A context pinned at its assignment, while the limit allows (09 R267). -/
def State.pinListed (s : State) (r : ClientRec) : State :=
  match s.ctx? r.ctx with
  | none => s
  | some x =>
    if !r.flags.testBit 0 || x.pinned then s
    else if s.pnat 0x6001 ≤ s.pinnedCount then s.bump .firn 12
    else ((s.modCtx r.ctx (fun x => { x with pinned := true })).pinResident r.ctx []).2

/-- One record of the client list: assigned, already in place, or skipped for a conflict (09 R253, R267). -/
def State.assignClient (s : State) (r : ClientRec) : State :=
  if s.bindConflict r.eui r.net r.short r.ctx then s.bump .firn 12
  else
    let s := if (s.ctx? r.ctx).isSome then s
      else s.setFirn { s.firn with ctxs := tset s.firn.ctxs r.ctx (newCtx r.eui r.short r.net r.keyslot (r.flags.testBit 1)) }
    s.pinListed r

/-- The contexts of the first client list after a reset restored, and the void summary asked for (09 R275). -/
def State.restoreClients (s : State) : State :=
  let all := s.firn.ctxs.map (fun (p : Nat × Ctx) => (p.1, restoreCtx p.2 (s.nvImage p.1) (s.summaryValue p.1)))
  let kept := (all.filter (fun p => p.2.2)).length
  let final := match s.nvData 0x0400 with | some (.summary (some _)) => true | _ => false
  (s.setFirn { s.firn with ctxs := all.map (fun p => (p.1, p.2.1)), restoring := some (kept, all.length - kept, final) }).voidSummary
    [deviceOwner]

/-- Wall time and its uncertainty in µs set network time and the bound (02 R52, 13 R377). -/
def State.setWall (s : State) (wall us : Nat) : State :=
  let s := s.fold
  ({ s with time := { s.time with offset := signed 64 wall, wallTime := true } }.setBound (1000 * us)).fireTriggers

/-- What only the first SITE_DECLARE after a reset does (02 R52). -/
def State.firstSite (s : State) (q : Req) : State :=
  let s := if q.has 0x0202 then s.setWall (fieldAt (q.bytes 0x0202) 0 8) (fieldAt (q.bytes 0x0202) 8 4) else s
  let loss := if byteAt (q.bytes 0x0203) 4 = 0 then none else some (fieldAt (q.bytes 0x0203) 0 4)
  (s.ablRestore loss).restoreClients

/-- The location class may be declared (08 R233): below n_class, and changed only while nothing runs. -/
def State.classFault (s : State) (c : Nat) : Option Reply :=
  let high : Bool := match s.lockedProfile with | some p => decide (fieldAt p 3 1 ≤ c) | none => false
  let runs := s.nets.fst.running || s.nets.snd.running || s.spans.any (fun p => p.2.isOpen)
    || s.hasTest .lb || s.hasTest .mb || s.hasTest .hb
  if high then some (naming stRange 0x0201)
  else if s.sys.siteOk && c != s.site.cls && runs then some (plain stState)
  else none

def siteBody : Body := fun q s =>
  if !s.ddrReady then (plain stState, s)
  else
    match s.classFault (q.nat 0x0201), s.readList q 0x0204 16 4096, s.readList q 0x0205 8 256 with
    | some r, _, _ => (r, s)
    | none, .error e, _ => (naming e.1 e.2, s)
    | none, _, .error e => (naming e.1 e.2, s)
    | none, .ok cs, .ok ns =>
      let clients := cs.map readClient
      let nbrs := ns.map readNeighbour
      if !clients.all ClientRec.ok then (naming stRange 0x0204, s)
      else if !nbrs.all neighbourOk then (naming stRange 0x0205, s)
      else
        let first := !s.sys.siteOk
        let s := { s with
          sys := { s.sys with siteOk := true }
          site := { cls := q.nat 0x0201
                    clients := if q.has 0x0204 then clients.map (fun r => (r.eui, r.net)) else s.site.clients
                    neighbours := if q.has 0x0205 then nbrs else s.site.neighbours } }
        let s := clients.foldl (fun (s : State) r => s.assignClient r) s
        (okReply [], (if first then s.firstSite q else s).watchSubs)

/-- SITE_DECLARE (02 R52). -/
def execSiteDeclare (ch : Nat) (s : State) : Out := .next (s.serve ch 0x0031 siteSpec siteBody)

end Sys2Proof.Machine
end

