-- ==== Sys2Proof/Machine/Firn.lean ====
section
/-! DEFINITION. The commands of the Firn group, its loads, evictions and image writes (09). -/

namespace Sys2Proof.Machine

/-- A command of the group needs DRAM (15 R436) and, where it names a context in TLV 1, an assigned one. -/
def withCtx (f : Nat → Ctx → Req → State → Reply × State) : Body := fun q s =>
  if !s.ddrReady then (plain stState, s)
  else
    match s.ctx? (q.nat 1) with
    | none => (plain stCtxUnassigned, s)
    | some x => f (q.nat 1) x q s

def ctxReadSpec : TlvSpec := { rows := [{ ty := 1, len := .exact 2 }, { ty := 2, len := .exact 4 }] }

def ctxReadBody : Body := withCtx fun c x q s =>
  if !s.areaOk (q.nat 2) 1024 then (naming stRange 2, s)
  else
    let (b, s) := s.ctxBytes c x
    (okReply [⟨3, boolByte (s.resident c)⟩, tlvN 4 2 ((s.slotOf c).getD 0xFFFF)], s.winWrite (q.nat 2) b)

/-- FIRN_CTX_READ (09 R268). -/
def execFirnCtxRead (ch : Nat) (s : State) : Out := .next (s.serve ch 0x6001 ctxReadSpec ctxReadBody)

def ctxWriteSpec : TlvSpec := { rows := [{ ty := 1, len := .exact 2 }, { ty := 2, len := .exact 1 },
  { ty := 3, len := .any, must := false }] }

/-- One field changed (09 R268); fields 3 and 4 have no value. -/
def ctxWriteBody : Body := withCtx fun c _ q s =>
  let f := q.nat 2
  let v := q.bytes 3
  if 4 < f then (naming stRange 2, s)
  else if f < 3 && !q.has 3 then (naming stBadTlv 3, s)
  else if f = 0 then
    if v.length < 3 ∨ 498 < v.length then (naming stBadLength 3, s)
    else
      let off := leNat (v.take 2)
      let d := v.drop 2
      if 512 < off + d.length then (naming stRange 3, s)
      else
        (okReply [], s.modCtx c (fun x =>
          let h := padTo 512 x.host
          { x with host := h.take off ++ d ++ h.drop (off + d.length) }))
  else if f < 3 ∧ v.length ≠ 2 then (naming stBadLength 3, s)
  else if f = 1 then (okReply [], s.modCtx c (fun x => { x with level := some (q.int 3) }))
  else if f = 2 then (okReply [], s.modCtx c (fun x => { x with drift := q.nat 3 }))
  else if f = 3 then (okReply [], s.modCtx c (fun x => { x with offset := none }))
  else (okReply [], s.modCtx c (fun x => { x with ctrs := List.replicate 12 0 }))

/-- FIRN_CTX_WRITE (09 R268). -/
def execFirnCtxWrite (ch : Nat) (s : State) : Out := .next (s.serve ch 0x6002 ctxWriteSpec ctxWriteBody)

def oneCtxSpec : TlvSpec := { rows := [{ ty := 1, len := .exact 2 }] }

/-- The context pinned; the response waits for its load where it is not resident (09 R267; log entry 190). -/
def pinBody : Body := withCtx fun c x q s =>
  if !x.pinned && decide (s.pnat 0x6001 ≤ s.pinnedCount) then (plain stPinLimit, s)
  else
    match (s.modCtx c (fun x => { x with pinned := true })).pinResident c [q.ch] with
    | (some k, s) => (okReply [tlvN 4 2 k], s)
    | (none, s) => (.wait [], s)

/-- FIRN_PIN (09 R267). -/
def execFirnPin (ch : Nat) (s : State) : Out := .next (s.serve ch 0x6003 oneCtxSpec pinBody)

def unpinBody : Body := withCtx fun c _ _ s => (okReply [], s.modCtx c (fun x => { x with pinned := false }))

/-- FIRN_UNPIN (09 R267). -/
def execFirnUnpin (ch : Nat) (s : State) : Out := .next (s.serve ch 0x6004 oneCtxSpec unpinBody)

/-- A context freed: its queued frames and waiting frames are dropped and counted (09 R269). -/
def releaseBody : Body := withCtx fun c x _ s =>
  if !(s.ctxCells c).isEmpty then (plain stCtxInUse, s)
  else
    let frames := (x.queues.map (fun p => p.2.length)).sum
    let s := (((s.bumpBy .firn 17 frames).bumpBy .firn 11 (s.waitingFrames c)).dropWaiting c).dropCtx c
    (okReply [], s)

/-- FIRN_RELEASE (09 R269). -/
def execFirnRelease (ch : Nat) (s : State) : Out := .next (s.serve ch 0x6005 oneCtxSpec releaseBody)

/-- Every stale image record and then the final summary requested; the response waits for them. Before BOARD_DECLARE no record can be
written (02 R55, 09 R276). -/
def firnSyncBody : Body := fun q s =>
  if s.board.isNone then (plain stNotDeclared, s)
  else if !s.ddrReady then (plain stState, s)
  else
    let recs := s.imageRecords s.imageStale
    match s.writeRefused (writeCost (recSize 0x0400)) with
    | some st => (plain st, s)
    | none =>
      let own : List NvOwner := [⟨some q.ch, .none⟩]
      let s := recs.foldl (fun (s : State) r => s.recordFor r false own) s
      (.wait [tlvN 1 2 recs.length], s.askFinalLast own)

/-- FIRN_SYNC (09 R276). -/
def execFirnSync (ch : Nat) (s : State) : Out := .next (s.serve ch 0x6006 noTlvs firnSyncBody)

def firnLookupSpec : TlvSpec := { rows := [{ ty := 1, len := .exact 8, must := false }, { ty := 2, len := .exact 1, must := false },
  { ty := 3, len := .exact 2, must := false }] }

/-- By extended address, or by network and short address. -/
def firnLookupBody : Body := fun q s =>
  if !s.ddrReady then (plain stState, s)
  else if q.has 1 && (q.has 2 || q.has 3) then (naming stBadTlv (if q.has 2 then 2 else 3), s)
  else if !q.has 1 && !q.has 2 then (naming stBadTlv (if q.has 3 then 2 else 1), s)
  else if !q.has 1 && !q.has 3 then (naming stBadTlv 3, s)
  else if 1 < q.nat 2 then (naming stRange 2, s)
  else
    match (if q.has 1 then s.ctxOfEui (q.nat 1) else s.ctxOfShort (q.nat 2) (q.nat 3)) with
    | none => (plain stCtxUnassigned, s)
    | some c => (okReply [tlvN 4 2 c], s)

/-- FIRN_LOOKUP (09 R249). -/
def execFirnLookup (ch : Nat) (s : State) : Out := .next (s.serve ch 0x6007 firnLookupSpec firnLookupBody)

def firnStatusBody : Body := fun _ s =>
  if !s.ddrReady then (plain stState, s)
  else
    let stale := (s.imageKeys.filter s.imageStale).length
    (okReply [tlvN 1 2 s.firn.ctxs.length, tlvN 2 2 (s.firn.slots.filter (fun p => !p.2.evicted)).length, tlvN 3 2 s.pinnedCount,
        tlvN 4 2 s.heldCount, tlvN 5 2 s.freeSlots.length, tlvN 6 2 s.missDepth, tlvN 7 2 s.firn.missPeak, tlvN 8 2 stale,
        ⟨9, boolByte (match s.nvData 0x0400 with | some (.summary (some _)) => true | _ => false)⟩],
      s.setFirn { s.firn with missPeak := s.missDepth })

/-- FIRN_STATUS_GET; the peak restarts from the present depth. -/
def execFirnStatusGet (ch : Nat) (s : State) : Out := .next (s.serve ch 0x6008 noTlvs firnStatusBody)

/-- FIRN_COUNTERS_GET (09 R277). -/
def execFirnCountersGet (ch : Nat) (s : State) : Out := .next (s.serve ch 0x6009 clearSpec (fun q s =>
  if !s.ddrReady then (plain stState, s) else countersBody .firn 17 q s))

/-! ### Loads and evictions -/

/-- FIRN_LOAD_START: the next load takes the lowest free slot, while fewer than 8 are outstanding; without one it waits (09 R258). -/
def execFirnLoadStart (s : State) : Out :=
  .next (
    match s.nextLoad with
    | none => s
    | some l =>
      if !s.awake || !s.ddrReady || decide (8 ≤ (s.firn.loads.filter (fun l => l.started.isSome)).length) then s
      else
        match s.freeSlots with
        | [] => if l.stalled then s else (s.modLoad l.ctx (fun l => { l with stalled := true })).bump .firn 6
        | k :: _ => (s.setFirn { s.firn with slots := tdel s.firn.slots k }).modLoad l.ctx (fun l =>
            { l with started := some s.now, slot := some k }))

/-- FIRN_LOAD_COMPLETE: the bursts of a context's load have arrived, with its ECC check passed or not; the bound is 0.6 µs
longer where the request met a self-refresh entry (09 R258, R259, R263). -/
def execFirnLoadComplete (ctx : Nat) (sre bad : Bool) (s : State) : Out :=
  .next (
    match (if s.awake then s.firn.loads.find? (fun l => l.ctx == ctx && l.started.isSome) else none) with
    | none => s
    | some l =>
      let slow := decide (4000 + (if sre then 600 else 0) < s.now - l.started.getD s.now)
      let s := if slow then s.bump .firn 5 else s
      if bad then s.corruptCtx ctx
      else
        match l.slot with
        | none => s
        | some k => ((s.placeCtx ctx k l.held).releaseWaiting ctx).answerPins l.owners k)

/-- FIRN_EVICT: with fewer than `firn.free_target` free slots the clock hand evicts one context (09 R264). -/
def execFirnEvict (s : State) : Out := .next (if s.awake && decide (s.freeSlots.length < s.pnat 0x6002) then s.evictOne else s)

/-- WRITEBACK_COMPLETE of a slot (09 R265). -/
def execWritebackComplete (slot : Nat) (s : State) : Out := .next (if s.awake then s.wroteBack slot else s)

/-! ### Image writes (09 R271) -/

/-- FIRN_IMAGE_SWEEP, every `firn.image_period_s`. -/
def execFirnImageSweep (s : State) : Out :=
  .next (
    if !s.awake || !s.ranMs s.firn.sweptAt (1000 * s.pnat 0x6003) then s
    else (s.imageRecords (fun c => s.imageStale c && !s.imageTaken c)).foldl (fun (s : State) r => s.recordDue r false)
      (s.setFirn { s.firn with sweptAt := s.time.aon }))

/-- FIRN_IMAGE_URGENT: within 1 s of the change, so at any time (09 R271). -/
def execFirnImageUrgent (s : State) : Out :=
  .next (if !s.awake then s else (s.imageRecords (fun c => s.imageUrgent c && !s.imageTaken c)).foldl (fun (s : State) r => s.recordDue r false) s)

end Sys2Proof.Machine
end

