-- ==== Sys2Proof/Machine/Faults.lean ====
section
/-! DEFINITION. Errors found in memory, the fault log and injected faults (15 R422, R434, R440, 17 R462-R465, R474, R475). -/

namespace Sys2Proof.Machine

def MemKind.code : MemKind → Nat
  | .sram => 0 | .dram => 1 | .nv => 2

/-! ### Errors found in memory -/

/-- A corrected word: counted, and in SRAM and DRAM logged (15 R422, R434, R440, 17 R465). -/
def State.eccCorrected (s : State) (e : EccError) : State :=
  match e.mem with
  | .sram => (s.bump .mem 1).logCe 0 e.bank 0
  | .dram => (s.bump .mem 3).logCe 1 0 0
  | .nv => s.bump .mem 5

/-- An operation restarted from its retained operands on an eligible core, its own core kept (11 R322, 17 R463). -/
def State.restartOp (s : State) (inst node : Nat) : State :=
  match s.cc.running.find? (fun o => o.inst == inst && o.node == node), s.tplNode inst node with
  | some o, some n =>
    match o.core with
    | none => s
    | some c =>
      let s := s.endJob c (.op inst node n.prio)
      let (d, s) := s.dispatch inst node n
      s.setOpCore inst node d
  | _, _ => s

/-- A frame that holds the bad word is dropped: with the instance that works on it (15 R422, 11 R317). -/
def State.dropBadFrame (s : State) (inst : Nat) : State := s.cancelInst inst

/-- A fault of R463: reported, counted and logged (17 R463, R465). -/
def State.raiseFault (s : State) (mem : MemKind) (bank : Nat) : State :=
  ((s.raise 0xF001 [u8 7, u8 mem.code, u16 bank]).bump .flt 1).logFault 7 mem.code bank

/-- The copy of a record that holds the bad word is invalid, as after a CRC failure (15 R440). -/
def State.spoilCopy (s : State) (id : Nat) (copyB : Bool) : State :=
  let r := s.nvRec id
  { s with nv := { s.nv with recs := tset s.nv.recs id (if copyB then { r with b := none } else { r with a := none }) } }

/-- What becomes of an uncorrectable word, by what it holds (15 R422, R440, 09 R259, 17 R463). -/
def State.eccLost (s : State) (e : EccError) : State :=
  let bank := if e.mem = .sram then e.bank else 0
  match e.content with
  | .rime inst => s.cancelInst inst
  | .frame inst => s.dropBadFrame inst
  | .firnContext c => s.corruptCtx c
  | .eotreCode inst node => (s.raiseFault e.mem bank).restartOp inst node
  | .instanceData inst => (s.raiseFault e.mem bank).cancelInst inst
  | .sharedData => (s.raiseFault e.mem bank).faultReset rcFatalEcc
  | .runningImage => (s.raiseFault e.mem bank).faultReset rcFatalEcc
  | .nvRecord id copyB => (s.spoilCopy id copyB).logFault 9 2 0

/-- An uncorrectable word: counted and reported, then handled. -/
def State.eccUncorrected (s : State) (e : EccError) : State :=
  ((s.bump .mem (match e.mem with | .sram => 2 | .dram => 4 | .nv => 6)).raise 0xD005 [u8 e.mem.code, u32 e.addr, u8 e.unit]).eccLost e

/-- ECC_ERROR_DETECTED; without ECC the DRAM has no check bits to find an error by (15 R434). -/
def execEccErrorDetected (err : EccError) (s : State) : Out :=
  .next (
    if !s.awake || (err.mem == .dram && !s.dramEcc) then s
    else if err.double then s.eccUncorrected err
    else s.eccCorrected err)

/-! ### The fault log (17 R465) -/

/-- FAULT_LOG_ENTRY: the waiting entries fall due for writing. -/
def execFaultLogEntry (s : State) : Out := .next (if s.live && !s.flt.waiting.isEmpty then s.recordDue 0x0700 false else s)

def FaultEntry.bytes (e : FaultEntry) : Bytes := u32 e.seq ++ u8 e.kind ++ u8 e.unit ++ u16 e.detail ++ u64 e.time

def fltLogBody : Body := fun q s =>
  if !s.areaOk (q.nat 1) 1024 then (naming stRange 1, s)
  else
    let l := s.nvFaults
    (okReply [tlvN 2 1 l.length, tlvN 3 4 ((l.getLast?.map (fun e => e.seq)).getD 0)],
      s.winWrite (q.nat 1) (l.flatMap (fun e => e.bytes)))

/-- FLT_LOG_GET (17 R465, 02 R496). -/
def execFltLogGet (ch : Nat) (s : State) : Out := .next (s.serve ch 0xF007 { rows := [{ ty := 1, len := .exact 4 }] } fltLogBody)

/-- FLT_COUNTERS_GET (17 R475). -/
def execFltCountersGet (ch : Nat) (s : State) : Out := .next (s.serve ch 0xF009 clearSpec (countersBody .flt 7))

/-! ### Injected faults (17 R474) -/

def stInjectDisabled : Nat := 0xF104

/-- The innermost operation of a core. -/
def Core.firstOp (c : Core) : Option (Nat × Nat) :=
  c.jobs.findSome? (fun j => match j with | .op i n _ => some (i, n) | .handler _ _ => none)

/-- A fault of kind `k` at `unit`, handled as a real one, its log entry's kind + 0x80; none where the unit is in no state to show it,
and the unit that the kind does not have is `some none` (log entry 49). -/
def State.inject (s : State) (k unit : Nat) : Option (Option State) :=
  let within (n : Nat) (r : Option State) : Option (Option State) := if unit < n then some r else none
  if k = 1 then within 8 ((s.core unit).firstOp.map (fun o => s.withdrawOp o.1 o.2 0x80))
  else if k = 2 then within 32 (some ((s.bump .mem 1).logCe 0 unit 0x80))
  else if k = 3 then within partChannels (if s.ddrReady && s.dramEcc then some ((s.bump .mem 3).logCe 1 0 0x80) else none)
  else if k = 4 then
    if unit < 4 then none else within 8 (if (s.serLane unit).st = .up then some (s.laneLoss unit false 0 0x80) else none)
  else if k = 5 then within 4 (if s.portRole unit = 2 ∧ (s.ethPort unit).up then some (s.portDown unit (some 0x80)) else none)
  else within 3 (
    match Radio.ofNat? unit with
    | some x => if (s.radio x).locked && (s.radio x).relock.isNone then some (s.unlockSynth x 0x80) else none
    | none => none)

def fltInjectBody : Body := fun q s =>
  if !s.pbool 0xF002 then (plain stInjectDisabled, s)
  else if q.nat 1 = 0 ∨ 6 < q.nat 1 then (naming stRange 1, s)
  else
    match s.inject (q.nat 1) (q.nat 2) with
    | none => (naming stRange 2, s)
    | some none => (plain stState, s)
    | some (some t) => (okReply [], t.bump .flt 7)

/-- FLT_INJECT (17 R474). -/
def execFltInject (ch : Nat) (s : State) : Out :=
  .next (s.serve ch 0xF008 { rows := [{ ty := 1, len := .exact 1 }, { ty := 2, len := .exact 1 }] } fltInjectBody)

end Sys2Proof.Machine
end

