-- ==== Sys2Proof/Machine/Sha.lean ====
section
/-! DEFINITION. SHA-256 and ECDSA verification over P-256, as their standards give them, for the checks of a firmware image
(17 R469; log entry 15). -/

namespace Sys2Proof.Machine

/-! ### SHA-256 -/

/-- The round constants: fractional parts of the cube roots of the first 64 primes. -/
def shaK : List Nat := [
  0x428A2F98, 0x71374491, 0xB5C0FBCF, 0xE9B5DBA5, 0x3956C25B, 0x59F111F1, 0x923F82A4, 0xAB1C5ED5,
  0xD807AA98, 0x12835B01, 0x243185BE, 0x550C7DC3, 0x72BE5D74, 0x80DEB1FE, 0x9BDC06A7, 0xC19BF174,
  0xE49B69C1, 0xEFBE4786, 0x0FC19DC6, 0x240CA1CC, 0x2DE92C6F, 0x4A7484AA, 0x5CB0A9DC, 0x76F988DA,
  0x983E5152, 0xA831C66D, 0xB00327C8, 0xBF597FC7, 0xC6E00BF3, 0xD5A79147, 0x06CA6351, 0x14292967,
  0x27B70A85, 0x2E1B2138, 0x4D2C6DFC, 0x53380D13, 0x650A7354, 0x766A0ABB, 0x81C2C92E, 0x92722C85,
  0xA2BFE8A1, 0xA81A664B, 0xC24B8B70, 0xC76C51A3, 0xD192E819, 0xD6990624, 0xF40E3585, 0x106AA070,
  0x19A4C116, 0x1E376C08, 0x2748774C, 0x34B0BCB5, 0x391C0CB3, 0x4ED8AA4A, 0x5B9CCA4F, 0x682E6FF3,
  0x748F82EE, 0x78A5636F, 0x84C87814, 0x8CC70208, 0x90BEFFFA, 0xA4506CEB, 0xBEF9A3F7, 0xC67178F2]

/-- The start value: fractional parts of the square roots of the first 8 primes. -/
def shaInit : List Nat := [
  0x6A09E667, 0xBB67AE85, 0x3C6EF372, 0xA54FF53A, 0x510E527F, 0x9B05688C, 0x1F83D9AB, 0x5BE0CD19]

def w32 (n : Nat) : Nat := n % 2 ^ 32

def rotr (n x : Nat) : Nat := w32 (x >>> n ||| x <<< (32 - n))

def shaSmall0 (x : Nat) : Nat := rotr 7 x ^^^ rotr 18 x ^^^ (x >>> 3)
def shaSmall1 (x : Nat) : Nat := rotr 17 x ^^^ rotr 19 x ^^^ (x >>> 10)
def shaBig0 (x : Nat) : Nat := rotr 2 x ^^^ rotr 13 x ^^^ rotr 22 x
def shaBig1 (x : Nat) : Nat := rotr 6 x ^^^ rotr 11 x ^^^ rotr 25 x

/-- The message schedule, newest word first, grown by `n` words. -/
def shaExtend : Nat → List Nat → List Nat
  | 0, w => w
  | n + 1, w =>
    shaExtend n (w32 (shaSmall1 (w.getD 1 0) + w.getD 6 0 + shaSmall0 (w.getD 14 0) + w.getD 15 0) :: w)

/-- The eight working words. -/
structure ShaWork where
  a : Nat
  b : Nat
  c : Nat
  d : Nat
  e : Nat
  f : Nat
  g : Nat
  h : Nat
  deriving DecidableEq, Repr

def ShaWork.round (v : ShaWork) (kw : Nat × Nat) : ShaWork :=
  let ch := (v.e &&& v.f) ^^^ ((2 ^ 32 - 1 - v.e) &&& v.g)
  let maj := (v.a &&& v.b) ^^^ (v.a &&& v.c) ^^^ (v.b &&& v.c)
  let t := v.h + shaBig1 v.e + ch + kw.1 + kw.2
  ⟨w32 (t + shaBig0 v.a + maj), v.a, v.b, v.c, w32 (v.d + t), v.e, v.f, v.g⟩

def ShaWork.words (v : ShaWork) : List Nat := [v.a, v.b, v.c, v.d, v.e, v.f, v.g, v.h]

def shaWords : Nat → Bytes → List Nat
  | 0, _ => []
  | n + 1, b => beNat (b.take 4) :: shaWords n (b.drop 4)

/-- One block of 64 bytes. -/
def shaBlock (h : List Nat) (b : Bytes) : List Nat :=
  let w := (shaExtend 48 (shaWords 16 b).reverse).reverse
  let v : ShaWork := ⟨h.getD 0 0, h.getD 1 0, h.getD 2 0, h.getD 3 0, h.getD 4 0, h.getD 5 0, h.getD 6 0, h.getD 7 0⟩
  (h.zip ((shaK.zip w).foldl ShaWork.round v).words).map (fun p => w32 (p.1 + p.2))

def shaPad (b : Bytes) : Bytes :=
  b ++ 0x80#8 :: List.replicate ((119 - b.length % 64) % 64) 0#8 ++ beBytes 8 (8 * b.length)

def shaBlocks : Nat → Bytes → List Nat → List Nat
  | 0, _, h => h
  | n + 1, b, h => shaBlocks n (b.drop 64) (shaBlock h (b.take 64))

/-- SHA-256. -/
def sha256 (b : Bytes) : Bytes :=
  let p := shaPad b
  (shaBlocks (p.length / 64) p shaInit).flatMap (fun w => beBytes 4 w)

/-! ### ECDSA over P-256 -/

def p256 : Nat := 2 ^ 256 - 2 ^ 224 + 2 ^ 192 + 2 ^ 96 - 1
def p256B : Nat := 0x5AC635D8AA3A93E7B3EBBD55769886BC651D06B0CC53B0F63BCE3C3E27D2604B
def p256Order : Nat := 0xFFFFFFFF00000000FFFFFFFFFFFFFFFFBCE6FAADA7179E84F3B9CAC2FC632551
def p256X : Nat := 0x6B17D1F2E12C4247F8BCE6E563A440F277037D812DEB33A0F4A13945D898C296
def p256Y : Nat := 0x4FE342E2FE1A7F9B8EE7EB4A7C0F9E162BCE33576B315ECECBB6406837BF51F5

/-- A power modulo `m`, over the `fuel` low bits of the exponent. -/
def powMod (m : Nat) : Nat → Nat → Nat → Nat
  | 0, _, _ => 1
  | fuel + 1, b, e =>
    let r := powMod m fuel (b * b % m) (e / 2)
    if e % 2 = 1 then r * b % m else r

/-- The inverse modulo a prime. -/
def invMod (m x : Nat) : Nat := powMod m 256 (x % m) (m - 2)

/-- A point of the curve; none is the neutral one. -/
abbrev Point := Option (Nat × Nat)

def pointAdd (x y : Point) : Point :=
  match x, y with
  | none, q => q
  | p, none => p
  | some (x1, y1), some (x2, y2) =>
    if x1 = x2 ∧ (y1 + y2) % p256 = 0 then none
    else
      let l := if x1 = x2 then (3 * x1 * x1 + (p256 - 3)) * invMod p256 (2 * y1) % p256
        else (y2 + p256 - y1) * invMod p256 (x2 + p256 - x1) % p256
      let x3 := (l * l + 2 * p256 - x1 - x2) % p256
      some (x3, (l * (x1 + p256 - x3) + p256 - y1) % p256)

def pointMul : Nat → Nat → Point → Point
  | 0, _, _ => none
  | fuel + 1, k, p =>
    let r := pointMul fuel (k / 2) (pointAdd p p)
    if k % 2 = 1 then pointAdd p r else r

def onCurve (x y : Nat) : Bool :=
  decide (x < p256) && decide (y < p256) && (y * y % p256 == (x * x * x + (p256 - 3) * x + p256B) % p256)

/-- Whether (r, s) signs a digest under a public key. -/
def ecdsaVerify (x y : Nat) (digest r s : Nat) : Bool :=
  if onCurve x y && decide (0 < r) && decide (r < p256Order) && decide (0 < s) && decide (s < p256Order) then
    let w := invMod p256Order s
    match pointAdd (pointMul 256 (digest * w % p256Order) (some (p256X, p256Y))) (pointMul 256 (r * w % p256Order) (some (x, y))) with
    | some (px, _) => px % p256Order == r
    | none => false
  else false

end Sys2Proof.Machine
end

