-- ==== Sys2Proof/Machine/Fw.lean ====
section
/-! DEFINITION. Firmware: staging, checking, writing and activating an image (17 R469-R471). -/

namespace Sys2Proof.Machine

def stFwSignature : Nat := 0xF101
def stFwVersion : Nat := 0xF102
def stFwState : Nat := 0xF103

/-- Bytes of the staging region (15 R425). -/
def stagingBytes : Nat := 0x800000

def fwStageSpec : TlvSpec := { rows := [{ ty := 1, len := .exact 4 }, { ty := 2, len := .exact 4 }, { ty := 3, len := .exact 4 }] }

def fwStageBody : Body := fun q s =>
  let n := q.nat 3
  if !s.ddrReady then (plain stState, s)
  else if n < 4 ∨ 262144 < n then (naming stRange 3, s)
  else if stagingBytes < q.nat 1 + n then (naming stRange 1, s)
  else if !s.areaOk (q.nat 2) n then (naming stRange 2, s)
  else (okReply [], { s with fw := { s.fw with staged := writeBytes s.fw.staged (q.nat 1) (s.winRead (q.nat 2) n) } })

/-- FW_STAGE (17 R469, 15 R436). -/
def execFwStage (ch : Nat) (s : State) : Out := .next (s.serve ch 0xF002 fwStageSpec fwStageBody)

/-- The numbers of an image header (17 image header). -/
structure FwHeader where
  magic : Nat
  version : Nat
  sec : Nat
  length : Nat
  deriving DecidableEq, Repr

def fwHeader (h : Bytes) : FwHeader := ⟨fieldAt h 0 4, fieldAt h 4 4, fieldAt h 8 4, fieldAt h 12 4⟩

/-- The checks of an image on its own: magic, length, vendor key, signature and body (17 R469). The key and the signature are octet
strings, most significant octet first (log entry 50). -/
def fwImageOk (m : List Host.Cell) : Bool :=
  let h := readBytes m 0 256
  let f := fwHeader h
  let key := (h.drop 48).take 64
  let sig := (h.drop 112).take 64
  f.magic == 0x5A454F54 && decide (f.length + 256 ≤ 0x600000)
    && sha256 key == Config.vendorKeyHash
    && ecdsaVerify (beNat (key.take 32)) (beNat (key.drop 32)) (beNat (sha256 (h.take 112))) (beNat (sig.take 32)) (beNat (sig.drop 32))
    && (h.drop 16).take 32 == sha256 (readBytes m 256 f.length)

/-- The slot that does not run. -/
def State.otherSlot (s : State) : Nat := 1 - s.sys.fwSlot

def fwCommitBody : Body := fun q s =>
  if s.board.isNone then (plain stNotDeclared, s)
  else if !s.ddrReady || s.fw.activating || s.fw.writing.isSome then (plain stState, s)
  else
    let f := fwHeader (readBytes s.fw.staged 0 256)
    if !fwImageOk s.fw.staged then (plain stFwSignature, s.bump .flt 5)
    else if f.sec < (s.slot s.sys.fwSlot).sec then (plain stFwVersion, s.bump .flt 5)
    else
      let k := s.otherSlot
      let w : FwWrite := ⟨k, f.version, f.sec, ceilDiv (f.length + 256) 8192, q.ch⟩
      (.wait [tlvN 1 4 f.version, tlvN 2 1 k],
        { s with fw := { s.fw with slots := tset s.fw.slots k {}, writing := some w } }.pushNv fwPieceWrite)

/-- FW_COMMIT (17 R469). -/
def execFwCommit (ch : Nat) (s : State) : Out := .next (s.serve ch 0xF003 noTlvs fwCommitBody)

def fwActivateBody : Body := fun _ s =>
  if (s.slot s.otherSlot).state ≠ .committed || s.fw.activating || s.pnat 0x8004 == 8 then (plain stFwState, s)
  else if !s.ddrReady then (plain stState, s)
  else (okReply [], { s with fw := { s.fw with activating := true } })

/-- FW_ACTIVATE (17 R470). -/
def execFwActivate (ch : Nat) (s : State) : Out := .next (s.serve ch 0xF004 noTlvs fwActivateBody)

/-- A changed template installed beside its old version, in the lowest free of the 64 slots (log entry 18), or kept waiting. -/
def State.installTemplate (s : State) (old : Nat) (t : Template) : State :=
  match tfree s.cc.templates 64 with
  | some k =>
    { s with
      cc := { s.cc with templates := tset s.cc.templates k t }
      fw := { s.fw with oldSlots := s.fw.oldSlots ++ (if thas s.cc.templates old then [old] else []) } }
  | none => { s with fw := { s.fw with tplWait := s.fw.tplWait ++ [(old, t)] } }

def State.installAll (s : State) (l : List (Nat × Template)) : State :=
  l.foldl (fun (s : State) p => s.installTemplate p.1 p.2) s

/-- ACTIVATION_COMPLETED: every core and the AOC run the new image, whose changed templates come with the slots of their old
versions; the slot is on trial (17 R470). -/
def execActivationCompleted (changed : Tab Template) (s : State) : Out :=
  .next (
    if !s.fw.activating || !s.live then s
    else
      let k := s.otherSlot
      let v := (s.slot k).version
      let s := s.installAll changed
      let s := { s with
        fw := { s.fw with activating := false, slots := tmod {} s.fw.slots k (fun x => { x with state := .trial }) }
        sys := { s.sys with fwSlot := k, fwVersion := v } }
      (s.bump .flt 6).raise 0xF003 [u32 v, u8 changed.length])

/-- An old template slot that neither an instance nor a waiting trigger binds. -/
def State.slotUnbound (s : State) (k : Nat) : Bool := liveOf s k == 0 && !s.cc.waitTriggers.any (fun t => t.tpl == k)

/-- FW_OLD_IMAGE_RELEASE: old template slots that nothing binds are freed, and waiting templates take them (17 R470). -/
def execFwOldImageRelease (s : State) : Out :=
  .next (
    let free := s.fw.oldSlots.filter (fun k => s.slotUnbound k)
    if free.isEmpty || !s.awake then s
    else
      let wait := s.fw.tplWait
      let s := { s with
        cc := { s.cc with templates := s.cc.templates.filter (fun p => !free.contains p.1) }
        fw := { s.fw with oldSlots := s.fw.oldSlots.filter (fun k => !free.contains k), tplWait := [] } }
      s.installAll wait)

def fwConfirmBody : Body := fun _ s =>
  if (s.slot s.sys.fwSlot).state ≠ .trial then (plain stFwState, s)
  else (okReply [], { s with fw := { s.fw with slots := tmod {} s.fw.slots s.sys.fwSlot (fun x => { x with state := .confirmed }) } })

/-- FW_CONFIRM: without a slot on trial there is nothing to confirm (17 R471; log entry 51). -/
def execFwConfirm (ch : Nat) (s : State) : Out := .next (s.serve ch 0xF005 noTlvs fwConfirmBody)

def SlotState.code : SlotState → Nat
  | .empty => 0 | .confirmed => 1 | .committed => 2 | .trial => 3

def fwStatusBody : Body := fun _ s =>
  (okReply [⟨1, u32 (s.slot 0).version ++ u32 (s.slot 1).version⟩, ⟨2, u8 (s.slot 0).state.code ++ u8 (s.slot 1).state.code⟩,
    tlvN 3 1 s.sys.fwSlot, tlvN 4 2 ((s.fw.oldSlots.map (liveOf s)).sum)], s)

/-- FW_STATUS_GET. -/
def execFwStatusGet (ch : Nat) (s : State) : Out := .next (s.serve ch 0xF006 noTlvs fwStatusBody)

end Sys2Proof.Machine
end

