-- ==== Sys2Proof/Machine/HostBus.lean ====
section
/-! DEFINITION. The host bus: HSPI, the management serial interface, in-band access, and the registers they reach (02 R23-R42, 11
R332-R334, 12 R352, 16 R453). -/

namespace Sys2Proof.Machine

/-! ### Error counts (02 R32) -/

def State.setHif (s : State) (h : Hif) : State := { s with hif := h }

def State.countUnmapped (s : State) : State := s.setHif { s.hif with unmapped := satAdd 255 s.hif.unmapped 1 }

/-- An ignored index write (02 R33, R40, R41). -/
def State.countOverrun (s : State) : State := s.setHif { s.hif with mbxOverrun := satAdd 255 s.hif.mbxOverrun 1 }

/-- HIF_ERR read to its last byte; in NAP and HIBERNATE the AOC's copy is cleared (02 R24, R27, 16 R453). -/
def State.clearHif (s : State) : State :=
  if s.awake then s.setHif { s.hif with badOp := 0, unmapped := 0, mbxOverrun := 0, inbandReject := 0 }
  else s.setHif { s.hif with mserCleared := true }

/-! ### The map (02 R32, 15 R421) -/

/-- A word of the host bus map. -/
def State.mapped (s : State) (a : Nat) : Bool :=
  decide (a < 0x20) || (decide (0x10000 ≤ a) && decide (a < 0x10110)) || (decide (0x20000 ≤ a) && decide (a < 0x20800))
    || (decide (0x30000 ≤ a) && decide (a < 0x30100)) || (decide (0x40000 ≤ a) && decide (a < 0x40100))
    || (decide (winBase ≤ a) && decide (a < winBase + s.winSize))

/-- The mailbox index block (02 R32). -/
def State.indexReg (s : State) (off : Nat) : Nat :=
  if off < 0x80 then
    let c := s.chan (off / 16)
    match off % 16 / 4 with
    | 0 => c.reqPi
    | 1 => c.reqCi
    | 2 => c.rspPi
    | _ => c.rspCi
  else if off = 0x100 then s.evt.pi
  else if off = 0x104 then s.evt.ci
  else if off = 0x108 then s.evt.lost
  else 0

/-- The ring control block (02 R39). -/
def State.ringReg (s : State) (off : Nat) : Nat :=
  let x := s.ring (off / 16)
  match off % 16 / 4 with
  | 0 => x.base
  | 1 => x.log2 + flag x.enable 8
  | 2 => x.head
  | _ => x.tail

/-- The event summary and interrupt block (11 R332). -/
def State.evsReg (s : State) (off : Nat) : Nat :=
  match off / 4 with
  | 0 => s.summary.toNat
  | 1 => s.evs.enable.toNat
  | 2 => s.evs.ringRx.toNat
  | 3 => s.evs.ringTx.toNat
  | 4 => s.evs.ringMask.toNat
  | 5 => s.evs.cfg.toNat
  | 6 => s.hirqStatus
  | _ => 0

/-- What an aligned word reads as (02 R24, R32). -/
def State.readWord (s : State) (a : Nat) : Word :=
  if !s.mapped a then 0#32
  else if a < 0x20 then BitVec.ofNat 32 (s.idReg (a / 4))
  else if a < 0x20000 then BitVec.ofNat 32 (s.indexReg (a - 0x10000))
  else if a < 0x30000 then BitVec.ofNat 32 (s.ringReg (a - 0x20000))
  else if a < 0x40000 then BitVec.ofNat 32 (s.blkRead ((a - 0x30000) / 4))
  else if a < winBase then BitVec.ofNat 32 (s.evsReg (a - 0x40000))
  else BitVec.ofNat 32 (leNat (s.winRead (a - winBase) 4))

/-- What a complete read of a word changes: HIF_ERR and EVT_LOST are cleared, an unmapped word is counted (02 R24, R32). -/
def State.readDone (s : State) (a : Nat) : State :=
  if !s.mapped a then s.countUnmapped
  else if a = 0x10 then s.clearHif
  else if a = 0x10108 then { s with evt := { s.evt with lost := 0 } }
  else s

/-! ### Index writes (02 R33, R35, R38) -/

/-- The advance that a write makes of an index. -/
def indexAdvance (old new : Nat) : Nat := (new + 65536 - old % 65536) % 65536

/-- MBX_REQ_PI: the doorbell. -/
def State.writeReqPi (s : State) (ch v : Nat) : State :=
  let c := s.chan ch
  if 8 ≤ ch then s
  else if 16 < c.outstanding + indexAdvance c.reqPi v then s.countOverrun
  else State.refuseUnknown ch 16 { s with chans := tset s.chans ch { c with reqPi := v } }

/-- MBX_RSP_CI: response slots freed. -/
def State.writeRspCi (s : State) (ch v : Nat) : State :=
  let c := s.chan ch
  if 8 ≤ ch then s
  else if c.unread < indexAdvance c.rspCi v then s.countOverrun
  else State.refuseUnknown ch 16 { s with chans := tset s.chans ch { c with rspCi := v } }

/-- EV_EVENTS_LOST into a freed slot, ahead of every later event (02 R38). -/
def State.tellLost (s : State) : State :=
  if s.evt.dropped = 0 ∨ 256 ≤ s.evtUsed then s
  else
    let n := s.evt.dropped
    ({ s with evt := { s.evt with dropped := 0 } }).raise 0x0001 [u16 n, u16 s.evt.lastDropped]

/-- EVT_CI: event slots freed. -/
def State.writeEvtCi (s : State) (v : Nat) : State :=
  if s.evtUsed < indexAdvance s.evt.ci v then s.countOverrun
  else { s with evt := { s.evt with ci := v } }.tellLost

/-! ### Ring registers (02 R39-R41) -/

def State.writeRingBase (s : State) (r v : Nat) : State :=
  if 32 ≤ r ∨ (s.ring r).enable then s else s.setRing r { s.ring r with base := v }

/-- The checks that let a ring into service (02 R40). -/
def State.ringOk (s : State) (x : Ring) (log2 : Nat) : Bool :=
  x.base % 32 == 0 && s.areaOk x.base (32 * 2 ^ log2) && decide (x.tail < 2 ^ log2)

def State.writeRingCfg (s : State) (r v : Nat) : State :=
  let x := s.ring r
  let log2 := v % 32
  if 32 ≤ r then s
  else if x.enable then
    if v.testBit 8 then s
    else s.setRing r (if x.waiting then { x with enable := false, ending := true } else { x with enable := false, head := 0, tail := 0 })
  else if log2 < 6 ∨ 16 < log2 then s.countOverrun
  else if !v.testBit 8 then s.setRing r { x with log2 := log2 }
  else if s.ringOk x log2 then s.setRing r { x with log2 := log2, enable := true }
  else (s.setRing r { x with log2 := log2 }).countOverrun

def State.writeRingTail (s : State) (r v : Nat) : State :=
  let x := s.ring r
  if 32 ≤ r then s
  else if x.size ≤ v ∨ (x.head + 2 * x.size - x.tail % x.size - 1) % x.size < (v + x.size - x.tail % x.size) % x.size then s.countOverrun
  else s.setRing r { x with tail := v }

/-! ### The event summary block (11 R332, R334) -/

def State.setEvs (s : State) (e : Evs) : State := { s with evs := e }

def State.clearRingRx (s : State) (v : Word) : State := s.setEvs { s.evs with ringRx := s.evs.ringRx &&& ~~~v }

def State.clearRingTx (s : State) (v : Word) : State := s.setEvs { s.evs with ringTx := s.evs.ringTx &&& ~~~v }

def State.clearBoot (s : State) : State := s.setEvs { s.evs with boot := false }

def State.writeEnable (s : State) (v : Word) : State := s.setEvs { s.evs with enable := v &&& 0x3FFF#32 }

def State.writeEvs (s : State) (off : Nat) (v : Word) : State :=
  match off / 4 with
  | 0 => if v.getLsbD 12 then s.clearBoot else s
  | 1 => s.writeEnable v
  | 2 => s.clearRingRx v
  | 3 => s.clearRingTx v
  | 4 => s.setEvs { s.evs with ringMask := v }
  | 5 => s.setEvs { s.evs with cfg := v &&& 0xFFFF07FF#32 }
  | _ => s

/-! ### A word written (00 R6, 02 R24, R32) -/

/-- A word of the mailbox index block written. -/
def State.writeIndex (s : State) (off v : Nat) : State :=
  if off < 0x80 ∧ off % 16 = 0 then s.writeReqPi (off / 16) v
  else if off < 0x80 ∧ off % 16 = 12 then s.writeRspCi (off / 16) v
  else if off = 0x104 then s.writeEvtCi v
  else s

/-- A word of the ring control block written. -/
def State.writeRing (s : State) (off : Nat) (v : Word) : State :=
  match off % 16 / 4 with
  | 0 => s.writeRingBase (off / 16) v.toNat
  | 1 => s.writeRingCfg (off / 16) v.toNat
  | 3 => s.writeRingTail (off / 16) (v.toNat % 65536)
  | _ => s

/-- The effect of a word written at an aligned address. -/
def State.writeWord (s : State) (a : Nat) (v : Word) : State :=
  if !s.mapped a then s.countUnmapped
  else if a < 0x20 then (if a = 0x14 then { s with sys := { s.sys with scratch := v } } else s)
  else if a < 0x20000 then s.writeIndex (a - 0x10000) (v.toNat % 65536)
  else if a < 0x30000 then s.writeRing (a - 0x20000) v
  else if a < 0x40000 then s.blkWrite ((a - 0x30000) / 4) v.toNat
  else if a < winBase then s.writeEvs (a - 0x40000) v
  else s.winWrite (a - winBase) (leBytes 4 v.toNat)

/-- A host access in ACTIVE or DOZE, which ends DOZE and may release the line; in any other state nothing answers, and HSPI_IO is
high-impedance from the entry on (02 R25, 11 R334, 16 R446; `State.sleep`). -/
def State.access (s : State) (f : State → State) : State := if s.awake then (f s.leaveDoze).hostRecheck else s

/-- An address rounded down to its word, with its count where it was not aligned (02 R24). A word that is also unmapped counts a second
time, for itself: DESIGN CHOICE, log entry 137. -/
def State.align (s : State) (a : Nat) : State := if a % 4 = 0 then s else s.countUnmapped

/-! ### HSPI rows -/

/-- HSPI_BAD_OPCODE (02 R23). -/
def execHspiBadOpcode (opcode : Byte) (s : State) : Out :=
  .next (
    if !s.awake || opcode == 0x0B#8 || opcode == 0x02#8 then s
    else s.setHif { s.hif with badOp := satAdd 255 s.hif.badOp 1, hspiOut := none })

/-- A word read over HSPI, all or some of whose bytes are clocked out (02 R24). -/
def State.hspiRead (s : State) (a clocked : Nat) : State :=
  let v := s.readWord a
  let s := s.setHif { s.hif with hspiOut := some v }
  if clocked < 4 then s else s.readDone a

/-- HIF_ERR_READ (02 R24, R32). -/
def execHifErrRead (clocked : Nat) (s : State) : Out := .next (s.access (fun s => s.hspiRead 0x10 clocked))

/-- EVT_LOST_READ (02 R38). -/
def execEvtLostRead (clocked : Nat) (s : State) : Out := .next (s.access (fun s => s.hspiRead 0x10108 clocked))

/-- UNMAPPED_ACCESS: a read, or a write of a word, at an address that is not aligned or lies outside every block; the address is rounded
down (02 R24). -/
def execUnmappedAccess (write : Option Word) (addr : Nat) (s : State) : Out :=
  .next (
    if addr % 4 = 0 && s.mapped addr then s
    else s.access (fun s =>
      match write with
      | some v => (s.align addr).writeWord (addr / 4 * 4) v
      | none => (s.align addr).hspiRead (addr / 4 * 4) 4))

/-- REGISTER_WRITE (00 R6, 02 R24, R32, 11 R332). -/
def execRegisterWrite (addr : Nat) (value : Word) (s : State) : Out :=
  .next (s.access (fun s => (s.align addr).writeWord (addr / 4 * 4) value))

/-- MBX_REQ_PI_WRITE (02 R33). -/
def execMbxReqPiWrite (ch : Nat) (value : Word) (s : State) : Out :=
  .next (s.access (fun s => s.writeReqPi ch (value.toNat % 65536)))

/-- MBX_RSP_CI_WRITE (02 R33, R35). -/
def execMbxRspCiWrite (ch : Nat) (value : Word) (s : State) : Out :=
  .next (s.access (fun s => s.writeRspCi ch (value.toNat % 65536)))

/-- EVT_CI_WRITE (02 R33, R38). -/
def execEvtCiWrite (value : Word) (s : State) : Out := .next (s.access (fun s => s.writeEvtCi (value.toNat % 65536)))

/-- RING_BASE_WRITE (02 R40). -/
def execRingBaseWrite (ring : Nat) (value : Word) (s : State) : Out := .next (s.access (fun s => s.writeRingBase ring value.toNat))

/-- RING_CFG_WRITE (02 R40, R41). -/
def execRingCfgWrite (ring : Nat) (value : Word) (s : State) : Out := .next (s.access (fun s => s.writeRingCfg ring value.toNat))

/-- RING_TAIL_WRITE (02 R41). -/
def execRingTailWrite (ring : Nat) (value : Word) (s : State) : Out :=
  .next (s.access (fun s => s.writeRingTail ring (value.toNat % 65536)))

/-- EVS_RING_RX_WRITE (11 R334). -/
def execEvsRingRxWrite (value : Word) (s : State) : Out := .next (s.access (fun s => s.clearRingRx value))

/-- EVS_RING_TX_WRITE (11 R334). -/
def execEvsRingTxWrite (value : Word) (s : State) : Out := .next (s.access (fun s => s.clearRingTx value))

/-- EVS_BOOT_CLEAR (11 R334). -/
def execEvsBootClear (s : State) : Out := .next (s.access (fun s => s.clearBoot))

/-- EVS_ENABLE_WRITE (11 R334). -/
def execEvsEnableWrite (value : Word) (s : State) : Out := .next (s.access (fun s => s.writeEnable value))

/-! ### The management serial interface (02 R26, R27, 16 R453) -/

/-- The interface is powered: out of reset and not in OFF. -/
def State.mserOn (s : State) : Bool := !s.sys.hold.held && s.sys.pstate != .off

/-- A transaction to the device's own address. -/
def State.mserOurs (s : State) (dev : Nat) : Bool := s.mserOn && dev == s.pnat 0x0018

def State.setPtr (s : State) (p : Nat) : State := s.setHif { s.hif with mserPtr := p % 8 }

/-- A WAKE write latches its source and asks for ACTIVE (02 R26, 16 R450). -/
def execWakeWrite (s : State) : Out := .next (if s.mserOn then s.latchWake 1 else s)

/-- One complete word written at the pointer, which then advances. -/
def State.mserWord (s : State) (b : Bytes) : State :=
  let n := s.hif.mserPtr
  let s := s.setPtr (n + 1)
  if n = 5 ∧ s.awake then { s with sys := { s.sys with scratch := BitVec.ofNat 32 (leNat b) } }
  else if n = 7 then s.latchWake 1
  else s

/-- Complete words written, one after another; a partial word is discarded. -/
def State.mserWords : Nat → Bytes → State → State
  | 0, _, s => s
  | n + 1, b, s => State.mserWords n (b.drop 4) (s.mserWord (b.take 4))

/-- MSER_WRITE of a pointer byte and data; a pointer byte with bits [7:3] set ends the transaction. -/
def execMserWrite (dev : Nat) (pointer : Byte) (data : Bytes) (s : State) : Out :=
  .next (
    if !s.mserOurs dev then s
    else
      let s := s.setHif { s.hif with sclHeld := false, mserOut := [] }
      if 8 ≤ pointer.toNat then s
      else State.mserWords (data.length / 4) data (s.setPtr pointer.toNat))

/-- `n` bytes sent from the pointer upward, whole registers first. -/
def State.mserSend : Nat → Nat → State → State
  | 0, _, s => s
  | fuel + 1, n, s =>
    if n = 0 then s
    else
      let p := s.hif.mserPtr
      let b := (u32 (s.idReg p)).take (min 4 n)
      let s := s.setHif { s.hif with mserOut := s.hif.mserOut ++ b }
      if n < 4 then s
      else
        let s := if p = 4 then s.clearHif else s
        State.mserSend fuel (n - 4) (s.setPtr (p + 1))

/-- MSER_READ of `sent` bytes, behind a pointer byte if there is one. -/
def execMserRead (dev : Nat) (pointer : Option Byte) (sent : Nat) (s : State) : Out :=
  .next (
    if !s.mserOurs dev then s
    else
      let s := s.setHif { s.hif with sclHeld := false, mserOut := [] }
      match pointer with
      | some p => if 8 ≤ p.toNat then s else State.mserSend (sent / 4 + 1) sent (s.setPtr p.toNat)
      | none => State.mserSend (sent / 4 + 1) sent s)

/-- MSER_ADDRESS_MATCH (16 R453). -/
def execMserAddressMatch (dev : Nat) (s : State) : Out :=
  .next (
    if s.mserOurs dev && (s.sys.pstate == .nap || s.sys.pstate == .hibernate) then s.setHif { s.hif with sclHeld := true } else s)

/-! ### In-band access (02 R28-R30) -/

/-- A frame that the in-band interface takes: on its port, which is up, with its EtherType and the VLAN ID of its tag, 0 for a frame
without one (02 R28). -/
def State.inbandOurs (s : State) (q : InbandReq) : Bool :=
  s.awake && s.pbool 0x0010 && q.port == s.pnat 0x0011 && (s.ethPort q.port).up && q.etype == s.pnat 0x0012
    && q.vlan == s.pnat 0x0013

/-- The words of a read, each read in full. -/
def State.inbandWords : Nat → Nat → State → Bytes × State
  | 0, _, s => ([], s)
  | n + 1, a, s =>
    let (rest, t) := State.inbandWords n (a + 4) (s.readDone a)
    (leBytes 4 (s.readWord a).toNat ++ rest, t)

/-- The words of a write. -/
def State.inbandStore : Nat → Nat → Bytes → State → State
  | 0, _, _, s => s
  | n + 1, a, b, s => State.inbandStore n (a + 4) (b.drop 4) (s.writeWord a (BitVec.ofNat 32 (leNat (b.take 4))))

/-- A request executed: the status, the data of a read, and the state; a word outside the map gives ERR_UNMAPPED, and the others act
(02 R24, R28; log entry 54). -/
def State.inbandDo (s : State) (write : Bool) (q : InbandReq) : Nat × Bytes × State :=
  let n := q.len / 4
  let a := q.addr / 4 * 4
  if q.len < 4 ∨ 1024 < q.len ∨ q.len % 4 ≠ 0 ∨ (write ∧ q.data.length < q.len) then (stBadLength, [], s)
  else
    let st := if (List.range n).all (fun i => s.mapped (a + 4 * i)) then stOk else stUnmapped
    let s := s.align q.addr
    if write then (st, [], State.inbandStore n a q.data s)
    else
      let (b, s) := State.inbandWords n a s
      (st, b, s)

/-- A response kept for its source, whose entry becomes the newest; with 8 others in use the oldest goes (02 R29). -/
def keepResp (l : List InbandEntry) (e : InbandEntry) : List InbandEntry :=
  let rest := l.filter (fun x => x.src != e.src)
  rest.drop (rest.length - 7) ++ [e]

/-- A request of a served source: answered from the kept response, or executed (02 R29). -/
def State.inbandServe (s : State) (write : Bool) (q : InbandReq) : State :=
  match s.hif.cache.find? (fun e => e.src == q.src && e.seq == q.seq) with
  | some e => s.setHif { s.hif with cache := keepResp s.hif.cache e, inbandOut := some e.resp }
  | none =>
    let (st, data, s) := s.inbandDo write q
    let r : InbandMsg := ⟨if write then 0x82 else 0x81, q.src, q.seq, q.addr, q.len, st, data⟩
    s.setHif { s.hif with cache := keepResp s.hif.cache ⟨q.src, q.seq, r⟩, inbandOut := some r }

/-- An in-band request: one of another source than the host's is discarded and counted (02 R30). -/
def State.inband (s : State) (write : Bool) (q : InbandReq) : State :=
  if !s.inbandOurs q then s
  else if s.pnat 0x0014 ≠ 0 ∧ q.src ≠ s.pnat 0x0014 then s.setHif { s.hif with inbandReject := satAdd 255 s.hif.inbandReject 1 }
  else s.access (fun s => s.inbandServe write q)

/-- INBAND_READ (02 R28-R30). -/
def execInbandRead (req : InbandReq) (s : State) : Out := .next (s.inband false req)

/-- INBAND_WRITE (02 R28-R30). -/
def execInbandWrite (req : InbandReq) (s : State) : Out := .next (s.inband true req)

end Sys2Proof.Machine
end

