-- ==== Sys2Proof/Machine/Dispatch.lean ====
section
/-! DEFINITION. The one dispatch: every command to its meaning. -/

namespace Sys2Proof.Machine

def exec (i : Instr) (s : State) : Host.Outcome State Fault Refusal :=
  match i with
  | .hspiBadOpcode opcode => Sys2Proof.Machine.execHspiBadOpcode opcode s
  | .hifErrRead clocked => Sys2Proof.Machine.execHifErrRead clocked s
  | .unmappedAccess write addr => Sys2Proof.Machine.execUnmappedAccess write addr s
  | .registerWrite addr value => Sys2Proof.Machine.execRegisterWrite addr value s
  | .wakeWrite => Sys2Proof.Machine.execWakeWrite s
  | .mserWrite dev pointer data => Sys2Proof.Machine.execMserWrite dev pointer data s
  | .mserRead dev pointer sent => Sys2Proof.Machine.execMserRead dev pointer sent s
  | .mserAddressMatch dev => Sys2Proof.Machine.execMserAddressMatch dev s
  | .inbandRead req => Sys2Proof.Machine.execInbandRead req s
  | .inbandWrite req => Sys2Proof.Machine.execInbandWrite req s
  | .mbxReqPiWrite ch value => Sys2Proof.Machine.execMbxReqPiWrite ch value s
  | .mbxRspCiWrite ch value => Sys2Proof.Machine.execMbxRspCiWrite ch value s
  | .evtCiWrite value => Sys2Proof.Machine.execEvtCiWrite value s
  | .evtLostRead clocked => Sys2Proof.Machine.execEvtLostRead clocked s
  | .ringBaseWrite ring value => Sys2Proof.Machine.execRingBaseWrite ring value s
  | .ringCfgWrite ring value => Sys2Proof.Machine.execRingCfgWrite ring value s
  | .ringTailWrite ring value => Sys2Proof.Machine.execRingTailWrite ring value s
  | .hostTxRingFrame ring => Sys2Proof.Machine.execHostTxRingFrame ring s
  | .evsRingRxWrite value => Sys2Proof.Machine.execEvsRingRxWrite value s
  | .evsRingTxWrite value => Sys2Proof.Machine.execEvsRingTxWrite value s
  | .evsBootClear => Sys2Proof.Machine.execEvsBootClear s
  | .evsEnableWrite value => Sys2Proof.Machine.execEvsEnableWrite value s
  | .tblRead => Sys2Proof.Machine.execTblRead s
  | .tblWrite => Sys2Proof.Machine.execTblWrite s
  | .tblInsert => Sys2Proof.Machine.execTblInsert s
  | .tblDelete => Sys2Proof.Machine.execTblDelete s
  | .tblSearch => Sys2Proof.Machine.execTblSearch s
  | .tblAgeScan => Sys2Proof.Machine.execTblAgeScan s
  | .tblOverrun => Sys2Proof.Machine.execTblOverrun s
  | .sysPing ch => Sys2Proof.Machine.execSysPing ch s
  | .sysInfoGet ch => Sys2Proof.Machine.execSysInfoGet ch s
  | .paramGet ch gpio => Sys2Proof.Machine.execParamGet ch gpio s
  | .paramSet ch => Sys2Proof.Machine.execParamSet ch s
  | .paramDescribe ch => Sys2Proof.Machine.execParamDescribe ch s
  | .stageOpen ch => Sys2Proof.Machine.execStageOpen ch s
  | .stageWrite ch => Sys2Proof.Machine.execStageWrite ch s
  | .stageAbort ch => Sys2Proof.Machine.execStageAbort ch s
  | .commitAt ch => Sys2Proof.Machine.execCommitAt ch s
  | .stageStatus ch => Sys2Proof.Machine.execStageStatus ch s
  | .commitBoundary handle => Sys2Proof.Machine.execCommitBoundary handle s
  | .boardDeclare ch sense => Sys2Proof.Machine.execBoardDeclare ch sense s
  | .siteDeclare ch => Sys2Proof.Machine.execSiteDeclare ch s
  | .nvStore ch => Sys2Proof.Machine.execNvStore ch s
  | .nvRead ch => Sys2Proof.Machine.execNvRead ch s
  | .nvDelete ch => Sys2Proof.Machine.execNvDelete ch s
  | .nvStatusGet ch => Sys2Proof.Machine.execNvStatusGet ch s
  | .factoryRead ch => Sys2Proof.Machine.execFactoryRead ch s
  | .nvWriteStart sense => Sys2Proof.Machine.execNvWriteStart sense s
  | .nvWriteComplete => Sys2Proof.Machine.execNvWriteComplete s
  | .mainsFall => Sys2Proof.Machine.execMainsFall s
  | .mainsRise => Sys2Proof.Machine.execMainsRise s
  | .holdupWarningFall sense => Sys2Proof.Machine.execHoldupWarningFall sense s
  | .holdupWarningRise sense => Sys2Proof.Machine.execHoldupWarningRise sense s
  | .rfCalRun ch => Sys2Proof.Machine.execRfCalRun ch s
  | .rfStatusGet ch => Sys2Proof.Machine.execRfStatusGet ch s
  | .rfCountersGet ch => Sys2Proof.Machine.execRfCountersGet ch s
  | .rfTestTx ch => Sys2Proof.Machine.execRfTestTx ch s
  | .dieTempSample temp => Sys2Proof.Machine.execDieTempSample temp s
  | .paSupplySample lb hi => Sys2Proof.Machine.execPaSupplySample lb hi s
  | .calGapStart radio => Sys2Proof.Machine.execCalGapStart radio s
  | .calForced radio => Sys2Proof.Machine.execCalForced radio s
  | .calibrationComplete radio failed us => Sys2Proof.Machine.execCalibrationComplete radio failed us s
  | .bgCalItem radio item pass => Sys2Proof.Machine.execBgCalItem radio item pass s
  | .transitionDone radio target => Sys2Proof.Machine.execTransitionDone radio target s
  | .synthLockVerified radio => Sys2Proof.Machine.execSynthLockVerified radio s
  | .synthUnlock radio => Sys2Proof.Machine.execSynthUnlock radio s
  | .synthRelockDone radio result => Sys2Proof.Machine.execSynthRelockDone radio result s
  | .emissionDeferredStart radio => Sys2Proof.Machine.execEmissionDeferredStart radio s
  | .emissionLatestStart radio emission => Sys2Proof.Machine.execEmissionLatestStart radio emission s
  | .coexReqLead portB receive => Sys2Proof.Machine.execCoexReqLead portB receive s
  | .coexGntSample portB gnt => Sys2Proof.Machine.execCoexGntSample portB gnt s
  | .coexGntRise portB => Sys2Proof.Machine.execCoexGntRise portB s
  | .coexGntFall portB => Sys2Proof.Machine.execCoexGntFall portB s
  | .coexReqRise portB pri => Sys2Proof.Machine.execCoexReqRise portB pri s
  | .coexReqFall portB => Sys2Proof.Machine.execCoexReqFall portB s
  | .coexMaxGrantExpiry portB => Sys2Proof.Machine.execCoexMaxGrantExpiry portB s
  | .thawFrameRx sync addr cmd check => Sys2Proof.Machine.execThawFrameRx sync addr cmd check s
  | .thawRetune => Sys2Proof.Machine.execThawRetune s
  | .timeslotPlan net => Sys2Proof.Machine.execTimeslotPlan net s
  | .timeslotStart net => Sys2Proof.Machine.execTimeslotStart net s
  | .ccaMeasure net khz level => Sys2Proof.Machine.execCcaMeasure net khz level s
  | .rxWindowOpen lane => Sys2Proof.Machine.execRxWindowOpen lane s
  | .rxWindowClose lane => Sys2Proof.Machine.execRxWindowClose lane s
  | .preambleDetect lane seen => Sys2Proof.Machine.execPreambleDetect lane seen s
  | .sfdSearchFail lane => Sys2Proof.Machine.execSfdSearchFail lane s
  | .afcFreeze lane offset rssi snr => Sys2Proof.Machine.execAfcFreeze lane offset rssi snr s
  | .secondPreamble lane seen => Sys2Proof.Machine.execSecondPreamble lane seen s
  | .phrDecode lane phr => Sys2Proof.Machine.execPhrDecode lane phr s
  | .headerDecode lane hdr => Sys2Proof.Machine.execHeaderDecode lane hdr s
  | .softBlockPost lane bytes => Sys2Proof.Machine.execSoftBlockPost lane bytes s
  | .decoderBlockDone decoder => Sys2Proof.Machine.execDecoderBlockDone decoder s
  | .frameEnd lane fcs payload => Sys2Proof.Machine.execFrameEnd lane fcs payload s
  | .clipLimitExceeded clip => Sys2Proof.Machine.execClipLimitExceeded clip s
  | .timeslotEnd radio means peaks => Sys2Proof.Machine.execTimeslotEnd radio means peaks s
  | .bbCountersGet ch => Sys2Proof.Machine.execBbCountersGet ch s
  | .bbNfConfig ch => Sys2Proof.Machine.execBbNfConfig ch s
  | .bbNfGet ch => Sys2Proof.Machine.execBbNfGet ch s
  | .bbSlotStatusGet ch => Sys2Proof.Machine.execBbSlotStatusGet ch s
  | .bbTxCountersGet ch => Sys2Proof.Machine.execBbTxCountersGet ch s
  | .phyAirtimeGet ch => Sys2Proof.Machine.execPhyAirtimeGet ch s
  | .planLock radio late => Sys2Proof.Machine.execPlanLock radio late s
  | .emissionStart radio => Sys2Proof.Machine.execEmissionStart radio s
  | .emissionEnd radio => Sys2Proof.Machine.execEmissionEnd radio s
  | .bucketBoundary => Sys2Proof.Machine.execBucketBoundary s
  | .dwellBucketBoundary => Sys2Proof.Machine.execDwellBucketBoundary s
  | .dwellClosureEnd => Sys2Proof.Machine.execDwellClosureEnd s
  | .ablationSnapshotDue => Sys2Proof.Machine.execAblationSnapshotDue s
  | .ablProfileWrite ch => Sys2Proof.Machine.execAblProfileWrite ch s
  | .ablProfileLock ch => Sys2Proof.Machine.execAblProfileLock ch s
  | .ablProfileGet ch => Sys2Proof.Machine.execAblProfileGet ch s
  | .ablBudgetGet ch => Sys2Proof.Machine.execAblBudgetGet ch s
  | .ablDwellGet ch => Sys2Proof.Machine.execAblDwellGet ch s
  | .ablCountersGet ch => Sys2Proof.Machine.execAblCountersGet ch s
  | .schedNetStart ch => Sys2Proof.Machine.execSchedNetStart ch s
  | .schedNetStop ch => Sys2Proof.Machine.execSchedNetStop ch s
  | .schedSlotframeAdd ch => Sys2Proof.Machine.execSchedSlotframeAdd ch s
  | .schedSlotframeDel ch => Sys2Proof.Machine.execSchedSlotframeDel ch s
  | .schedCellAdd ch => Sys2Proof.Machine.execSchedCellAdd ch s
  | .schedCellDel ch => Sys2Proof.Machine.execSchedCellDel ch s
  | .schedCellGet ch => Sys2Proof.Machine.execSchedCellGet ch s
  | .schedJoinAccept ch => Sys2Proof.Machine.execSchedJoinAccept ch s
  | .schedJoinReject ch => Sys2Proof.Machine.execSchedJoinReject ch s
  | .schedStatusGet ch => Sys2Proof.Machine.execSchedStatusGet ch s
  | .schedCountersGet ch => Sys2Proof.Machine.execSchedCountersGet ch s
  | .joinRelease net => Sys2Proof.Machine.execJoinRelease net s
  | .joinTimeout net => Sys2Proof.Machine.execJoinTimeout net s
  | .asnMarkCross net => Sys2Proof.Machine.execAsnMarkCross net s
  | .asnMarkHold net => Sys2Proof.Machine.execAsnMarkHold net s
  | .placementAudit net => Sys2Proof.Machine.execPlacementAudit net s
  | .timeParentLost domain => Sys2Proof.Machine.execTimeParentLost domain s
  | .spanOpen ch => Sys2Proof.Machine.execSpanOpen ch s
  | .spanClose ch => Sys2Proof.Machine.execSpanClose ch s
  | .spanMemberSet ch => Sys2Proof.Machine.execSpanMemberSet ch s
  | .spanMemberDrop ch => Sys2Proof.Machine.execSpanMemberDrop ch s
  | .spanKeyRoll ch => Sys2Proof.Machine.execSpanKeyRoll ch s
  | .spanStatusGet ch => Sys2Proof.Machine.execSpanStatusGet ch s
  | .spanCountersGet ch => Sys2Proof.Machine.execSpanCountersGet ch s
  | .spanEventPlan span => Sys2Proof.Machine.execSpanEventPlan span s
  | .spanAnchor span => Sys2Proof.Machine.execSpanAnchor span s
  | .subeventStart span radio => Sys2Proof.Machine.execSubeventStart span radio s
  | .subeventEnd span radio => Sys2Proof.Machine.execSubeventEnd span radio s
  | .spanFrameReceive radio octets meas => Sys2Proof.Machine.execSpanFrameReceive radio octets meas s
  | .resyncBurstSend span => Sys2Proof.Machine.execResyncBurstSend span s
  | .acquireEchoTimeout span => Sys2Proof.Machine.execAcquireEchoTimeout span s
  | .supervisionExpiry span => Sys2Proof.Machine.execSupervisionExpiry span s
  | .keyOverlapEnd span => Sys2Proof.Machine.execKeyOverlapEnd span s
  | .firnCtxRead ch => Sys2Proof.Machine.execFirnCtxRead ch s
  | .firnCtxWrite ch => Sys2Proof.Machine.execFirnCtxWrite ch s
  | .firnPin ch => Sys2Proof.Machine.execFirnPin ch s
  | .firnUnpin ch => Sys2Proof.Machine.execFirnUnpin ch s
  | .firnRelease ch => Sys2Proof.Machine.execFirnRelease ch s
  | .firnSync ch => Sys2Proof.Machine.execFirnSync ch s
  | .firnLookup ch => Sys2Proof.Machine.execFirnLookup ch s
  | .firnStatusGet ch => Sys2Proof.Machine.execFirnStatusGet ch s
  | .firnCountersGet ch => Sys2Proof.Machine.execFirnCountersGet ch s
  | .firnLoadStart => Sys2Proof.Machine.execFirnLoadStart s
  | .firnLoadComplete ctx sre bad => Sys2Proof.Machine.execFirnLoadComplete ctx sre bad s
  | .firnEvict => Sys2Proof.Machine.execFirnEvict s
  | .writebackComplete slot => Sys2Proof.Machine.execWritebackComplete slot s
  | .firnImageSweep => Sys2Proof.Machine.execFirnImageSweep s
  | .firnImageUrgent => Sys2Proof.Machine.execFirnImageUrgent s
  | .cipherKeyLoad ch => Sys2Proof.Machine.execCipherKeyLoad ch s
  | .cipherKeyErase ch => Sys2Proof.Machine.execCipherKeyErase ch s
  | .keyEraseDone slot => Sys2Proof.Machine.execKeyEraseDone slot s
  | .cipherKeyInfo ch => Sys2Proof.Machine.execCipherKeyInfo ch s
  | .cipherRaw ch => Sys2Proof.Machine.execCipherRaw ch s
  | .cipherCtr ch => Sys2Proof.Machine.execCipherCtr ch s
  | .cipherCmac ch => Sys2Proof.Machine.execCipherCmac ch s
  | .cipherSeal ch => Sys2Proof.Machine.execCipherSeal ch s
  | .cipherOpen ch => Sys2Proof.Machine.execCipherOpen ch s
  | .cipherRandom ch => Sys2Proof.Machine.execCipherRandom ch s
  | .cipherCountersGet ch => Sys2Proof.Machine.execCipherCountersGet ch s
  | .cipherRequestComplete queue => Sys2Proof.Machine.execCipherRequestComplete queue s
  | .rimeUnitsReserved inst => Sys2Proof.Machine.execRimeUnitsReserved inst s
  | .tagCheckDone check => Sys2Proof.Machine.execTagCheckDone check s
  | .maskReseed => Sys2Proof.Machine.execMaskReseed s
  | .keyShareRefresh slot => Sys2Proof.Machine.execKeyShareRefresh slot s
  | .entropyStartupPass => Sys2Proof.Machine.execEntropyStartupPass s
  | .entropyTestFail test => Sys2Proof.Machine.execEntropyTestFail test s
  | .drbgReseed => Sys2Proof.Machine.execDrbgReseed s
  | .drbgReseedWaitExpiry => Sys2Proof.Machine.execDrbgReseedWaitExpiry s
  | .ccStatusGet ch => Sys2Proof.Machine.execCcStatusGet ch s
  | .ccCountersGet ch => Sys2Proof.Machine.execCcCountersGet ch s
  | .dfsTemplateList ch => Sys2Proof.Machine.execDfsTemplateList ch s
  | .triggerStart tpl roots => Sys2Proof.Machine.execTriggerStart tpl roots s
  | .nodeFire inst node req => Sys2Proof.Machine.execNodeFire inst node req s
  | .operationComplete job => Sys2Proof.Machine.execOperationComplete job s
  | .instanceCancel inst => Sys2Proof.Machine.execInstanceCancel inst s
  | .delayNodeFire inst node => Sys2Proof.Machine.execDelayNodeFire inst node s
  | .delayEntryDue => Sys2Proof.Machine.execDelayEntryDue s
  | .opWatchdogExpiry inst node => Sys2Proof.Machine.execOpWatchdogExpiry inst node s
  | .coreResetEnd core => Sys2Proof.Machine.execCoreResetEnd core s
  | .corePark core park => Sys2Proof.Machine.execCorePark core park s
  | .irqSourceAssert source => Sys2Proof.Machine.execIrqSourceAssert source s
  | .coalesceTimerExpiry group => Sys2Proof.Machine.execCoalesceTimerExpiry group s
  | .irqArbitrate => Sys2Proof.Machine.execIrqArbitrate s
  | .irqAcknowledge core => Sys2Proof.Machine.execIrqAcknowledge core s
  | .irqSourceMask source mask => Sys2Proof.Machine.execIrqSourceMask source mask s
  | .frameIngress src => Sys2Proof.Machine.execFrameIngress src s
  | .reasmTimeout => Sys2Proof.Machine.execReasmTimeout s
  | .egressSend port => Sys2Proof.Machine.execEgressSend port s
  | .gateEntry port => Sys2Proof.Machine.execGateEntry port s
  | .ageTick => Sys2Proof.Machine.execAgeTick s
  | .rtCountersGet ch => Sys2Proof.Machine.execRtCountersGet ch s
  | .lowpanCtxSet ch => Sys2Proof.Machine.execLowpanCtxSet ch s
  | .tmShaperSet ch => Sys2Proof.Machine.execTmShaperSet ch s
  | .tmMeterSet ch => Sys2Proof.Machine.execTmMeterSet ch s
  | .gateListSet ch => Sys2Proof.Machine.execGateListSet ch s
  | .tmStatusGet ch => Sys2Proof.Machine.execTmStatusGet ch s
  | .tmCountersGet ch => Sys2Proof.Machine.execTmCountersGet ch s
  | .timeGet ch => Sys2Proof.Machine.execTimeGet ch s
  | .timeAdjust ch => Sys2Proof.Machine.execTimeAdjust ch s
  | .timeCountersGet ch => Sys2Proof.Machine.execTimeCountersGet ch s
  | .rawRefFold => Sys2Proof.Machine.execRawRefFold s
  | .triggerCompareFire => Sys2Proof.Machine.execTriggerCompareFire s
  | .timeSourceLoss => Sys2Proof.Machine.execTimeSourceLoss s
  | .timeBoundAlarm => Sys2Proof.Machine.execTimeBoundAlarm s
  | .ppsInEdge => Sys2Proof.Machine.execPpsInEdge s
  | .ppsOutEdge => Sys2Proof.Machine.execPpsOutEdge s
  | .laneStatusGet ch invalid => Sys2Proof.Machine.execLaneStatusGet ch invalid s
  | .laneTest ch => Sys2Proof.Machine.execLaneTest ch s
  | .lanePrbsGet ch bits errors => Sys2Proof.Machine.execLanePrbsGet ch bits errors s
  | .laneRetrain ch => Sys2Proof.Machine.execLaneRetrain ch s
  | .ethStatusGet ch => Sys2Proof.Machine.execEthStatusGet ch s
  | .ethCountersGet ch => Sys2Proof.Machine.execEthCountersGet ch s
  | .mdioRead ch reply => Sys2Proof.Machine.execMdioRead ch reply s
  | .mdioWrite ch => Sys2Proof.Machine.execMdioWrite ch s
  | .cascStatusGet ch => Sys2Proof.Machine.execCascStatusGet ch s
  | .cascCountersGet ch => Sys2Proof.Machine.execCascCountersGet ch s
  | .cascRelease ch => Sys2Proof.Machine.execCascRelease ch s
  | .laneCdrLock lane => Sys2Proof.Machine.execLaneCdrLock lane s
  | .laneCommaFound lane inverted => Sys2Proof.Machine.execLaneCommaFound lane inverted s
  | .laneSyncDone lane => Sys2Proof.Machine.execLaneSyncDone lane s
  | .laneSyncLoss lane lockLost lost => Sys2Proof.Machine.execLaneSyncLoss lane lockLost lost s
  | .laneTestEnd lane => Sys2Proof.Machine.execLaneTestEnd lane s
  | .prbsLock lane => Sys2Proof.Machine.execPrbsLock lane s
  | .prbsLockLoss lane bits errors => Sys2Proof.Machine.execPrbsLockLoss lane bits errors s
  | .ethLinkChange port up speed abilities anFail => Sys2Proof.Machine.execEthLinkChange port up speed abilities anFail s
  | .cascMarkerRx lane far => Sys2Proof.Machine.execCascMarkerRx lane far s
  | .cascDataRx peer packet => Sys2Proof.Machine.execCascDataRx peer packet s
  | .cascAnnounceRx peer packet => Sys2Proof.Machine.execCascAnnounceRx peer packet s
  | .cascTimeSyncRx peer packet ago => Sys2Proof.Machine.execCascTimeSyncRx peer packet ago s
  | .cascTimeReplyRx peer packet ago => Sys2Proof.Machine.execCascTimeReplyRx peer packet ago s
  | .cascPauseRx peer packet => Sys2Proof.Machine.execCascPauseRx peer packet s
  | .cascLinkRx peer packet lost => Sys2Proof.Machine.execCascLinkRx peer packet lost s
  | .cascPauseTimeout peer queue => Sys2Proof.Machine.execCascPauseTimeout peer queue s
  | .cascTimeSyncSend => Sys2Proof.Machine.execCascTimeSyncSend s
  | .cascAnnounceSend => Sys2Proof.Machine.execCascAnnounceSend s
  | .cascHoldSample high => Sys2Proof.Machine.execCascHoldSample high s
  | .cascTakeWaitMet => Sys2Proof.Machine.execCascTakeWaitMet s
  | .cascTakeDrive high => Sys2Proof.Machine.execCascTakeDrive high s
  | .disputeClear => Sys2Proof.Machine.execDisputeClear s
  | .memStatusGet ch => Sys2Proof.Machine.execMemStatusGet ch s
  | .ddrStatusGet ch => Sys2Proof.Machine.execDdrStatusGet ch s
  | .memCountersGet ch => Sys2Proof.Machine.execMemCountersGet ch s
  | .dramRefresh chan => Sys2Proof.Machine.execDramRefresh chan s
  | .mr4Read chan codes => Sys2Proof.Machine.execMr4Read chan codes s
  | .rhThresholdRefresh chan bank row => Sys2Proof.Machine.execRhThresholdRefresh chan bank row s
  | .rhTableClear chan => Sys2Proof.Machine.execRhTableClear chan s
  | .panicEntry port level => Sys2Proof.Machine.execPanicEntry port level s
  | .selfRefreshEntry chan => Sys2Proof.Machine.execSelfRefreshEntry chan s
  | .selfRefreshExit chan beforeSre => Sys2Proof.Machine.execSelfRefreshExit chan beforeSre s
  | .dqsOscCheck chan rank drift => Sys2Proof.Machine.execDqsOscCheck chan rank drift s
  | .scrubPass => Sys2Proof.Machine.execScrubPass s
  | .sramScrub bank corrected => Sys2Proof.Machine.execSramScrub bank corrected s
  | .eccErrorDetected err => Sys2Proof.Machine.execEccErrorDetected err s
  | .trainingStepDone pass chan eyes => Sys2Proof.Machine.execTrainingStepDone pass chan eyes s
  | .dozeEntry => Sys2Proof.Machine.execDozeEntry s
  | .napEntry during => Sys2Proof.Machine.execNapEntry during s
  | .napExit src => Sys2Proof.Machine.execNapExit src s
  | .hibernatePrepare during => Sys2Proof.Machine.execHibernatePrepare during s
  | .hibernateExit src => Sys2Proof.Machine.execHibernateExit src s
  | .aonTimerFire => Sys2Proof.Machine.execAonTimerFire s
  | .pwrStatusGet ch => Sys2Proof.Machine.execPwrStatusGet ch s
  | .pwrCountersGet ch => Sys2Proof.Machine.execPwrCountersGet ch s
  | .powerOnReset => Sys2Proof.Machine.execPowerOnReset s
  | .brownoutReset => Sys2Proof.Machine.execBrownoutReset s
  | .vddAonLoss => Sys2Proof.Machine.execVddAonLoss s
  | .resetPin lowNs => Sys2Proof.Machine.execResetPin lowNs s
  | .resetRelease straps => Sys2Proof.Machine.execResetRelease straps s
  | .bootImageCheckDone okA okB => Sys2Proof.Machine.execBootImageCheckDone okA okB s
  | .eotreReady image => Sys2Proof.Machine.execEotreReady image s
  | .sysReset ch => Sys2Proof.Machine.execSysReset ch s
  | .sysResetTakesEffect => Sys2Proof.Machine.execSysResetTakesEffect s
  | .sysWatchdogExpiry => Sys2Proof.Machine.execSysWatchdogExpiry s
  | .faultLogEntry => Sys2Proof.Machine.execFaultLogEntry s
  | .fwStage ch => Sys2Proof.Machine.execFwStage ch s
  | .fwCommit ch => Sys2Proof.Machine.execFwCommit ch s
  | .fwActivate ch => Sys2Proof.Machine.execFwActivate ch s
  | .fwOldImageRelease => Sys2Proof.Machine.execFwOldImageRelease s
  | .fwConfirm ch => Sys2Proof.Machine.execFwConfirm ch s
  | .fwStatusGet ch => Sys2Proof.Machine.execFwStatusGet ch s
  | .fltLogGet ch => Sys2Proof.Machine.execFltLogGet ch s
  | .fltInject ch => Sys2Proof.Machine.execFltInject ch s
  | .fltCountersGet ch => Sys2Proof.Machine.execFltCountersGet ch s
  | .jtagReset => Sys2Proof.Machine.execJtagReset s
  | .vddIo18BelowThreshold => Sys2Proof.Machine.execVddIo18BelowThreshold s
  | .tblCmdCompletion => Sys2Proof.Machine.execTblCmdCompletion s
  | .activationCompleted changed => Sys2Proof.Machine.execActivationCompleted changed s
  | .panicExit port level => Sys2Proof.Machine.execPanicExit port level s

end Sys2Proof.Machine
end

