-- ==== Sys2Proof/Laws/Memory.lean ====
section
/-! SUPPORT. Byte memories: reading after writing, and that every operation keeps the one form. -/

namespace Sys2Proof.Machine

@[simp] theorem readByte_nil (a : Nat) : readByte [] a = emptyByte := rfl

@[simp] theorem writeBytes_nil (m : List Host.Cell) (a : Nat) : writeBytes m a [] = m := rfl

@[simp] theorem readBytes_zero (m : List Host.Cell) (a : Nat) : readBytes m a 0 = [] := rfl

@[simp] theorem readBytes_length (m : List Host.Cell) (a n : Nat) : (readBytes m a n).length = n := by
  induction n generalizing a with
  | zero => rfl
  | succ n ih => simp [readBytes, ih]

/-! ### Reading after writing -/

/-- In a memory whose addresses start at `lo` or above, an address below `lo` reads as empty. -/
theorem readByte_below {lo a : Nat} : ∀ {m : List Host.Cell}, wfFrom lo m = true → a < lo → readByte m a = emptyByte
  | [], _, _ => rfl
  | (j, v) :: t, h, ha => by
    simp only [wfFrom, Bool.and_eq_true, decide_eq_true_eq] at h
    have hj : j ≠ a := by omega
    simp only [readByte, hj, if_false]
    exact readByte_below h.2 (by omega)

theorem readByte_writeByte_other (m : List Host.Cell) {a c : Nat} (b : Byte) (h : c ≠ a) :
    readByte (writeByte m a b) c = readByte m c := by
  induction m with
  | nil => by_cases hb : b = emptyByte <;> simp [writeByte, hb, readByte, Ne.symm h]
  | cons p t ih =>
    obtain ⟨j, v⟩ := p
    by_cases h1 : a = j
    · subst h1
      by_cases hb : b = emptyByte <;> simp [writeByte, hb, readByte, Ne.symm h]
    · by_cases h2 : a < j
      · by_cases hb : b = emptyByte <;> simp [writeByte, h1, h2, hb, readByte, Ne.symm h]
      · simp [writeByte, h1, h2, readByte, ih]

theorem readByte_writeByte_same {lo : Nat} (m : List Host.Cell) (a : Nat) (b : Byte) (hm : wfFrom lo m = true) :
    readByte (writeByte m a b) a = b := by
  induction m generalizing lo with
  | nil => by_cases hb : b = emptyByte <;> simp [writeByte, hb, readByte]
  | cons p t ih =>
    obtain ⟨j, v⟩ := p
    simp only [wfFrom, Bool.and_eq_true, decide_eq_true_eq] at hm
    by_cases h1 : a = j
    · subst h1
      by_cases hb : b = emptyByte
      · simp [writeByte, hb, readByte_below hm.2 (Nat.lt_succ_self a)]
      · simp [writeByte, hb, readByte]
    · by_cases h2 : a < j
      · by_cases hb : b = emptyByte
        · have h3 : j ≠ a := fun h => h1 h.symm
          simp [writeByte, h1, h2, hb, readByte, h3, readByte_below hm.2 (show a < j + 1 by omega)]
        · simp [writeByte, h1, h2, hb, readByte]
      · have h3 : j ≠ a := fun h => h1 h.symm
        simp [writeByte, h1, h2, readByte, h3, ih hm.2]

/-! ### The one form -/

theorem wfFrom_weaken {lo lo' : Nat} {m : List Host.Cell} (h : lo' ≤ lo) (hm : wfFrom lo m = true) : wfFrom lo' m = true := by
  cases m with
  | nil => rfl
  | cons p t =>
    obtain ⟨j, v⟩ := p
    simp only [wfFrom, Bool.and_eq_true, decide_eq_true_eq] at hm ⊢
    exact ⟨⟨by omega, hm.1.2⟩, hm.2⟩

theorem writeByte_wfFrom {lo : Nat} {m : List Host.Cell} {a : Nat} (b : Byte) (hm : wfFrom lo m = true) (ha : lo ≤ a) :
    wfFrom lo (writeByte m a b) = true := by
  induction m generalizing lo with
  | nil => by_cases hb : b = emptyByte <;> simp [writeByte, hb, wfFrom, ha]
  | cons p t ih =>
    obtain ⟨j, v⟩ := p
    simp only [wfFrom, Bool.and_eq_true, decide_eq_true_eq] at hm
    by_cases h1 : a = j
    · subst h1
      by_cases hb : b = emptyByte
      · have h2 : lo ≤ a + 1 := by omega
        simp [writeByte, hb, wfFrom_weaken h2 hm.2]
      · simp [writeByte, hb, wfFrom, ha, hm.2]
    · by_cases h2 : a < j
      · by_cases hb : b = emptyByte
        · simp only [writeByte, h1, h2, hb, if_true, if_false, wfFrom, Bool.and_eq_true, decide_eq_true_eq]
          exact hm
        · have h3 : a + 1 ≤ j := by omega
          simp [writeByte, h1, h2, hb, wfFrom, ha, h3, hm.1.2, hm.2]
      · simp only [writeByte, h1, h2, if_false, wfFrom, Bool.and_eq_true, decide_eq_true_eq]
        exact ⟨hm.1, ih hm.2 (by omega)⟩

theorem writeByte_wf {m : List Host.Cell} (a : Nat) (b : Byte) (hm : Memory.wf m = true) : Memory.wf (writeByte m a b) = true :=
  writeByte_wfFrom b hm (Nat.zero_le a)

theorem writeBytes_wf {m : List Host.Cell} (a : Nat) (bs : Bytes) (hm : Memory.wf m = true) : Memory.wf (writeBytes m a bs) = true := by
  induction bs generalizing m a with
  | nil => exact hm
  | cons b bs ih => exact ih (a + 1) (writeByte_wf a b hm)

/-! ### Runs of bytes -/

theorem readByte_writeBytes_other (m : List Host.Cell) {a c : Nat} (bs : Bytes) (h : c < a ∨ a + bs.length ≤ c) :
    readByte (writeBytes m a bs) c = readByte m c := by
  induction bs generalizing m a with
  | nil => rfl
  | cons b bs ih =>
    simp only [List.length_cons] at h
    rw [writeBytes, ih (writeByte m a b) (by omega), readByte_writeByte_other m b (by omega)]

theorem readBytes_writeBytes_other (m : List Host.Cell) {a c n : Nat} (bs : Bytes) (h : c + n ≤ a ∨ a + bs.length ≤ c) :
    readBytes (writeBytes m a bs) c n = readBytes m c n := by
  induction n generalizing c with
  | zero => rfl
  | succ n ih =>
    rw [readBytes, readBytes, ih (by omega), readByte_writeBytes_other m bs (by omega)]

/-- What was written reads back. -/
theorem readBytes_writeBytes {m : List Host.Cell} (a : Nat) (bs : Bytes) (hm : Memory.wf m = true) :
    readBytes (writeBytes m a bs) a bs.length = bs := by
  induction bs generalizing m a with
  | nil => rfl
  | cons b bs ih =>
    rw [List.length_cons, readBytes, writeBytes, ih (a + 1) (writeByte_wf a b hm),
      readByte_writeBytes_other _ bs (by omega), readByte_writeByte_same m a b hm]

theorem readBytes_take {m : List Host.Cell} {a n k : Nat} (h : k ≤ n) : (readBytes m a n).take k = readBytes m a k := by
  induction k generalizing a n with
  | zero => simp
  | succ k ih =>
    cases n with
    | zero => omega
    | succ n => simp [readBytes, ih (show k ≤ n by omega)]

end Sys2Proof.Machine
end

