-- ==== Sys2Proof/Laws/State.lean ====
section
/-! SUPPORT. The fields of the state after each plain update, one lemma per field. -/

namespace Sys2Proof.Machine

variable (s : State)

/-! ### setHif -/

@[simp] theorem setHif_pending (h : Hif) : (s.setHif h).pending = s.pending := rfl
@[simp] theorem setHif_freeCtr (h : Hif) : (s.setHif h).freeCtr = s.freeCtr := rfl
@[simp] theorem setHif_mem (h : Hif) : (s.setHif h).mem = s.mem := rfl
@[simp] theorem setHif_sys (h : Hif) : (s.setHif h).sys = s.sys := rfl
@[simp] theorem setHif_hif (h : Hif) : (s.setHif h).hif = h := rfl
@[simp] theorem setHif_chans (h : Hif) : (s.setHif h).chans = s.chans := rfl
@[simp] theorem setHif_evt (h : Hif) : (s.setHif h).evt = s.evt := rfl
@[simp] theorem setHif_rings (h : Hif) : (s.setHif h).rings = s.rings := rfl
@[simp] theorem setHif_evs (h : Hif) : (s.setHif h).evs = s.evs := rfl
@[simp] theorem setHif_params (h : Hif) : (s.setHif h).params = s.params := rfl
@[simp] theorem setHif_sets (h : Hif) : (s.setHif h).sets = s.sets := rfl
@[simp] theorem setHif_setOrder (h : Hif) : (s.setHif h).setOrder = s.setOrder := rfl
@[simp] theorem setHif_board (h : Hif) : (s.setHif h).board = s.board := rfl
@[simp] theorem setHif_site (h : Hif) : (s.setHif h).site = s.site := rfl
@[simp] theorem setHif_nv (h : Hif) : (s.setHif h).nv = s.nv := rfl
@[simp] theorem setHif_ctrs (h : Hif) : (s.setHif h).ctrs = s.ctrs := rfl
@[simp] theorem setHif_time (h : Hif) : (s.setHif h).time = s.time := rfl
@[simp] theorem setHif_pwr (h : Hif) : (s.setHif h).pwr = s.pwr := rfl
@[simp] theorem setHif_pins (h : Hif) : (s.setHif h).pins = s.pins := rfl
@[simp] theorem setHif_ddr (h : Hif) : (s.setHif h).ddr = s.ddr := rfl
@[simp] theorem setHif_cc (h : Hif) : (s.setHif h).cc = s.cc := rfl
@[simp] theorem setHif_cipher (h : Hif) : (s.setHif h).cipher = s.cipher := rfl
@[simp] theorem setHif_fw (h : Hif) : (s.setHif h).fw = s.fw := rfl
@[simp] theorem setHif_flt (h : Hif) : (s.setHif h).flt = s.flt := rfl
@[simp] theorem setHif_nets (h : Hif) : (s.setHif h).nets = s.nets := rfl
@[simp] theorem setHif_spans (h : Hif) : (s.setHif h).spans = s.spans := rfl
@[simp] theorem setHif_cells (h : Hif) : (s.setHif h).cells = s.cells := rfl
@[simp] theorem setHif_rf (h : Hif) : (s.setHif h).rf = s.rf := rfl
@[simp] theorem setHif_bb (h : Hif) : (s.setHif h).bb = s.bb := rfl
@[simp] theorem setHif_abl (h : Hif) : (s.setHif h).abl = s.abl := rfl
@[simp] theorem setHif_firn (h : Hif) : (s.setHif h).firn = s.firn := rfl
@[simp] theorem setHif_spanRx (h : Hif) : (s.setHif h).spanRx = s.spanRx := rfl
@[simp] theorem setHif_sram (h : Hif) : (s.setHif h).sram = s.sram := rfl
@[simp] theorem setHif_rt (h : Hif) : (s.setHif h).rt = s.rt := rfl
@[simp] theorem setHif_serial (h : Hif) : (s.setHif h).serial = s.serial := rfl

/-! ### setEvs -/

@[simp] theorem setEvs_pending (e : Evs) : (s.setEvs e).pending = s.pending := rfl
@[simp] theorem setEvs_freeCtr (e : Evs) : (s.setEvs e).freeCtr = s.freeCtr := rfl
@[simp] theorem setEvs_mem (e : Evs) : (s.setEvs e).mem = s.mem := rfl
@[simp] theorem setEvs_sys (e : Evs) : (s.setEvs e).sys = s.sys := rfl
@[simp] theorem setEvs_hif (e : Evs) : (s.setEvs e).hif = s.hif := rfl
@[simp] theorem setEvs_chans (e : Evs) : (s.setEvs e).chans = s.chans := rfl
@[simp] theorem setEvs_evt (e : Evs) : (s.setEvs e).evt = s.evt := rfl
@[simp] theorem setEvs_rings (e : Evs) : (s.setEvs e).rings = s.rings := rfl
@[simp] theorem setEvs_evs (e : Evs) : (s.setEvs e).evs = e := rfl
@[simp] theorem setEvs_params (e : Evs) : (s.setEvs e).params = s.params := rfl
@[simp] theorem setEvs_sets (e : Evs) : (s.setEvs e).sets = s.sets := rfl
@[simp] theorem setEvs_setOrder (e : Evs) : (s.setEvs e).setOrder = s.setOrder := rfl
@[simp] theorem setEvs_board (e : Evs) : (s.setEvs e).board = s.board := rfl
@[simp] theorem setEvs_site (e : Evs) : (s.setEvs e).site = s.site := rfl
@[simp] theorem setEvs_nv (e : Evs) : (s.setEvs e).nv = s.nv := rfl
@[simp] theorem setEvs_ctrs (e : Evs) : (s.setEvs e).ctrs = s.ctrs := rfl
@[simp] theorem setEvs_time (e : Evs) : (s.setEvs e).time = s.time := rfl
@[simp] theorem setEvs_pwr (e : Evs) : (s.setEvs e).pwr = s.pwr := rfl
@[simp] theorem setEvs_pins (e : Evs) : (s.setEvs e).pins = s.pins := rfl
@[simp] theorem setEvs_ddr (e : Evs) : (s.setEvs e).ddr = s.ddr := rfl
@[simp] theorem setEvs_cc (e : Evs) : (s.setEvs e).cc = s.cc := rfl
@[simp] theorem setEvs_cipher (e : Evs) : (s.setEvs e).cipher = s.cipher := rfl
@[simp] theorem setEvs_fw (e : Evs) : (s.setEvs e).fw = s.fw := rfl
@[simp] theorem setEvs_flt (e : Evs) : (s.setEvs e).flt = s.flt := rfl
@[simp] theorem setEvs_nets (e : Evs) : (s.setEvs e).nets = s.nets := rfl
@[simp] theorem setEvs_spans (e : Evs) : (s.setEvs e).spans = s.spans := rfl
@[simp] theorem setEvs_cells (e : Evs) : (s.setEvs e).cells = s.cells := rfl
@[simp] theorem setEvs_rf (e : Evs) : (s.setEvs e).rf = s.rf := rfl
@[simp] theorem setEvs_bb (e : Evs) : (s.setEvs e).bb = s.bb := rfl
@[simp] theorem setEvs_abl (e : Evs) : (s.setEvs e).abl = s.abl := rfl
@[simp] theorem setEvs_firn (e : Evs) : (s.setEvs e).firn = s.firn := rfl
@[simp] theorem setEvs_spanRx (e : Evs) : (s.setEvs e).spanRx = s.spanRx := rfl
@[simp] theorem setEvs_sram (e : Evs) : (s.setEvs e).sram = s.sram := rfl
@[simp] theorem setEvs_rt (e : Evs) : (s.setEvs e).rt = s.rt := rfl
@[simp] theorem setEvs_serial (e : Evs) : (s.setEvs e).serial = s.serial := rfl

/-! ### setRing -/

@[simp] theorem setRing_pending (r : Nat) (x : Ring) : (s.setRing r x).pending = s.pending := rfl
@[simp] theorem setRing_freeCtr (r : Nat) (x : Ring) : (s.setRing r x).freeCtr = s.freeCtr := rfl
@[simp] theorem setRing_mem (r : Nat) (x : Ring) : (s.setRing r x).mem = s.mem := rfl
@[simp] theorem setRing_sys (r : Nat) (x : Ring) : (s.setRing r x).sys = s.sys := rfl
@[simp] theorem setRing_hif (r : Nat) (x : Ring) : (s.setRing r x).hif = s.hif := rfl
@[simp] theorem setRing_chans (r : Nat) (x : Ring) : (s.setRing r x).chans = s.chans := rfl
@[simp] theorem setRing_evt (r : Nat) (x : Ring) : (s.setRing r x).evt = s.evt := rfl
@[simp] theorem setRing_rings (r : Nat) (x : Ring) : (s.setRing r x).rings = tset s.rings r x := rfl
@[simp] theorem setRing_evs (r : Nat) (x : Ring) : (s.setRing r x).evs = s.evs := rfl
@[simp] theorem setRing_params (r : Nat) (x : Ring) : (s.setRing r x).params = s.params := rfl
@[simp] theorem setRing_sets (r : Nat) (x : Ring) : (s.setRing r x).sets = s.sets := rfl
@[simp] theorem setRing_setOrder (r : Nat) (x : Ring) : (s.setRing r x).setOrder = s.setOrder := rfl
@[simp] theorem setRing_board (r : Nat) (x : Ring) : (s.setRing r x).board = s.board := rfl
@[simp] theorem setRing_site (r : Nat) (x : Ring) : (s.setRing r x).site = s.site := rfl
@[simp] theorem setRing_nv (r : Nat) (x : Ring) : (s.setRing r x).nv = s.nv := rfl
@[simp] theorem setRing_ctrs (r : Nat) (x : Ring) : (s.setRing r x).ctrs = s.ctrs := rfl
@[simp] theorem setRing_time (r : Nat) (x : Ring) : (s.setRing r x).time = s.time := rfl
@[simp] theorem setRing_pwr (r : Nat) (x : Ring) : (s.setRing r x).pwr = s.pwr := rfl
@[simp] theorem setRing_pins (r : Nat) (x : Ring) : (s.setRing r x).pins = s.pins := rfl
@[simp] theorem setRing_ddr (r : Nat) (x : Ring) : (s.setRing r x).ddr = s.ddr := rfl
@[simp] theorem setRing_cc (r : Nat) (x : Ring) : (s.setRing r x).cc = s.cc := rfl
@[simp] theorem setRing_cipher (r : Nat) (x : Ring) : (s.setRing r x).cipher = s.cipher := rfl
@[simp] theorem setRing_fw (r : Nat) (x : Ring) : (s.setRing r x).fw = s.fw := rfl
@[simp] theorem setRing_flt (r : Nat) (x : Ring) : (s.setRing r x).flt = s.flt := rfl
@[simp] theorem setRing_nets (r : Nat) (x : Ring) : (s.setRing r x).nets = s.nets := rfl
@[simp] theorem setRing_spans (r : Nat) (x : Ring) : (s.setRing r x).spans = s.spans := rfl
@[simp] theorem setRing_cells (r : Nat) (x : Ring) : (s.setRing r x).cells = s.cells := rfl
@[simp] theorem setRing_rf (r : Nat) (x : Ring) : (s.setRing r x).rf = s.rf := rfl
@[simp] theorem setRing_bb (r : Nat) (x : Ring) : (s.setRing r x).bb = s.bb := rfl
@[simp] theorem setRing_abl (r : Nat) (x : Ring) : (s.setRing r x).abl = s.abl := rfl
@[simp] theorem setRing_firn (r : Nat) (x : Ring) : (s.setRing r x).firn = s.firn := rfl
@[simp] theorem setRing_spanRx (r : Nat) (x : Ring) : (s.setRing r x).spanRx = s.spanRx := rfl
@[simp] theorem setRing_sram (r : Nat) (x : Ring) : (s.setRing r x).sram = s.sram := rfl
@[simp] theorem setRing_rt (r : Nat) (x : Ring) : (s.setRing r x).rt = s.rt := rfl
@[simp] theorem setRing_serial (r : Nat) (x : Ring) : (s.setRing r x).serial = s.serial := rfl

/-! ### putSet -/

@[simp] theorem putSet_pending (h : Nat) (x : StageSet) : (s.putSet h x).pending = s.pending := rfl
@[simp] theorem putSet_freeCtr (h : Nat) (x : StageSet) : (s.putSet h x).freeCtr = s.freeCtr := rfl
@[simp] theorem putSet_mem (h : Nat) (x : StageSet) : (s.putSet h x).mem = s.mem := rfl
@[simp] theorem putSet_sys (h : Nat) (x : StageSet) : (s.putSet h x).sys = s.sys := rfl
@[simp] theorem putSet_hif (h : Nat) (x : StageSet) : (s.putSet h x).hif = s.hif := rfl
@[simp] theorem putSet_chans (h : Nat) (x : StageSet) : (s.putSet h x).chans = s.chans := rfl
@[simp] theorem putSet_evt (h : Nat) (x : StageSet) : (s.putSet h x).evt = s.evt := rfl
@[simp] theorem putSet_rings (h : Nat) (x : StageSet) : (s.putSet h x).rings = s.rings := rfl
@[simp] theorem putSet_evs (h : Nat) (x : StageSet) : (s.putSet h x).evs = s.evs := rfl
@[simp] theorem putSet_params (h : Nat) (x : StageSet) : (s.putSet h x).params = s.params := rfl
@[simp] theorem putSet_sets (h : Nat) (x : StageSet) : (s.putSet h x).sets = tset s.sets h x := rfl
@[simp] theorem putSet_setOrder (h : Nat) (x : StageSet) : (s.putSet h x).setOrder = s.setOrder := rfl
@[simp] theorem putSet_board (h : Nat) (x : StageSet) : (s.putSet h x).board = s.board := rfl
@[simp] theorem putSet_site (h : Nat) (x : StageSet) : (s.putSet h x).site = s.site := rfl
@[simp] theorem putSet_nv (h : Nat) (x : StageSet) : (s.putSet h x).nv = s.nv := rfl
@[simp] theorem putSet_ctrs (h : Nat) (x : StageSet) : (s.putSet h x).ctrs = s.ctrs := rfl
@[simp] theorem putSet_time (h : Nat) (x : StageSet) : (s.putSet h x).time = s.time := rfl
@[simp] theorem putSet_pwr (h : Nat) (x : StageSet) : (s.putSet h x).pwr = s.pwr := rfl
@[simp] theorem putSet_pins (h : Nat) (x : StageSet) : (s.putSet h x).pins = s.pins := rfl
@[simp] theorem putSet_ddr (h : Nat) (x : StageSet) : (s.putSet h x).ddr = s.ddr := rfl
@[simp] theorem putSet_cc (h : Nat) (x : StageSet) : (s.putSet h x).cc = s.cc := rfl
@[simp] theorem putSet_cipher (h : Nat) (x : StageSet) : (s.putSet h x).cipher = s.cipher := rfl
@[simp] theorem putSet_fw (h : Nat) (x : StageSet) : (s.putSet h x).fw = s.fw := rfl
@[simp] theorem putSet_flt (h : Nat) (x : StageSet) : (s.putSet h x).flt = s.flt := rfl
@[simp] theorem putSet_nets (h : Nat) (x : StageSet) : (s.putSet h x).nets = s.nets := rfl
@[simp] theorem putSet_spans (h : Nat) (x : StageSet) : (s.putSet h x).spans = s.spans := rfl
@[simp] theorem putSet_cells (h : Nat) (x : StageSet) : (s.putSet h x).cells = s.cells := rfl
@[simp] theorem putSet_rf (h : Nat) (x : StageSet) : (s.putSet h x).rf = s.rf := rfl
@[simp] theorem putSet_bb (h : Nat) (x : StageSet) : (s.putSet h x).bb = s.bb := rfl
@[simp] theorem putSet_abl (h : Nat) (x : StageSet) : (s.putSet h x).abl = s.abl := rfl
@[simp] theorem putSet_firn (h : Nat) (x : StageSet) : (s.putSet h x).firn = s.firn := rfl
@[simp] theorem putSet_spanRx (h : Nat) (x : StageSet) : (s.putSet h x).spanRx = s.spanRx := rfl
@[simp] theorem putSet_sram (h : Nat) (x : StageSet) : (s.putSet h x).sram = s.sram := rfl
@[simp] theorem putSet_rt (h : Nat) (x : StageSet) : (s.putSet h x).rt = s.rt := rfl
@[simp] theorem putSet_serial (h : Nat) (x : StageSet) : (s.putSet h x).serial = s.serial := rfl

/-! ### putParam -/

@[simp] theorem putParam_pending (id : Nat) (v : PVal) : (s.putParam id v).pending = s.pending := rfl
@[simp] theorem putParam_freeCtr (id : Nat) (v : PVal) : (s.putParam id v).freeCtr = s.freeCtr := rfl
@[simp] theorem putParam_mem (id : Nat) (v : PVal) : (s.putParam id v).mem = s.mem := rfl
@[simp] theorem putParam_sys (id : Nat) (v : PVal) : (s.putParam id v).sys = s.sys := rfl
@[simp] theorem putParam_hif (id : Nat) (v : PVal) : (s.putParam id v).hif = s.hif := rfl
@[simp] theorem putParam_chans (id : Nat) (v : PVal) : (s.putParam id v).chans = s.chans := rfl
@[simp] theorem putParam_evt (id : Nat) (v : PVal) : (s.putParam id v).evt = s.evt := rfl
@[simp] theorem putParam_rings (id : Nat) (v : PVal) : (s.putParam id v).rings = s.rings := rfl
@[simp] theorem putParam_evs (id : Nat) (v : PVal) : (s.putParam id v).evs = s.evs := rfl
@[simp] theorem putParam_params (id : Nat) (v : PVal) : (s.putParam id v).params = tset s.params id v := rfl
@[simp] theorem putParam_sets (id : Nat) (v : PVal) : (s.putParam id v).sets = s.sets := rfl
@[simp] theorem putParam_setOrder (id : Nat) (v : PVal) : (s.putParam id v).setOrder = s.setOrder := rfl
@[simp] theorem putParam_board (id : Nat) (v : PVal) : (s.putParam id v).board = s.board := rfl
@[simp] theorem putParam_site (id : Nat) (v : PVal) : (s.putParam id v).site = s.site := rfl
@[simp] theorem putParam_nv (id : Nat) (v : PVal) : (s.putParam id v).nv = s.nv := rfl
@[simp] theorem putParam_ctrs (id : Nat) (v : PVal) : (s.putParam id v).ctrs = s.ctrs := rfl
@[simp] theorem putParam_time (id : Nat) (v : PVal) : (s.putParam id v).time = s.time := rfl
@[simp] theorem putParam_pwr (id : Nat) (v : PVal) : (s.putParam id v).pwr = s.pwr := rfl
@[simp] theorem putParam_pins (id : Nat) (v : PVal) : (s.putParam id v).pins = s.pins := rfl
@[simp] theorem putParam_ddr (id : Nat) (v : PVal) : (s.putParam id v).ddr = s.ddr := rfl
@[simp] theorem putParam_cc (id : Nat) (v : PVal) : (s.putParam id v).cc = s.cc := rfl
@[simp] theorem putParam_cipher (id : Nat) (v : PVal) : (s.putParam id v).cipher = s.cipher := rfl
@[simp] theorem putParam_fw (id : Nat) (v : PVal) : (s.putParam id v).fw = s.fw := rfl
@[simp] theorem putParam_flt (id : Nat) (v : PVal) : (s.putParam id v).flt = s.flt := rfl
@[simp] theorem putParam_nets (id : Nat) (v : PVal) : (s.putParam id v).nets = s.nets := rfl
@[simp] theorem putParam_spans (id : Nat) (v : PVal) : (s.putParam id v).spans = s.spans := rfl
@[simp] theorem putParam_cells (id : Nat) (v : PVal) : (s.putParam id v).cells = s.cells := rfl
@[simp] theorem putParam_rf (id : Nat) (v : PVal) : (s.putParam id v).rf = s.rf := rfl
@[simp] theorem putParam_bb (id : Nat) (v : PVal) : (s.putParam id v).bb = s.bb := rfl
@[simp] theorem putParam_abl (id : Nat) (v : PVal) : (s.putParam id v).abl = s.abl := rfl
@[simp] theorem putParam_firn (id : Nat) (v : PVal) : (s.putParam id v).firn = s.firn := rfl
@[simp] theorem putParam_spanRx (id : Nat) (v : PVal) : (s.putParam id v).spanRx = s.spanRx := rfl
@[simp] theorem putParam_sram (id : Nat) (v : PVal) : (s.putParam id v).sram = s.sram := rfl
@[simp] theorem putParam_rt (id : Nat) (v : PVal) : (s.putParam id v).rt = s.rt := rfl
@[simp] theorem putParam_serial (id : Nat) (v : PVal) : (s.putParam id v).serial = s.serial := rfl

/-! ### setFirn -/

@[simp] theorem setFirn_pending (f : Firn) : (s.setFirn f).pending = s.pending := rfl
@[simp] theorem setFirn_freeCtr (f : Firn) : (s.setFirn f).freeCtr = s.freeCtr := rfl
@[simp] theorem setFirn_mem (f : Firn) : (s.setFirn f).mem = s.mem := rfl
@[simp] theorem setFirn_sys (f : Firn) : (s.setFirn f).sys = s.sys := rfl
@[simp] theorem setFirn_hif (f : Firn) : (s.setFirn f).hif = s.hif := rfl
@[simp] theorem setFirn_chans (f : Firn) : (s.setFirn f).chans = s.chans := rfl
@[simp] theorem setFirn_evt (f : Firn) : (s.setFirn f).evt = s.evt := rfl
@[simp] theorem setFirn_rings (f : Firn) : (s.setFirn f).rings = s.rings := rfl
@[simp] theorem setFirn_evs (f : Firn) : (s.setFirn f).evs = s.evs := rfl
@[simp] theorem setFirn_params (f : Firn) : (s.setFirn f).params = s.params := rfl
@[simp] theorem setFirn_sets (f : Firn) : (s.setFirn f).sets = s.sets := rfl
@[simp] theorem setFirn_setOrder (f : Firn) : (s.setFirn f).setOrder = s.setOrder := rfl
@[simp] theorem setFirn_board (f : Firn) : (s.setFirn f).board = s.board := rfl
@[simp] theorem setFirn_site (f : Firn) : (s.setFirn f).site = s.site := rfl
@[simp] theorem setFirn_nv (f : Firn) : (s.setFirn f).nv = s.nv := rfl
@[simp] theorem setFirn_ctrs (f : Firn) : (s.setFirn f).ctrs = s.ctrs := rfl
@[simp] theorem setFirn_time (f : Firn) : (s.setFirn f).time = s.time := rfl
@[simp] theorem setFirn_pwr (f : Firn) : (s.setFirn f).pwr = s.pwr := rfl
@[simp] theorem setFirn_pins (f : Firn) : (s.setFirn f).pins = s.pins := rfl
@[simp] theorem setFirn_ddr (f : Firn) : (s.setFirn f).ddr = s.ddr := rfl
@[simp] theorem setFirn_cc (f : Firn) : (s.setFirn f).cc = s.cc := rfl
@[simp] theorem setFirn_cipher (f : Firn) : (s.setFirn f).cipher = s.cipher := rfl
@[simp] theorem setFirn_fw (f : Firn) : (s.setFirn f).fw = s.fw := rfl
@[simp] theorem setFirn_flt (f : Firn) : (s.setFirn f).flt = s.flt := rfl
@[simp] theorem setFirn_nets (f : Firn) : (s.setFirn f).nets = s.nets := rfl
@[simp] theorem setFirn_spans (f : Firn) : (s.setFirn f).spans = s.spans := rfl
@[simp] theorem setFirn_cells (f : Firn) : (s.setFirn f).cells = s.cells := rfl
@[simp] theorem setFirn_rf (f : Firn) : (s.setFirn f).rf = s.rf := rfl
@[simp] theorem setFirn_bb (f : Firn) : (s.setFirn f).bb = s.bb := rfl
@[simp] theorem setFirn_abl (f : Firn) : (s.setFirn f).abl = s.abl := rfl
@[simp] theorem setFirn_firn (f : Firn) : (s.setFirn f).firn = f := rfl
@[simp] theorem setFirn_spanRx (f : Firn) : (s.setFirn f).spanRx = s.spanRx := rfl
@[simp] theorem setFirn_sram (f : Firn) : (s.setFirn f).sram = s.sram := rfl
@[simp] theorem setFirn_rt (f : Firn) : (s.setFirn f).rt = s.rt := rfl
@[simp] theorem setFirn_serial (f : Firn) : (s.setFirn f).serial = s.serial := rfl

/-! ### setSpan -/

@[simp] theorem setSpan_pending (n : Nat) (v : SpanState) : (s.setSpan n v).pending = s.pending := rfl
@[simp] theorem setSpan_freeCtr (n : Nat) (v : SpanState) : (s.setSpan n v).freeCtr = s.freeCtr := rfl
@[simp] theorem setSpan_mem (n : Nat) (v : SpanState) : (s.setSpan n v).mem = s.mem := rfl
@[simp] theorem setSpan_sys (n : Nat) (v : SpanState) : (s.setSpan n v).sys = s.sys := rfl
@[simp] theorem setSpan_hif (n : Nat) (v : SpanState) : (s.setSpan n v).hif = s.hif := rfl
@[simp] theorem setSpan_chans (n : Nat) (v : SpanState) : (s.setSpan n v).chans = s.chans := rfl
@[simp] theorem setSpan_evt (n : Nat) (v : SpanState) : (s.setSpan n v).evt = s.evt := rfl
@[simp] theorem setSpan_rings (n : Nat) (v : SpanState) : (s.setSpan n v).rings = s.rings := rfl
@[simp] theorem setSpan_evs (n : Nat) (v : SpanState) : (s.setSpan n v).evs = s.evs := rfl
@[simp] theorem setSpan_params (n : Nat) (v : SpanState) : (s.setSpan n v).params = s.params := rfl
@[simp] theorem setSpan_sets (n : Nat) (v : SpanState) : (s.setSpan n v).sets = s.sets := rfl
@[simp] theorem setSpan_setOrder (n : Nat) (v : SpanState) : (s.setSpan n v).setOrder = s.setOrder := rfl
@[simp] theorem setSpan_board (n : Nat) (v : SpanState) : (s.setSpan n v).board = s.board := rfl
@[simp] theorem setSpan_site (n : Nat) (v : SpanState) : (s.setSpan n v).site = s.site := rfl
@[simp] theorem setSpan_nv (n : Nat) (v : SpanState) : (s.setSpan n v).nv = s.nv := rfl
@[simp] theorem setSpan_ctrs (n : Nat) (v : SpanState) : (s.setSpan n v).ctrs = s.ctrs := rfl
@[simp] theorem setSpan_time (n : Nat) (v : SpanState) : (s.setSpan n v).time = s.time := rfl
@[simp] theorem setSpan_pwr (n : Nat) (v : SpanState) : (s.setSpan n v).pwr = s.pwr := rfl
@[simp] theorem setSpan_pins (n : Nat) (v : SpanState) : (s.setSpan n v).pins = s.pins := rfl
@[simp] theorem setSpan_ddr (n : Nat) (v : SpanState) : (s.setSpan n v).ddr = s.ddr := rfl
@[simp] theorem setSpan_cc (n : Nat) (v : SpanState) : (s.setSpan n v).cc = s.cc := rfl
@[simp] theorem setSpan_cipher (n : Nat) (v : SpanState) : (s.setSpan n v).cipher = s.cipher := rfl
@[simp] theorem setSpan_fw (n : Nat) (v : SpanState) : (s.setSpan n v).fw = s.fw := rfl
@[simp] theorem setSpan_flt (n : Nat) (v : SpanState) : (s.setSpan n v).flt = s.flt := rfl
@[simp] theorem setSpan_nets (n : Nat) (v : SpanState) : (s.setSpan n v).nets = s.nets := rfl
@[simp] theorem setSpan_spans (n : Nat) (v : SpanState) : (s.setSpan n v).spans = tset s.spans n v := rfl
@[simp] theorem setSpan_cells (n : Nat) (v : SpanState) : (s.setSpan n v).cells = s.cells := rfl
@[simp] theorem setSpan_rf (n : Nat) (v : SpanState) : (s.setSpan n v).rf = s.rf := rfl
@[simp] theorem setSpan_bb (n : Nat) (v : SpanState) : (s.setSpan n v).bb = s.bb := rfl
@[simp] theorem setSpan_abl (n : Nat) (v : SpanState) : (s.setSpan n v).abl = s.abl := rfl
@[simp] theorem setSpan_firn (n : Nat) (v : SpanState) : (s.setSpan n v).firn = s.firn := rfl
@[simp] theorem setSpan_spanRx (n : Nat) (v : SpanState) : (s.setSpan n v).spanRx = s.spanRx := rfl
@[simp] theorem setSpan_sram (n : Nat) (v : SpanState) : (s.setSpan n v).sram = s.sram := rfl
@[simp] theorem setSpan_rt (n : Nat) (v : SpanState) : (s.setSpan n v).rt = s.rt := rfl
@[simp] theorem setSpan_serial (n : Nat) (v : SpanState) : (s.setSpan n v).serial = s.serial := rfl

/-! ### setNet -/

@[simp] theorem setNet_pending (n : Net) (v : NetState) : (s.setNet n v).pending = s.pending := rfl
@[simp] theorem setNet_freeCtr (n : Net) (v : NetState) : (s.setNet n v).freeCtr = s.freeCtr := rfl
@[simp] theorem setNet_mem (n : Net) (v : NetState) : (s.setNet n v).mem = s.mem := rfl
@[simp] theorem setNet_sys (n : Net) (v : NetState) : (s.setNet n v).sys = s.sys := rfl
@[simp] theorem setNet_hif (n : Net) (v : NetState) : (s.setNet n v).hif = s.hif := rfl
@[simp] theorem setNet_chans (n : Net) (v : NetState) : (s.setNet n v).chans = s.chans := rfl
@[simp] theorem setNet_evt (n : Net) (v : NetState) : (s.setNet n v).evt = s.evt := rfl
@[simp] theorem setNet_rings (n : Net) (v : NetState) : (s.setNet n v).rings = s.rings := rfl
@[simp] theorem setNet_evs (n : Net) (v : NetState) : (s.setNet n v).evs = s.evs := rfl
@[simp] theorem setNet_params (n : Net) (v : NetState) : (s.setNet n v).params = s.params := rfl
@[simp] theorem setNet_sets (n : Net) (v : NetState) : (s.setNet n v).sets = s.sets := rfl
@[simp] theorem setNet_setOrder (n : Net) (v : NetState) : (s.setNet n v).setOrder = s.setOrder := rfl
@[simp] theorem setNet_board (n : Net) (v : NetState) : (s.setNet n v).board = s.board := rfl
@[simp] theorem setNet_site (n : Net) (v : NetState) : (s.setNet n v).site = s.site := rfl
@[simp] theorem setNet_nv (n : Net) (v : NetState) : (s.setNet n v).nv = s.nv := rfl
@[simp] theorem setNet_ctrs (n : Net) (v : NetState) : (s.setNet n v).ctrs = s.ctrs := rfl
@[simp] theorem setNet_time (n : Net) (v : NetState) : (s.setNet n v).time = s.time := rfl
@[simp] theorem setNet_pwr (n : Net) (v : NetState) : (s.setNet n v).pwr = s.pwr := rfl
@[simp] theorem setNet_pins (n : Net) (v : NetState) : (s.setNet n v).pins = s.pins := rfl
@[simp] theorem setNet_ddr (n : Net) (v : NetState) : (s.setNet n v).ddr = s.ddr := rfl
@[simp] theorem setNet_cc (n : Net) (v : NetState) : (s.setNet n v).cc = s.cc := rfl
@[simp] theorem setNet_cipher (n : Net) (v : NetState) : (s.setNet n v).cipher = s.cipher := rfl
@[simp] theorem setNet_fw (n : Net) (v : NetState) : (s.setNet n v).fw = s.fw := rfl
@[simp] theorem setNet_flt (n : Net) (v : NetState) : (s.setNet n v).flt = s.flt := rfl
@[simp] theorem setNet_nets (n : Net) (v : NetState) : (s.setNet n v).nets = s.nets.setNet n v := rfl
@[simp] theorem setNet_spans (n : Net) (v : NetState) : (s.setNet n v).spans = s.spans := rfl
@[simp] theorem setNet_cells (n : Net) (v : NetState) : (s.setNet n v).cells = s.cells := rfl
@[simp] theorem setNet_rf (n : Net) (v : NetState) : (s.setNet n v).rf = s.rf := rfl
@[simp] theorem setNet_bb (n : Net) (v : NetState) : (s.setNet n v).bb = s.bb := rfl
@[simp] theorem setNet_abl (n : Net) (v : NetState) : (s.setNet n v).abl = s.abl := rfl
@[simp] theorem setNet_firn (n : Net) (v : NetState) : (s.setNet n v).firn = s.firn := rfl
@[simp] theorem setNet_spanRx (n : Net) (v : NetState) : (s.setNet n v).spanRx = s.spanRx := rfl
@[simp] theorem setNet_sram (n : Net) (v : NetState) : (s.setNet n v).sram = s.sram := rfl
@[simp] theorem setNet_rt (n : Net) (v : NetState) : (s.setNet n v).rt = s.rt := rfl
@[simp] theorem setNet_serial (n : Net) (v : NetState) : (s.setNet n v).serial = s.serial := rfl

/-! ### setRadio -/

@[simp] theorem setRadio_pending (x : Radio) (r : RadioState) : (s.setRadio x r).pending = s.pending := rfl
@[simp] theorem setRadio_freeCtr (x : Radio) (r : RadioState) : (s.setRadio x r).freeCtr = s.freeCtr := rfl
@[simp] theorem setRadio_mem (x : Radio) (r : RadioState) : (s.setRadio x r).mem = s.mem := rfl
@[simp] theorem setRadio_sys (x : Radio) (r : RadioState) : (s.setRadio x r).sys = s.sys := rfl
@[simp] theorem setRadio_hif (x : Radio) (r : RadioState) : (s.setRadio x r).hif = s.hif := rfl
@[simp] theorem setRadio_chans (x : Radio) (r : RadioState) : (s.setRadio x r).chans = s.chans := rfl
@[simp] theorem setRadio_evt (x : Radio) (r : RadioState) : (s.setRadio x r).evt = s.evt := rfl
@[simp] theorem setRadio_rings (x : Radio) (r : RadioState) : (s.setRadio x r).rings = s.rings := rfl
@[simp] theorem setRadio_evs (x : Radio) (r : RadioState) : (s.setRadio x r).evs = s.evs := rfl
@[simp] theorem setRadio_params (x : Radio) (r : RadioState) : (s.setRadio x r).params = s.params := rfl
@[simp] theorem setRadio_sets (x : Radio) (r : RadioState) : (s.setRadio x r).sets = s.sets := rfl
@[simp] theorem setRadio_setOrder (x : Radio) (r : RadioState) : (s.setRadio x r).setOrder = s.setOrder := rfl
@[simp] theorem setRadio_board (x : Radio) (r : RadioState) : (s.setRadio x r).board = s.board := rfl
@[simp] theorem setRadio_site (x : Radio) (r : RadioState) : (s.setRadio x r).site = s.site := rfl
@[simp] theorem setRadio_nv (x : Radio) (r : RadioState) : (s.setRadio x r).nv = s.nv := rfl
@[simp] theorem setRadio_ctrs (x : Radio) (r : RadioState) : (s.setRadio x r).ctrs = s.ctrs := rfl
@[simp] theorem setRadio_time (x : Radio) (r : RadioState) : (s.setRadio x r).time = s.time := rfl
@[simp] theorem setRadio_pwr (x : Radio) (r : RadioState) : (s.setRadio x r).pwr = s.pwr := rfl
@[simp] theorem setRadio_pins (x : Radio) (r : RadioState) : (s.setRadio x r).pins = s.pins := rfl
@[simp] theorem setRadio_ddr (x : Radio) (r : RadioState) : (s.setRadio x r).ddr = s.ddr := rfl
@[simp] theorem setRadio_cc (x : Radio) (r : RadioState) : (s.setRadio x r).cc = s.cc := rfl
@[simp] theorem setRadio_cipher (x : Radio) (r : RadioState) : (s.setRadio x r).cipher = s.cipher := rfl
@[simp] theorem setRadio_fw (x : Radio) (r : RadioState) : (s.setRadio x r).fw = s.fw := rfl
@[simp] theorem setRadio_flt (x : Radio) (r : RadioState) : (s.setRadio x r).flt = s.flt := rfl
@[simp] theorem setRadio_nets (x : Radio) (r : RadioState) : (s.setRadio x r).nets = s.nets := rfl
@[simp] theorem setRadio_spans (x : Radio) (r : RadioState) : (s.setRadio x r).spans = s.spans := rfl
@[simp] theorem setRadio_cells (x : Radio) (r : RadioState) : (s.setRadio x r).cells = s.cells := rfl
@[simp] theorem setRadio_bb (x : Radio) (r : RadioState) : (s.setRadio x r).bb = s.bb := rfl
@[simp] theorem setRadio_abl (x : Radio) (r : RadioState) : (s.setRadio x r).abl = s.abl := rfl
@[simp] theorem setRadio_firn (x : Radio) (r : RadioState) : (s.setRadio x r).firn = s.firn := rfl
@[simp] theorem setRadio_spanRx (x : Radio) (r : RadioState) : (s.setRadio x r).spanRx = s.spanRx := rfl
@[simp] theorem setRadio_sram (x : Radio) (r : RadioState) : (s.setRadio x r).sram = s.sram := rfl
@[simp] theorem setRadio_rt (x : Radio) (r : RadioState) : (s.setRadio x r).rt = s.rt := rfl
@[simp] theorem setRadio_serial (x : Radio) (r : RadioState) : (s.setRadio x r).serial = s.serial := rfl

/-! ### setBb -/

@[simp] theorem setBb_pending (x : Radio) (b : BbRadio) : (s.setBb x b).pending = s.pending := rfl
@[simp] theorem setBb_freeCtr (x : Radio) (b : BbRadio) : (s.setBb x b).freeCtr = s.freeCtr := rfl
@[simp] theorem setBb_mem (x : Radio) (b : BbRadio) : (s.setBb x b).mem = s.mem := rfl
@[simp] theorem setBb_sys (x : Radio) (b : BbRadio) : (s.setBb x b).sys = s.sys := rfl
@[simp] theorem setBb_hif (x : Radio) (b : BbRadio) : (s.setBb x b).hif = s.hif := rfl
@[simp] theorem setBb_chans (x : Radio) (b : BbRadio) : (s.setBb x b).chans = s.chans := rfl
@[simp] theorem setBb_evt (x : Radio) (b : BbRadio) : (s.setBb x b).evt = s.evt := rfl
@[simp] theorem setBb_rings (x : Radio) (b : BbRadio) : (s.setBb x b).rings = s.rings := rfl
@[simp] theorem setBb_evs (x : Radio) (b : BbRadio) : (s.setBb x b).evs = s.evs := rfl
@[simp] theorem setBb_params (x : Radio) (b : BbRadio) : (s.setBb x b).params = s.params := rfl
@[simp] theorem setBb_sets (x : Radio) (b : BbRadio) : (s.setBb x b).sets = s.sets := rfl
@[simp] theorem setBb_setOrder (x : Radio) (b : BbRadio) : (s.setBb x b).setOrder = s.setOrder := rfl
@[simp] theorem setBb_board (x : Radio) (b : BbRadio) : (s.setBb x b).board = s.board := rfl
@[simp] theorem setBb_site (x : Radio) (b : BbRadio) : (s.setBb x b).site = s.site := rfl
@[simp] theorem setBb_nv (x : Radio) (b : BbRadio) : (s.setBb x b).nv = s.nv := rfl
@[simp] theorem setBb_ctrs (x : Radio) (b : BbRadio) : (s.setBb x b).ctrs = s.ctrs := rfl
@[simp] theorem setBb_time (x : Radio) (b : BbRadio) : (s.setBb x b).time = s.time := rfl
@[simp] theorem setBb_pwr (x : Radio) (b : BbRadio) : (s.setBb x b).pwr = s.pwr := rfl
@[simp] theorem setBb_pins (x : Radio) (b : BbRadio) : (s.setBb x b).pins = s.pins := rfl
@[simp] theorem setBb_ddr (x : Radio) (b : BbRadio) : (s.setBb x b).ddr = s.ddr := rfl
@[simp] theorem setBb_cc (x : Radio) (b : BbRadio) : (s.setBb x b).cc = s.cc := rfl
@[simp] theorem setBb_cipher (x : Radio) (b : BbRadio) : (s.setBb x b).cipher = s.cipher := rfl
@[simp] theorem setBb_fw (x : Radio) (b : BbRadio) : (s.setBb x b).fw = s.fw := rfl
@[simp] theorem setBb_flt (x : Radio) (b : BbRadio) : (s.setBb x b).flt = s.flt := rfl
@[simp] theorem setBb_nets (x : Radio) (b : BbRadio) : (s.setBb x b).nets = s.nets := rfl
@[simp] theorem setBb_spans (x : Radio) (b : BbRadio) : (s.setBb x b).spans = s.spans := rfl
@[simp] theorem setBb_cells (x : Radio) (b : BbRadio) : (s.setBb x b).cells = s.cells := rfl
@[simp] theorem setBb_rf (x : Radio) (b : BbRadio) : (s.setBb x b).rf = s.rf := rfl
@[simp] theorem setBb_bb (x : Radio) (b : BbRadio) : (s.setBb x b).bb = { s.bb with radios := s.bb.radios.set x b } := rfl
@[simp] theorem setBb_abl (x : Radio) (b : BbRadio) : (s.setBb x b).abl = s.abl := rfl
@[simp] theorem setBb_firn (x : Radio) (b : BbRadio) : (s.setBb x b).firn = s.firn := rfl
@[simp] theorem setBb_spanRx (x : Radio) (b : BbRadio) : (s.setBb x b).spanRx = s.spanRx := rfl
@[simp] theorem setBb_sram (x : Radio) (b : BbRadio) : (s.setBb x b).sram = s.sram := rfl
@[simp] theorem setBb_rt (x : Radio) (b : BbRadio) : (s.setBb x b).rt = s.rt := rfl
@[simp] theorem setBb_serial (x : Radio) (b : BbRadio) : (s.setBb x b).serial = s.serial := rfl

/-! ### setLane -/

@[simp] theorem setLane_pending (l : Nat) (v : Lane) : (s.setLane l v).pending = s.pending := rfl
@[simp] theorem setLane_freeCtr (l : Nat) (v : Lane) : (s.setLane l v).freeCtr = s.freeCtr := rfl
@[simp] theorem setLane_mem (l : Nat) (v : Lane) : (s.setLane l v).mem = s.mem := rfl
@[simp] theorem setLane_sys (l : Nat) (v : Lane) : (s.setLane l v).sys = s.sys := rfl
@[simp] theorem setLane_hif (l : Nat) (v : Lane) : (s.setLane l v).hif = s.hif := rfl
@[simp] theorem setLane_chans (l : Nat) (v : Lane) : (s.setLane l v).chans = s.chans := rfl
@[simp] theorem setLane_evt (l : Nat) (v : Lane) : (s.setLane l v).evt = s.evt := rfl
@[simp] theorem setLane_rings (l : Nat) (v : Lane) : (s.setLane l v).rings = s.rings := rfl
@[simp] theorem setLane_evs (l : Nat) (v : Lane) : (s.setLane l v).evs = s.evs := rfl
@[simp] theorem setLane_params (l : Nat) (v : Lane) : (s.setLane l v).params = s.params := rfl
@[simp] theorem setLane_sets (l : Nat) (v : Lane) : (s.setLane l v).sets = s.sets := rfl
@[simp] theorem setLane_setOrder (l : Nat) (v : Lane) : (s.setLane l v).setOrder = s.setOrder := rfl
@[simp] theorem setLane_board (l : Nat) (v : Lane) : (s.setLane l v).board = s.board := rfl
@[simp] theorem setLane_site (l : Nat) (v : Lane) : (s.setLane l v).site = s.site := rfl
@[simp] theorem setLane_nv (l : Nat) (v : Lane) : (s.setLane l v).nv = s.nv := rfl
@[simp] theorem setLane_ctrs (l : Nat) (v : Lane) : (s.setLane l v).ctrs = s.ctrs := rfl
@[simp] theorem setLane_time (l : Nat) (v : Lane) : (s.setLane l v).time = s.time := rfl
@[simp] theorem setLane_pwr (l : Nat) (v : Lane) : (s.setLane l v).pwr = s.pwr := rfl
@[simp] theorem setLane_pins (l : Nat) (v : Lane) : (s.setLane l v).pins = s.pins := rfl
@[simp] theorem setLane_ddr (l : Nat) (v : Lane) : (s.setLane l v).ddr = s.ddr := rfl
@[simp] theorem setLane_cc (l : Nat) (v : Lane) : (s.setLane l v).cc = s.cc := rfl
@[simp] theorem setLane_cipher (l : Nat) (v : Lane) : (s.setLane l v).cipher = s.cipher := rfl
@[simp] theorem setLane_fw (l : Nat) (v : Lane) : (s.setLane l v).fw = s.fw := rfl
@[simp] theorem setLane_flt (l : Nat) (v : Lane) : (s.setLane l v).flt = s.flt := rfl
@[simp] theorem setLane_nets (l : Nat) (v : Lane) : (s.setLane l v).nets = s.nets := rfl
@[simp] theorem setLane_spans (l : Nat) (v : Lane) : (s.setLane l v).spans = s.spans := rfl
@[simp] theorem setLane_cells (l : Nat) (v : Lane) : (s.setLane l v).cells = s.cells := rfl
@[simp] theorem setLane_rf (l : Nat) (v : Lane) : (s.setLane l v).rf = s.rf := rfl
@[simp] theorem setLane_bb (l : Nat) (v : Lane) : (s.setLane l v).bb = { s.bb with lanes := tset s.bb.lanes l v } := rfl
@[simp] theorem setLane_abl (l : Nat) (v : Lane) : (s.setLane l v).abl = s.abl := rfl
@[simp] theorem setLane_firn (l : Nat) (v : Lane) : (s.setLane l v).firn = s.firn := rfl
@[simp] theorem setLane_spanRx (l : Nat) (v : Lane) : (s.setLane l v).spanRx = s.spanRx := rfl
@[simp] theorem setLane_sram (l : Nat) (v : Lane) : (s.setLane l v).sram = s.sram := rfl
@[simp] theorem setLane_rt (l : Nat) (v : Lane) : (s.setLane l v).rt = s.rt := rfl
@[simp] theorem setLane_serial (l : Nat) (v : Lane) : (s.setLane l v).serial = s.serial := rfl

/-! ### setCasc -/

@[simp] theorem setCasc_pending (c : Casc) : (s.setCasc c).pending = s.pending := rfl
@[simp] theorem setCasc_freeCtr (c : Casc) : (s.setCasc c).freeCtr = s.freeCtr := rfl
@[simp] theorem setCasc_mem (c : Casc) : (s.setCasc c).mem = s.mem := rfl
@[simp] theorem setCasc_sys (c : Casc) : (s.setCasc c).sys = s.sys := rfl
@[simp] theorem setCasc_hif (c : Casc) : (s.setCasc c).hif = s.hif := rfl
@[simp] theorem setCasc_chans (c : Casc) : (s.setCasc c).chans = s.chans := rfl
@[simp] theorem setCasc_evt (c : Casc) : (s.setCasc c).evt = s.evt := rfl
@[simp] theorem setCasc_rings (c : Casc) : (s.setCasc c).rings = s.rings := rfl
@[simp] theorem setCasc_evs (c : Casc) : (s.setCasc c).evs = s.evs := rfl
@[simp] theorem setCasc_params (c : Casc) : (s.setCasc c).params = s.params := rfl
@[simp] theorem setCasc_sets (c : Casc) : (s.setCasc c).sets = s.sets := rfl
@[simp] theorem setCasc_setOrder (c : Casc) : (s.setCasc c).setOrder = s.setOrder := rfl
@[simp] theorem setCasc_board (c : Casc) : (s.setCasc c).board = s.board := rfl
@[simp] theorem setCasc_site (c : Casc) : (s.setCasc c).site = s.site := rfl
@[simp] theorem setCasc_nv (c : Casc) : (s.setCasc c).nv = s.nv := rfl
@[simp] theorem setCasc_ctrs (c : Casc) : (s.setCasc c).ctrs = s.ctrs := rfl
@[simp] theorem setCasc_time (c : Casc) : (s.setCasc c).time = s.time := rfl
@[simp] theorem setCasc_pwr (c : Casc) : (s.setCasc c).pwr = s.pwr := rfl
@[simp] theorem setCasc_pins (c : Casc) : (s.setCasc c).pins = s.pins := rfl
@[simp] theorem setCasc_ddr (c : Casc) : (s.setCasc c).ddr = s.ddr := rfl
@[simp] theorem setCasc_cc (c : Casc) : (s.setCasc c).cc = s.cc := rfl
@[simp] theorem setCasc_cipher (c : Casc) : (s.setCasc c).cipher = s.cipher := rfl
@[simp] theorem setCasc_fw (c : Casc) : (s.setCasc c).fw = s.fw := rfl
@[simp] theorem setCasc_flt (c : Casc) : (s.setCasc c).flt = s.flt := rfl
@[simp] theorem setCasc_nets (c : Casc) : (s.setCasc c).nets = s.nets := rfl
@[simp] theorem setCasc_spans (c : Casc) : (s.setCasc c).spans = s.spans := rfl
@[simp] theorem setCasc_cells (c : Casc) : (s.setCasc c).cells = s.cells := rfl
@[simp] theorem setCasc_rf (c : Casc) : (s.setCasc c).rf = s.rf := rfl
@[simp] theorem setCasc_bb (c : Casc) : (s.setCasc c).bb = s.bb := rfl
@[simp] theorem setCasc_abl (c : Casc) : (s.setCasc c).abl = s.abl := rfl
@[simp] theorem setCasc_firn (c : Casc) : (s.setCasc c).firn = s.firn := rfl
@[simp] theorem setCasc_spanRx (c : Casc) : (s.setCasc c).spanRx = s.spanRx := rfl
@[simp] theorem setCasc_sram (c : Casc) : (s.setCasc c).sram = s.sram := rfl
@[simp] theorem setCasc_rt (c : Casc) : (s.setCasc c).rt = s.rt := rfl
@[simp] theorem setCasc_serial (c : Casc) : (s.setCasc c).serial = { s.serial with casc := c } := rfl

/-! ### setSerLane -/

@[simp] theorem setSerLane_pending (i : Nat) (l : SerLane) : (s.setSerLane i l).pending = s.pending := rfl
@[simp] theorem setSerLane_freeCtr (i : Nat) (l : SerLane) : (s.setSerLane i l).freeCtr = s.freeCtr := rfl
@[simp] theorem setSerLane_mem (i : Nat) (l : SerLane) : (s.setSerLane i l).mem = s.mem := rfl
@[simp] theorem setSerLane_sys (i : Nat) (l : SerLane) : (s.setSerLane i l).sys = s.sys := rfl
@[simp] theorem setSerLane_hif (i : Nat) (l : SerLane) : (s.setSerLane i l).hif = s.hif := rfl
@[simp] theorem setSerLane_chans (i : Nat) (l : SerLane) : (s.setSerLane i l).chans = s.chans := rfl
@[simp] theorem setSerLane_evt (i : Nat) (l : SerLane) : (s.setSerLane i l).evt = s.evt := rfl
@[simp] theorem setSerLane_rings (i : Nat) (l : SerLane) : (s.setSerLane i l).rings = s.rings := rfl
@[simp] theorem setSerLane_evs (i : Nat) (l : SerLane) : (s.setSerLane i l).evs = s.evs := rfl
@[simp] theorem setSerLane_params (i : Nat) (l : SerLane) : (s.setSerLane i l).params = s.params := rfl
@[simp] theorem setSerLane_sets (i : Nat) (l : SerLane) : (s.setSerLane i l).sets = s.sets := rfl
@[simp] theorem setSerLane_setOrder (i : Nat) (l : SerLane) : (s.setSerLane i l).setOrder = s.setOrder := rfl
@[simp] theorem setSerLane_board (i : Nat) (l : SerLane) : (s.setSerLane i l).board = s.board := rfl
@[simp] theorem setSerLane_site (i : Nat) (l : SerLane) : (s.setSerLane i l).site = s.site := rfl
@[simp] theorem setSerLane_nv (i : Nat) (l : SerLane) : (s.setSerLane i l).nv = s.nv := rfl
@[simp] theorem setSerLane_ctrs (i : Nat) (l : SerLane) : (s.setSerLane i l).ctrs = s.ctrs := rfl
@[simp] theorem setSerLane_time (i : Nat) (l : SerLane) : (s.setSerLane i l).time = s.time := rfl
@[simp] theorem setSerLane_pwr (i : Nat) (l : SerLane) : (s.setSerLane i l).pwr = s.pwr := rfl
@[simp] theorem setSerLane_pins (i : Nat) (l : SerLane) : (s.setSerLane i l).pins = s.pins := rfl
@[simp] theorem setSerLane_ddr (i : Nat) (l : SerLane) : (s.setSerLane i l).ddr = s.ddr := rfl
@[simp] theorem setSerLane_cc (i : Nat) (l : SerLane) : (s.setSerLane i l).cc = s.cc := rfl
@[simp] theorem setSerLane_cipher (i : Nat) (l : SerLane) : (s.setSerLane i l).cipher = s.cipher := rfl
@[simp] theorem setSerLane_fw (i : Nat) (l : SerLane) : (s.setSerLane i l).fw = s.fw := rfl
@[simp] theorem setSerLane_flt (i : Nat) (l : SerLane) : (s.setSerLane i l).flt = s.flt := rfl
@[simp] theorem setSerLane_nets (i : Nat) (l : SerLane) : (s.setSerLane i l).nets = s.nets := rfl
@[simp] theorem setSerLane_spans (i : Nat) (l : SerLane) : (s.setSerLane i l).spans = s.spans := rfl
@[simp] theorem setSerLane_cells (i : Nat) (l : SerLane) : (s.setSerLane i l).cells = s.cells := rfl
@[simp] theorem setSerLane_rf (i : Nat) (l : SerLane) : (s.setSerLane i l).rf = s.rf := rfl
@[simp] theorem setSerLane_bb (i : Nat) (l : SerLane) : (s.setSerLane i l).bb = s.bb := rfl
@[simp] theorem setSerLane_abl (i : Nat) (l : SerLane) : (s.setSerLane i l).abl = s.abl := rfl
@[simp] theorem setSerLane_firn (i : Nat) (l : SerLane) : (s.setSerLane i l).firn = s.firn := rfl
@[simp] theorem setSerLane_spanRx (i : Nat) (l : SerLane) : (s.setSerLane i l).spanRx = s.spanRx := rfl
@[simp] theorem setSerLane_sram (i : Nat) (l : SerLane) : (s.setSerLane i l).sram = s.sram := rfl
@[simp] theorem setSerLane_rt (i : Nat) (l : SerLane) : (s.setSerLane i l).rt = s.rt := rfl
@[simp] theorem setSerLane_serial (i : Nat) (l : SerLane) : (s.setSerLane i l).serial = { s.serial with lanes := tset s.serial.lanes i l } := rfl

/-! ### setEth -/

@[simp] theorem setEth_pending (p : Nat) (x : EthPort) : (s.setEth p x).pending = s.pending := rfl
@[simp] theorem setEth_freeCtr (p : Nat) (x : EthPort) : (s.setEth p x).freeCtr = s.freeCtr := rfl
@[simp] theorem setEth_mem (p : Nat) (x : EthPort) : (s.setEth p x).mem = s.mem := rfl
@[simp] theorem setEth_sys (p : Nat) (x : EthPort) : (s.setEth p x).sys = s.sys := rfl
@[simp] theorem setEth_hif (p : Nat) (x : EthPort) : (s.setEth p x).hif = s.hif := rfl
@[simp] theorem setEth_chans (p : Nat) (x : EthPort) : (s.setEth p x).chans = s.chans := rfl
@[simp] theorem setEth_evt (p : Nat) (x : EthPort) : (s.setEth p x).evt = s.evt := rfl
@[simp] theorem setEth_rings (p : Nat) (x : EthPort) : (s.setEth p x).rings = s.rings := rfl
@[simp] theorem setEth_evs (p : Nat) (x : EthPort) : (s.setEth p x).evs = s.evs := rfl
@[simp] theorem setEth_params (p : Nat) (x : EthPort) : (s.setEth p x).params = s.params := rfl
@[simp] theorem setEth_sets (p : Nat) (x : EthPort) : (s.setEth p x).sets = s.sets := rfl
@[simp] theorem setEth_setOrder (p : Nat) (x : EthPort) : (s.setEth p x).setOrder = s.setOrder := rfl
@[simp] theorem setEth_board (p : Nat) (x : EthPort) : (s.setEth p x).board = s.board := rfl
@[simp] theorem setEth_site (p : Nat) (x : EthPort) : (s.setEth p x).site = s.site := rfl
@[simp] theorem setEth_nv (p : Nat) (x : EthPort) : (s.setEth p x).nv = s.nv := rfl
@[simp] theorem setEth_ctrs (p : Nat) (x : EthPort) : (s.setEth p x).ctrs = s.ctrs := rfl
@[simp] theorem setEth_time (p : Nat) (x : EthPort) : (s.setEth p x).time = s.time := rfl
@[simp] theorem setEth_pwr (p : Nat) (x : EthPort) : (s.setEth p x).pwr = s.pwr := rfl
@[simp] theorem setEth_pins (p : Nat) (x : EthPort) : (s.setEth p x).pins = s.pins := rfl
@[simp] theorem setEth_ddr (p : Nat) (x : EthPort) : (s.setEth p x).ddr = s.ddr := rfl
@[simp] theorem setEth_cc (p : Nat) (x : EthPort) : (s.setEth p x).cc = s.cc := rfl
@[simp] theorem setEth_cipher (p : Nat) (x : EthPort) : (s.setEth p x).cipher = s.cipher := rfl
@[simp] theorem setEth_fw (p : Nat) (x : EthPort) : (s.setEth p x).fw = s.fw := rfl
@[simp] theorem setEth_flt (p : Nat) (x : EthPort) : (s.setEth p x).flt = s.flt := rfl
@[simp] theorem setEth_nets (p : Nat) (x : EthPort) : (s.setEth p x).nets = s.nets := rfl
@[simp] theorem setEth_spans (p : Nat) (x : EthPort) : (s.setEth p x).spans = s.spans := rfl
@[simp] theorem setEth_cells (p : Nat) (x : EthPort) : (s.setEth p x).cells = s.cells := rfl
@[simp] theorem setEth_rf (p : Nat) (x : EthPort) : (s.setEth p x).rf = s.rf := rfl
@[simp] theorem setEth_bb (p : Nat) (x : EthPort) : (s.setEth p x).bb = s.bb := rfl
@[simp] theorem setEth_abl (p : Nat) (x : EthPort) : (s.setEth p x).abl = s.abl := rfl
@[simp] theorem setEth_firn (p : Nat) (x : EthPort) : (s.setEth p x).firn = s.firn := rfl
@[simp] theorem setEth_spanRx (p : Nat) (x : EthPort) : (s.setEth p x).spanRx = s.spanRx := rfl
@[simp] theorem setEth_sram (p : Nat) (x : EthPort) : (s.setEth p x).sram = s.sram := rfl
@[simp] theorem setEth_rt (p : Nat) (x : EthPort) : (s.setEth p x).rt = s.rt := rfl
@[simp] theorem setEth_serial (p : Nat) (x : EthPort) : (s.setEth p x).serial = { s.serial with eth := tset s.serial.eth p x } := rfl

/-! ### setDdrChan -/

@[simp] theorem setDdrChan_pending (c : Nat) (v : DdrChan) : (s.setDdrChan c v).pending = s.pending := rfl
@[simp] theorem setDdrChan_freeCtr (c : Nat) (v : DdrChan) : (s.setDdrChan c v).freeCtr = s.freeCtr := rfl
@[simp] theorem setDdrChan_mem (c : Nat) (v : DdrChan) : (s.setDdrChan c v).mem = s.mem := rfl
@[simp] theorem setDdrChan_sys (c : Nat) (v : DdrChan) : (s.setDdrChan c v).sys = s.sys := rfl
@[simp] theorem setDdrChan_hif (c : Nat) (v : DdrChan) : (s.setDdrChan c v).hif = s.hif := rfl
@[simp] theorem setDdrChan_chans (c : Nat) (v : DdrChan) : (s.setDdrChan c v).chans = s.chans := rfl
@[simp] theorem setDdrChan_evt (c : Nat) (v : DdrChan) : (s.setDdrChan c v).evt = s.evt := rfl
@[simp] theorem setDdrChan_rings (c : Nat) (v : DdrChan) : (s.setDdrChan c v).rings = s.rings := rfl
@[simp] theorem setDdrChan_evs (c : Nat) (v : DdrChan) : (s.setDdrChan c v).evs = s.evs := rfl
@[simp] theorem setDdrChan_params (c : Nat) (v : DdrChan) : (s.setDdrChan c v).params = s.params := rfl
@[simp] theorem setDdrChan_sets (c : Nat) (v : DdrChan) : (s.setDdrChan c v).sets = s.sets := rfl
@[simp] theorem setDdrChan_setOrder (c : Nat) (v : DdrChan) : (s.setDdrChan c v).setOrder = s.setOrder := rfl
@[simp] theorem setDdrChan_board (c : Nat) (v : DdrChan) : (s.setDdrChan c v).board = s.board := rfl
@[simp] theorem setDdrChan_site (c : Nat) (v : DdrChan) : (s.setDdrChan c v).site = s.site := rfl
@[simp] theorem setDdrChan_nv (c : Nat) (v : DdrChan) : (s.setDdrChan c v).nv = s.nv := rfl
@[simp] theorem setDdrChan_ctrs (c : Nat) (v : DdrChan) : (s.setDdrChan c v).ctrs = s.ctrs := rfl
@[simp] theorem setDdrChan_time (c : Nat) (v : DdrChan) : (s.setDdrChan c v).time = s.time := rfl
@[simp] theorem setDdrChan_pwr (c : Nat) (v : DdrChan) : (s.setDdrChan c v).pwr = s.pwr := rfl
@[simp] theorem setDdrChan_pins (c : Nat) (v : DdrChan) : (s.setDdrChan c v).pins = s.pins := rfl
@[simp] theorem setDdrChan_ddr (c : Nat) (v : DdrChan) : (s.setDdrChan c v).ddr = { s.ddr with chans := tset s.ddr.chans c v } := rfl
@[simp] theorem setDdrChan_cc (c : Nat) (v : DdrChan) : (s.setDdrChan c v).cc = s.cc := rfl
@[simp] theorem setDdrChan_cipher (c : Nat) (v : DdrChan) : (s.setDdrChan c v).cipher = s.cipher := rfl
@[simp] theorem setDdrChan_fw (c : Nat) (v : DdrChan) : (s.setDdrChan c v).fw = s.fw := rfl
@[simp] theorem setDdrChan_flt (c : Nat) (v : DdrChan) : (s.setDdrChan c v).flt = s.flt := rfl
@[simp] theorem setDdrChan_nets (c : Nat) (v : DdrChan) : (s.setDdrChan c v).nets = s.nets := rfl
@[simp] theorem setDdrChan_spans (c : Nat) (v : DdrChan) : (s.setDdrChan c v).spans = s.spans := rfl
@[simp] theorem setDdrChan_cells (c : Nat) (v : DdrChan) : (s.setDdrChan c v).cells = s.cells := rfl
@[simp] theorem setDdrChan_rf (c : Nat) (v : DdrChan) : (s.setDdrChan c v).rf = s.rf := rfl
@[simp] theorem setDdrChan_bb (c : Nat) (v : DdrChan) : (s.setDdrChan c v).bb = s.bb := rfl
@[simp] theorem setDdrChan_abl (c : Nat) (v : DdrChan) : (s.setDdrChan c v).abl = s.abl := rfl
@[simp] theorem setDdrChan_firn (c : Nat) (v : DdrChan) : (s.setDdrChan c v).firn = s.firn := rfl
@[simp] theorem setDdrChan_spanRx (c : Nat) (v : DdrChan) : (s.setDdrChan c v).spanRx = s.spanRx := rfl
@[simp] theorem setDdrChan_sram (c : Nat) (v : DdrChan) : (s.setDdrChan c v).sram = s.sram := rfl
@[simp] theorem setDdrChan_rt (c : Nat) (v : DdrChan) : (s.setDdrChan c v).rt = s.rt := rfl
@[simp] theorem setDdrChan_serial (c : Nat) (v : DdrChan) : (s.setDdrChan c v).serial = s.serial := rfl

/-! ### setKey -/

@[simp] theorem setKey_pending (k : Nat) (v : KeySlot) : (s.setKey k v).pending = s.pending := rfl
@[simp] theorem setKey_freeCtr (k : Nat) (v : KeySlot) : (s.setKey k v).freeCtr = s.freeCtr := rfl
@[simp] theorem setKey_mem (k : Nat) (v : KeySlot) : (s.setKey k v).mem = s.mem := rfl
@[simp] theorem setKey_sys (k : Nat) (v : KeySlot) : (s.setKey k v).sys = s.sys := rfl
@[simp] theorem setKey_hif (k : Nat) (v : KeySlot) : (s.setKey k v).hif = s.hif := rfl
@[simp] theorem setKey_chans (k : Nat) (v : KeySlot) : (s.setKey k v).chans = s.chans := rfl
@[simp] theorem setKey_evt (k : Nat) (v : KeySlot) : (s.setKey k v).evt = s.evt := rfl
@[simp] theorem setKey_rings (k : Nat) (v : KeySlot) : (s.setKey k v).rings = s.rings := rfl
@[simp] theorem setKey_evs (k : Nat) (v : KeySlot) : (s.setKey k v).evs = s.evs := rfl
@[simp] theorem setKey_params (k : Nat) (v : KeySlot) : (s.setKey k v).params = s.params := rfl
@[simp] theorem setKey_sets (k : Nat) (v : KeySlot) : (s.setKey k v).sets = s.sets := rfl
@[simp] theorem setKey_setOrder (k : Nat) (v : KeySlot) : (s.setKey k v).setOrder = s.setOrder := rfl
@[simp] theorem setKey_board (k : Nat) (v : KeySlot) : (s.setKey k v).board = s.board := rfl
@[simp] theorem setKey_site (k : Nat) (v : KeySlot) : (s.setKey k v).site = s.site := rfl
@[simp] theorem setKey_nv (k : Nat) (v : KeySlot) : (s.setKey k v).nv = s.nv := rfl
@[simp] theorem setKey_ctrs (k : Nat) (v : KeySlot) : (s.setKey k v).ctrs = s.ctrs := rfl
@[simp] theorem setKey_time (k : Nat) (v : KeySlot) : (s.setKey k v).time = s.time := rfl
@[simp] theorem setKey_pwr (k : Nat) (v : KeySlot) : (s.setKey k v).pwr = s.pwr := rfl
@[simp] theorem setKey_pins (k : Nat) (v : KeySlot) : (s.setKey k v).pins = s.pins := rfl
@[simp] theorem setKey_ddr (k : Nat) (v : KeySlot) : (s.setKey k v).ddr = s.ddr := rfl
@[simp] theorem setKey_cc (k : Nat) (v : KeySlot) : (s.setKey k v).cc = s.cc := rfl
@[simp] theorem setKey_fw (k : Nat) (v : KeySlot) : (s.setKey k v).fw = s.fw := rfl
@[simp] theorem setKey_flt (k : Nat) (v : KeySlot) : (s.setKey k v).flt = s.flt := rfl
@[simp] theorem setKey_nets (k : Nat) (v : KeySlot) : (s.setKey k v).nets = s.nets := rfl
@[simp] theorem setKey_spans (k : Nat) (v : KeySlot) : (s.setKey k v).spans = s.spans := rfl
@[simp] theorem setKey_cells (k : Nat) (v : KeySlot) : (s.setKey k v).cells = s.cells := rfl
@[simp] theorem setKey_rf (k : Nat) (v : KeySlot) : (s.setKey k v).rf = s.rf := rfl
@[simp] theorem setKey_bb (k : Nat) (v : KeySlot) : (s.setKey k v).bb = s.bb := rfl
@[simp] theorem setKey_abl (k : Nat) (v : KeySlot) : (s.setKey k v).abl = s.abl := rfl
@[simp] theorem setKey_firn (k : Nat) (v : KeySlot) : (s.setKey k v).firn = s.firn := rfl
@[simp] theorem setKey_spanRx (k : Nat) (v : KeySlot) : (s.setKey k v).spanRx = s.spanRx := rfl
@[simp] theorem setKey_sram (k : Nat) (v : KeySlot) : (s.setKey k v).sram = s.sram := rfl
@[simp] theorem setKey_rt (k : Nat) (v : KeySlot) : (s.setKey k v).rt = s.rt := rfl
@[simp] theorem setKey_serial (k : Nat) (v : KeySlot) : (s.setKey k v).serial = s.serial := rfl

/-! ### setBlk -/

@[simp] theorem setBlk_pending (b : TblBlock) : (s.setBlk b).pending = s.pending := rfl
@[simp] theorem setBlk_freeCtr (b : TblBlock) : (s.setBlk b).freeCtr = s.freeCtr := rfl
@[simp] theorem setBlk_mem (b : TblBlock) : (s.setBlk b).mem = s.mem := rfl
@[simp] theorem setBlk_sys (b : TblBlock) : (s.setBlk b).sys = s.sys := rfl
@[simp] theorem setBlk_hif (b : TblBlock) : (s.setBlk b).hif = s.hif := rfl
@[simp] theorem setBlk_chans (b : TblBlock) : (s.setBlk b).chans = s.chans := rfl
@[simp] theorem setBlk_evt (b : TblBlock) : (s.setBlk b).evt = s.evt := rfl
@[simp] theorem setBlk_rings (b : TblBlock) : (s.setBlk b).rings = s.rings := rfl
@[simp] theorem setBlk_evs (b : TblBlock) : (s.setBlk b).evs = s.evs := rfl
@[simp] theorem setBlk_params (b : TblBlock) : (s.setBlk b).params = s.params := rfl
@[simp] theorem setBlk_sets (b : TblBlock) : (s.setBlk b).sets = s.sets := rfl
@[simp] theorem setBlk_setOrder (b : TblBlock) : (s.setBlk b).setOrder = s.setOrder := rfl
@[simp] theorem setBlk_board (b : TblBlock) : (s.setBlk b).board = s.board := rfl
@[simp] theorem setBlk_site (b : TblBlock) : (s.setBlk b).site = s.site := rfl
@[simp] theorem setBlk_nv (b : TblBlock) : (s.setBlk b).nv = s.nv := rfl
@[simp] theorem setBlk_ctrs (b : TblBlock) : (s.setBlk b).ctrs = s.ctrs := rfl
@[simp] theorem setBlk_time (b : TblBlock) : (s.setBlk b).time = s.time := rfl
@[simp] theorem setBlk_pwr (b : TblBlock) : (s.setBlk b).pwr = s.pwr := rfl
@[simp] theorem setBlk_pins (b : TblBlock) : (s.setBlk b).pins = s.pins := rfl
@[simp] theorem setBlk_ddr (b : TblBlock) : (s.setBlk b).ddr = s.ddr := rfl
@[simp] theorem setBlk_cc (b : TblBlock) : (s.setBlk b).cc = s.cc := rfl
@[simp] theorem setBlk_cipher (b : TblBlock) : (s.setBlk b).cipher = s.cipher := rfl
@[simp] theorem setBlk_fw (b : TblBlock) : (s.setBlk b).fw = s.fw := rfl
@[simp] theorem setBlk_flt (b : TblBlock) : (s.setBlk b).flt = s.flt := rfl
@[simp] theorem setBlk_nets (b : TblBlock) : (s.setBlk b).nets = s.nets := rfl
@[simp] theorem setBlk_spans (b : TblBlock) : (s.setBlk b).spans = s.spans := rfl
@[simp] theorem setBlk_cells (b : TblBlock) : (s.setBlk b).cells = s.cells := rfl
@[simp] theorem setBlk_rf (b : TblBlock) : (s.setBlk b).rf = s.rf := rfl
@[simp] theorem setBlk_bb (b : TblBlock) : (s.setBlk b).bb = s.bb := rfl
@[simp] theorem setBlk_abl (b : TblBlock) : (s.setBlk b).abl = s.abl := rfl
@[simp] theorem setBlk_firn (b : TblBlock) : (s.setBlk b).firn = s.firn := rfl
@[simp] theorem setBlk_spanRx (b : TblBlock) : (s.setBlk b).spanRx = s.spanRx := rfl
@[simp] theorem setBlk_sram (b : TblBlock) : (s.setBlk b).sram = s.sram := rfl
@[simp] theorem setBlk_rt (b : TblBlock) : (s.setBlk b).rt = { s.rt with blk := b } := rfl
@[simp] theorem setBlk_serial (b : TblBlock) : (s.setBlk b).serial = s.serial := rfl

/-! ### setFdb -/

@[simp] theorem setFdb_pending (p : Pipe) (t : Tab FdbEntry) : (s.setFdb p t).pending = s.pending := rfl
@[simp] theorem setFdb_freeCtr (p : Pipe) (t : Tab FdbEntry) : (s.setFdb p t).freeCtr = s.freeCtr := rfl
@[simp] theorem setFdb_mem (p : Pipe) (t : Tab FdbEntry) : (s.setFdb p t).mem = s.mem := rfl
@[simp] theorem setFdb_sys (p : Pipe) (t : Tab FdbEntry) : (s.setFdb p t).sys = s.sys := rfl
@[simp] theorem setFdb_hif (p : Pipe) (t : Tab FdbEntry) : (s.setFdb p t).hif = s.hif := rfl
@[simp] theorem setFdb_chans (p : Pipe) (t : Tab FdbEntry) : (s.setFdb p t).chans = s.chans := rfl
@[simp] theorem setFdb_evt (p : Pipe) (t : Tab FdbEntry) : (s.setFdb p t).evt = s.evt := rfl
@[simp] theorem setFdb_rings (p : Pipe) (t : Tab FdbEntry) : (s.setFdb p t).rings = s.rings := rfl
@[simp] theorem setFdb_evs (p : Pipe) (t : Tab FdbEntry) : (s.setFdb p t).evs = s.evs := rfl
@[simp] theorem setFdb_params (p : Pipe) (t : Tab FdbEntry) : (s.setFdb p t).params = s.params := rfl
@[simp] theorem setFdb_sets (p : Pipe) (t : Tab FdbEntry) : (s.setFdb p t).sets = s.sets := rfl
@[simp] theorem setFdb_setOrder (p : Pipe) (t : Tab FdbEntry) : (s.setFdb p t).setOrder = s.setOrder := rfl
@[simp] theorem setFdb_board (p : Pipe) (t : Tab FdbEntry) : (s.setFdb p t).board = s.board := rfl
@[simp] theorem setFdb_site (p : Pipe) (t : Tab FdbEntry) : (s.setFdb p t).site = s.site := rfl
@[simp] theorem setFdb_nv (p : Pipe) (t : Tab FdbEntry) : (s.setFdb p t).nv = s.nv := rfl
@[simp] theorem setFdb_ctrs (p : Pipe) (t : Tab FdbEntry) : (s.setFdb p t).ctrs = s.ctrs := rfl
@[simp] theorem setFdb_time (p : Pipe) (t : Tab FdbEntry) : (s.setFdb p t).time = s.time := rfl
@[simp] theorem setFdb_pwr (p : Pipe) (t : Tab FdbEntry) : (s.setFdb p t).pwr = s.pwr := rfl
@[simp] theorem setFdb_pins (p : Pipe) (t : Tab FdbEntry) : (s.setFdb p t).pins = s.pins := rfl
@[simp] theorem setFdb_ddr (p : Pipe) (t : Tab FdbEntry) : (s.setFdb p t).ddr = s.ddr := rfl
@[simp] theorem setFdb_cc (p : Pipe) (t : Tab FdbEntry) : (s.setFdb p t).cc = s.cc := rfl
@[simp] theorem setFdb_cipher (p : Pipe) (t : Tab FdbEntry) : (s.setFdb p t).cipher = s.cipher := rfl
@[simp] theorem setFdb_fw (p : Pipe) (t : Tab FdbEntry) : (s.setFdb p t).fw = s.fw := rfl
@[simp] theorem setFdb_flt (p : Pipe) (t : Tab FdbEntry) : (s.setFdb p t).flt = s.flt := rfl
@[simp] theorem setFdb_nets (p : Pipe) (t : Tab FdbEntry) : (s.setFdb p t).nets = s.nets := rfl
@[simp] theorem setFdb_spans (p : Pipe) (t : Tab FdbEntry) : (s.setFdb p t).spans = s.spans := rfl
@[simp] theorem setFdb_cells (p : Pipe) (t : Tab FdbEntry) : (s.setFdb p t).cells = s.cells := rfl
@[simp] theorem setFdb_rf (p : Pipe) (t : Tab FdbEntry) : (s.setFdb p t).rf = s.rf := rfl
@[simp] theorem setFdb_bb (p : Pipe) (t : Tab FdbEntry) : (s.setFdb p t).bb = s.bb := rfl
@[simp] theorem setFdb_abl (p : Pipe) (t : Tab FdbEntry) : (s.setFdb p t).abl = s.abl := rfl
@[simp] theorem setFdb_firn (p : Pipe) (t : Tab FdbEntry) : (s.setFdb p t).firn = s.firn := rfl
@[simp] theorem setFdb_spanRx (p : Pipe) (t : Tab FdbEntry) : (s.setFdb p t).spanRx = s.spanRx := rfl
@[simp] theorem setFdb_sram (p : Pipe) (t : Tab FdbEntry) : (s.setFdb p t).sram = s.sram := rfl
@[simp] theorem setFdb_rt (p : Pipe) (t : Tab FdbEntry) : (s.setFdb p t).rt = { s.rt with fdb := s.rt.fdb.setPipe p t } := rfl
@[simp] theorem setFdb_serial (p : Pipe) (t : Tab FdbEntry) : (s.setFdb p t).serial = s.serial := rfl

/-! ### setCore -/

@[simp] theorem setCore_pending (c : Nat) (v : Core) : (s.setCore c v).pending = s.pending := rfl
@[simp] theorem setCore_freeCtr (c : Nat) (v : Core) : (s.setCore c v).freeCtr = s.freeCtr := rfl
@[simp] theorem setCore_mem (c : Nat) (v : Core) : (s.setCore c v).mem = s.mem := rfl
@[simp] theorem setCore_sys (c : Nat) (v : Core) : (s.setCore c v).sys = s.sys := rfl
@[simp] theorem setCore_hif (c : Nat) (v : Core) : (s.setCore c v).hif = s.hif := rfl
@[simp] theorem setCore_chans (c : Nat) (v : Core) : (s.setCore c v).chans = s.chans := rfl
@[simp] theorem setCore_evt (c : Nat) (v : Core) : (s.setCore c v).evt = s.evt := rfl
@[simp] theorem setCore_rings (c : Nat) (v : Core) : (s.setCore c v).rings = s.rings := rfl
@[simp] theorem setCore_evs (c : Nat) (v : Core) : (s.setCore c v).evs = s.evs := rfl
@[simp] theorem setCore_params (c : Nat) (v : Core) : (s.setCore c v).params = s.params := rfl
@[simp] theorem setCore_sets (c : Nat) (v : Core) : (s.setCore c v).sets = s.sets := rfl
@[simp] theorem setCore_setOrder (c : Nat) (v : Core) : (s.setCore c v).setOrder = s.setOrder := rfl
@[simp] theorem setCore_board (c : Nat) (v : Core) : (s.setCore c v).board = s.board := rfl
@[simp] theorem setCore_site (c : Nat) (v : Core) : (s.setCore c v).site = s.site := rfl
@[simp] theorem setCore_nv (c : Nat) (v : Core) : (s.setCore c v).nv = s.nv := rfl
@[simp] theorem setCore_ctrs (c : Nat) (v : Core) : (s.setCore c v).ctrs = s.ctrs := rfl
@[simp] theorem setCore_time (c : Nat) (v : Core) : (s.setCore c v).time = s.time := rfl
@[simp] theorem setCore_pwr (c : Nat) (v : Core) : (s.setCore c v).pwr = s.pwr := rfl
@[simp] theorem setCore_pins (c : Nat) (v : Core) : (s.setCore c v).pins = s.pins := rfl
@[simp] theorem setCore_ddr (c : Nat) (v : Core) : (s.setCore c v).ddr = s.ddr := rfl
@[simp] theorem setCore_cipher (c : Nat) (v : Core) : (s.setCore c v).cipher = s.cipher := rfl
@[simp] theorem setCore_fw (c : Nat) (v : Core) : (s.setCore c v).fw = s.fw := rfl
@[simp] theorem setCore_flt (c : Nat) (v : Core) : (s.setCore c v).flt = s.flt := rfl
@[simp] theorem setCore_nets (c : Nat) (v : Core) : (s.setCore c v).nets = s.nets := rfl
@[simp] theorem setCore_spans (c : Nat) (v : Core) : (s.setCore c v).spans = s.spans := rfl
@[simp] theorem setCore_cells (c : Nat) (v : Core) : (s.setCore c v).cells = s.cells := rfl
@[simp] theorem setCore_rf (c : Nat) (v : Core) : (s.setCore c v).rf = s.rf := rfl
@[simp] theorem setCore_bb (c : Nat) (v : Core) : (s.setCore c v).bb = s.bb := rfl
@[simp] theorem setCore_abl (c : Nat) (v : Core) : (s.setCore c v).abl = s.abl := rfl
@[simp] theorem setCore_firn (c : Nat) (v : Core) : (s.setCore c v).firn = s.firn := rfl
@[simp] theorem setCore_spanRx (c : Nat) (v : Core) : (s.setCore c v).spanRx = s.spanRx := rfl
@[simp] theorem setCore_sram (c : Nat) (v : Core) : (s.setCore c v).sram = s.sram := rfl
@[simp] theorem setCore_rt (c : Nat) (v : Core) : (s.setCore c v).rt = s.rt := rfl
@[simp] theorem setCore_serial (c : Nat) (v : Core) : (s.setCore c v).serial = s.serial := rfl

/-! ### setIrq -/

@[simp] theorem setIrq_pending (i : Nat) (v : IrqSource) : (s.setIrq i v).pending = s.pending := rfl
@[simp] theorem setIrq_freeCtr (i : Nat) (v : IrqSource) : (s.setIrq i v).freeCtr = s.freeCtr := rfl
@[simp] theorem setIrq_mem (i : Nat) (v : IrqSource) : (s.setIrq i v).mem = s.mem := rfl
@[simp] theorem setIrq_sys (i : Nat) (v : IrqSource) : (s.setIrq i v).sys = s.sys := rfl
@[simp] theorem setIrq_hif (i : Nat) (v : IrqSource) : (s.setIrq i v).hif = s.hif := rfl
@[simp] theorem setIrq_chans (i : Nat) (v : IrqSource) : (s.setIrq i v).chans = s.chans := rfl
@[simp] theorem setIrq_evt (i : Nat) (v : IrqSource) : (s.setIrq i v).evt = s.evt := rfl
@[simp] theorem setIrq_rings (i : Nat) (v : IrqSource) : (s.setIrq i v).rings = s.rings := rfl
@[simp] theorem setIrq_evs (i : Nat) (v : IrqSource) : (s.setIrq i v).evs = s.evs := rfl
@[simp] theorem setIrq_params (i : Nat) (v : IrqSource) : (s.setIrq i v).params = s.params := rfl
@[simp] theorem setIrq_sets (i : Nat) (v : IrqSource) : (s.setIrq i v).sets = s.sets := rfl
@[simp] theorem setIrq_setOrder (i : Nat) (v : IrqSource) : (s.setIrq i v).setOrder = s.setOrder := rfl
@[simp] theorem setIrq_board (i : Nat) (v : IrqSource) : (s.setIrq i v).board = s.board := rfl
@[simp] theorem setIrq_site (i : Nat) (v : IrqSource) : (s.setIrq i v).site = s.site := rfl
@[simp] theorem setIrq_nv (i : Nat) (v : IrqSource) : (s.setIrq i v).nv = s.nv := rfl
@[simp] theorem setIrq_ctrs (i : Nat) (v : IrqSource) : (s.setIrq i v).ctrs = s.ctrs := rfl
@[simp] theorem setIrq_time (i : Nat) (v : IrqSource) : (s.setIrq i v).time = s.time := rfl
@[simp] theorem setIrq_pwr (i : Nat) (v : IrqSource) : (s.setIrq i v).pwr = s.pwr := rfl
@[simp] theorem setIrq_pins (i : Nat) (v : IrqSource) : (s.setIrq i v).pins = s.pins := rfl
@[simp] theorem setIrq_ddr (i : Nat) (v : IrqSource) : (s.setIrq i v).ddr = s.ddr := rfl
@[simp] theorem setIrq_cc (i : Nat) (v : IrqSource) : (s.setIrq i v).cc = { s.cc with irqs := tset s.cc.irqs i v } := rfl
@[simp] theorem setIrq_cipher (i : Nat) (v : IrqSource) : (s.setIrq i v).cipher = s.cipher := rfl
@[simp] theorem setIrq_fw (i : Nat) (v : IrqSource) : (s.setIrq i v).fw = s.fw := rfl
@[simp] theorem setIrq_flt (i : Nat) (v : IrqSource) : (s.setIrq i v).flt = s.flt := rfl
@[simp] theorem setIrq_nets (i : Nat) (v : IrqSource) : (s.setIrq i v).nets = s.nets := rfl
@[simp] theorem setIrq_spans (i : Nat) (v : IrqSource) : (s.setIrq i v).spans = s.spans := rfl
@[simp] theorem setIrq_cells (i : Nat) (v : IrqSource) : (s.setIrq i v).cells = s.cells := rfl
@[simp] theorem setIrq_rf (i : Nat) (v : IrqSource) : (s.setIrq i v).rf = s.rf := rfl
@[simp] theorem setIrq_bb (i : Nat) (v : IrqSource) : (s.setIrq i v).bb = s.bb := rfl
@[simp] theorem setIrq_abl (i : Nat) (v : IrqSource) : (s.setIrq i v).abl = s.abl := rfl
@[simp] theorem setIrq_firn (i : Nat) (v : IrqSource) : (s.setIrq i v).firn = s.firn := rfl
@[simp] theorem setIrq_spanRx (i : Nat) (v : IrqSource) : (s.setIrq i v).spanRx = s.spanRx := rfl
@[simp] theorem setIrq_sram (i : Nat) (v : IrqSource) : (s.setIrq i v).sram = s.sram := rfl
@[simp] theorem setIrq_rt (i : Nat) (v : IrqSource) : (s.setIrq i v).rt = s.rt := rfl
@[simp] theorem setIrq_serial (i : Nat) (v : IrqSource) : (s.setIrq i v).serial = s.serial := rfl

/-! ### pushNv -/

@[simp] theorem pushNv_pending (w : NvWrite) : (s.pushNv w).pending = s.pending := rfl
@[simp] theorem pushNv_freeCtr (w : NvWrite) : (s.pushNv w).freeCtr = s.freeCtr := rfl
@[simp] theorem pushNv_mem (w : NvWrite) : (s.pushNv w).mem = s.mem := rfl
@[simp] theorem pushNv_sys (w : NvWrite) : (s.pushNv w).sys = s.sys := rfl
@[simp] theorem pushNv_hif (w : NvWrite) : (s.pushNv w).hif = s.hif := rfl
@[simp] theorem pushNv_chans (w : NvWrite) : (s.pushNv w).chans = s.chans := rfl
@[simp] theorem pushNv_evt (w : NvWrite) : (s.pushNv w).evt = s.evt := rfl
@[simp] theorem pushNv_rings (w : NvWrite) : (s.pushNv w).rings = s.rings := rfl
@[simp] theorem pushNv_evs (w : NvWrite) : (s.pushNv w).evs = s.evs := rfl
@[simp] theorem pushNv_params (w : NvWrite) : (s.pushNv w).params = s.params := rfl
@[simp] theorem pushNv_sets (w : NvWrite) : (s.pushNv w).sets = s.sets := rfl
@[simp] theorem pushNv_setOrder (w : NvWrite) : (s.pushNv w).setOrder = s.setOrder := rfl
@[simp] theorem pushNv_board (w : NvWrite) : (s.pushNv w).board = s.board := rfl
@[simp] theorem pushNv_site (w : NvWrite) : (s.pushNv w).site = s.site := rfl
@[simp] theorem pushNv_nv (w : NvWrite) : (s.pushNv w).nv = { s.nv with queue := pushWrite s.nv.queue w } := rfl
@[simp] theorem pushNv_ctrs (w : NvWrite) : (s.pushNv w).ctrs = s.ctrs := rfl
@[simp] theorem pushNv_time (w : NvWrite) : (s.pushNv w).time = s.time := rfl
@[simp] theorem pushNv_pwr (w : NvWrite) : (s.pushNv w).pwr = s.pwr := rfl
@[simp] theorem pushNv_pins (w : NvWrite) : (s.pushNv w).pins = s.pins := rfl
@[simp] theorem pushNv_ddr (w : NvWrite) : (s.pushNv w).ddr = s.ddr := rfl
@[simp] theorem pushNv_cc (w : NvWrite) : (s.pushNv w).cc = s.cc := rfl
@[simp] theorem pushNv_cipher (w : NvWrite) : (s.pushNv w).cipher = s.cipher := rfl
@[simp] theorem pushNv_fw (w : NvWrite) : (s.pushNv w).fw = s.fw := rfl
@[simp] theorem pushNv_flt (w : NvWrite) : (s.pushNv w).flt = s.flt := rfl
@[simp] theorem pushNv_nets (w : NvWrite) : (s.pushNv w).nets = s.nets := rfl
@[simp] theorem pushNv_spans (w : NvWrite) : (s.pushNv w).spans = s.spans := rfl
@[simp] theorem pushNv_cells (w : NvWrite) : (s.pushNv w).cells = s.cells := rfl
@[simp] theorem pushNv_rf (w : NvWrite) : (s.pushNv w).rf = s.rf := rfl
@[simp] theorem pushNv_bb (w : NvWrite) : (s.pushNv w).bb = s.bb := rfl
@[simp] theorem pushNv_abl (w : NvWrite) : (s.pushNv w).abl = s.abl := rfl
@[simp] theorem pushNv_firn (w : NvWrite) : (s.pushNv w).firn = s.firn := rfl
@[simp] theorem pushNv_spanRx (w : NvWrite) : (s.pushNv w).spanRx = s.spanRx := rfl
@[simp] theorem pushNv_sram (w : NvWrite) : (s.pushNv w).sram = s.sram := rfl
@[simp] theorem pushNv_rt (w : NvWrite) : (s.pushNv w).rt = s.rt := rfl
@[simp] theorem pushNv_serial (w : NvWrite) : (s.pushNv w).serial = s.serial := rfl

/-! ### bumpBy -/

@[simp] theorem bumpBy_pending (b : CtrBank) (row n : Nat) : (s.bumpBy b row n).pending = s.pending := rfl
@[simp] theorem bumpBy_freeCtr (b : CtrBank) (row n : Nat) : (s.bumpBy b row n).freeCtr = s.freeCtr := rfl
@[simp] theorem bumpBy_mem (b : CtrBank) (row n : Nat) : (s.bumpBy b row n).mem = s.mem := rfl
@[simp] theorem bumpBy_sys (b : CtrBank) (row n : Nat) : (s.bumpBy b row n).sys = s.sys := rfl
@[simp] theorem bumpBy_hif (b : CtrBank) (row n : Nat) : (s.bumpBy b row n).hif = s.hif := rfl
@[simp] theorem bumpBy_chans (b : CtrBank) (row n : Nat) : (s.bumpBy b row n).chans = s.chans := rfl
@[simp] theorem bumpBy_evt (b : CtrBank) (row n : Nat) : (s.bumpBy b row n).evt = s.evt := rfl
@[simp] theorem bumpBy_rings (b : CtrBank) (row n : Nat) : (s.bumpBy b row n).rings = s.rings := rfl
@[simp] theorem bumpBy_evs (b : CtrBank) (row n : Nat) : (s.bumpBy b row n).evs = s.evs := rfl
@[simp] theorem bumpBy_params (b : CtrBank) (row n : Nat) : (s.bumpBy b row n).params = s.params := rfl
@[simp] theorem bumpBy_sets (b : CtrBank) (row n : Nat) : (s.bumpBy b row n).sets = s.sets := rfl
@[simp] theorem bumpBy_setOrder (b : CtrBank) (row n : Nat) : (s.bumpBy b row n).setOrder = s.setOrder := rfl
@[simp] theorem bumpBy_board (b : CtrBank) (row n : Nat) : (s.bumpBy b row n).board = s.board := rfl
@[simp] theorem bumpBy_site (b : CtrBank) (row n : Nat) : (s.bumpBy b row n).site = s.site := rfl
@[simp] theorem bumpBy_nv (b : CtrBank) (row n : Nat) : (s.bumpBy b row n).nv = s.nv := rfl
@[simp] theorem bumpBy_ctrs (b : CtrBank) (row n : Nat) : (s.bumpBy b row n).ctrs = bumpCtr s.ctrs b row n := rfl
@[simp] theorem bumpBy_time (b : CtrBank) (row n : Nat) : (s.bumpBy b row n).time = s.time := rfl
@[simp] theorem bumpBy_pwr (b : CtrBank) (row n : Nat) : (s.bumpBy b row n).pwr = s.pwr := rfl
@[simp] theorem bumpBy_pins (b : CtrBank) (row n : Nat) : (s.bumpBy b row n).pins = s.pins := rfl
@[simp] theorem bumpBy_ddr (b : CtrBank) (row n : Nat) : (s.bumpBy b row n).ddr = s.ddr := rfl
@[simp] theorem bumpBy_cc (b : CtrBank) (row n : Nat) : (s.bumpBy b row n).cc = s.cc := rfl
@[simp] theorem bumpBy_cipher (b : CtrBank) (row n : Nat) : (s.bumpBy b row n).cipher = s.cipher := rfl
@[simp] theorem bumpBy_fw (b : CtrBank) (row n : Nat) : (s.bumpBy b row n).fw = s.fw := rfl
@[simp] theorem bumpBy_flt (b : CtrBank) (row n : Nat) : (s.bumpBy b row n).flt = s.flt := rfl
@[simp] theorem bumpBy_nets (b : CtrBank) (row n : Nat) : (s.bumpBy b row n).nets = s.nets := rfl
@[simp] theorem bumpBy_spans (b : CtrBank) (row n : Nat) : (s.bumpBy b row n).spans = s.spans := rfl
@[simp] theorem bumpBy_cells (b : CtrBank) (row n : Nat) : (s.bumpBy b row n).cells = s.cells := rfl
@[simp] theorem bumpBy_rf (b : CtrBank) (row n : Nat) : (s.bumpBy b row n).rf = s.rf := rfl
@[simp] theorem bumpBy_bb (b : CtrBank) (row n : Nat) : (s.bumpBy b row n).bb = s.bb := rfl
@[simp] theorem bumpBy_abl (b : CtrBank) (row n : Nat) : (s.bumpBy b row n).abl = s.abl := rfl
@[simp] theorem bumpBy_firn (b : CtrBank) (row n : Nat) : (s.bumpBy b row n).firn = s.firn := rfl
@[simp] theorem bumpBy_spanRx (b : CtrBank) (row n : Nat) : (s.bumpBy b row n).spanRx = s.spanRx := rfl
@[simp] theorem bumpBy_sram (b : CtrBank) (row n : Nat) : (s.bumpBy b row n).sram = s.sram := rfl
@[simp] theorem bumpBy_rt (b : CtrBank) (row n : Nat) : (s.bumpBy b row n).rt = s.rt := rfl
@[simp] theorem bumpBy_serial (b : CtrBank) (row n : Nat) : (s.bumpBy b row n).serial = s.serial := rfl

/-! ### bump -/

@[simp] theorem bump_pending (b : CtrBank) (row : Nat) : (s.bump b row).pending = s.pending := rfl
@[simp] theorem bump_freeCtr (b : CtrBank) (row : Nat) : (s.bump b row).freeCtr = s.freeCtr := rfl
@[simp] theorem bump_mem (b : CtrBank) (row : Nat) : (s.bump b row).mem = s.mem := rfl
@[simp] theorem bump_sys (b : CtrBank) (row : Nat) : (s.bump b row).sys = s.sys := rfl
@[simp] theorem bump_hif (b : CtrBank) (row : Nat) : (s.bump b row).hif = s.hif := rfl
@[simp] theorem bump_chans (b : CtrBank) (row : Nat) : (s.bump b row).chans = s.chans := rfl
@[simp] theorem bump_evt (b : CtrBank) (row : Nat) : (s.bump b row).evt = s.evt := rfl
@[simp] theorem bump_rings (b : CtrBank) (row : Nat) : (s.bump b row).rings = s.rings := rfl
@[simp] theorem bump_evs (b : CtrBank) (row : Nat) : (s.bump b row).evs = s.evs := rfl
@[simp] theorem bump_params (b : CtrBank) (row : Nat) : (s.bump b row).params = s.params := rfl
@[simp] theorem bump_sets (b : CtrBank) (row : Nat) : (s.bump b row).sets = s.sets := rfl
@[simp] theorem bump_setOrder (b : CtrBank) (row : Nat) : (s.bump b row).setOrder = s.setOrder := rfl
@[simp] theorem bump_board (b : CtrBank) (row : Nat) : (s.bump b row).board = s.board := rfl
@[simp] theorem bump_site (b : CtrBank) (row : Nat) : (s.bump b row).site = s.site := rfl
@[simp] theorem bump_nv (b : CtrBank) (row : Nat) : (s.bump b row).nv = s.nv := rfl
@[simp] theorem bump_ctrs (b : CtrBank) (row : Nat) : (s.bump b row).ctrs = bumpCtr s.ctrs b row 1 := rfl
@[simp] theorem bump_time (b : CtrBank) (row : Nat) : (s.bump b row).time = s.time := rfl
@[simp] theorem bump_pwr (b : CtrBank) (row : Nat) : (s.bump b row).pwr = s.pwr := rfl
@[simp] theorem bump_pins (b : CtrBank) (row : Nat) : (s.bump b row).pins = s.pins := rfl
@[simp] theorem bump_ddr (b : CtrBank) (row : Nat) : (s.bump b row).ddr = s.ddr := rfl
@[simp] theorem bump_cc (b : CtrBank) (row : Nat) : (s.bump b row).cc = s.cc := rfl
@[simp] theorem bump_cipher (b : CtrBank) (row : Nat) : (s.bump b row).cipher = s.cipher := rfl
@[simp] theorem bump_fw (b : CtrBank) (row : Nat) : (s.bump b row).fw = s.fw := rfl
@[simp] theorem bump_flt (b : CtrBank) (row : Nat) : (s.bump b row).flt = s.flt := rfl
@[simp] theorem bump_nets (b : CtrBank) (row : Nat) : (s.bump b row).nets = s.nets := rfl
@[simp] theorem bump_spans (b : CtrBank) (row : Nat) : (s.bump b row).spans = s.spans := rfl
@[simp] theorem bump_cells (b : CtrBank) (row : Nat) : (s.bump b row).cells = s.cells := rfl
@[simp] theorem bump_rf (b : CtrBank) (row : Nat) : (s.bump b row).rf = s.rf := rfl
@[simp] theorem bump_bb (b : CtrBank) (row : Nat) : (s.bump b row).bb = s.bb := rfl
@[simp] theorem bump_abl (b : CtrBank) (row : Nat) : (s.bump b row).abl = s.abl := rfl
@[simp] theorem bump_firn (b : CtrBank) (row : Nat) : (s.bump b row).firn = s.firn := rfl
@[simp] theorem bump_spanRx (b : CtrBank) (row : Nat) : (s.bump b row).spanRx = s.spanRx := rfl
@[simp] theorem bump_sram (b : CtrBank) (row : Nat) : (s.bump b row).sram = s.sram := rfl
@[simp] theorem bump_rt (b : CtrBank) (row : Nat) : (s.bump b row).rt = s.rt := rfl
@[simp] theorem bump_serial (b : CtrBank) (row : Nat) : (s.bump b row).serial = s.serial := rfl

/-! ### clearBank -/

@[simp] theorem clearBank_pending (b : CtrBank) : (s.clearBank b).pending = s.pending := rfl
@[simp] theorem clearBank_freeCtr (b : CtrBank) : (s.clearBank b).freeCtr = s.freeCtr := rfl
@[simp] theorem clearBank_mem (b : CtrBank) : (s.clearBank b).mem = s.mem := rfl
@[simp] theorem clearBank_sys (b : CtrBank) : (s.clearBank b).sys = s.sys := rfl
@[simp] theorem clearBank_hif (b : CtrBank) : (s.clearBank b).hif = s.hif := rfl
@[simp] theorem clearBank_chans (b : CtrBank) : (s.clearBank b).chans = s.chans := rfl
@[simp] theorem clearBank_evt (b : CtrBank) : (s.clearBank b).evt = s.evt := rfl
@[simp] theorem clearBank_rings (b : CtrBank) : (s.clearBank b).rings = s.rings := rfl
@[simp] theorem clearBank_evs (b : CtrBank) : (s.clearBank b).evs = s.evs := rfl
@[simp] theorem clearBank_params (b : CtrBank) : (s.clearBank b).params = s.params := rfl
@[simp] theorem clearBank_sets (b : CtrBank) : (s.clearBank b).sets = s.sets := rfl
@[simp] theorem clearBank_setOrder (b : CtrBank) : (s.clearBank b).setOrder = s.setOrder := rfl
@[simp] theorem clearBank_board (b : CtrBank) : (s.clearBank b).board = s.board := rfl
@[simp] theorem clearBank_site (b : CtrBank) : (s.clearBank b).site = s.site := rfl
@[simp] theorem clearBank_nv (b : CtrBank) : (s.clearBank b).nv = s.nv := rfl
@[simp] theorem clearBank_ctrs (b : CtrBank) : (s.clearBank b).ctrs = s.ctrs.filter (fun c => c.bank != b) := rfl
@[simp] theorem clearBank_time (b : CtrBank) : (s.clearBank b).time = s.time := rfl
@[simp] theorem clearBank_pwr (b : CtrBank) : (s.clearBank b).pwr = s.pwr := rfl
@[simp] theorem clearBank_pins (b : CtrBank) : (s.clearBank b).pins = s.pins := rfl
@[simp] theorem clearBank_ddr (b : CtrBank) : (s.clearBank b).ddr = s.ddr := rfl
@[simp] theorem clearBank_cc (b : CtrBank) : (s.clearBank b).cc = s.cc := rfl
@[simp] theorem clearBank_cipher (b : CtrBank) : (s.clearBank b).cipher = s.cipher := rfl
@[simp] theorem clearBank_fw (b : CtrBank) : (s.clearBank b).fw = s.fw := rfl
@[simp] theorem clearBank_flt (b : CtrBank) : (s.clearBank b).flt = s.flt := rfl
@[simp] theorem clearBank_nets (b : CtrBank) : (s.clearBank b).nets = s.nets := rfl
@[simp] theorem clearBank_spans (b : CtrBank) : (s.clearBank b).spans = s.spans := rfl
@[simp] theorem clearBank_cells (b : CtrBank) : (s.clearBank b).cells = s.cells := rfl
@[simp] theorem clearBank_rf (b : CtrBank) : (s.clearBank b).rf = s.rf := rfl
@[simp] theorem clearBank_bb (b : CtrBank) : (s.clearBank b).bb = s.bb := rfl
@[simp] theorem clearBank_abl (b : CtrBank) : (s.clearBank b).abl = s.abl := rfl
@[simp] theorem clearBank_firn (b : CtrBank) : (s.clearBank b).firn = s.firn := rfl
@[simp] theorem clearBank_spanRx (b : CtrBank) : (s.clearBank b).spanRx = s.spanRx := rfl
@[simp] theorem clearBank_sram (b : CtrBank) : (s.clearBank b).sram = s.sram := rfl
@[simp] theorem clearBank_rt (b : CtrBank) : (s.clearBank b).rt = s.rt := rfl
@[simp] theorem clearBank_serial (b : CtrBank) : (s.clearBank b).serial = s.serial := rfl

/-! ### winWrite -/

@[simp] theorem winWrite_pending (off : Nat) (bs : Bytes) : (s.winWrite off bs).pending = s.pending := rfl
@[simp] theorem winWrite_freeCtr (off : Nat) (bs : Bytes) : (s.winWrite off bs).freeCtr = s.freeCtr := rfl
@[simp] theorem winWrite_mem (off : Nat) (bs : Bytes) : (s.winWrite off bs).mem = writeBytes s.mem (winBase + off) bs := rfl
@[simp] theorem winWrite_sys (off : Nat) (bs : Bytes) : (s.winWrite off bs).sys = s.sys := rfl
@[simp] theorem winWrite_hif (off : Nat) (bs : Bytes) : (s.winWrite off bs).hif = s.hif := rfl
@[simp] theorem winWrite_chans (off : Nat) (bs : Bytes) : (s.winWrite off bs).chans = s.chans := rfl
@[simp] theorem winWrite_evt (off : Nat) (bs : Bytes) : (s.winWrite off bs).evt = s.evt := rfl
@[simp] theorem winWrite_rings (off : Nat) (bs : Bytes) : (s.winWrite off bs).rings = s.rings := rfl
@[simp] theorem winWrite_evs (off : Nat) (bs : Bytes) : (s.winWrite off bs).evs = s.evs := rfl
@[simp] theorem winWrite_params (off : Nat) (bs : Bytes) : (s.winWrite off bs).params = s.params := rfl
@[simp] theorem winWrite_sets (off : Nat) (bs : Bytes) : (s.winWrite off bs).sets = s.sets := rfl
@[simp] theorem winWrite_setOrder (off : Nat) (bs : Bytes) : (s.winWrite off bs).setOrder = s.setOrder := rfl
@[simp] theorem winWrite_board (off : Nat) (bs : Bytes) : (s.winWrite off bs).board = s.board := rfl
@[simp] theorem winWrite_site (off : Nat) (bs : Bytes) : (s.winWrite off bs).site = s.site := rfl
@[simp] theorem winWrite_nv (off : Nat) (bs : Bytes) : (s.winWrite off bs).nv = s.nv := rfl
@[simp] theorem winWrite_ctrs (off : Nat) (bs : Bytes) : (s.winWrite off bs).ctrs = s.ctrs := rfl
@[simp] theorem winWrite_time (off : Nat) (bs : Bytes) : (s.winWrite off bs).time = s.time := rfl
@[simp] theorem winWrite_pwr (off : Nat) (bs : Bytes) : (s.winWrite off bs).pwr = s.pwr := rfl
@[simp] theorem winWrite_pins (off : Nat) (bs : Bytes) : (s.winWrite off bs).pins = s.pins := rfl
@[simp] theorem winWrite_ddr (off : Nat) (bs : Bytes) : (s.winWrite off bs).ddr = s.ddr := rfl
@[simp] theorem winWrite_cc (off : Nat) (bs : Bytes) : (s.winWrite off bs).cc = s.cc := rfl
@[simp] theorem winWrite_cipher (off : Nat) (bs : Bytes) : (s.winWrite off bs).cipher = s.cipher := rfl
@[simp] theorem winWrite_fw (off : Nat) (bs : Bytes) : (s.winWrite off bs).fw = s.fw := rfl
@[simp] theorem winWrite_flt (off : Nat) (bs : Bytes) : (s.winWrite off bs).flt = s.flt := rfl
@[simp] theorem winWrite_nets (off : Nat) (bs : Bytes) : (s.winWrite off bs).nets = s.nets := rfl
@[simp] theorem winWrite_spans (off : Nat) (bs : Bytes) : (s.winWrite off bs).spans = s.spans := rfl
@[simp] theorem winWrite_cells (off : Nat) (bs : Bytes) : (s.winWrite off bs).cells = s.cells := rfl
@[simp] theorem winWrite_rf (off : Nat) (bs : Bytes) : (s.winWrite off bs).rf = s.rf := rfl
@[simp] theorem winWrite_bb (off : Nat) (bs : Bytes) : (s.winWrite off bs).bb = s.bb := rfl
@[simp] theorem winWrite_abl (off : Nat) (bs : Bytes) : (s.winWrite off bs).abl = s.abl := rfl
@[simp] theorem winWrite_firn (off : Nat) (bs : Bytes) : (s.winWrite off bs).firn = s.firn := rfl
@[simp] theorem winWrite_spanRx (off : Nat) (bs : Bytes) : (s.winWrite off bs).spanRx = s.spanRx := rfl
@[simp] theorem winWrite_sram (off : Nat) (bs : Bytes) : (s.winWrite off bs).sram = s.sram := rfl
@[simp] theorem winWrite_rt (off : Nat) (bs : Bytes) : (s.winWrite off bs).rt = s.rt := rfl
@[simp] theorem winWrite_serial (off : Nat) (bs : Bytes) : (s.winWrite off bs).serial = s.serial := rfl

/-! ### consume -/

@[simp] theorem consume_pending (ch : Nat) : (s.consume ch).pending = s.pending := rfl
@[simp] theorem consume_freeCtr (ch : Nat) : (s.consume ch).freeCtr = s.freeCtr := rfl
@[simp] theorem consume_mem (ch : Nat) : (s.consume ch).mem = s.mem := rfl
@[simp] theorem consume_sys (ch : Nat) : (s.consume ch).sys = s.sys := rfl
@[simp] theorem consume_hif (ch : Nat) : (s.consume ch).hif = s.hif := rfl
@[simp] theorem consume_chans (ch : Nat) : (s.consume ch).chans = tset s.chans ch { s.chan ch with reqCi := ((s.chan ch).reqCi + 1) % 65536 } := rfl
@[simp] theorem consume_evt (ch : Nat) : (s.consume ch).evt = s.evt := rfl
@[simp] theorem consume_rings (ch : Nat) : (s.consume ch).rings = s.rings := rfl
@[simp] theorem consume_evs (ch : Nat) : (s.consume ch).evs = s.evs := rfl
@[simp] theorem consume_params (ch : Nat) : (s.consume ch).params = s.params := rfl
@[simp] theorem consume_sets (ch : Nat) : (s.consume ch).sets = s.sets := rfl
@[simp] theorem consume_setOrder (ch : Nat) : (s.consume ch).setOrder = s.setOrder := rfl
@[simp] theorem consume_board (ch : Nat) : (s.consume ch).board = s.board := rfl
@[simp] theorem consume_site (ch : Nat) : (s.consume ch).site = s.site := rfl
@[simp] theorem consume_nv (ch : Nat) : (s.consume ch).nv = s.nv := rfl
@[simp] theorem consume_ctrs (ch : Nat) : (s.consume ch).ctrs = s.ctrs := rfl
@[simp] theorem consume_time (ch : Nat) : (s.consume ch).time = s.time := rfl
@[simp] theorem consume_pwr (ch : Nat) : (s.consume ch).pwr = s.pwr := rfl
@[simp] theorem consume_pins (ch : Nat) : (s.consume ch).pins = s.pins := rfl
@[simp] theorem consume_ddr (ch : Nat) : (s.consume ch).ddr = s.ddr := rfl
@[simp] theorem consume_cc (ch : Nat) : (s.consume ch).cc = s.cc := rfl
@[simp] theorem consume_cipher (ch : Nat) : (s.consume ch).cipher = s.cipher := rfl
@[simp] theorem consume_fw (ch : Nat) : (s.consume ch).fw = s.fw := rfl
@[simp] theorem consume_flt (ch : Nat) : (s.consume ch).flt = s.flt := rfl
@[simp] theorem consume_nets (ch : Nat) : (s.consume ch).nets = s.nets := rfl
@[simp] theorem consume_spans (ch : Nat) : (s.consume ch).spans = s.spans := rfl
@[simp] theorem consume_cells (ch : Nat) : (s.consume ch).cells = s.cells := rfl
@[simp] theorem consume_rf (ch : Nat) : (s.consume ch).rf = s.rf := rfl
@[simp] theorem consume_bb (ch : Nat) : (s.consume ch).bb = s.bb := rfl
@[simp] theorem consume_abl (ch : Nat) : (s.consume ch).abl = s.abl := rfl
@[simp] theorem consume_firn (ch : Nat) : (s.consume ch).firn = s.firn := rfl
@[simp] theorem consume_spanRx (ch : Nat) : (s.consume ch).spanRx = s.spanRx := rfl
@[simp] theorem consume_sram (ch : Nat) : (s.consume ch).sram = s.sram := rfl
@[simp] theorem consume_rt (ch : Nat) : (s.consume ch).rt = s.rt := rfl
@[simp] theorem consume_serial (ch : Nat) : (s.consume ch).serial = s.serial := rfl

/-! ### dropEvent -/

@[simp] theorem dropEvent_pending : (s.dropEvent).pending = s.pending := rfl
@[simp] theorem dropEvent_freeCtr : (s.dropEvent).freeCtr = s.freeCtr := rfl
@[simp] theorem dropEvent_mem : (s.dropEvent).mem = s.mem := rfl
@[simp] theorem dropEvent_sys : (s.dropEvent).sys = s.sys := rfl
@[simp] theorem dropEvent_hif : (s.dropEvent).hif = s.hif := rfl
@[simp] theorem dropEvent_chans : (s.dropEvent).chans = s.chans := rfl
@[simp] theorem dropEvent_rings : (s.dropEvent).rings = s.rings := rfl
@[simp] theorem dropEvent_evs : (s.dropEvent).evs = s.evs := rfl
@[simp] theorem dropEvent_params : (s.dropEvent).params = s.params := rfl
@[simp] theorem dropEvent_sets : (s.dropEvent).sets = s.sets := rfl
@[simp] theorem dropEvent_setOrder : (s.dropEvent).setOrder = s.setOrder := rfl
@[simp] theorem dropEvent_board : (s.dropEvent).board = s.board := rfl
@[simp] theorem dropEvent_site : (s.dropEvent).site = s.site := rfl
@[simp] theorem dropEvent_nv : (s.dropEvent).nv = s.nv := rfl
@[simp] theorem dropEvent_ctrs : (s.dropEvent).ctrs = s.ctrs := rfl
@[simp] theorem dropEvent_time : (s.dropEvent).time = s.time := rfl
@[simp] theorem dropEvent_pwr : (s.dropEvent).pwr = s.pwr := rfl
@[simp] theorem dropEvent_pins : (s.dropEvent).pins = s.pins := rfl
@[simp] theorem dropEvent_ddr : (s.dropEvent).ddr = s.ddr := rfl
@[simp] theorem dropEvent_cc : (s.dropEvent).cc = s.cc := rfl
@[simp] theorem dropEvent_cipher : (s.dropEvent).cipher = s.cipher := rfl
@[simp] theorem dropEvent_fw : (s.dropEvent).fw = s.fw := rfl
@[simp] theorem dropEvent_flt : (s.dropEvent).flt = s.flt := rfl
@[simp] theorem dropEvent_nets : (s.dropEvent).nets = s.nets := rfl
@[simp] theorem dropEvent_spans : (s.dropEvent).spans = s.spans := rfl
@[simp] theorem dropEvent_cells : (s.dropEvent).cells = s.cells := rfl
@[simp] theorem dropEvent_rf : (s.dropEvent).rf = s.rf := rfl
@[simp] theorem dropEvent_bb : (s.dropEvent).bb = s.bb := rfl
@[simp] theorem dropEvent_abl : (s.dropEvent).abl = s.abl := rfl
@[simp] theorem dropEvent_firn : (s.dropEvent).firn = s.firn := rfl
@[simp] theorem dropEvent_spanRx : (s.dropEvent).spanRx = s.spanRx := rfl
@[simp] theorem dropEvent_sram : (s.dropEvent).sram = s.sram := rfl
@[simp] theorem dropEvent_rt : (s.dropEvent).rt = s.rt := rfl
@[simp] theorem dropEvent_serial : (s.dropEvent).serial = s.serial := rfl

/-! ### fold -/

@[simp] theorem fold_pending : (s.fold).pending = s.pending := rfl
@[simp] theorem fold_freeCtr : (s.fold).freeCtr = s.freeCtr := rfl
@[simp] theorem fold_mem : (s.fold).mem = s.mem := rfl
@[simp] theorem fold_sys : (s.fold).sys = s.sys := rfl
@[simp] theorem fold_hif : (s.fold).hif = s.hif := rfl
@[simp] theorem fold_chans : (s.fold).chans = s.chans := rfl
@[simp] theorem fold_evt : (s.fold).evt = s.evt := rfl
@[simp] theorem fold_rings : (s.fold).rings = s.rings := rfl
@[simp] theorem fold_evs : (s.fold).evs = s.evs := rfl
@[simp] theorem fold_params : (s.fold).params = s.params := rfl
@[simp] theorem fold_sets : (s.fold).sets = s.sets := rfl
@[simp] theorem fold_setOrder : (s.fold).setOrder = s.setOrder := rfl
@[simp] theorem fold_board : (s.fold).board = s.board := rfl
@[simp] theorem fold_site : (s.fold).site = s.site := rfl
@[simp] theorem fold_nv : (s.fold).nv = s.nv := rfl
@[simp] theorem fold_ctrs : (s.fold).ctrs = s.ctrs := rfl
@[simp] theorem fold_time : (s.fold).time = { s.time with offset := s.now, rawRef := s.time.raw } := rfl
@[simp] theorem fold_pwr : (s.fold).pwr = s.pwr := rfl
@[simp] theorem fold_pins : (s.fold).pins = s.pins := rfl
@[simp] theorem fold_ddr : (s.fold).ddr = s.ddr := rfl
@[simp] theorem fold_cc : (s.fold).cc = s.cc := rfl
@[simp] theorem fold_cipher : (s.fold).cipher = s.cipher := rfl
@[simp] theorem fold_fw : (s.fold).fw = s.fw := rfl
@[simp] theorem fold_flt : (s.fold).flt = s.flt := rfl
@[simp] theorem fold_nets : (s.fold).nets = s.nets := rfl
@[simp] theorem fold_spans : (s.fold).spans = s.spans := rfl
@[simp] theorem fold_cells : (s.fold).cells = s.cells := rfl
@[simp] theorem fold_rf : (s.fold).rf = s.rf := rfl
@[simp] theorem fold_bb : (s.fold).bb = s.bb := rfl
@[simp] theorem fold_abl : (s.fold).abl = s.abl := rfl
@[simp] theorem fold_firn : (s.fold).firn = s.firn := rfl
@[simp] theorem fold_spanRx : (s.fold).spanRx = s.spanRx := rfl
@[simp] theorem fold_sram : (s.fold).sram = s.sram := rfl
@[simp] theorem fold_rt : (s.fold).rt = s.rt := rfl
@[simp] theorem fold_serial : (s.fold).serial = s.serial := rfl

/-! ### Reading one radio, network or span back -/

@[simp] theorem setRadio_radio (x : Radio) (r : RadioState) : (s.setRadio x r).radio x = r := by cases x <;> rfl

theorem setRadio_radio_other {x y : Radio} (r : RadioState) (h : y ≠ x) : (s.setRadio x r).radio y = s.radio y := by
  cases x <;> cases y <;> first | rfl | exact absurd rfl h

@[simp] theorem setBb_radio (x y : Radio) (b : BbRadio) : (s.setBb x b).radio y = s.radio y := rfl

@[simp] theorem bumpBy_radio (b : CtrBank) (row n : Nat) (x : Radio) : (s.bumpBy b row n).radio x = s.radio x := rfl

@[simp] theorem bump_radio (b : CtrBank) (row : Nat) (x : Radio) : (s.bump b row).radio x = s.radio x := rfl

@[simp] theorem setNet_net (n : Net) (v : NetState) : (s.setNet n v).net n = v := by cases n <;> rfl

@[simp] theorem setGroup_group (x : Radio) (g : Option EmGroup) : ((s.setGroup x g).radio x).group = g := by cases x <;> rfl

end Sys2Proof.Machine
end

