-- ==== Sys2Proof/Machine/SpanPhy.lean ====
section
/-! DEFINITION. The span PHY on the air: subcarriers, training fields, signal header, data field, mapping, pilots and chains
(05 R140-R149). No register or command of the device shows these values; PHR_DECODE reads the header that `sigWord` builds, and the
air time of a frame counts its symbols. -/

namespace Sys2Proof.Machine

/-! ### Subcarriers (05 R140, R141); `bw` is the bandwidth code 0 to 2 -/

def spanFft (bw : Nat) : Nat := [64, 128, 256].getD bw 64

/-- Interleaver columns N_COL. -/
def spanColumns (bw : Nat) : Nat := [13, 18, 26].getD bw 13

/-- The used subcarriers in order of rising frequency. -/
def spanUsed (bw : Nat) : List Int :=
  let lo := [1, 2, 2].getD bw 1
  let hi := [28, 58, 122].getD bw 28
  let up : List Int := (List.range (hi + 1 - lo)).map (fun i => ((lo + i : Nat) : Int))
  (up.map (fun i => -i)).reverse ++ up

/-- The pilot subcarriers in order of rising frequency. -/
def spanPilots (bw : Nat) : List Int :=
  let up : List Int := [[6, 20], [10, 30, 50], [14, 42, 70, 98]].getD bw [6, 20]
  (up.map (fun i => -i)).reverse ++ up

/-- The data subcarriers: index t of R147 is a place in this list (05 R141). -/
def spanDataTones (bw : Nat) : List Int := (spanUsed bw).filter (fun k => !(spanPilots bw).contains k)

/-! ### The sequence generator and the training fields (05 R142, R143) -/

/-- One step of the 7-bit generator: its output bit and its next register. -/
def seqStep (r : Nat) : Bool × Nat :=
  let o := r.testBit 6 != r.testBit 3
  (o, r * 2 % 128 + flag o 0)

/-- The first `n` outputs of the generator from a seed. -/
def seqBits : Nat → Nat → List Bool
  | _, 0 => []
  | r, n + 1 => (seqStep r).1 :: seqBits (seqStep r).2 n

/-- The sign 1 − 2·b of an output bit. -/
def bitSign (b : Bool) : Int := if b then -1 else 1

/-- The subcarriers of the STF. -/
def stfTones (bw : Nat) : List Int := (spanUsed bw).filter (fun k => k % 4 = 0)

/-- The STF: each of its subcarriers with its sign. The value is that sign × (1 + j)/√2 × √(N_used / N_STF), `stfPower` being the
quotient under the root; the 0.8 µs waveform repeats 12 times. -/
def stfField (bw : Nat) : List (Int × Int) := (stfTones bw).zip ((seqBits 0b1011101 (stfTones bw).length).map bitSign)

/-- N_used and N_STF. -/
def stfPower (bw : Nat) : Nat × Nat := ((spanUsed bw).length, (stfTones bw).length)

/-- One LTF symbol: every used subcarrier with its value. LTF1 sends it twice after its guard, LTF2 once. -/
def ltfField (bw : Nat) : List (Int × Int) := (spanUsed bw).zip ((seqBits 0b1110001 (spanUsed bw).length).map bitSign)

/-- The pilots of the n-th symbol after LTF1, header symbols counted from 0, in order of rising frequency (05 R148). -/
def pilotField (bw n : Nat) : List (Int × Int) :=
  let p := bitSign ((seqBits 0b1111111 (n + 1)).getD n false)
  (spanPilots bw).mapIdx (fun i k => (k, if i % 2 = 0 then p else -p))

/-- The fields of a frame in the order in which they are sent (05 R142). -/
inductive SpanField where
  | stf | ltf1 | ltf2 | header | data
  deriving DecidableEq, Repr

/-- Header symbols N_HDR. -/
def spanHdrSymbols (bw : Nat) : Nat := if bw = 0 then 2 else 1

/-- The fields of a frame of `len` octets with their durations in ns; `gi` is the guard code (05 R142). -/
def spanFields (code len nss gi : Nat) : List (SpanField × Nat) :=
  [(.stf, 9600), (.ltf1, 8000)] ++ (if nss = 2 then [(.ltf2, 4000)] else [])
    ++ [(.header, 4800 * spanHdrSymbols (spanBw code)), (.data, spanSymbols code len nss * (if gi = 0 then 4000 else 4800))]

/-! ### The convolutional code (05 R146) -/

/-- The parity of the bits of `v` below 7. -/
def parity7 (v : Nat) : Bool := (List.range 7).foldl (fun a i => a != v.testBit i) false

/-- One input bit into the encoder, whose state holds the last six inputs with the newest at bit 5: outputs A (133) and B (171), the
most significant generator bit standing for the present input (log entry 135), and the next state. -/
def convStep (st : Nat) (b : Bool) : Bool × Bool × Nat :=
  let w := st + flag b 6
  (parity7 (w &&& 0o133), parity7 (w &&& 0o171), w / 2)

/-- The pairs A, B of an input from a state. -/
def convPairs : Nat → List Bool → List (Bool × Bool)
  | _, [] => []
  | st, b :: bs => ((convStep st b).1, (convStep st b).2.1) :: convPairs (convStep st b).2.2 bs

/-- The encoder's state after six input bits, given in the order in which they enter. -/
def convState (bs : List Bool) : Nat := bs.foldl (fun st b => (convStep st b).2.2) 0

/-- The puncturing pattern of a code rate, one pair A, B for each input bit of the period. -/
def puncture : Nat → List (Bool × Bool)
  | 3 => [(true, true), (true, false)]
  | 4 => [(true, true), (true, false), (false, true)]
  | 6 => [(true, true), (true, false), (false, true), (true, false), (false, true)]
  | _ => [(true, true)]

/-- A puncturing pattern run over coded pairs, A before B; `den` is the denominator of the code rate. -/
def punctured (den : Nat) (l : List (Bool × Bool)) : List Bool :=
  let p := puncture den
  (l.mapIdx (fun i ab =>
    let k := p.getD (i % p.length) (true, true)
    (if k.1 then [ab.1] else []) ++ (if k.2 then [ab.2] else []))).flatten

/-! ### The signal header (05 R144) -/

/-- The fields of a signal header. -/
structure SigFields where
  mcs : Nat
  nss : Nat
  gi : Nat
  bw : Nat
  len : Nat
  member : Nat
  seed : Nat
  deriving DecidableEq, Repr

/-- Bits [39:0] of a header. -/
def sigBase (h : SigFields) : Nat :=
  h.mcs % 16 + 2 ^ 4 * ((h.nss - 1) % 2) + 2 ^ 5 * (h.gi % 2) + 2 ^ 6 * (h.bw % 4) + 2 ^ 8 * (h.len % 2 ^ 14)
    + 2 ^ 22 * (h.member % 4) + 2 ^ 24 * (h.seed % 128)

/-- The 48 bits of a header, as PHR_DECODE reads them. -/
def sigWord (h : SigFields) : Nat := sigBase h + 2 ^ 40 * sigCrc (sigBase h)

/-- The bits of a header in sending order. -/
def sigBits (h : SigFields) : List Bool := (List.range 48).map (fun i => (sigWord h).testBit i)

/-- The 96 coded bits: rate 1/2, tail-biting, without a tail. -/
def sigCoded (h : SigFields) : List Bool := punctured 2 (convPairs (convState ((sigBits h).drop 42)) (sigBits h))

/-- The coded bits repeated cyclically to fill the data subcarriers of the header symbols. -/
def sigFilled (h : SigFields) : List Bool :=
  (List.range (spanHdrSymbols h.bw * spanSd (16 * h.bw))).map (fun i => (sigCoded h).getD (i % 96) false)

/-! ### The data field (05 R146) -/

/-- The PSDU's bits in sending order: octet 0 first, bit 0 of each octet first. -/
def psduBits (psdu : Bytes) : List Bool := (psdu.map (fun o => (List.range 8).map (fun i => o.toNat.testBit i))).flatten

/-- The input of the encoder: PSDU, six tail bits and `pad` pad bits, scrambled with the generator, the tail then set back to zero. -/
def spanInput (seed : Nat) (psdu : Bytes) (pad : Nat) : List Bool :=
  let bits := psduBits psdu
  let all := bits ++ List.replicate (6 + pad) false
  ((all.zip (seqBits seed all.length)).mapIdx (fun i p =>
    if bits.length ≤ i && decide (i < bits.length + 6) then false else p.1 != p.2))

/-- Coded bits of one symbol over all streams. -/
def symbolBits (code nss : Nat) : Nat := spanSd code * (spanRate code).1 * nss

/-- The coded bits of the data field: punctured, and cut at the number that the symbols hold. As many pad bits are given to the encoder
as that number, more than can be needed; those past the cut change nothing before it. -/
def spanCoded (code nss seed : Nat) (psdu : Bytes) : List Bool :=
  let n := spanSymbols code psdu.length nss * symbolBits code nss
  (punctured (spanRate code).2.2 (convPairs 0 (spanInput seed psdu n))).take n

/-- Pad bits of a frame whose coded bits end with a puncturing period. -/
def spanPad (code len nss : Nat) : Nat :=
  spanSymbols code len nss * (symbolBits code nss * (spanRate code).2.1 / (spanRate code).2.2) - (8 * len + 6)

/-! ### Parsing, interleaving, rotation, tone shift and mapping (05 R147) -/

/-- The block of bits that goes to one stream at a time. -/
def parseBlock (bpsc : Nat) : Nat := max 1 (bpsc / 2)

/-- The bits of stream `k` out of a symbol's coded bits. -/
def streamBits (bpsc nss k : Nat) (bits : List Bool) : List Bool :=
  ((bits.zipIdx).filter (fun p => p.2 / parseBlock bpsc % nss = k)).map Prod.fst

/-- Where bit i of a stream's symbol moves. -/
def interleaveTo (bw cbpss i : Nat) : Nat := cbpss / spanColumns bw * (i % spanColumns bw) + i / spanColumns bw

/-- The interleaved bits of a stream's symbol. -/
def interleaved (bw : Nat) (bits : List Bool) : List Bool :=
  (List.range bits.length).map (fun j => (((bits.zipIdx).find? (fun p => interleaveTo bw bits.length p.2 = j)).map Prod.fst).getD false)

/-- The group of bits on data subcarrier `t` before the tone shift: rotated left by t mod s places. -/
def toneGroup (bpsc t : Nat) (bits : List Bool) : List Bool := ((bits.drop (t * bpsc)).take bpsc).rotateLeft (t % parseBlock bpsc)

/-- Where data subcarrier `t` of a stream moves. -/
def toneTo (nsd stream t : Nat) : Nat := if stream = 1 then (t + nsd / 2) % nsd else t

/-- The number that a Gray-coded half group spells, its first bit the most significant. -/
def grayNat (bits : List Bool) : Nat := (bits.foldl (fun (a : Nat × Bool) b => let x := a.2 != b; (2 * a.1 + flag x 0, x)) (0, false)).1

/-- The level of a half group: odd numbers from −(2^m − 1), the first bit 0 giving the negative levels. -/
def grayLevel (bits : List Bool) : Int := 2 * (grayNat bits : Int) - (2 ^ bits.length - 1 : Int)

/-- The I and Q levels of a group before scaling; BPSK has I alone. -/
def mapPoint (bits : List Bool) : Int × Int :=
  if bits.length ≤ 1 then (grayLevel bits, 0) else (grayLevel (bits.take (bits.length / 2)), grayLevel (bits.drop (bits.length / 2)))

/-- The square of the factor by which levels are divided. -/
def mapScale (bpsc : Nat) : Nat := match bpsc with | 2 => 2 | 4 => 10 | 6 => 42 | 8 => 170 | _ => 1

/-- One symbol of a stream: each data subcarrier, as its index t, with its point. -/
def symbolPoints (bw bpsc nsd stream : Nat) (bits : List Bool) : List (Nat × Int × Int) :=
  let il := interleaved bw bits
  (List.range nsd).map (fun t => (toneTo nsd stream t, mapPoint (toneGroup bpsc t il)))

/-- The header symbols of a frame, mapped with one bit to a subcarrier (05 R144). -/
def headerSymbols (h : SigFields) : List (List (Nat × Int × Int)) :=
  let nsd := spanSd (16 * h.bw)
  (List.range (spanHdrSymbols h.bw)).map (fun n => symbolPoints h.bw 1 nsd 0 (((sigFilled h).drop (n * nsd)).take nsd))

/-- The data symbols of a frame, each with one list of points for every stream. -/
def dataSymbols (code nss seed : Nat) (psdu : Bytes) : List (List (List (Nat × Int × Int))) :=
  let bpsc := (spanRate code).1
  let nsd := spanSd code
  let coded := spanCoded code nss seed psdu
  (List.range (spanSymbols code psdu.length nss)).map (fun n =>
    let bits := (coded.drop (n * symbolBits code nss)).take (symbolBits code nss)
    (List.range nss).map (fun k => symbolPoints (spanBw code) bpsc nsd k (streamBits bpsc nss k bits)))

/-! ### Chains (05 R149) -/

/-- What one chain sends of a field: a stream, its cyclic shift in ns, and whether the symbol is negated. -/
structure ChainPart where
  chain : Nat
  stream : Nat
  shiftNs : Nat
  negated : Bool
  deriving DecidableEq, Repr

/-- What each chain of a radio sends of a field of a frame with `nss` streams; `shift` is `phy.hb_cyclic_shift_ns`. -/
def chainParts (x : Radio) (nss shift : Nat) (f : SpanField) : List ChainPart :=
  if nss = 2 then
    match f with
    | .stf | .header => [⟨0, 0, 0, false⟩, ⟨1, 0, shift, false⟩]
    | .ltf1 => [⟨0, 0, 0, false⟩, ⟨1, 0, 0, false⟩]
    | .ltf2 => [⟨0, 0, 0, false⟩, ⟨1, 0, 0, true⟩]
    | .data => [⟨0, 0, 0, false⟩, ⟨1, 1, 0, false⟩]
  else if x = .hb then [⟨0, 0, 0, false⟩, ⟨1, 0, shift, false⟩]
  else [⟨0, 0, 0, false⟩]

end Sys2Proof.Machine
end

