-- ==== Sys2Proof/Safety.lean ====
section
/-! DEFINITION. What counts as a safe run: every step of it answers a next state. -/

namespace Sys2Proof

/-- The first `n` steps from a state all answer a next state. -/
def SafeRun : Nat → Machine.State → Prop
  | 0, _ => True
  | n + 1, s => ∃ t, Machine.step s = .next t ∧ SafeRun n t

end Sys2Proof
end

