-- ==== Sys2Proof/Certificates/Slice0/Obligations.lean ====
section
/-! DEFINITION. The statements for the provers: what each command does, what it leaves unchanged, and what every step keeps. A
statement says in its title and comments where it rests on a choice of the model. -/

namespace Sys2Proof.Claims

open Sys2Proof.Machine

/-- A request of opcode `opcode` stands at the front of channel `ch`, can be consumed now, and passes the checks of R36 as `q`. -/
abbrev Asked (s : State) (ch opcode : Nat) (p : TlvSpec) (q : Req) : Prop :=
  s.canServe ch = true ∧ s.reqOpcode ch = opcode ∧ s.checkedReq ch p = .ok q

/-- The state in which a command acts: DOZE has ended, and its request is consumed. -/
def begun (s : State) (ch : Nat) : State := s.leaveDoze.consume ch

/-- State `t` with the response posted to the request that state `s` had at the front of its channel. -/
def answered (s : State) (ch opcode status : Nat) (tlvs : List Tlv) (t : State) : State :=
  State.refuseUnknown ch 16 (t.respond ch opcode (s.reqTag ch) status tlvs)

/-- State `t` with the response kept back until the command's writes are complete. -/
def keptBack (s : State) (ch opcode : Nat) (tlvs : List Tlv) (t : State) : State :=
  State.refuseUnknown ch 16
    { t with chans := tset t.chans ch { t.chan ch with held := some ⟨opcode, s.reqTag ch, stOk, tlvs⟩ } }

/-- Nothing differs but the host interface's own records, its line, the end of DOZE and the scratch register's block. -/
def SameBut (s t : State) : Prop := { t with sys := s.sys, hif := s.hif, evs := s.evs, cc := s.cc } = s

/-- Radio `x` in `t` sends what the power decision left of a group: it is in TX, blanked, its first symbol stamped and counted; with
nothing left, and no group locked behind it, it has no group. -/
def TookAir (u : State) (x : Radio) (h : EmGroup) (t : State) : Prop :=
  (h.carriers = [] → (u.radio x).follow = [] → (t.radio x).group = none)
  ∧ (h.carriers ≠ [] → ∃ v, (t.radio x).group = some v ∧ v.onAir = true ∧ v.carriers = h.carriers ∧ v.stamped = u.now
    ∧ (t.radio x).st = .tx ∧ (t.radio x).blanked = true ∧ t.ctr (.bbtx x) 1 = min 0xFFFFFFFF (u.ctr (.bbtx x) 1 + 1))

end Sys2Proof.Claims

open Sys2Proof Sys2Proof.Machine Sys2Proof.Claims

/-! ### The queue of commands -/

/-- A step takes the command at the front of the queue and runs it on the rest. -/
def Obligations.StepRunsTheFrontCommand : Prop :=
  ∀ (s : State) (c : Instr) (rest : List Instr),
    step { s with pending := c :: rest } = exec c { s with pending := rest }

/-- On an empty queue one tick of 4 ns passes (the model's choice: log entry 5): raw advances by one in ACTIVE and DOZE, and the
always-on counter by one whenever its phase, 32,768 parts a tick, fills 250,000,000. The boot ROM, the operations that run, the system
watchdog and the idle timers run on; a Thaw match that waits is the one thing that a tick may report, and nothing else differs. Held in
reset, or in OFF, nothing runs. -/
def Obligations.EmptyQueuePassesOneTick : Prop :=
  (∀ s : State, s.pending = [] → s.awake = true → s.pwr.thawPending = false →
    ∃ t, step s = .next t ∧ t.time.raw = (s.time.raw + 1) % 2 ^ 48
      ∧ (s.time.aonPhase + 32768 < 250000000 → t.time.aon = s.time.aon ∧ t.time.aonPhase = s.time.aonPhase + 32768)
      ∧ (250000000 ≤ s.time.aonPhase + 32768 →
        t.time.aon = (s.time.aon + 1) % 2 ^ 48 ∧ t.time.aonPhase = s.time.aonPhase + 32768 - 250000000)
      ∧ t.sys = s.sys.romTick ∧ t.cc.quiet = s.cc.quiet + (if s.live then 1 else 0)
      ∧ { t with time := s.time, sys := s.sys,
                 cc := { t.cc with running := s.cc.running, quiet := s.cc.quiet },
                 pwr := { t.pwr with dozeSince := s.pwr.dozeSince, napSince := s.pwr.napSince, hibSince := s.pwr.hibSince } } = s)
  ∧ (∀ s : State, s.pending = [] → s.sys.hold.held = true ∨ s.sys.pstate = .off →
    step s = .next { s with pwr := { s.pwr with dozeSince := none, napSince := none, hibSince := none } })

/-! ### The host bus (02 R23-R42, 11 R332-R334, 12 R352) -/

/-- The counts of HIF_ERR and EVT_LOST: an HSPI opcode that does not exist, an access outside every block and an unaligned one are counted
up to 255; a complete read of HIF_ERR or of EVT_LOST clears it, and a read that ends within the word does not. A word written over HSPI:
SYS_SCRATCH keeps it, the other words of its block ignore it, and a word of the host windows reads as what was written, every other byte
staying as it was. -/
def Obligations.HostWordsReachTheirRegisters : Prop :=
  (∀ (op : Byte) (s : State), s.awake = true → op ≠ 0x0B#8 → op ≠ 0x02#8 →
    exec (.hspiBadOpcode op) s = .next { s with hif := { s.hif with badOp := min 255 (s.hif.badOp + 1), hspiOut := none } })
  ∧ (∀ (a : Nat) (s : State), s.awake = true → a % 4 = 0 → s.mapped a = false →
    ∃ t, exec (.unmappedAccess none a) s = .next t ∧ t.hif.unmapped = min 255 (s.hif.unmapped + 1) ∧ t.hif.hspiOut = some 0#32
      ∧ SameBut s t)
  ∧ (∀ (a : Nat) (v : Word) (s : State), s.awake = true → a % 4 = 0 → s.mapped a = false →
    ∃ t, exec (.unmappedAccess (some v) a) s = .next t ∧ t.hif.unmapped = min 255 (s.hif.unmapped + 1) ∧ SameBut s t)
  ∧ (∀ (a : Nat) (s : State), s.awake = true → a % 4 ≠ 0 → a / 4 * 4 ≠ 0x10 → a / 4 * 4 ≠ 0x10108 → s.mapped (a / 4 * 4) = true →
    ∃ t, exec (.unmappedAccess none a) s = .next t ∧ t.hif.unmapped = min 255 (s.hif.unmapped + 1) ∧ SameBut s t)
  ∧ (∀ (n : Nat) (s : State), s.awake = true → 4 ≤ n →
    ∃ t, exec (.hifErrRead n) s = .next t ∧ t.hif.hspiOut = some (BitVec.ofNat 32 s.hifErr)
      ∧ t.hif.badOp = 0 ∧ t.hif.unmapped = 0 ∧ t.hif.mbxOverrun = 0 ∧ t.hif.inbandReject = 0 ∧ SameBut s t)
  ∧ (∀ (n : Nat) (s : State), s.awake = true → n < 4 →
    ∃ t, exec (.hifErrRead n) s = .next t ∧ t.hif = { s.hif with hspiOut := some (BitVec.ofNat 32 s.hifErr) } ∧ SameBut s t)
  ∧ (∀ (n : Nat) (s : State), s.awake = true → 4 ≤ n →
    ∃ t, exec (.evtLostRead n) s = .next t ∧ t.hif.hspiOut = some (BitVec.ofNat 32 s.evt.lost) ∧ t.evt = { s.evt with lost := 0 }
      ∧ t.mem = s.mem ∧ t.ctrs = s.ctrs ∧ t.chans = s.chans)
  ∧ (∀ (n : Nat) (s : State), s.awake = true → n < 4 →
    ∃ t, exec (.evtLostRead n) s = .next t ∧ t.hif.hspiOut = some (BitVec.ofNat 32 s.evt.lost) ∧ SameBut s t)
  ∧ (∀ (v : Word) (s : State), s.awake = true →
    ∃ t, exec (.registerWrite 0x14 v) s = .next t ∧ t.sys.scratch = v ∧ t.readWord 0x14 = v ∧ t.hif = s.hif ∧ SameBut s t)
  ∧ (∀ (a : Nat) (v : Word) (s : State), s.awake = true → a < 0x20 → a % 4 = 0 → a ≠ 0x14 →
    ∃ t, exec (.registerWrite a v) s = .next t ∧ t.sys.scratch = s.sys.scratch ∧ t.hif = s.hif ∧ SameBut s t)
  ∧ (∀ (a : Nat) (v : Word) (s : State), s.awake = true → Memory.wf s.mem = true → winBase ≤ a → a < winBase + s.winSize → a % 4 = 0 →
    ∃ t, exec (.registerWrite a v) s = .next t ∧ t.readWord a = v
      ∧ (∀ b : Nat, b < a ∨ a + 4 ≤ b → readByte t.mem b = readByte s.mem b)
      ∧ t.hif = s.hif ∧ t.ctrs = s.ctrs ∧ t.chans = s.chans ∧ t.evt = s.evt ∧ t.rings = s.rings)

/-- The event summary and interrupt block: ringRx and ringTx clear where ones are written, BOOT is cleared, and EVS_ENABLE takes its bits
13 to 0; nothing else of the block changes but the line, which drops when no enabled cause is left. The doorbell and the freeing of
responses and events: an index write within its bound is taken, and one beyond it changes no index and is counted under MBX_OVERRUN. An
unknown opcode at the front of a channel is refused in the same moment (the second premise of an accepted write leaves that case to the
statement of refusals). -/
def Obligations.SummaryAndIndexWritesKeepTheirRules : Prop :=
  (∀ (v : Word) (s : State), s.awake = true →
    ∃ t, exec (.evsRingRxWrite v) s = .next t ∧ t.evs.ringRx = s.evs.ringRx &&& ~~~v ∧ t.evs.ringTx = s.evs.ringTx
      ∧ t.evs.enable = s.evs.enable ∧ t.evs.boot = s.evs.boot ∧ t.evs.line = (s.evs.line && t.causePresent) ∧ t.hif = s.hif ∧ SameBut s t)
  ∧ (∀ (v : Word) (s : State), s.awake = true →
    ∃ t, exec (.evsRingTxWrite v) s = .next t ∧ t.evs.ringTx = s.evs.ringTx &&& ~~~v ∧ t.evs.ringRx = s.evs.ringRx
      ∧ t.evs.enable = s.evs.enable ∧ t.evs.boot = s.evs.boot ∧ t.evs.line = (s.evs.line && t.causePresent) ∧ t.hif = s.hif ∧ SameBut s t)
  ∧ (∀ s : State, s.awake = true →
    ∃ t, exec .evsBootClear s = .next t ∧ t.evs.boot = false ∧ t.evs.ringRx = s.evs.ringRx ∧ t.evs.ringTx = s.evs.ringTx
      ∧ t.evs.enable = s.evs.enable ∧ t.evs.line = (s.evs.line && t.causePresent) ∧ t.hif = s.hif ∧ SameBut s t)
  ∧ (∀ (v : Word) (s : State), s.awake = true →
    ∃ t, exec (.evsEnableWrite v) s = .next t ∧ t.evs.enable = v &&& 0x3FFF#32 ∧ t.evs.ringRx = s.evs.ringRx
      ∧ t.evs.ringTx = s.evs.ringTx ∧ t.evs.boot = s.evs.boot ∧ t.evs.line = (s.evs.line && t.causePresent) ∧ t.hif = s.hif ∧ SameBut s t)
  ∧ (∀ (ch v : Nat) (s : State), s.awake = true → ch < 8 → v < 65536 →
    (s.chan ch).outstanding + (v + 65536 - (s.chan ch).reqPi % 65536) % 65536 ≤ 16 →
    (let u : State := { s.leaveDoze with chans := tset s.chans ch { s.chan ch with reqPi := v } }
     (u.canServe ch && !knownOpcodes.contains (u.reqOpcode ch)) = false →
      exec (.mbxReqPiWrite ch (BitVec.ofNat 32 v)) s = .next u.hostRecheck))
  ∧ (∀ (ch v : Nat) (s : State), s.awake = true → ch < 8 → v < 65536 →
    16 < (s.chan ch).outstanding + (v + 65536 - (s.chan ch).reqPi % 65536) % 65536 →
    ∃ t, exec (.mbxReqPiWrite ch (BitVec.ofNat 32 v)) s = .next t ∧ t.hif.mbxOverrun = min 255 (s.hif.mbxOverrun + 1) ∧ SameBut s t)
  ∧ (∀ (ch v : Nat) (s : State), s.awake = true → ch < 8 → v < 65536 →
    (v + 65536 - (s.chan ch).rspCi % 65536) % 65536 ≤ (s.chan ch).unread →
    (let u : State := { s.leaveDoze with chans := tset s.chans ch { s.chan ch with rspCi := v } }
     (u.canServe ch && !knownOpcodes.contains (u.reqOpcode ch)) = false →
      exec (.mbxRspCiWrite ch (BitVec.ofNat 32 v)) s = .next u.hostRecheck))
  ∧ (∀ (ch v : Nat) (s : State), s.awake = true → ch < 8 → v < 65536 →
    (s.chan ch).unread < (v + 65536 - (s.chan ch).rspCi % 65536) % 65536 →
    ∃ t, exec (.mbxRspCiWrite ch (BitVec.ofNat 32 v)) s = .next t ∧ t.hif.mbxOverrun = min 255 (s.hif.mbxOverrun + 1) ∧ SameBut s t)
  ∧ (∀ (v : Nat) (s : State), s.awake = true → v < 65536 → s.evt.dropped = 0 →
    (v + 65536 - s.evt.ci % 65536) % 65536 ≤ s.evtUsed →
    ∃ t, exec (.evtCiWrite (BitVec.ofNat 32 v)) s = .next t ∧ t.evt = { s.evt with ci := v } ∧ t.mem = s.mem ∧ t.chans = s.chans
      ∧ t.ctrs = s.ctrs ∧ t.hif = s.hif)
  ∧ (∀ (v : Nat) (s : State), s.awake = true → v < 65536 →
    s.evtUsed < (v + 65536 - s.evt.ci % 65536) % 65536 →
    ∃ t, exec (.evtCiWrite (BitVec.ofNat 32 v)) s = .next t ∧ t.hif.mbxOverrun = min 255 (s.hif.mbxOverrun + 1) ∧ SameBut s t)

/-- A freed slot after lost events takes EV_EVENTS_LOST, with the next sequence number, and the count of dropped events starts again. -/
def Obligations.FreedSlotTellsLostEvents : Prop :=
  ∀ (v : Nat) (s : State), s.awake = true → Memory.wf s.mem = true → v < 65536 → s.evt.pi < 65536 → s.evt.ci < 65536 → 0 < s.evt.dropped →
    0 < (v + 65536 - s.evt.ci % 65536) % 65536 → (v + 65536 - s.evt.ci % 65536) % 65536 ≤ s.evtUsed → s.evtUsed ≤ 256 →
    ∃ t, exec (.evtCiWrite (BitVec.ofNat 32 v)) s = .next t ∧ t.evt.ci = v ∧ t.evt.dropped = 0
      ∧ t.evt.pi = (s.evt.pi + 1) % 65536 ∧ t.evt.seq = (s.evt.seq + 1) % 65536 ∧ t.evt.lost = s.evt.lost
      ∧ readBytes t.mem (winBase + (0x20000 + 0x80 * (s.evt.pi % 256))) 2 = u16 0x0001
      ∧ t.chans = s.chans

/-- The ring registers: RING_BASE is ignored while the ring is enabled; an acceptable RING_CFG write enables the ring, and one that
breaks a rule of R40 leaves it disabled and is counted; clearing ENABLE sets both indices to 0; RING_TAIL advances within its bound. -/
def Obligations.RingRegistersFollowTheirRules : Prop :=
  (∀ (r : Nat) (v : Word) (s : State), s.awake = true → r < 32 → (s.ring r).enable = false →
    exec (.ringBaseWrite r v) s = .next (s.leaveDoze.setRing r { s.ring r with base := v.toNat }).hostRecheck)
  ∧ (∀ (r : Nat) (v : Word) (s : State), s.awake = true → (s.ring r).enable = true →
    exec (.ringBaseWrite r v) s = .next s.leaveDoze.hostRecheck)
  ∧ (∀ (r log2 : Nat) (s : State), s.awake = true → r < 32 → (s.ring r).enable = false → 6 ≤ log2 → log2 ≤ 16 →
    s.ringOk (s.ring r) log2 = true →
    exec (.ringCfgWrite r (BitVec.ofNat 32 (256 + log2))) s
      = .next (s.leaveDoze.setRing r { s.ring r with log2 := log2, enable := true }).hostRecheck)
  ∧ (∀ (r log2 : Nat) (s : State), s.awake = true → r < 32 → (s.ring r).enable = false → 6 ≤ log2 → log2 ≤ 16 →
    s.ringOk (s.ring r) log2 = false →
    ∃ t, exec (.ringCfgWrite r (BitVec.ofNat 32 (256 + log2))) s = .next t ∧ t.ring r = { s.ring r with log2 := log2 }
      ∧ t.hif.mbxOverrun = min 255 (s.hif.mbxOverrun + 1))
  ∧ (∀ (r : Nat) (s : State), s.awake = true → r < 32 → (s.ring r).enable = true → (s.ring r).waiting = false →
    exec (.ringCfgWrite r 0#32) s
      = .next (s.leaveDoze.setRing r { s.ring r with enable := false, head := 0, tail := 0 }).hostRecheck)
  ∧ (∀ (r v : Nat) (s : State), s.awake = true → r < 32 → v < (s.ring r).size → (s.ring r).head < (s.ring r).size →
    (s.ring r).tail < (s.ring r).size → (s.ring r).log2 ≤ 16 →
    (v + (s.ring r).size - (s.ring r).tail) % (s.ring r).size ≤ (s.ring r).size - 1 - (s.ring r).posted → v < 65536 →
    exec (.ringTailWrite r (BitVec.ofNat 32 v)) s = .next (s.leaveDoze.setRing r { s.ring r with tail := v }).hostRecheck)
  ∧ (∀ (r v : Nat) (s : State), s.awake = true → r < 32 → (s.ring r).size ≤ v → v < 65536 →
    ∃ t, exec (.ringTailWrite r (BitVec.ofNat 32 v)) s = .next t ∧ t.hif.mbxOverrun = min 255 (s.hif.mbxOverrun + 1) ∧ SameBut s t)

/-- A filled entry of a transmit ring: one whose buffer lies outside the windows ends with status ERR_RANGE in its descriptor; a frame
for the router, without a timestamp, enters the air pipeline, and RING_HEAD moves past it. -/
def Obligations.TransmitRingEntryIsConsumed : Prop :=
  ∀ (r : Nat) (s : State), r < 16 → s.live = true → (s.ring r).enable = true → (s.ring r).posted ≠ 0 → (s.ring r).waiting = false →
    (let d := s.winRead ((s.ring r).entryAt (s.ring r).head) 32
     let buf := leNat (d.take 4)
     let len := leNat ((d.drop 6).take 2)
     (s.leaveDoze.areaOk buf len = false →
       exec (.hostTxRingFrame r) s = .next (s.leaveDoze.txStamp (some (r, (s.ring r).head)) none stRange))
     ∧ (s.leaveDoze.areaOk buf len = true → byteAt d 8 = 0xFF → (leNat ((d.drop 12).take 2)).testBit 1 = false →
       exec (.hostTxRingFrame r) s
         = .next (((s.leaveDoze.setRing r { s.ring r with waiting := true }).pipeline
             { Pkt.ofFrame .air 5 (s.leaveDoze.winRead buf len) with desc := none }).advanceHead r).pauseCheck))

/-- The management serial interface: a write of WAKE latches its source; a match of the own address in NAP and HIBERNATE holds SCL; a read
sends the register's bytes and moves the pointer on; SYS_SCRATCH is written; another device's address changes nothing. In-band access: a
request of a served source acts once and its response is kept; one that repeats the kept sequence number is answered from it without
acting; one of another source than the host's is only counted. -/
def Obligations.SerialAndInbandAccessesAct : Prop :=
  (∀ s : State, s.mserOn = true → exec .wakeWrite s = .next (s.latchWake 1))
  ∧ (∀ (d : Nat) (s : State), s.mserOurs d = true → s.sys.pstate = .nap ∨ s.sys.pstate = .hibernate →
    exec (.mserAddressMatch d) s = .next { s with hif := { s.hif with sclHeld := true } })
  ∧ (∀ (d p : Nat) (s : State), s.mserOurs d = true → p < 8 → p ≠ 4 →
    exec (.mserRead d (some (BitVec.ofNat 8 p)) 4) s
      = .next { s with hif := { s.hif with sclHeld := false, mserOut := u32 (s.idReg p), mserPtr := (p + 1) % 8 } })
  ∧ (∀ (d : Nat) (v : Word) (s : State), s.mserOurs d = true → s.awake = true →
    ∃ t, exec (.mserWrite d 5#8 (leBytes 4 v.toNat)) s = .next t ∧ t.sys = { s.sys with scratch := v } ∧ t.hif.mserPtr = 6 ∧ SameBut s t)
  ∧ (∀ (d p n : Nat) (s : State), s.mserOurs d = false →
    exec (.mserWrite d (BitVec.ofNat 8 p) []) s = .next s ∧ exec (.mserRead d none n) s = .next s ∧ exec (.mserAddressMatch d) s = .next s)
  ∧ (∀ (q : InbandReq) (s : State), s.inbandOurs q = true → s.pnat 0x0014 ≠ 0 → q.src ≠ s.pnat 0x0014 →
    exec (.inbandRead q) s = .next { s with hif := { s.hif with inbandReject := min 255 (s.hif.inbandReject + 1) } }
    ∧ exec (.inbandWrite q) s = .next { s with hif := { s.hif with inbandReject := min 255 (s.hif.inbandReject + 1) } })
  ∧ (∀ (q : InbandReq) (e : InbandEntry) (s : State), s.inbandOurs q = true → s.pnat 0x0014 = 0 ∨ q.src = s.pnat 0x0014 →
    s.hif.cache.find? (fun e => e.src == q.src && e.seq == q.seq) = some e →
    (∃ t, exec (.inbandRead q) s = .next t ∧ t.hif.inbandOut = some e.resp ∧ SameBut s t)
    ∧ (∃ t, exec (.inbandWrite q) s = .next t ∧ t.hif.inbandOut = some e.resp ∧ SameBut s t))
  ∧ (∀ (q : InbandReq) (s : State), s.inbandOurs q = true → s.pnat 0x0014 = 0 ∨ q.src = s.pnat 0x0014 →
    s.hif.cache.find? (fun e => e.src == q.src && e.seq == q.seq) = none → q.len = 4 → q.addr % 4 = 0 → s.mapped q.addr = true →
    q.addr ≠ 0x10 → q.addr ≠ 0x10108 →
    ∃ t, exec (.inbandRead q) s = .next t
      ∧ t.hif.inbandOut = some ⟨0x81, q.src, q.seq, q.addr, 4, stOk, leBytes 4 (s.leaveDoze.readWord q.addr).toNat⟩ ∧ SameBut s t)
  ∧ (∀ (q : InbandReq) (s : State), s.inbandOurs q = true → s.pnat 0x0014 = 0 ∨ q.src = s.pnat 0x0014 →
    s.hif.cache.find? (fun e => e.src == q.src && e.seq == q.seq) = none → q.len = 4 → q.data.length = 4 → q.addr = 0x14 →
    ∃ t, exec (.inbandWrite q) s = .next t ∧ t.sys.scratch = BitVec.ofNat 32 (leNat q.data)
      ∧ t.hif.inbandOut = some ⟨0x82, q.src, q.seq, q.addr, 4, stOk, []⟩ ∧ SameBut s t)

/-! ### The table command block (12 R349-R357) -/

/-- The started operation runs and its answer waits for TBL_CMD_COMPLETION, which shows the result words and ends BUSY; a write while it
is busy only sets OVERRUN. A table operation that fails changes no table, and READ and SEARCH never change one. -/
def Obligations.TableCommandsRunOrChangeNothing : Prop :=
  (∀ (s : State) (t : TblOp), s.awake = true → s.rt.blk.busy = true → s.rt.blk.latched = some (t, none) → s.rt.blk.answer = none →
    (t.op = 1 → exec .tblRead s = .next ((s.tblDo t).2.setBlk { (s.tblDo t).2.rt.blk with answer := some (s.tblDo t).1 }))
    ∧ (t.op = 2 → exec .tblWrite s = .next ((s.tblDo t).2.setBlk { (s.tblDo t).2.rt.blk with answer := some (s.tblDo t).1 }))
    ∧ (t.op = 3 → exec .tblInsert s = .next ((s.tblDo t).2.setBlk { (s.tblDo t).2.rt.blk with answer := some (s.tblDo t).1 }))
    ∧ (t.op = 4 → exec .tblDelete s = .next ((s.tblDo t).2.setBlk { (s.tblDo t).2.rt.blk with answer := some (s.tblDo t).1 }))
    ∧ (t.op = 5 → exec .tblSearch s = .next ((s.tblDo t).2.setBlk { (s.tblDo t).2.rt.blk with answer := some (s.tblDo t).1 }))
    ∧ (t.op = 6 → exec .tblAgeScan s = .next ((s.tblDo t).2.setBlk { (s.tblDo t).2.rt.blk with answer := some (s.tblDo t).1 })))
  ∧ (∀ s : State, s.awake = true → s.rt.blk.busy = true → exec .tblOverrun s = .next (s.setBlk { s.rt.blk with overrun := true }))
  ∧ (∀ (s : State) (r : TblRes), s.awake = true → s.rt.blk.answer = some r →
    ∃ t, exec .tblCmdCompletion s = .next t ∧ t.rt.blk.code = r.code ∧ t.rt.blk.resIndex = r.index ∧ t.rt.blk.busy = false
      ∧ t.rt.blk.data = r.data.getD s.rt.blk.data ∧ t.rt.blk.index = r.cursor.getD s.rt.blk.index
      ∧ { t with rt := { t.rt with blk := s.rt.blk } } = s)
  ∧ (∀ (s : State) (t : TblOp), (s.tblDo t).1.code ≠ tOk → (s.tblDo t).2 = s)
  ∧ (∀ (s : State) (t : TblOp), t.op = 1 ∨ t.op = 5 → (s.tblDo t).2 = s)

/-- R349: an FDB has 8,192 buckets of 4 entries, entry i lying in bucket i / 4, and the fixed hash of VID and MAC chooses a key's bucket;
an insertion by the host or by learning takes a free entry of that bucket, and with the bucket full it fails, whatever room is elsewhere. -/
def Obligations.FdbInsertionKeepsToItsBucket : Prop :=
  (∀ vid mac : Nat, fdbBucket vid mac = Config.fdbHash vid mac % 8192)
  ∧ (∀ (t : Tab FdbEntry) (b : Nat),
    (fdbFree t b = none ↔ ∀ k < 4, thas t (4 * b + k) = true)
    ∧ ∀ i : Nat, fdbFree t b = some i → i / 4 = b ∧ thas t i = false)
  ∧ (∀ (s : State) (t : TblOp), t.table < 2 → t.op = 3 → s.tblCheck t = tOk →
    (let p := tblPipe t.table
     let e := FdbEntry.read t.data
     fdbFind (s.fdb p) e.vlan e.mac = none → (s.fdb p).length < 32768 →
     (fdbFree (s.fdb p) (fdbBucket e.vlan e.mac) = none → (s.tblDo t).1.code = tBucketFull ∧ (s.tblDo t).2 = s)
     ∧ (∀ i, fdbFree (s.fdb p) (fdbBucket e.vlan e.mac) = some i → e.flags.testBit 0 = true →
       (s.tblDo t).1.code = tOk ∧ (s.tblDo t).1.index = i
         ∧ (∃ y, tfind ((s.tblDo t).2.fdb p) i = some y ∧ y.vlan = e.vlan ∧ y.mac = e.mac)
         ∧ (∀ j, j ≠ i → tfind ((s.tblDo t).2.fdb p) j = tfind (s.fdb p) j))))
  ∧ (∀ (s : State) (p : Pipe) (vid mac port : Nat), fdbFind (s.fdb p) vid mac = none → (s.fdb p).length < 32768 →
    (fdbFree (s.fdb p) (fdbBucket vid mac) = none → s.learn p vid mac port = (true, s.bump (.rt p) 12))
    ∧ (∀ i, fdbFree (s.fdb p) (fdbBucket vid mac) = some i →
      s.learn p vid mac port
        = (true, (s.setFdb p (tset (s.fdb p) i ⟨mac, vid, port, 1, s.rt.age, 0xFFFF⟩)).bump (.rt p) 11)))

/-- A route lookup returns the longest prefix that matches (R354, SEARCH of the route table), and none only where none matches. -/
def Obligations.RouteSearchFindsTheLongestPrefix : Prop :=
  ∀ (s : State) (family addr : Nat),
    (∀ r, s.longest family addr = some r →
      r ∈ s.rt.routes ∧ r.family = family ∧ r.pfx = addr / hostBits r.len * hostBits r.len
        ∧ ∀ x ∈ s.rt.routes, x.family = family → x.pfx = addr / hostBits x.len * hostBits x.len → x.len ≤ r.len)
    ∧ (s.longest family addr = none →
      ∀ x ∈ s.rt.routes, x.family = family → x.pfx ≠ addr / hostBits x.len * hostBits x.len)

/-! ### Mailboxes, identification and parameters (02 R33-R44, R495) -/

/-- A response posted: it lies in the next response slot, MBX_RSP_PI advances by one, and no other byte of memory and no other channel
changes; nothing but memory, the channel and the host line differs. -/
def Obligations.ResponseFillsTheNextSlot : Prop :=
  ∀ (s : State) (ch opcode tag st : Nat) (tlvs : List Tlv), Memory.wf s.mem = true →
    (let t := s.respond ch opcode tag st tlvs
     let b := responseBytes opcode tag st tlvs
     let a := winBase + rspSlot ch (s.chan ch).rspPi
     readBytes t.mem a b.length = b
     ∧ (∀ x : Nat, x < a ∨ a + b.length ≤ x → readByte t.mem x = readByte s.mem x)
     ∧ (t.chan ch).rspPi = ((s.chan ch).rspPi + 1) % 65536
     ∧ (t.chan ch).reqPi = (s.chan ch).reqPi ∧ (t.chan ch).reqCi = (s.chan ch).reqCi ∧ (t.chan ch).rspCi = (s.chan ch).rspCi
     ∧ (∀ k : Nat, k ≠ ch → t.chan k = s.chan k)
     ∧ { t with mem := s.mem, chans := s.chans, freeCtr := s.freeCtr, hif := s.hif, evs := s.evs, ctrs := s.ctrs } = s)

/-- An event raised: in a ring with room it takes the next slot, its code first and its sequence number next; in a full ring it is
dropped, and EVT_LOST and the sequence number advance. Nothing but memory, the ring and the host line differs. One whose cause comes in
NAP or HIBERNATE waits for ACTIVE (the model's choice: log entry 159), and nothing but its waiting differs. -/
def Obligations.EventFillsTheNextSlotOrIsCounted : Prop :=
  (∀ (s : State) (code : Nat) (fields : List Bytes), s.sys.pstate = .nap ∨ s.sys.pstate = .hibernate →
    s.raise code fields = { s with evt := { s.evt with late := s.evt.late ++ [(code, fieldTlvs fields)] } })
  ∧ (∀ (s : State) (code : Nat) (fields : List Bytes), Memory.wf s.mem = true → s.awake = true →
    (let t := s.raise code fields
     (s.evtUsed < 256 →
       t.evt = { s.evt with pi := (s.evt.pi + 1) % 65536, seq := (s.evt.seq + 1) % 65536 }
       ∧ readBytes t.mem (winBase + (0x20000 + 0x80 * (s.evt.pi % 256))) 4 = u16 code ++ u16 s.evt.seq
       ∧ (∀ x : Nat, x < winBase + (0x20000 + 0x80 * (s.evt.pi % 256)) → readByte t.mem x = readByte s.mem x))
     ∧ (256 ≤ s.evtUsed →
       t.evt.lost = min 65535 (s.evt.lost + 1) ∧ t.evt.seq = (s.evt.seq + 1) % 65536 ∧ t.evt.lastDropped = s.evt.seq
       ∧ t.evt.pi = s.evt.pi ∧ t.mem = s.mem)
     ∧ { t with mem := s.mem, evt := s.evt, freeCtr := s.freeCtr, hif := s.hif, evs := s.evs, ctrs := s.ctrs } = s))

/-- A request that fails the checks of R36 is answered with the failing check's status and, where there is one, the offending type in
a TLV 0xFFFF, and has no other effect; PARAM_SET, NV_STORE and FW_STAGE are the examples that write much. -/
def Obligations.FaultyRequestsHaveNoEffect : Prop :=
  ∀ (s : State) (ch st : Nat) (ty : Option Nat),
    (s.canServe ch = true → s.reqOpcode ch = 0x0011 → s.checkedReq ch paramSetSpec = .error (st, ty) →
      exec (.paramSet ch) s = .next (answered s ch 0x0011 st (ty.elim [] (fun t => [⟨0xFFFF, u16 t⟩])) (begun s ch)))
    ∧ (s.canServe ch = true → s.reqOpcode ch = 0xD010 → s.checkedReq ch nvStoreSpec = .error (st, ty) →
      exec (.nvStore ch) s = .next (answered s ch 0xD010 st (ty.elim [] (fun t => [⟨0xFFFF, u16 t⟩])) (begun s ch)))
    ∧ (s.canServe ch = true → s.reqOpcode ch = 0xF002 → s.checkedReq ch fwStageSpec = .error (st, ty) →
      exec (.fwStage ch) s = .next (answered s ch 0xF002 st (ty.elim [] (fun t => [⟨0xFFFF, u16 t⟩])) (begun s ch)))

/-- Identification and status commands answer from the state and change nothing else. -/
def Obligations.IdentificationCommandsAnswer : Prop :=
  (∀ (s : State) (ch : Nat) (q : Req), Asked s ch 0x0001 noTlvs q →
    exec (.sysPing ch) s = .next (answered s ch 0x0001 stOk [] (begun s ch)))
  ∧ (∀ (s : State) (ch : Nat) (q : Req), Asked s ch 0x0002 noTlvs q →
    exec (.sysInfoGet ch) s = .next (answered s ch 0x0002 stOk
      [tlvN 1 2 (if Config.isZk4832 then 0x4832 else 0x4816), tlvN 2 1 0xB0, tlvN 3 4 s.sys.fwVersion, tlvN 4 4 Config.serial,
        tlvN 5 1 s.sys.fwSlot, ⟨6, beBytes 6 Config.macBase⟩] (begun s ch)))
  ∧ (∀ (s : State) (ch : Nat) (q : Req), Asked s ch 0xD013 { rows := [{ ty := 1, len := .exact 2 }] } q →
    q.nat 1 = 0x0031 →
    exec (.factoryRead ch) s = .next (answered s ch 0xD013 stOk [⟨2, beBytes 3 Config.oui⟩] (begun s ch)))
  ∧ (∀ (s : State) (ch : Nat) (q : Req), Asked s ch 0xD013 { rows := [{ ty := 1, len := .exact 2 }] } q →
    q.nat 1 ≠ 0x0031 →
    exec (.factoryRead ch) s = .next (match Config.factoryItem (q.nat 1) with
      | some b => answered s ch 0xD013 stOk [⟨2, b⟩] (begun s ch)
      | none => answered s ch 0xD013 stRange [⟨0xFFFF, u16 1⟩] (begun s ch)))
  ∧ (∀ (s : State) (ch : Nat) (q : Req), Asked s ch 0xD001 noTlvs q →
    exec (.memStatusGet ch) s = .next (answered s ch 0xD001 stOk
      [⟨1, (List.range 32).flatMap (fun b => u8 (bankUse ((begun s ch).pnat 0xD001) b))⟩, tlvN 2 4 ((begun s ch).pnat 0xD003),
        tlvN 3 4 (begun s ch).sramFree, tlvN 4 4 ((begun s ch).dramFree / 1024)] (begun s ch)))

/-- Parameters: PARAM_GET returns the value in force of a readable parameter; PARAM_SET of values that no record keeps puts them into
force at once, and of values that a record keeps waits for the record's write; PARAM_DESCRIBE answers of one parameter. -/
def Obligations.ParameterCommandsReadAndWrite : Prop :=
  (∀ (s : State) (ch gpio id k : Nat) (q : Req) (r : ParamRow), Asked s ch 0x0010 paramGetSpec q → q.tlvs = [⟨id, []⟩] → id ≠ 0xFFFE →
    id ≠ 0x0033 → paramRow? id = some (r, k) → r.access ≠ .wo →
    exec (.paramGet ch gpio) s = .next (answered s ch 0x0010 stOk [⟨id, encodeVal r.ty ((begun s ch).pval id)⟩] (begun s ch)))
  ∧ (∀ (s : State) (ch : Nat) (q : Req) (l : List (Nat × PVal)), Asked s ch 0x0011 paramSetSpec q →
    (begun s ch).setValues q.tlvs = .ok l → l.all (fun p => !isOverlay p.1 && !isResetClass p.1) = true →
    exec (.paramSet ch) s = .next (answered s ch 0x0011 stOk [] ((begun s ch).setParams l)))
  ∧ (∀ (s : State) (ch id : Nat) (q : Req) (v : PVal), Asked s ch 0x0011 paramSetSpec q →
    (begun s ch).setValues q.tlvs = .ok [(id, v)] → isOverlay id = true → isResetClass id = false →
    (begun s ch).writeRefused (writeCost 256) = none →
    exec (.paramSet ch) s = .next (keptBack s ch 0x0011 []
      ((begun s ch).pushNv { id := 0x0010, data := none, size := 256, urgent := false, owners := [⟨some ch, .params [(id, v)] false⟩] })))
  ∧ (∀ (s : State) (ch id k : Nat) (q : Req) (r : ParamRow), Asked s ch 0x0012 paramSetSpec q → q.tlvs = [⟨id, []⟩] →
    paramRow? id = some (r, k) →
    exec (.paramDescribe ch) s = .next (answered s ch 0x0012 stOk (describe (begun s ch) id r k) (begun s ch)))

/-- A parameter put into force reads as what was written, and every other parameter as before, for the parameters that carry no further
effect: those that are not `time.source`, the crystal offset, the AON timer, a lateness limit, one of Thaw's that a frame is matched by or
that retunes it, or one of a port, lane, span or sub-band. -/
def Obligations.ParameterReadsAsWritten : Prop :=
  ∀ (s : State) (id : Nat) (v : PVal), id < 0xA010 → ¬ (0x4100 ≤ id ∧ id < 0x4500) → ¬ (0x5001 ≤ id ∧ id < 0x5200) → id ≠ 0x1011 → id ≠ 0x1012 →
    ¬ (0x1050 ≤ id ∧ id < 0x1055) →
    (s.setParam id v).pval id = v
    ∧ (∀ j : Nat, j ≠ id → (s.setParam id v).pval j = s.pval j)
    ∧ { s.setParam id v with params := s.params } = s

/-! ### Calving (02 R45-R50) -/

/-- The commands of staging sets: a free handle is opened, a value is staged, an open set is aborted, its status is told, and a set that
applies at once is put into force when it is committed. -/
def Obligations.StagingCommandsHoldAndApplySets : Prop :=
  (∀ (s : State) (ch h : Nat) (q : Req) (c : CommitClass),
    Asked s ch 0x0020 { rows := [{ ty := 1, len := .exact 1 }, { ty := 2, len := .exact 2 }] } q →
    CommitClass.ofCode? (q.nat 1) = some c → c ≠ .reset → c.takes (q.nat 2) = true → tfree s.sets 4 = some h →
    exec (.stageOpen ch) s = .next (answered s ch 0x0020 stOk [tlvN 3 1 h] ((begun s ch).putSet h { cls := c, domain := q.nat 2 })))
  ∧ (∀ (s : State) (ch : Nat) (q : Req) (x : StageSet) (l : List (Nat × PVal)) (ws : List Staged),
    Asked s ch 0x0021 stageWriteSpec q → s.set? (q.nat 3) = some x → x.committed = false →
    (begun s ch).stageValues x (q.tlvs.filter (fun t => t.ty != 3)) = .ok l →
    addWrites x.writes (l.map (fun p => .param p.1 p.2)) = some ws →
    exec (.stageWrite ch) s
      = .next (answered s ch 0x0021 stOk [tlvN 4 2 ws.length] ((begun s ch).putSet (q.nat 3) { x with writes := ws })))
  ∧ (∀ (s : State) (ch : Nat) (q : Req) (x : StageSet), Asked s ch 0x0022 handleSpec q → s.set? (q.nat 3) = some x →
    x.committed = false →
    exec (.stageAbort ch) s
      = .next (answered s ch 0x0022 stOk [] { begun s ch with sets := tdel (begun s ch).sets (q.nat 3) }))
  ∧ (∀ (s : State) (ch : Nat) (q : Req) (x : StageSet), Asked s ch 0x0024 handleSpec q → s.set? (q.nat 3) = some x →
    exec (.stageStatus ch) s = .next (answered s ch 0x0024 stOk
      [tlvN 1 1 x.cls.code, tlvN 2 2 x.domain, tlvN 4 2 x.writes.length, tlvN 5 8 x.target, tlvN 7 8 x.boundary,
        tlvN 8 1 (if x.committed then 1 else 0)] (begun s ch)))
  ∧ (∀ (s : State) (ch : Nat) (q : Req) (x : StageSet), Asked s ch 0x0023 commitSpec q → s.set? (q.nat 3) = some x →
    x.committed = false → x.cls = .immediate → (begun s ch).setFault x (q.nat 5) = none → s.board.isSome = true →
    exec (.commitAt ch) s = .next (answered s ch 0x0023 stOk [tlvN 7 8 (q.nat 5)]
      ((begun s ch).calve (q.nat 3) { x with target := q.nat 5 } (q.nat 5))))
  ∧ (∀ (s : State) (h : Nat) (x : StageSet), s.set? h = some x → x.committed = true → s.awake = true → s.boundaryDue x = true →
    s.boundaryGroup x = [(h, x)] →
    exec (.commitBoundary h) s = .next (s.calve h x x.boundary))

/-- A set that is put into force takes all of its values or none (R48): where its checks pass, each IMMEDIATE parameter it wrote last
reads as staged; where they fail, only the set's handle and the event ring change. -/
def Obligations.SetAppliesWholeOrNotAtAll : Prop :=
  (∀ (s : State) (h at_ e p : Nat) (x : StageSet), ({ s with sets := tdel s.sets h } : State).runSet x at_ = .error (e, p) →
    (let t := s.calve h x at_
     t.sets = tdel s.sets h ∧ t.params = s.params ∧ t.nets = s.nets ∧ t.cells = s.cells ∧ t.spans = s.spans ∧ t.rt = s.rt
       ∧ t.nv = s.nv ∧ t.time = s.time))
  ∧ (∀ (s u : State) (h at_ : Nat) (x : StageSet), ({ s with sets := tdel s.sets h } : State).runSet x at_ = .ok u →
    (let t := s.calve h x at_
     t.params = u.params ∧ t.nets = u.nets ∧ t.cells = u.cells ∧ t.spans = u.spans ∧ t.rt = u.rt ∧ t.nv = u.nv ∧ t.time = u.time))

/-! ### Declaring the board and the site (02 R51, R52) -/

/-- A board without a fault is declared with what HOLDUP_SENSE reads; a site is declared, its class kept, once DRAM is ready. -/
def Obligations.DeclarationsAreAccepted : Prop :=
  (∀ (s : State) (ch sense : Nat) (q : Req), Asked s ch 0x0030 boardSpec q → (begun s ch).boardFault q = none →
    (begun s ch).repeatFault (readBoard q) = none →
    exec (.boardDeclare ch sense) s = .next (answered s ch 0x0030 stOk []
      (({ begun s ch with pins := { s.pins with holdup := sense } } : State).acceptBoard (readBoard q))))
  ∧ (∀ (s : State) (ch : Nat) (q : Req), Asked s ch 0x0031 siteSpec q → (begun s ch).ddrReady = true →
    (begun s ch).classFault (q.nat 0x0201) = none → q.has 0x0204 = false → q.has 0x0205 = false → s.sys.siteOk = true →
    exec (.siteDeclare ch) s = .next (answered s ch 0x0031 stOk []
      (({ begun s ch with
          site := { s.site with cls := q.nat 0x0201 }, sys := { (begun s ch).sys with siteOk := true } } : State).watchSubs)))

/-! ### Non-volatile records and the supply (02 R54-R56, 15 R441-R443, 16 R454) -/

/-- Where both copies of a record are invalid the first write goes to copy A with sequence 1; otherwise a write goes to the invalid copy,
or to the one of lower sequence, takes the sequence after the higher one, and is then the copy in force, while the other copy stays. -/
def Obligations.RecordWriteTakesTheOlderCopy : Prop :=
  (∀ (r : NvRec) (d : NvData), r.a = none → r.b = none → (r.write d).a = some ⟨1, d⟩ ∧ (r.write d).b = none)
  ∧ (∀ (r : NvRec) (x : NvCopy) (d : NvData), r.a = some x → r.b = none →
    (r.write d).a = some x ∧ (r.write d).b = some ⟨(x.seq + 1) % 2 ^ 32, d⟩)
  ∧ (∀ (r : NvRec) (x y : NvCopy) (d : NvData), r.a = some x → r.b = some y → x.seq < 2 ^ 32 → y.seq < 2 ^ 32 →
    x.seq = (y.seq + 1) % 2 ^ 32 →
    (r.write d).a = some x ∧ (r.write d).b = some ⟨(x.seq + 1) % 2 ^ 32, d⟩ ∧ (r.write d).newest = some ⟨(x.seq + 1) % 2 ^ 32, d⟩)
  ∧ (∀ (r : NvRec) (x y : NvCopy) (d : NvData), r.a = some x → r.b = some y → x.seq < 2 ^ 32 → y.seq < 2 ^ 32 →
    y.seq = (x.seq + 1) % 2 ^ 32 →
    (r.write d).b = some y ∧ (r.write d).a = some ⟨(y.seq + 1) % 2 ^ 32, d⟩ ∧ (r.write d).newest = some ⟨(y.seq + 1) % 2 ^ 32, d⟩)

/-- The commands of non-volatile records: a store of a new record takes its place and waits for its write; a read copies the payload in
force to the window; a delete waits for its invalidation; the status tells space, records and writes that wait. -/
def Obligations.RecordCommandsStoreReadAndDelete : Prop :=
  (∀ (s : State) (ch p : Nat) (q : Req), Asked s ch 0xD010 nvStoreSpec q → 0x8000 ≤ q.nat 1 → 0 < q.nat 3 → q.nat 3 ≤ 8192 →
    (begun s ch).areaOk (q.nat 2) (q.nat 3) = true → tfind s.nv.recs (q.nat 1) = none → (begun s ch).userFit (q.nat 3) = some p →
    (begun s ch).writeRefused (writeCost (q.nat 3)) = none →
    exec (.nvStore ch) s = .next (keptBack s ch 0xD010 []
      (({ begun s ch with nv := { s.nv with recs := tset s.nv.recs (q.nat 1) { place := p, len := q.nat 3 } } } : State).pushNv
        { id := q.nat 1, data := some (.bytes (s.winRead (q.nat 2) (q.nat 3))), size := q.nat 3, urgent := false,
          owners := [⟨some ch, .stored⟩] })))
  ∧ (∀ (s : State) (ch seq : Nat) (b : Bytes) (q : Req), Asked s ch 0xD011 { rows := [{ ty := 1, len := .exact 2 }, { ty := 2, len := .exact 4 }] } q →
    0x8000 ≤ q.nat 1 → (s.nvRec (q.nat 1)).newest = some ⟨seq, .bytes b⟩ → (begun s ch).areaOk (q.nat 2) b.length = true →
    exec (.nvRead ch) s
      = .next (answered s ch 0xD011 stOk [tlvN 3 4 b.length, tlvN 4 4 seq] ((begun s ch).winWrite (q.nat 2) b)))
  ∧ (∀ (s : State) (ch : Nat) (q : Req), Asked s ch 0xD012 { rows := [{ ty := 1, len := .exact 2 }] } q → 0x8000 ≤ q.nat 1 →
    (s.nvRec (q.nat 1)).newest.isSome = true → (begun s ch).writeRefused (writeCost 0) = none →
    exec (.nvDelete ch) s = .next (keptBack s ch 0xD012 [] ((begun s ch).pushNv
      { id := q.nat 1, data := some (.bytes []), size := 0, urgent := false, owners := [⟨some ch, .invalidate⟩] })))
  ∧ (∀ (s : State) (ch : Nat) (q : Req), Asked s ch 0xD014 noTlvs q →
    exec (.nvStatusGet ch) s = .next (answered s ch 0xD014 stOk
      [tlvN 1 4 (s.userGaps.map (fun g => g.2)).sum, tlvN 2 4 ((s.userGaps.map (fun g => g.2)).foldl max 0),
        tlvN 3 2 (s.nv.recs.filter (fun p => decide (0x8000 ≤ p.1) && p.2.newest.isSome)).length,
        tlvN 4 1 (min 255 (s.nv.queue.length + (if s.nv.busy.isSome then 1 else 0)))] (begun s ch)))

/-- The write engine: a write whose hold-up check passes starts and takes its content then; a device record's write that completes puts
the content into the record and counts NV_WRITES. The supply inputs: MAINS_SENSE falling latches its wake source, raises EV_MAINS and
starts the flush of the critical records; rising latches its own; HOLDUP_SENSE falling below the warning level and rising again raise
their warnings. -/
def Obligations.WritesCompleteAndSupplyEventsAct : Prop :=
  (∀ (s : State) (code : Nat) (w : NvWrite) (l : List NvWrite), s.awake = true → s.nv.busy = none → s.board.isSome = true →
    s.nv.flush = none → s.nv.queue = w :: l → ({ s with pins := { s.pins with holdup := code } } : State).mayWrite w = true →
    exec (.nvWriteStart code) s = .next (({ s with pins := { s.pins with holdup := code } } : State).beginWrite w))
  ∧ (∀ (s : State) (id : Nat) (l : List (Nat × PVal)), s.awake = true → id ≠ 0 → isMarkRecord id = false → s.nv.flush = none →
    s.nv.busy = some { id := id, data := some (.params l), size := 256, urgent := false, owners := [⟨none, .none⟩] } →
    ∃ t, exec .nvWriteComplete s = .next t ∧ t.nv.busy = none ∧ t.nvRec id = (s.nvRec id).write (.params l)
      ∧ (∀ k : Nat, k ≠ id → t.nvRec k = s.nvRec k) ∧ t.nv.queue = s.nv.queue
      ∧ t.ctr .mem 17 = min 0xFFFFFFFF (s.ctr .mem 17 + 1) ∧ t.mem = s.mem ∧ t.params = s.params)
  ∧ (∀ s : State, s.sys.hold.held = false → s.sys.pstate ≠ .off → s.sys.pstate ≠ .hibernate → s.pins.mains = true → s.board.isSome = true →
    (let u := (({ s with pins := { s.pins with mains := false } } : State).latchWake 6).raise 0xE003 [boolByte false]
     exec .mainsFall s = .next (let v := u.flushIds.foldl (fun (s : State) id => s.recordDue id true) u
       { v with nv := { v.nv with flush := some (0, u.flushIds) } })))
  ∧ (∀ s : State, s.sys.hold.held = false → s.sys.pstate ≠ .off → s.pins.mains = false →
    exec .mainsRise s
      = .next ((({ s with pins := { s.pins with mains := true } } : State).latchWake 3).raise 0xE003 [boolByte true]))
  ∧ (∀ (s : State) (code : Nat), s.sys.hold.held = false → s.sys.pstate ≠ .off → s.board.isSome = true → s.pwr.below = false →
    s.senseOver code 0 < 0 →
    exec (.holdupWarningFall code) s = .next
      ((((({ s with pins := { s.pins with holdup := code }, pwr := { s.pwr with below := true } } : State).latchWake 4).raiseWarning true).askFinal
        [deviceOwner])))
  ∧ (∀ (s : State) (code : Nat), s.sys.hold.held = false → s.sys.pstate ≠ .off → s.board.isSome = true → s.pwr.below = true →
    0 ≤ s.senseOver code 10 →
    exec (.holdupWarningRise code) s = .next
      (({ s with pins := { s.pins with holdup := code }, pwr := { s.pwr with below := false } } : State).raiseWarning false))

/-! ### Radios (03 R60-R96) -/

/-- The commands of the radio group. Samples and locks: a die temperature and the PA supplies are kept, a lock is verified, a transition
is made, and Thaw's tuning is noted. -/
def Obligations.RadioCommandsAndSamplesAct : Prop :=
  (∀ (s : State) (ch : Nat) (x : Radio) (q : Req), Asked s ch 0x1001 calRunSpec q → Radio.ofNat? (q.nat 1) = some x → q.nat 2 ≤ 3 →
    q.nat 3 ≤ 1 → s.board.isSome = true → (begun s ch).calMayStart x { set := q.nat 2, since := s.time.aon } = true →
    exec (.rfCalRun ch) s = .next (answered s ch 0x1001 stOk [tlvN 4 8 (begun s ch).now64]
      ((begun s ch).startCal x { set := q.nat 2, since := s.time.aon })))
  ∧ (∀ (s : State) (ch : Nat) (x : Radio) (q : Req), Asked s ch 0x1002 { rows := [{ ty := 1, len := .exact 1 }] } q →
    Radio.ofNat? (q.nat 1) = some x →
    (let r := s.radio x
     exec (.rfStatusGet ch) s = .next (answered s ch 0x1002 stOk
       [tlvN 2 1 r.st.code, ⟨3, boolByte r.locked⟩, ⟨4, leInt 2 s.rf.dieTemp⟩, ⟨5, leInt 2 (r.calTemp.getD 0)⟩, tlvN 6 2 r.paMv,
         tlvN 7 1 (flag r.calTemp.isSome 0 + flag r.fgDone 1 + flag (r.bg.all (fun b => b.lastAon.isSome)) 2)] (begun s ch))))
  ∧ (∀ (s : State) (ch : Nat) (x : Radio) (q : Req), Asked s ch 0x1003 radioClearSpec q → Radio.ofNat? (q.nat 1) = some x → q.nat 2 ≤ 1 →
    exec (.rfCountersGet ch) s = .next (answered s ch 0x1003 stOk (ctrTlvs (s.bankValues (.radio x) 16))
      (if q.nat 2 = 1 then (begun s ch).clearBank (.radio x) else begun s ch)))
  ∧ (∀ (s : State) (ch : Nat) (q : Req), Asked s ch 0x1003 radioClearSpec q → q.nat 1 = 3 → q.nat 2 ≤ 1 →
    exec (.rfCountersGet ch) s = .next (answered s ch 0x1003 stOk (ctrTlvs (s.bankValues .thaw 4))
      (if q.nat 2 = 1 then (begun s ch).clearBank .thaw else begun s ch)))
  ∧ (∀ (s : State) (ch : Nat) (x : Radio) (q : Req), Asked s ch 0x1004 testTxSpec q →
    Radio.ofNat? (q.nat 1) = some x → inBand x (q.nat 2) = true → q.nat 4 ≤ 1 → 0 < q.nat 5 → q.nat 5 ≤ 10000 →
    ((begun s ch).femOf x).isSome = true → ((begun s ch).netRuns x || (begun s ch).hasMember x || (begun s ch).hasTest x) = false →
    (let u := (begun s ch).firstUse x
     let e := u.testEmission x (q.nat 2) (q.int 3) (q.nat 4) (q.nat 5)
     let a := State.project [e] [] u
     let d := State.decidePower x 2 a.1 a.2
     exec (.rfTestTx ch) s = .next (match d.1 with
       | [] => answered s ch 0x1004 stAblated [] d.2.2.2
       | c :: l =>
         let w := d.2.2.2.tune x (q.nat 2)
         let v := w.setRadio x { w.radio x with
           group := some { carriers := c :: l, start := e.nominal, due := e.nominal, extPa := d.2.1 } }
         answered s ch 0x1004 stOk [⟨6, leInt 2 (c.applied / 250)⟩]
           (if (w.radio x).calibrated then ({ v with rf := { v.rf with emSeq := v.rf.emSeq + 1 } } : State).watchSubs
            else w.addEmission x e))))
  ∧ (∀ (s : State) (v : Int), s.awake = true → ∃ t, exec (.dieTempSample v) s = .next t ∧ t.rf.dieTemp = v ∧ t.mem = s.mem ∧ t.nets = s.nets)
  ∧ (∀ (s : State) (lb hi : Nat), s.awake = true →
    ∃ t, exec (.paSupplySample lb hi) s = .next t ∧ (t.radio .lb).paMv = lb ∧ (t.radio .mb).paMv = hi ∧ (t.radio .hb).paMv = hi
      ∧ { t with rf := s.rf } = s)
  ∧ (∀ (s : State) (x : Radio) (st : RState), s.mayMove x st = true → st ≠ .settle → st ≠ .calBg →
    exec (.transitionDone x st) s = .next (s.moveRadio x st false))
  ∧ (∀ (s : State) (x : Radio), s.mayMove x .calBg = true →
    (let u := s.moveRadio x .calBg false
     exec (.transitionDone x .calBg) s
       = .next (u.setRadio x { u.radio x with locked := true, verified := true, lockedAt := some u.now })))
  ∧ (∀ (s : State) (x : Radio), s.mayMove x .settle = true → ((s.moveRadio x .settle false).radio x).calTemp = none →
    ((s.moveRadio x .settle false).radio x).calRun = none →
    exec (.transitionDone x .settle) s = .next ((s.moveRadio x .settle false).queueCal x 0))
  ∧ (∀ (s : State) (x : Radio), s.awake = true → (s.radio x).st = .settle ∨ (s.radio x).st = .rx → (s.radio x).relock = none → (s.radio x).calTemp.isSome = true →
    exec (.synthLockVerified x) s = .next (s.setRadio x { s.radio x with
      locked := true, verified := true
      lockedAt := if (s.radio x).locked && (s.radio x).verified then (s.radio x).lockedAt else some s.now }))
  ∧ (∀ s : State, (s.rf.thaw.retunedAon + 32768 * s.pnat 0x1055 ≤ s.time.aon ∨ 100 ≤ (s.rf.dieTemp - s.rf.thaw.retunedTemp).natAbs →
      ∃ t, exec .thawRetune s = .next t ∧ t.rf.thaw.retunedAon = s.time.aon ∧ t.rf.thaw.retunedTemp = s.rf.dieTemp
        ∧ s.slowNs ≤ t.rf.thaw.retuneTill ∧ t.rf.thaw.retuneTill ≤ s.slowNs + 1500000
        ∧ { t with rf := { t.rf with thaw := s.rf.thaw } } = s)
    ∧ (s.time.aon < s.rf.thaw.retunedAon + 32768 * s.pnat 0x1055 → (s.rf.dieTemp - s.rf.thaw.retunedTemp).natAbs < 100 →
      exec .thawRetune s = .next s))

/-- Calibration: a queued set starts in a gap that holds it; one that has waited too long gets a gap with EV_RF_CAL_FORCED; the running
set ends with EV_RF_CAL_DONE; a background item that is due runs; a radio whose synthesiser unlocks goes through its steps and reports. A
Thaw frame: one with a bad check is counted, one for another address is counted, and one that matches sets the wake latch with its address
and command. -/
def Obligations.CalibrationsRunAndThawFramesMatch : Prop :=
  (∀ (s : State) (x : Radio) (c : CalDue), s.awake = true → (s.radio x).cals.find? (fun c => s.calMayStart x c) = some c →
    exec (.calGapStart x) s = .next (s.startCal x c))
  ∧ (∀ (s : State) (x : Radio) (c : CalDue) (t : Int) (n : Nat), s.awake = true → (s.radio x).gap = none →
    (s.radio x).cals.find? (fun c => decide (c.since + 32768 * s.pnat 0x1016 ≤ s.time.aon)) = some c →
    bestGap (s.activities x) s.now (s.calWindow c.set) = some (t, n) →
    exec (.calForced x) s
      = .next ((s.setRadio x { s.radio x with gap := some (t, t + s.calWindow c.set) }).raise 0x1004 [u8 x.ix, u8 c.set, u16 n]))
  ∧ (∀ (s : State) (x : Radio) (c : CalDue) (us : Nat), s.awake = true → (s.radio x).calRun = some c → c.set = 0 →
    (let u := ((s.bump (.radio x) 6).setRadio x { (s.radio x).synthDone s.rf.dieTemp with failed := false })
     let v := (u.setRadio x { u.radio x with calRun := none }).moveRadio x .standby false
     exec (.calibrationComplete x 0 us) s = .next (v.raise 0x1001 [u8 x.ix, u8 0, u8 1, u32 us])))
  ∧ (∀ (s : State) (x : Radio) (item : Nat) (pass : Bool), s.awake = true → item < 3 → (s.radio x).st ≠ .off → s.bgDue x item = true →
    (∀ j < item, s.bgDue x j = false) → s.radioIdle x = true →
    gapAt (s.activities x) s.now (1000 * max (s.pnat 0x1013) (bgMaxUs item + 30)) = true →
    exec (.bgCalItem x item pass) s = .next ((s.moveRadio x .calBg false).bgItem x item (!pass)))
  ∧ (∀ (s : State) (x : Radio), s.awake = true → (s.radio x).locked = true → (s.radio x).relock = none → (s.radio x).group = none →
    ∃ t, exec (.synthUnlock x) s = .next t ∧ (t.radio x).locked = false ∧ (t.radio x).verified = false ∧ (t.radio x).blanked = true
      ∧ (t.radio x).st = .settle ∧ (t.radio x).fem = femStandby ∧ (t.radio x).relock.isSome = true ∧ t.mem = s.mem)
  ∧ (∀ (s : State) (x : Radio) (was : RState) (lost : Nat), s.awake = true → (s.radio x).relock = some (was, lost) →
    exec (.synthRelockDone x 0) s = .next ((s.setRadio x { s.radio x with
      relock := none, locked := true, verified := true, resume := true }).raise 0x1003 [u8 x.ix, u8 was.code, u8 0, u16 lost]))
  ∧ (∀ (s : State) (addr cmd check : Nat), s.thawDeaf s.thawFrame.1 s.thawFrame.2 = false →
     (crc8 0 (beBytes 2 addr ++ u8 cmd) ≠ check → exec (.thawFrameRx 0x6E29 addr cmd check) s = .next (s.bump .thaw 2))
     ∧ (crc8 0 (beBytes 2 addr ++ u8 cmd) = check → s.thawFrame.2.matches addr = false →
       exec (.thawFrameRx 0x6E29 addr cmd check) s = .next (s.bump .thaw 3))
     ∧ (crc8 0 (beBytes 2 addr ++ u8 cmd) = check → s.thawFrame.2.matches addr = true → s.pwr.thawPending = false →
       (let u := (s.bump .thaw 1).latchWake 2
        exec (.thawFrameRx 0x6E29 addr cmd check) s = .next
          (({ u with pwr := { u.pwr with
            thawAddr := addr, thawCmd := cmd, thawRate := s.thawFrame.2.rate, thawPending := true } } : State).reportThaw)))
     ∧ (∀ sync : Nat, sync ≠ 0x6E29 → exec (.thawFrameRx sync addr cmd check) s = .next s))
  ∧ (∀ (s : State) (sync addr cmd check : Nat), s.thawDeaf s.thawFrame.1 s.thawFrame.2 = true →
    exec (.thawFrameRx sync addr cmd check) s = .next s)

/-! ### Emissions and coexistence (03 R63, R64, R82-R85, 05 R153-R157) -/

/-- Emissions: the plan lock takes the first group formed once its lead is reached, decided as one and placed behind a group the radio still
holds, drops and counts those of it that ablation admits at no power, and leaves the rest pending; a group starts at its instant, to 0.1 µs,
is held where something keeps it back, goes back to plan lock where a deferral has taken it beyond what was projected, and yields to a granted
port; a held group starts at the first moment at which nothing keeps it back; one skipped past its latest start is counted under the cause
that keeps it back now, or else kept it back last; the end of an emission lets the radio return to RX. -/
def Obligations.EmissionsAreLockedStartedAndEnded : Prop :=
  (∀ (s : State) (x : Radio) (g : List Emission), s.awake = true → s.dueGroup x = g → g ≠ [] →
    g.all (fun e => match e.owner with | .beacon _ _ => false | _ => true) = true →
    (∀ e ∈ g, e.owner = .test ∨ s.firstSymbol g ≤ s.latestStart e) →
    (let a := State.project g [] s
     let d := State.decidePower x (g.length + 1) a.1 a.2
     let v := (g.filter (fun e => !d.1.any (fun c => c.em.id == e.id))).foldl
       (fun (s : State) e => (s.bump (.bbtx x) 7).dropPending x (some stAblated) e) d.2.2.2
     let w := v.setRadio x { v.radio x with pend := (v.radio x).pend.filter (fun e => !g.any (fun y => y.id == e.id)) }
     exec (.planLock x []) s = .next (if d.1.isEmpty then w
       else w.putGroup x { carriers := d.1, start := s.firstSymbol g, due := s.firstSymbol g, extPa := d.2.1 }).watchSubs))
  ∧ (∀ (s : State) (x : Radio) (g : EmGroup), (s.radio x).group = some g → s.mayStart g g.start = true → g.hold = none →
    (s.yields x = true → exec (.emissionStart x) s = .next (s.skipGroup x g .yielded).watchSubs)
    ∧ (∀ h : HoldCause, s.yields x = false → s.heldBy x g = some h →
      exec (.emissionStart x) s = .next (s.setGroup x (some { g with hold := some h })))
    ∧ (s.yields x = false → s.heldBy x g = none → exec (.emissionStart x) s = .next (s.startGroup x g))
    ∧ (s.yields x = false → s.heldBy x g = none → s.beyondProjection g = true → exec (.emissionStart x) s = .next (s.backToLock x g))
    ∧ (s.yields x = false → s.heldBy x g = none → s.beyondProjection g = false → exec (.emissionStart x) s = .next (s.keyGroup x g)))
  ∧ (∀ (s : State) (x : Radio) (g : EmGroup), (s.radio x).group = some g → s.mayStart g (s.firstAt x g) = true → g.hold.isSome = true →
    s.blockedBy x g = none →
    exec (.emissionDeferredStart x) s = .next (s.startGroup x g))
  ∧ (∀ (s : State) (x : Radio) (id : Nat) (e : Emission), (s.radio x).pend.find? (fun e => e.id == id) = some e → e.owner ≠ .test →
    s.latestStart e ≤ s.now →
    exec (.emissionLatestStart x id) s = .next ((s.bump (.bbtx x) 4).dropPending x (some stCarrierBusy) e))
  ∧ (∀ (s : State) (x : Radio) (id : Nat) (g : EmGroup) (c : Carrier),
    (s.radio x).pend.find? (fun e => e.id == id) = none → (s.radio x).follow = [] → (s.radio x).group = some g → g.onAir = false →
    g.carriers = [c] → c.em.id = id → c.em.owner ≠ .test → s.latestStart c.em ≤ s.now → s.stillStarts x g c.em = false →
    (let h := ((s.blockedBy x g).orElse (fun _ => g.hold)).getD .synth
     exec (.emissionLatestStart x id) s
       = .next (((s.bump (.radio x) h.row).unsent x (some h.status) c.em).endGroup x).watchSubs))
  ∧ (∀ (s : State) (x : Radio) (g : EmGroup), (s.radio x).group = some g → g.onAir = true →
    (g.cut = none → exec (.emissionEnd x) s
      = .next (g.carriers.foldl (fun (s : State) c => s.ownerSent x (unsigned 64 g.stamped) c.em) (s.rampDown x g)))
    ∧ (∀ v : Nat, g.cut = some v → exec (.emissionEnd x) s
      = .next (g.carriers.foldl (fun (s : State) c => s.unsent x (some v) c.em) (s.rampDown x g))))

/-- Each of the rows that lead an emission takes its own effect, under conditions on the state and the operands alone: PLAN_LOCK leaves the
locked group on its radio and its emissions off the pending ones; EMISSION_START and EMISSION_DEFERRED_START put on the air what the power
decision at the ramp admits, stamp its first symbol, count it and bring the radio to TX; EMISSION_LATEST_START takes the emission off the
pending ones and counts it; EMISSION_END takes the group off the air and holds the blanking for 20 µs more. (A group locked behind it, if
there is one, then takes its place; that place is stated here where there is none.) -/
def Obligations.EmissionRowsComplete : Prop :=
  (∀ (s : State) (x : Radio) (g : List Emission), s.awake = true → (s.radio x).group = none → s.dueGroup x = g → g ≠ [] →
    (∀ e ∈ g, e.owner = .test ∨ s.firstSymbol g ≤ s.latestStart e) →
    (let u := g.foldl (fun (s : State) e => match e.owner with | .beacon net _ => s.segmentIe net | _ => s) s
     let a := State.project g [] u
     let d := State.decidePower x (g.length + 1) a.1 a.2
     ∃ t, exec (.planLock x []) s = .next t ∧ (∀ e ∈ (t.radio x).pend, ∀ y ∈ g, e.id ≠ y.id)
      ∧ (t.radio x).group = if d.1.isEmpty then none
          else some { carriers := d.1, start := s.firstSymbol g, due := s.firstSymbol g, extPa := d.2.1 }))
  ∧ (∀ (s u : State) (x : Radio) (g h : EmGroup), (s.radio x).group = some g → s.yields x = false → s.beyondProjection g = false →
    s.rampPower x g = (h, u) →
    (g.hold = none → s.mayStart g g.start = true → s.heldBy x g = none → ∃ t, exec (.emissionStart x) s = .next t ∧ TookAir u x h t)
    ∧ (g.hold.isSome = true → s.mayStart g (s.firstAt x g) = true → s.blockedBy x g = none →
      ∃ t, exec (.emissionDeferredStart x) s = .next t ∧ TookAir u x h t))
  ∧ (∀ (s : State) (x : Radio) (id : Nat) (e : Emission), (s.radio x).pend.find? (fun e => e.id == id) = some e → e.owner ≠ .test →
    s.latestStart e ≤ s.now →
    ∃ t, exec (.emissionLatestStart x id) s = .next t ∧ (t.radio x).pend = (s.radio x).pend.filter (fun y => y.id != id)
      ∧ (t.radio x).txStatus = stCarrierBusy ∧ t.ctr (.bbtx x) 4 = min 0xFFFFFFFF (s.ctr (.bbtx x) 4 + 1) ∧ t.mem = s.mem)
  ∧ (∀ (s : State) (x : Radio) (g : EmGroup), (s.radio x).group = some g → g.onAir = true → (s.radio x).follow = [] →
    ∃ t, exec (.emissionEnd x) s = .next t ∧ (t.radio x).group = none ∧ (t.radio x).st ≠ .tx
      ∧ (t.radio x).blankTill = s.now + 20000)

/-- The coexistence ports: a requesting port raises its request with the emission's priority, from its lead on, samples its grant at the lead
in force as the request began, and follows its grant; a
granting port grants where nothing it guards is near, takes the grant back at its longest time, and forgets it when the request falls. -/
def Obligations.CoexistencePortsFollowTheirLines : Prop :=
  (∀ (s : State) (b : Bool) (x : Radio) (g : EmGroup), s.awake = true → s.coexRadio b false = some x →
    (s.radio x).nextGroup = some g → g.start - (1000 * s.coexParam b 0x1030 : Nat) ≤ s.now →
    (let p := s.coexPort b
     exec (.coexReqLead b false) s
       = .next (s.setCoex b { p with
           req := true, pri := g.inMask (s.coexParam b 0x1032), gnt := p.req && p.gnt, gntAt := none
           sample := s.coexParam b 0x1031
           revoke := if p.req then p.revoke else s.coexParam b 0x1034 == 1 })))
  ∧ (∀ (s : State) (b : Bool) (x : Radio), s.awake = true → s.coexRadio b false = some x → s.coexParam b 0x1033 = 1 →
    exec (.coexReqLead b true) s = .next (s.setCoex b { s.coexPort b with rx := true }))
  ∧ (∀ (s : State) (b level : Bool) (x : Radio) (g : EmGroup), s.awake = true → s.coexRadio b false = some x →
    (s.radio x).nextGroup = some g → (s.coexPort b).req = true → g.start - (1000 * (s.coexPort b).sample : Nat) ≤ s.now → s.now ≤ g.start →
    exec (.coexGntSample b level) s = .next (s.setCoex b { s.coexPort b with gnt := s.coexRead b 3 level }))
  ∧ (∀ (s : State) (b : Bool) (x : Radio), s.awake = true → s.coexRadio b false = some x → (s.coexPort b).req = true →
    (s.coexPort b).gnt = false →
    exec (.coexGntRise b) s = .next (s.setCoex b { s.coexPort b with gnt := true, gntAt := some s.now }))
  ∧ (∀ (s : State) (b : Bool) (x : Radio) (g : EmGroup), s.awake = true → s.coexRadio b false = some x → (s.radio x).group = some g →
    g.onAir = true → (s.coexPort b).revoke = true →
    exec (.coexGntFall b) s
      = .next (((s.setCoex b { s.coexPort b with gnt := false }).bump (.radio x) 13).cutGroup x stCoexRevoked))
  ∧ (∀ (s : State) (b pri : Bool) (x : Radio), s.awake = true → s.coexRadio b true = some x → s.guarded x b = [] →
    (s.coexPort b).spent = false →
    exec (.coexReqRise b pri) s
      = .next (s.setCoex b { s.coexPort b with
          req := true, pri := s.coexRead b 2 pri, gnt := true, rose := s.time.raw, limit := s.coexParam b 0x1036 }))
  ∧ (∀ (s : State) (b pri : Bool) (x : Radio) (e : Emission) (l : List Emission), s.awake = true → s.coexRadio b true = some x →
    s.guarded x b = e :: l → s.coexRead b 2 pri = false →
    exec (.coexReqRise b pri) s
      = .next (s.setCoex b { s.coexPort b with
          req := true, pri := false, gnt := false, rose := s.time.raw, limit := s.coexParam b 0x1036 }))
  ∧ (∀ (s : State) (b : Bool) (x : Radio), s.awake = true → s.coexRadio b true = some x →
    exec (.coexReqFall b) s = .next (s.setCoex b { req := false, pri := false, gnt := false, spent := false }))
  ∧ (∀ (s : State) (b : Bool) (x : Radio), s.awake = true → s.coexRadio b true = some x → (s.coexPort b).gnt = true →
    s.ranUs (some (s.coexPort b).rose) (s.coexPort b).limit = true →
    exec (.coexMaxGrantExpiry b) s = .next (s.setCoex b { s.coexPort b with gnt := false, spent := true }))

/-! ### Receiving (04 R103-R125, 05 R139, R145) -/

/-- A lane from its window to its frame: the window opens, a preamble takes the lane, the AFC freeze stamps the frame, the PHR gives its
length or ends it, and a search that fails, or a window that closes without a frame, gives the lane back. Headers, soft bits and the end
of a frame: a foreign header abandons its frame and is counted; a header of an unknown client is counted by Firn; a block of soft bits
that fits is queued; a decoder's block ends; a frame of bad FCS is counted and its lane freed. -/
def Obligations.FramesAreFollowedDecodedAndEnded : Prop :=
  (∀ (s : State) (l : Nat) (v : Lane) (a b : Int), s.awake = true → s.lane? l = some v → v.window = some (a, b) → a ≤ s.now → s.now < b →
    exec (.rxWindowOpen l) s = .next (s.setLane l { v with open_ := true, detected := v.detected && v.open_ }))
  ∧ (∀ (s : State) (l : Nat), s.lane? l = none → l = 0 ∨ l = 48 ∨ l = 49 → exec (.rxWindowOpen l) s = .next (s.scanOn (laneRadio l)))
  ∧ (∀ (s : State) (l : Nat) (v : Lane), s.lane? l = some v → v.open_ = true → s.windowOver v = true → v.frame = none →
    v.detected = false → v.scan = false → v.wide = true →
    (let u := s.freeLane l
     exec (.rxWindowClose l) s = .next ((u.bump (.bb (laneRadio l)) 11).setRadio (laneRadio l)
      { u.radio (laneRadio l) with missed := true })))
  ∧ (∀ (s : State) (l : Nat) (v : Lane), s.lane? l = some v → v.open_ = true → s.windowOver v = true → v.frame.isSome = true →
    exec (.rxWindowClose l) s = .next (s.setLane l { v with open_ := false }))
  ∧ (∀ (s : State) (l : Nat) (v : Lane), s.lane? l = some v → s.windowOver v = false → exec (.rxWindowClose l) s = .next s)
  ∧ (∀ (s : State) (l rho : Nat) (v : Lane) (level : Int), s.awake = true → s.lane? l = some v → v.open_ = true → v.frame = none →
    s.isBlanked (laneRadio l) = false → s.fires l v rho = true →
    exec (.preambleDetect l ⟨level, rho⟩) s
      = .next ((((s.setLane l { v with
          detected := true
          frame := some { level := level + s.levelOffset (laneRadio l), at_ := s.now, wide := v.wide } }).narrowHeard v).hbGain
            (laneRadio l)).bump (.bb (laneRadio l)) 1))
  ∧ (∀ (s : State) (l rho : Nat) (v : Lane) (level : Int), s.lane? l = some v → s.fires l v rho = false ∨ s.isBlanked (laneRadio l) = true →
    exec (.preambleDetect l ⟨level, rho⟩) s = .next s)
  ∧ (∀ (s : State) (l : Nat) (v : Lane) (f : RxFrame), s.lane? l = some v → v.frame = some f → f.sfd = false → s.searchOver l v f = true →
    exec (.sfdSearchFail l) s = .next ((s.bump (.bb (laneRadio l)) 2).dropFrame l))
  ∧ (∀ (s : State) (l : Nat) (v : Lane) (f : RxFrame) (o r n : Int), s.lane? l = some v → v.frame = some f → f.sfd = false →
    s.now ≤ f.at_ + (s.searchNs (s.laneMode l v) : Int) →
    (let off := s.searched l v f o
     exec (.afcFreeze l o r n) s = .next (s.setLane l { v with nco := v.nco + off, frame := some { f with
      sfd := true, rssi := r + s.levelOffset (laneRadio l), snr := n, offset := off, stamp := s.now } })))
  ∧ (∀ (s : State) (l n m : Nat) (v : Lane) (f : RxFrame) (p : Phr), s.lane? l = some v → v.frame = some f → f.sfd = true → f.len = none →
    s.phrLen l v p = some (n, m) →
    exec (.phrDecode l p) s = .next (s.setLane l { v with frame := some { f with len := some n, mode := some m, sig := p.sig } }))
  ∧ (∀ (s : State) (l : Nat) (v : Lane) (f : RxFrame) (p : Phr), s.lane? l = some v → v.frame = some f → f.sfd = true → f.len = none →
    s.phrLen l v p = none →
    exec (.phrDecode l p) s = .next ((s.bump (.bb (laneRadio l)) 5).freeLane l))
  ∧ (∀ (s : State) (l : Nat) (net : Net) (v : Lane) (f : RxFrame) (h : RxHdr), s.lane? l = some v → (laneRadio l).net? = some net →
    v.frame = some f → f.len.isSome = true → f.hdr = none → v.cells ≠ [] →
    ((h.unsupported = true ∨ h.level = 4 ∨ h.dstOk = false ∨ h.pan ≠ s.netParam net 0x3002) →
      exec (.headerDecode l h) s = .next ((s.bump (.bb (laneRadio l)) 6).dropFrame l))
    ∧ (h.unsupported = false → h.level ≠ 4 → h.dstOk = true → h.pan = s.netParam net 0x3002 → h.beacon = none → s.ackCtx net v = none →
      (s.laneCells net v).any (fun c => c.kind == 2) = false →
      (match h.srcExt with | some e => s.ctxOfEui e | none => s.ctxOfShort net.ix h.srcShort) = none →
      exec (.headerDecode l h) s = .next ((s.bump .firn 11).freeLane l)))
  ∧ (∀ (s : State) (l bytes : Nat) (v : Lane) (f : RxFrame), s.lane? l = some v → v.frame = some f → l ≠ 49 → bytes ≤ 64 →
    s.softUsed + bytes ≤ 65536 →
    (let u : State := { s with bb := { s.bb with
       soft := s.bb.soft ++ [⟨s.bb.softSeq, l, bytes, s.now⟩], softSeq := s.bb.softSeq + 1 } }
     exec (.softBlockPost l bytes) s
      = .next (State.feedDecoders 8 (u.setLane l { v with frame := some { f with lastPost := some s.now } }).notePool)))
  ∧ (∀ (s : State) (k : Nat) (b : SoftBlock), tfind s.bb.running k = some b →
    exec (.decoderBlockDone k) s
      = .next (State.feedDecoders 8 { s with bb := { s.bb with running := s.bb.running.filter (fun p => p.2.id != b.id) } }))
  ∧ (∀ (s : State) (l : Nat) (v : Lane) (f : RxFrame) (p : Bytes), s.lane? l = some v → v.frame = some f → f.sfd = true →
    s.decoding l = false → s.isBlanked (laneRadio l) = false →
    exec (.frameEnd l false p) s = .next (((s.bump (.bb (laneRadio l)) 4).endLane l v).keepEnded l v f))
  ∧ (∀ (s : State) (l : Nat) (net : Net) (v : Lane) (f : RxFrame) (h : RxHdr) (p : Bytes), s.lane? l = some v → v.frame = some f →
    f.sfd = true → f.hdr = some h → (laneRadio l).net? = some net → s.decoding l = false →
    s.isBlanked (laneRadio l) = false →
    exec (.frameEnd l true p) s
      = .next ((((s.bump (.bb (laneRadio l)) 3).endLane l v).keepEnded l v f).frameUp net l v f h p))

/-- A second preamble on a lane in a frame: where a lane is free and the new one is stronger by the fork margin it is received beside the
first; where only the capture margin is met and the first has no match yet, or no lane is free and no fork of the same 2 µs is weaker, the lane
switches to it; otherwise the lane stays. -/
def Obligations.SecondPreambleForksSwitchesOrStays : Prop :=
  ∀ (s : State) (l rho : Nat) (v : Lane) (f : RxFrame) (raw : Int), s.lane? l = some v → v.frame = some f →
    (let x := laneRadio l
     let level := raw + s.levelOffset x
     (s.fires l v rho = false → exec (.secondPreamble l ⟨raw, rho⟩) s = .next s)
     ∧ (∀ k : Nat, s.fires l v rho = true → s.bbParam x 0x2002 = 1 → f.level + 4 * (s.bbParam x 0x2003 : Int) ≤ level →
       s.forkLane l = some k → s.bb.lanes.all (fun p => laneRadio p.1 != x || !p.2.forked) = true → k ≠ l →
       ∃ t, exec (.secondPreamble l ⟨raw, rho⟩) s = .next t ∧ t.lane? l = some v
         ∧ (∃ w, t.lane? k = some w ∧ w.forked = true ∧ (w.frame.map (fun g => g.level)) = some level)
         ∧ t.ctr (.bb x) 8 = min 0xFFFFFFFF (s.ctr (.bb x) 8 + 1) ∧ t.mem = s.mem)
     ∧ (s.fires l v rho = true → s.bbParam x 0x2002 ≠ 1 ∨ level < f.level + 4 * (s.bbParam x 0x2003 : Int) ∨ (s.forkLane l = none ∧ s.weakFork x level = none) →
       (f.level + 4 * (s.bbParam x 0x2001 : Int) ≤ level → f.matched = false →
         ∃ t, exec (.secondPreamble l ⟨raw, rho⟩) s = .next t ∧ (∃ w, t.lane? l = some w ∧ (w.frame.map (fun g => g.level)) = some level)
           ∧ t.ctr (.bb x) 7 = min 0xFFFFFFFF (s.ctr (.bb x) 7 + 1) ∧ t.mem = s.mem)
       ∧ (f.matched = true ∨ level < f.level + 4 * (s.bbParam x 0x2001 : Int) →
         exec (.secondPreamble l ⟨raw, rho⟩) s = .next ((s.bump (.bb x) 1).bump (.bb x) 9))))

/-- Timeslots: one is planned from the next ASN, starts with its plan in force, and ends with its statistics kept; a clipped radio is
counted once a timeslot, when one of its converters passes the limit of samples; a measurement above the threshold defers the shared cell's emission, a quiet one changes nothing. -/
def Obligations.TimeslotsArePlannedStartedAndEnded : Prop :=
  (∀ (s : State) (n : Net), s.awake = true → (s.net n).running = true → (s.net n).plan = none → (s.net n).waitMark = false →
    s.slotAt n (if (s.net n).begun then 1 else 0) - 500000 ≤ s.now →
    (let k := if (s.net n).begun then 1 else 0
     exec (.timeslotPlan n) s = .next (s.planAhead n (s.asnAfter n k) (s.slotAt n k))))
  ∧ (∀ (s : State) (n : Net), s.awake = true → (s.net n).running = true → (s.net n).waitMark = false →
    s.slotAt n (if (s.net n).begun then 1 else 0) ≤ s.now →
    (s.dueWrites (0x0100 + n.ix) (s.asnAfter n (if (s.net n).begun then 1 else 0))).isEmpty = true →
    ∃ t, exec (.timeslotStart n) s = .next t ∧ (t.net n).asn = s.asnAfter n (if (s.net n).begun then 1 else 0) ∧ (t.net n).begun = true
      ∧ (t.net n).plan = none ∧ t.params = s.params ∧ t.spans = s.spans)
  ∧ (∀ (s : State) (n : Net), (s.net n).waitMark = true → exec (.timeslotPlan n) s = .next s ∧ exec (.timeslotStart n) s = .next s)
  ∧ (∀ (s : State) (means peaks : Bytes), s.awake = true → 10000000 ≤ s.receiveNs .hb →
    ∃ t, exec (.timeslotEnd .hb means peaks) s = .next t ∧ (t.bbRadio .hb).clipped = false
      ∧ (t.bbRadio .hb).last.isSome = true ∧ t.nets = s.nets ∧ t.params = s.params)
  ∧ (∀ (s : State) (x : Radio) (c k : Nat), s.awake = true → x ≠ .hb →
    (s.bbRadio x).clipped = true ∨ tget 0 (s.bbRadio x).clipCount c + k ≤ s.bbParam x 0x2014 →
    exec (.clipLimitExceeded ⟨x, c, k⟩) s
      = .next (s.setBb x { s.bbRadio x with clipCount := tset (s.bbRadio x).clipCount c (tget 0 (s.bbRadio x).clipCount c + k) }))
  ∧ (∀ (s : State) (x : Radio) (c k : Nat), s.awake = true → x ≠ .hb → (s.bbRadio x).clipped = false →
    s.bbParam x 0x2014 < tget 0 (s.bbRadio x).clipCount c + k →
    ∃ t, exec (.clipLimitExceeded ⟨x, c, k⟩) s = .next t ∧ (t.bbRadio x).clipped = true ∧ (t.bbRadio x).clipHold = s.bbParam x 0x2016
      ∧ t.ctr (.bb x) 14 = min 0xFFFFFFFF (s.ctr (.bb x) 14 + 1) ∧ { t with bb := s.bb, ctrs := s.ctrs } = s)
  ∧ (∀ (s : State) (n : Net) (khz : Nat) (level : Int), level + s.levelOffset n.radio ≤ 4 * s.schedInt n 0x3014 →
    exec (.ccaMeasure n khz level) s = .next s)
  ∧ (∀ (s : State) (n : Net) (khz c k cell : Nat) (level : Int) (e : Emission), s.awake = true →
    (s.net n).slotStart + (1000 * (s.netParam n 0x3005 + s.netParam n 0x3006) : Nat) ≤ s.now ∨ s.isDsme n = true →
    4 * s.schedInt n 0x3014 < level + s.levelOffset n.radio →
    (s.radio n.radio).pend.find? (fun e => e.khz == khz && s.inSharedCell n e) = some e → e.owner = .client c k cell →
    ∃ t, exec (.ccaMeasure n khz level) s = .next t ∧ (t.radio n.radio).pend = (s.radio n.radio).pend.filter (fun y => y.id != e.id)
      ∧ t.ctr (.sched n) 7 = min 0xFFFFFFFF (s.ctr (.sched n) 7 + 1) ∧ t.mem = s.mem ∧ t.cells = s.cells)

/-- The commands of the baseband. -/
def Obligations.BasebandCommandsAnswer : Prop :=
  (∀ (s : State) (ch : Nat) (x : Radio) (q : Req), Asked s ch 0x2001 radioClearSpec q → Radio.ofNat? (q.nat 1) = some x → q.nat 2 ≤ 1 →
    exec (.bbCountersGet ch) s = .next (answered s ch 0x2001 stOk (ctrTlvs (s.bankValues (.bb x) 20))
      (if q.nat 2 = 1 then (begun s ch).clearBank (.bb x) else begun s ch)))
  ∧ (∀ (s : State) (ch : Nat) (x : Radio) (q : Req), Asked s ch 0x2005 radioClearSpec q → Radio.ofNat? (q.nat 1) = some x → q.nat 2 ≤ 1 →
    exec (.bbTxCountersGet ch) s = .next (answered s ch 0x2005 stOk (ctrTlvs (s.bankValues (.bbtx x) 7))
      (if q.nat 2 = 1 then (begun s ch).clearBank (.bbtx x) else begun s ch)))
  ∧ (∀ (s : State) (ch : Nat) (x : Radio) (q : Req), Asked s ch 0x2002 nfConfigSpec q → Radio.ofNat? (q.nat 1) = some x → x ≠ .hb →
    2 ≤ q.nat 3 → q.nat 3 ≤ 1024 → 0 < q.nat 4 → q.nat 4 ≤ 1000 → q.nat 5 ≤ 2 → q.nat 6 = 1 →
    (begun s ch).areaOk (q.nat 2) (q.nat 3 * (32 + 2 * nfCount x)) = true →
    exec (.bbNfConfig ch) s = .next (answered s ch 0x2002 stOk [] ((begun s ch).setBb x { s.bbRadio x with
      nfCfg := some { off := q.nat 2, entries := q.nat 3, dec := q.nat 4, mode := q.nat 5 } })))
  ∧ (∀ (s : State) (ch : Nat) (x : Radio) (q : Req), Asked s ch 0x2003 { rows := [{ ty := 1, len := .exact 1 }] } q →
    Radio.ofNat? (q.nat 1) = some x → x ≠ .hb →
    (let b := begun s ch
     let l := (s.bbRadio x).nf.take (b.bbParam x 0x2030)
     exec (.bbNfGet ch) s = .next (answered s ch 0x2003 stOk [tlvN 2 2 l.length, ⟨3, (b.meanCodes (nfCount x) l).1⟩]
       (b.meanCodes (nfCount x) l).2)))
  ∧ (∀ (s : State) (ch : Nat) (x : Radio) (v : SlotStat) (q : Req), Asked s ch 0x2004 { rows := [{ ty := 1, len := .exact 1 }] } q →
    Radio.ofNat? (q.nat 1) = some x → (s.bbRadio x).last = some v →
    exec (.bbSlotStatusGet ch) s = .next (answered s ch 0x2004 stOk
      [tlvN 2 8 v.asn, ⟨3, leInt 1 v.fs⟩, tlvN 4 1 v.lanes, tlvN 5 1 (min 255 v.forks), ⟨6, boolByte v.clipped⟩, tlvN 7 4 v.softPeak,
        tlvN 8 1 v.decPeak] (begun s ch)))
  ∧ (∀ (s : State) (ch : Nat) (q : Req), Asked s ch 0x2006 airtimeSpec q → phySupported (q.nat 1) = true → q.nat 2 ≤ psduMax (q.nat 1) →
    phyFamily (q.nat 1) = .fsk → q.has 3 = true → 4 ≤ q.nat 3 → q.nat 3 ≤ 1000 →
    (let r := (begun s ch).roundOpen (airThirds (q.nat 1) (q.nat 2) (q.nat 3) (q.nat 4) (q.nat 5)) 3
     exec (.phyAirtimeGet ch) s = .next (answered s ch 0x2006 stOk [tlvN 6 4 r.1] r.2)))

/-! ### Ablation (08 R229-R248) -/

/-- A profile is written to its record before the lock, the command waiting for the write; the lock, with its magic number, writes the
lock record; both wait behind the hold-up check. The questions of the ablation group: the profile in force with its lock record, the
budgets of a sub-band, and the occupancy left on a channel of one. The passing of ablation's time: an empty or new bucket opens at each
boundary, emptied dwell entries are freed, a closure that has passed ends, and a snapshot that is due is requested for record 0x0300. -/
def Obligations.AblationCommandsAnswerAndTimePasses : Prop :=
  (∀ (s : State) (ch : Nat) (q : Req), Asked s ch 0x5001 profileWriteSpec q → (begun s ch).regLocked = false →
    (begun s ch).areaOk (q.nat 1) (q.nat 2) = true → q.nat 2 ≤ 1024 → profileFault (s.winRead (q.nat 1) (q.nat 2)) = none →
    (begun s ch).writeRefused (writeCost (s.winRead (q.nat 1) (q.nat 2)).length) = none →
    (let b := s.winRead (q.nat 1) (q.nat 2)
     exec (.ablProfileWrite ch) s = .next (keptBack s ch 0x5001 [tlvN 3 4 (profileId b)] ((begun s ch).pushNv
       { id := 0x0500, data := some (.bytes b), size := b.length, urgent := false, owners := [⟨some ch, .none⟩] }))))
  ∧ (∀ (s : State) (ch : Nat) (q : Req), Asked s ch 0x5001 profileWriteSpec q → (begun s ch).regLocked = true →
    exec (.ablProfileWrite ch) s = .next (answered s ch 0x5001 stLocked [] (begun s ch)))
  ∧ (∀ (s : State) (ch : Nat) (q : Req) (b : Board) (p : Bytes), Asked s ch 0x5002 profileWriteSpec q → s.board = some b →
    (begun s ch).regLocked = false → s.sys.siteOk = true → (begun s ch).profileBytes = some p → profileId p = q.nat 1 →
    q.nat 2 = 0x4C4F434B → s.site.cls < fieldAt p 3 1 → (begun s ch).writeRefused (writeCost 32) = none →
    (let wall := (begun s ch).wallNow
     exec (.ablProfileLock ch) s = .next (keptBack s ch 0x5002 [tlvN 3 8 wall] ((begun s ch).pushNv
       { id := 0x0501, data := some (.bytes (lockRecord p b.gains wall)), size := 32, urgent := false,
         owners := [⟨some ch, .ablLocked (profileId p)⟩] }))))
  ∧ (∀ (s : State) (ch : Nat) (p : Bytes) (q : Req), Asked s ch 0x5003 { rows := [{ ty := 1, len := .exact 4 }] } q →
    (begun s ch).profileBytes = some p → (begun s ch).areaOk (q.nat 1) p.length = true →
    exec (.ablProfileGet ch) s = .next (answered s ch 0x5003 stOk
      [tlvN 2 4 p.length, ⟨3, boolByte (begun s ch).lockBytes.isSome⟩, ⟨4, padTo 32 ((begun s ch).lockBytes.getD [])⟩]
      ((begun s ch).winWrite (q.nat 1) p)))
  ∧ (∀ (s : State) (ch : Nat) (l : SubLimit) (q : Req), Asked s ch 0x5004 { rows := [{ ty := 1, len := .exact 1 }] } q →
    (begun s ch).subLimit? (q.nat 1) = some l → l.dutyOn = true →
    (let u := begun s ch
     let used := (u.subUse l).used
     let ord := u.roundOpen ((u.ordinary100 l).getD 0) 100
     let ms := ord.2.roundOpen (((u.subUse l).due - s.time.aon) * 1000) 32768
     exec (.ablBudgetGet ch) s = .next (answered s ch 0x5004 stOk
       [⟨2, u16 l.band.duty ++ u16 l.band.dwell ++ leInt 2 l.band.pcond ++ leInt 2 l.band.peirp⟩, tlvN 3 8 used,
         tlvN 4 4 (min 0xFFFFFFFF (u.pendingUs l.ix)), tlvN 5 8 ord.1, tlvN 6 8 (l.budget - used - u.pendingUs l.ix),
         tlvN 7 4 ms.1] ms.2)))
  ∧ (∀ (s : State) (ch : Nat) (l : SubLimit) (q : Req),
    Asked s ch 0x5005 { rows := [{ ty := 1, len := .exact 1 }, { ty := 2, len := .exact 4 }] } q →
    (begun s ch).subLimit? (q.nat 1) = some l → l.band.low ≤ q.nat 2 → q.nat 2 ≤ l.band.high →
    (let u := begun s ch
     let used := match u.dwellOf l.ix (q.nat 2) with | some d => d.used | none => 0
     let ms := u.roundOpen ((tget 0 u.abl.closures l.ix - s.time.aon) * 1000) 32768
     exec (.ablDwellGet ch) s = .next (answered s ch 0x5005 stOk [tlvN 3 4 (min 0xFFFFFFFF used), tlvN 4 4 ms.1] ms.2)))
  ∧ (∀ s : State, s.awake = true → exec .bucketBoundary s = .next s.ageSubs)
  ∧ (∀ s : State, s.awake = true → ∃ t, exec .dwellBucketBoundary s = .next t ∧ { t with abl := s.abl } = s
    ∧ { t.abl with dwell := s.abl.dwell } = s.abl
    ∧ ∀ d ∈ t.abl.dwell, d.used ≠ 0 ∨ s.dwellPending d.sub d.khz ≠ 0)
  ∧ (∀ s : State, s.awake = true → ∃ t, exec .dwellClosureEnd s = .next t ∧ { t with abl := s.abl } = s
    ∧ { t.abl with closures := s.abl.closures } = s.abl
    ∧ ∀ p : Nat × Nat, p ∈ t.abl.closures ↔ p ∈ s.abl.closures ∧ s.time.aon < p.2)
  ∧ (∀ s : State, s.awake = true → s.abl.snapMin < s.time.aon / (60 * 32768) →
    exec .ablationSnapshotDue s
      = .next (({ s with abl := { s.abl with snapMin := s.time.aon / (60 * 32768) } } : State).reportRefused.recordDue 0x0300 false))

/-! ### Slot scheduling (06 R162-R195) -/

/-- Starting, stopping and asking after a network: a TSCH start takes its ASN 2^20 above the stored mark where the key set is unchanged (0
otherwise, or the one named), sends EV_SCHED_STARTED and requests a fresh mark (log entry 31), for which the first timeslot waits where
the key set is not unchanged. Slotframes and cells without a staging
handle: they hold from the ASN that the response names; a cell takes the lowest free ID (log entry 18) and a deleted cell is never served
from its ASN on. -/
def Obligations.NetworksAndCellsAreSetUp : Prop :=
  (∀ (s : State) (ch : Nat) (n : Net) (q : Req) (keys : List (Nat × Nat)), Asked s ch 0x3001 netStartSpec q → Net.ofNat? (q.nat 1) = some n →
    s.board.isSome = true → (begun s ch).ddrReady = true → (begun s ch).isDsme n = false → ((begun s ch).net n).running = false →
    (s.cells.any (fun p => p.2.net == n.ix) && !(begun s ch).cellInBand n) = false →
    ((begun s ch).femOf n.radio).isSome = true → s.firn.restored = true → (begun s ch).templateOk n = true →
    n ≠ .lb ∨ (begun s ch).fixedLoOk = true → (q.bytes 3).length % 2 = 0 → (begun s ch).netKeys (nat16s (q.bytes 3)) = .ok keys →
    q.has 2 = false →
    (∀ m : Nat, (begun s ch).unchangedMark n keys = some m →
      (let start := (m + 2 ^ 20) % 2 ^ 40
       let u := (begun s ch).startNet n start (nat16s (q.bytes 3))
       exec (.schedNetStart ch) s = .next (answered s ch 0x3001 stOk [tlvN 4 8 start]
         (((u.setNet n { u.net n with waitMark := false }).requestAsnMark n start).raise 0x3001 [u8 n.ix, u64 start, boolByte true]))))
    ∧ ((begun s ch).unchangedMark n keys = none →
      (let u := (begun s ch).startNet n 0 (nat16s (q.bytes 3))
       exec (.schedNetStart ch) s = .next (answered s ch 0x3001 stOk [tlvN 4 8 0]
        (((u.setNet n { u.net n with waitMark := true }).requestAsnMark n 0).raise 0x3001 [u8 n.ix, u64 0, boolByte false])))))
  ∧ (∀ (s : State) (ch : Nat) (n : Net) (q : Req), Asked s ch 0x3002 { rows := [{ ty := 1, len := .exact 1 }] } q →
    Net.ofNat? (q.nat 1) = some n → (s.net n).running = true →
    exec (.schedNetStop ch) s = .next (answered s ch 0x3002 stOk [tlvN 4 8 (s.net n).asn] ((begun s ch).stopNet n)))
  ∧ (∀ (s : State) (ch : Nat) (n : Net) (q : Req), Asked s ch 0x300A { rows := [{ ty := 1, len := .exact 1 }] } q →
    Net.ofNat? (q.nat 1) = some n →
    exec (.schedStatusGet ch) s = .next (answered s ch 0x300A stOk
      [tlvN 2 8 (s.net n).asn, tlvN 3 8 (((begun s ch).asnMark n).getD 0), tlvN 4 2 (min 65535 (s.net n).backlog.length),
        tlvN 5 1 (begun s ch).tq, tlvN 6 1 (match (s.net n).parent with | none => 0 | some p => if p.lost then 2 else 1),
        tlvN 7 4 s.cells.length] (begun s ch)))
  ∧ (∀ (s : State) (ch : Nat) (n : Net) (q : Req), Asked s ch 0x3003 frameAddSpec q → Net.ofNat? (q.nat 1) = some n → q.nat 2 ≤ 15 →
    0 < q.nat 3 → (begun s ch).isDsme n = false → q.has 4 = false →
    exec (.schedSlotframeAdd ch) s = .next (answered s ch 0x3003 stOk [tlvN 5 8 ((begun s ch).effAsn n)]
      ((begun s ch).setFrame n (q.nat 2) (some (q.nat 3)) ((begun s ch).effAsn n))))
  ∧ (∀ (s : State) (ch : Nat) (n : Net) (q : Req), Asked s ch 0x3004 frameDelSpec q → Net.ofNat? (q.nat 1) = some n → q.nat 2 ≤ 15 →
    (begun s ch).isDsme n = false → ((begun s ch).newLen n (q.nat 2)).isSome = true → q.has 4 = false →
    exec (.schedSlotframeDel ch) s = .next (answered s ch 0x3004 stOk [tlvN 5 8 ((begun s ch).effAsn n)]
      ((begun s ch).setFrame n (q.nat 2) none ((begun s ch).effAsn n))))
  ∧ (∀ (s : State) (ch id : Nat) (n : Net) (q : Req) (c : Cell), Asked s ch 0x3005 cellAddSpec q → q.has 3 = false →
    (begun s ch).placeCell (decodeCell (q.bytes 1)) = .ok c → Net.ofNat? c.net = some n → (begun s ch).freeCell = some id →
    (let a := (begun s ch).effAsn n
     exec (.schedCellAdd ch) s = .next (answered s ch 0x3005 stOk [⟨2, c.bytes id⟩, tlvN 4 8 a]
       { begun s ch with cells := tset s.cells id { c with from_ := a } })))
  ∧ (∀ (s : State) (ch : Nat) (n : Net) (q : Req) (c : Cell), Asked s ch 0x3006 { rows := [{ ty := 1, len := .exact 2 },
      { ty := 3, len := .exact 1, must := false }] } q → q.has 3 = false →
    tfind s.cells (q.nat 1) = some c → Net.ofNat? c.net = some n →
    exec (.schedCellDel ch) s = .next (answered s ch 0x3006 stOk [tlvN 4 8 ((c.endAt ((begun s ch).effAsn n)).until_.getD 0)]
      ((begun s ch).deleteCell (q.nat 1) ((begun s ch).effAsn n))))
  ∧ (∀ (s : State) (ch : Nat) (q : Req), Asked s ch 0x3007 { rows := [{ ty := 1, len := .exact 2 }, { ty := 2, len := .exact 1 }] } q →
    0 < q.nat 2 → q.nat 2 ≤ 30 →
    exec (.schedCellGet ch) s = .next (answered s ch 0x3007 stOk
      [⟨2, (s.cells.filter (fun p => decide (q.nat 1 ≤ p.1) && decide (p.1 < q.nat 1 + q.nat 2))).flatMap (fun p => p.2.bytes p.1)⟩]
      (begun s ch)))

/-- Join requests leave the backlog oldest first at the rate, are forgotten after their time, and are accepted into a context, whose
address they bind, or rejected. The ASN mark is requested as a multiple of 2^19 is crossed; without a newer one transmission is held with
EV_ASN_HOLD; the audit does nothing while it is off, or once it has run in the slotframe, and reports an offset whose levels lie too far apart; a parent that has missed
its limit is lost, with its event, and as the source is lost
in lock. -/
def Obligations.JoinsMarksAndParentsAreFollowed : Prop :=
  (∀ (s : State) (n : Net) (r : JoinReq) (rest : List JoinReq), s.awake = true → (s.net n).backlog = r :: rest →
    (∀ t : Int, (s.net n).lastRelease = some t → 1000000000 ≤ (s.now - t) * s.schedParam n 0x3020) →
    (let u := (s.setNet n { s.net n with
        backlog := rest, released := (s.net n).released ++ [{ r with at_ := s.now }], lastRelease := some s.now }).bump (.sched n) 13
     exec (.joinRelease n) s = .next (u.ringDeliver (u.schedParam n 0x3022)
       { octets := r.payload, port := 0x10 + n.ix, cls := 0, time := some (unsigned 64 r.at_)
         trailer := if r.trailer = [] then none else some (n.radio, r.trailer) })))
  ∧ (∀ (s : State) (n : Net), s.awake = true → ∃ t, exec (.joinTimeout n) s = .next t
    ∧ (∀ r : JoinReq, r ∈ (t.net n).released ↔
        r ∈ (s.net n).released ∧ s.now < r.at_ + 1000000000 * s.schedParam n 0x3023)
    ∧ (t.net n).backlog = (s.net n).backlog ∧ t.firn = s.firn ∧ t.mem = s.mem)
  ∧ (∀ (s : State) (ch : Nat) (n : Net) (q : Req), Asked s ch 0x3008 joinAcceptSpec q → Net.ofNat? (q.nat 1) = some n → q.nat 3 ≤ 4095 →
    q.nat 4 ≤ 8191 → q.nat 5 = 1 → (s.net n).released.any (fun r => r.eui == q.nat 2) = true →
    (begun s ch).bindConflict (q.nat 2) n.ix 0xFFFE (q.nat 3) = false → (begun s ch).ctx? (q.nat 3) = none →
    (let u := (begun s ch).setNet n { s.net n with released := (s.net n).released.filter (fun r => r.eui != q.nat 2) }
     let y := newCtx (q.nat 2) 0xFFFE n.ix (q.nat 4) false
     exec (.schedJoinAccept ch) s = .next (answered s ch 0x3008 stOk []
       (u.setFirn { s.firn with ctxs := tset s.firn.ctxs (q.nat 3) { y with joined := true, fresh := true, corrupt := false } }))))
  ∧ (∀ (s : State) (ch : Nat) (n : Net) (q : Req), Asked s ch 0x3009 { rows := [{ ty := 1, len := .exact 1 }, { ty := 2, len := .exact 8 }] } q →
    Net.ofNat? (q.nat 1) = some n → (s.net n).released.any (fun r => r.eui == q.nat 2) = true →
    exec (.schedJoinReject ch) s = .next (answered s ch 0x3009 stOk []
      ((begun s ch).setNet n { s.net n with released := (s.net n).released.filter (fun r => r.eui != q.nat 2) })))
  ∧ (∀ (s : State) (n : Net), s.awake = true → (s.net n).running = true → (s.net n).begun = true → s.isDsme n = false →
    (∀ k : Nat, s.asnMark n = some k → 0 < sdiff 40 ((s.net n).asn / 2 ^ 19 * 2 ^ 19) k) →
    exec (.asnMarkCross n) s = .next (s.requestAsnMark n ((s.net n).asn / 2 ^ 19 * 2 ^ 19)))
  ∧ (∀ (s : State) (n : Net), s.awake = true → (s.net n).running = true → (s.net n).begun = true → s.asnHeld n (s.net n).asn = true →
    (s.net n).holdRaised = false →
    exec (.asnMarkHold n) s
      = .next ((s.setNet n { s.net n with holdRaised := true }).raise 0x3007 [u8 n.ix, u64 (s.net n).asn]))
  ∧ (∀ (s : State) (n : Net), s.schedParam n 0x302B = 0 ∨ (s.net n).audited = true → exec (.placementAudit n) s = .next s)
  ∧ (∀ (s : State) (n : Net) (h slot len : Nat), s.awake = true → s.schedParam n 0x302B ≠ 0 → (s.net n).running = true →
    (s.net n).audited = false →
    ((s.cells.filter (fun p => p.2.net == n.ix)).map (fun p => (p.2.handle, p.2.slot))).eraseDups = [(h, slot)] → s.newLen n h = some len →
    4 * s.schedParam n 0x3029 < spreadOf (s.levelSet n (s.coinciding n slot len)) →
    (let d := (s.setNet n { s.net n with audited := true }).roundOpen (spreadOf (s.levelSet n (s.coinciding n slot len))) 4
     exec (.placementAudit n) s = .next (d.2.raise 0x3008 [u8 n.ix, u16 slot, u8 d.1])))
  ∧ (∀ (s : State) (domain : Nat) (p : Parent), s.awake = true → s.parentOf domain = some p → p.lost = false →
    s.schedParam (if domain = 0x0101 then .mb else .lb) 0x3038 ≤ p.misses →
    (let u := (s.setParent domain { p with lost := true, lostAt := s.now }).raise 0x3005 [u16 domain, u8 (min 255 p.misses)]
     exec (.timeParentLost domain) s
       = .next (if u.isSource domain && u.time.state == .locked then u.loseSource else u)))

/-! ### Spans (07 R197-R226) -/

/-- The span commands: an open span starts in ACQUIRE with its members DOWN, its counters cleared and its first anchor; a closed one is
forgotten with its frames; members change from the event that the response names; a rollover binds the other selector. -/
def Obligations.SpanCommandsOpenChangeAndClose : Prop :=
  (∀ (s : State) (ch : Nat) (q : Req) (k : KeySlot) (members : Tab MemberState), Asked s ch 0x4001 spanOpenSpec q →
    spanOpenFault q = none → s.board.isSome = true → (begun s ch).ddrReady = true → ((begun s ch).span (q.nat 1)).isOpen = false → q.nat 2 ≠ (begun s ch).linkAddr →
    (begun s ch).spanOfPeer (q.nat 2) = none →
    supOk ((begun s ch).spanParam (q.nat 1) 0x4101) ((begun s ch).spanParam (q.nat 1) 0x4100) = true →
    (begun s ch).keyFor (q.nat 4) 1 = .ok k → (begun s ch).readMembers ((begun s ch).spanParam (q.nat 1) 0x4100) (q.all 7) [] = .ok members →
    (begun s ch).bandsDeclared (members.map (fun p => p.1)) = true → q.nat 3 = 2 → q.has 6 = true →
    (let v : SpanState := {
       phase := .acquire, isT := false, peer := q.nat 2, mic := q.nat 5, drift := q.nat 6
       members := members.map (fun p => (p.1, { p.2 with downSince := q.nat 8 }))
       event := q.nat 8, anchor := 0, interval := (begun s ch).spanParam (q.nat 1) 0x4100, keys := [(0, q.nat 4)]
       heardAt := (begun s ch).now, par := spanLatched.map (fun id => (id, (begun s ch).pnat id)) }
     exec (.spanOpen ch) s = .next (answered s ch 0x4001 stOk [tlvN 0x000A 8 0]
       (members.foldl (fun (s : State) p => match Radio.ofNat? p.1 with | some x => s.firstUse x | none => s)
         (((begun s ch).clearBank (.span (q.nat 1))).setSpan (q.nat 1) v)))))
  ∧ (∀ (s : State) (ch : Nat) (q : Req), Asked s ch 0x4002 oneSpanSpec q → q.nat 1 ≤ 31 → (s.span (q.nat 1)).isOpen = true →
    (let f := (begun s ch).spanFlush (q.nat 1)
     let v := f.2.spanSilence (q.nat 1)
     let u := (v.spanRx.filter (fun r => r.span == q.nat 1)).foldl (fun (s : State) r => s.rimeFreeFor (rxInst r.id)) v
     exec (.spanClose ch) s = .next (answered s ch 0x4002 stOk [tlvN 2 4 f.1]
       (({ u with spans := tdel u.spans (q.nat 1), spanRx := u.spanRx.filter (fun r => r.span != q.nat 1) } : State).domainStopped
         (0x0200 + q.nat 1)))))
  ∧ (∀ (s : State) (ch : Nat) (x : Radio) (m : Member) (q : Req), Asked s ch 0x4003 memberSetSpec q → q.nat 1 ≤ 31 →
    (s.span (q.nat 1)).isOpen = true → decodeMember (q.bytes 2) = (x.ix, m) →
    (begun s ch).memberFault (s.span (q.nat 1)).interval (q.bytes 2) = none → (begun s ch).bandsDeclared [x.ix] = true → q.has 3 = false →
    (let u := (begun s ch).firstUse x
     let e := u.spanEffEvent (q.nat 1)
     exec (.spanMemberSet ch) s = .next (answered s ch 0x4003 stOk [tlvN 4 8 e] (u.modSpan (q.nat 1) (fun v => { v with
       changes := v.changes.filter (fun c => c.band != x.ix) ++ [{ band := x.ix, rec_ := some m, event := e }] })))))
  ∧ (∀ (s : State) (ch : Nat) (q : Req), Asked s ch 0x4004 memberDropSpec q → q.nat 1 ≤ 31 → (s.span (q.nat 1)).isOpen = true →
    (State.bandsAfter (begun s ch) (q.nat 1) none).contains (q.nat 2) = true → 2 ≤ (State.bandsAfter (begun s ch) (q.nat 1) none).length →
    q.has 3 = false →
    (let e := (begun s ch).spanEffEvent (q.nat 1)
     exec (.spanMemberDrop ch) s = .next (answered s ch 0x4004 stOk [tlvN 4 8 e] ((begun s ch).modSpan (q.nat 1) (fun v => { v with
       changes := v.changes.filter (fun c => c.band != q.nat 2) ++ [{ band := q.nat 2, rec_ := none, event := e }] })))))
  ∧ (∀ (s : State) (ch : Nat) (k : KeySlot) (q : Req), Asked s ch 0x4005 keyRollSpec q → q.nat 1 ≤ 31 → (s.span (q.nat 1)).isOpen = true →
    q.nat 2 ≤ 8191 → q.nat 3 < 2 ^ 40 → (s.span (q.nat 1)).rolled = false → (begun s ch).keyFor (q.nat 2) 1 = .ok k →
    (let sel := 1 - (s.span (q.nat 1)).sel
     exec (.spanKeyRoll ch) s = .next (answered s ch 0x4005 stOk [tlvN 4 1 sel] ((begun s ch).modSpan (q.nat 1) (fun v => { v with
       keys := tset v.keys sel (q.nat 2), windows := tset v.windows sel {}, roll := some (q.nat 3, q.nat 2), rolled := false })))))
  ∧ (∀ (s : State) (ch h0 h1 : Nat) (q : Req), Asked s ch 0x4006 oneSpanSpec q → q.nat 1 ≤ 31 → (s.span (q.nat 1)).isOpen = true →
    (tget {} (s.span (q.nat 1)).windows 0).high = some h0 → (tget {} (s.span (q.nat 1)).windows 1).high = some h1 →
    (let v := s.span (q.nat 1)
     let left := (begun s ch).roundOpen ((begun s ch).supLeft (q.nat 1)).toNat 1000000
     exec (.spanStatusGet ch) s = .next (answered s ch 0x4006 stOk
       [tlvN 2 1 v.phase.code, tlvN 3 1 (if v.isT then 1 else 2), tlvN 4 8 v.event,
         tlvN 5 1 ((v.members.filter (fun p => p.2.up)).map (fun p => 2 ^ p.1)).sum, tlvN 6 4 left.1, tlvN 7 2 v.queue.length,
         ⟨8, u64 h0 ++ u64 h1⟩] left.2)))

/-- R203: with u_0 < u_1 < … < u_(N−1) the channels marked in a member's map, its channel in event e is u_((e × hop_inc) mod N); its
first channel, that of event 0, is u_0. -/
def Obligations.MemberChannelFollowsTheEvent : Prop :=
  ∀ (m : Member) (band : Nat), m.channels ≠ [] →
    m.channels.Pairwise (· < ·)
    ∧ (∀ n : Nat, n ∈ m.channels ↔ n < 256 ∧ (m.map.getD (n / 8) 0).getLsbD (n % 8) = true)
    ∧ (∀ e : Nat, ∃ h : e * m.hop % m.channels.length < m.channels.length,
        m.khzAt band e = m.chanKhz band (m.channels[e * m.hop % m.channels.length]))
    ∧ ∃ h : 0 < m.channels.length, m.khzAt band 0 = m.chanKhz band (m.channels[0])

/-- Events of a span: the plan is made once for each event; the anchor falls one event after the other, and the members' changes and
rollover of that event are taken; a burst is sent where one belongs; the overlap of keys ends. Sub-events and received frames: a served
sub-event opens its lane and ends with the member's health; a skipped one is counted by its reason; a span frame is discarded as foreign,
counted for its unbound selector, or kept for its MIC graph; supervision that expires drops to RESYNC; the challenge is forgotten. -/
def Obligations.SpanEventsRunAndFramesAreTaken : Prop :=
  (∀ (s : State) (n : Nat), (s.span n).isOpen = true → s.awake = true → (s.span n).planned ≠ some (s.span n).nextEvent →
    s.planPoint n = true →
    (let e := (s.span n).nextEvent
     let a := (s.span n).nextAnchor
     let u := ((s.latchSpan n).spanOutOfSync n).modSpan n (fun v => { v with planned := some e })
     exec (.spanEventPlan n) s = .next (((u.spanAt n e a).planEvent n e a).spanBackTo u n)))
  ∧ (∀ (s : State) (n : Nat), (s.span n).isOpen = true → s.awake = true → (s.span n).isT = true ∨ (s.span n).begun = true →
    (s.span n).nextAnchor ≤ s.now →
    (let u := (if (s.span n).begun && (s.span n).phase != .acquire then s.parentEvent n else s).modSpan n (fun v => { v with event := v.nextEvent, anchor := v.nextAnchor, begun := true })
     exec (.spanAnchor n) s = .next ((u.applyMembers n).switchAt n (s.span n).nextEvent)))
  ∧ (∀ (s : State) (n : Nat), (s.span n).isOpen = true → s.awake = true → s.burstEvent n (s.span n).nextEvent = true →
    (s.span n).bursts = [] → s.eventHeld n (s.span n).nextAnchor = false → s.planPoint n = true →
    (let e := (s.span n).nextEvent
     let a := (s.span n).nextAnchor
     let u := (s.spanAt n e a).planSkips n e a
     let w := (u.span n).members.foldl (fun (s : State) (p : Nat × MemberState) =>
       if (p.2.skipIn e).isSome then s else State.burstOn n e a p.1 p.2.rec_ (List.range (s.spanPar n 0x4005)) s) u
     exec (.resyncBurstSend n) s
       = .next ((if (w.span n).bursts.isEmpty then w else w.bump (.span n) 16).spanBackTo s n)))
  ∧ (∀ (s : State) (n e k : Nat), s.awake = true → (s.span n).roll = some (e, k) → (s.span n).rolled = true →
    (s.spanPar n 0x4007 : Int) ≤ sdiff 40 (s.span n).event e →
    exec (.keyOverlapEnd n) s = .next ((s.modSpan n (fun v => { v with
      roll := none, rolled := false, keys := tdel v.keys (1 - v.sel), windows := tdel v.windows (1 - v.sel) })).raise 0x4005
        [u8 n, u8 (s.span n).sel, u64 (s.span n).event]))
  ∧ (∀ (s : State) (n : Nat) (x : Radio) (m : MemberState), tfind (s.span n).members x.ix = some m → s.awake = true → (s.span n).isOpen = true →
    (s.span n).isT = true ∨ (s.span n).phase = .up ∨ (s.span n).challenge.isSome = true →
    (s.leadIn n x m = true → s.eventHeld n (s.span n).nextAnchor = false →
      exec (.subeventStart n x) s = .next (s.toSub n x (s.span n).nextEvent (s.span n).nextAnchor))
    ∧ (s.leadIn n x m = false → (s.span n).begun = true → m.inSub = false → s.eventHeld n (s.span n).anchor = false →
      s.readyAt n x ((s.span n).anchor + (1000 * m.rec_.offUs : Nat)) ≤ s.now →
      (∀ row : Nat, (m.skipIn (s.span n).event).or (s.subSkip n x m.rec_ (s.span n).anchor) = some row →
        exec (.subeventStart n x) s
          = .next (((s.modMember n x.ix (fun m => { m with skip := tset m.skip (s.span n).event row })).countSkip n x row).dropMember n x))
      ∧ ((m.skipIn (s.span n).event).or (s.subSkip n x m.rec_ (s.span n).anchor) = none →
        exec (.subeventStart n x) s = .next (s.startSub n x))))
  ∧ (∀ (s : State) (n : Nat) (x : Radio) (m : MemberState), tfind (s.span n).members x.ix = some m → (s.span n).isOpen = true →
    m.inSub = true → m.heard = true → s.awake = true → (s.span n).anchor + (1000 * (m.rec_.offUs + m.rec_.lenUs) : Nat) ≤ s.now →
    (let u := (s.modMember n x.ix (fun m => { m with inSub := false, skip := tdel m.skip (s.span n).event })).modMember n x.ix (fun m => { m with misses := 0 })
     let w := if u.netRuns x then u else u.closeSub x
     (w.span n).eventOver x.ix = false → exec (.subeventEnd n x) s = .next w))
  ∧ (∀ (s : State) (x : Radio) (octets : Bytes) (meas : RxMeas), s.awake = true →
    (s.spanOfPeer (decodeSpan octets).src = none →
      exec (.spanFrameReceive x octets meas) s = .next (s.spanForeign none x))
    ∧ (∀ n : Nat, s.spanOfPeer (decodeSpan octets).src = some n →
      octets.length < 36 ∨ (decodeSpan octets).dst ≠ s.linkAddr ∨ (decodeSpan octets).band ≠ x.ix
        ∨ (decodeSpan octets).dir = spanDir s.linkAddr (s.span n).peer ∨ 3 < (decodeSpan octets).ty ∨ thas (s.span n).members x.ix = false →
      exec (.spanFrameReceive x octets meas) s = .next (s.bump (.span n) 11))
    ∧ (∀ n : Nat, s.spanOfPeer (decodeSpan octets).src = some n → 36 ≤ octets.length → (decodeSpan octets).dst = s.linkAddr →
      (decodeSpan octets).band = x.ix → (decodeSpan octets).dir ≠ spanDir s.linkAddr (s.span n).peer → (decodeSpan octets).ty ≤ 3 →
      thas (s.span n).members x.ix = true → thas (s.span n).keys (decodeSpan octets).sel = false →
      exec (.spanFrameReceive x octets meas) s = .next (s.bump (.span n) 10))
    ∧ (∀ (n : Nat) (m : MemberState), s.spanOfPeer (decodeSpan octets).src = some n → 36 ≤ octets.length →
      (decodeSpan octets).dst = s.linkAddr → (decodeSpan octets).band = x.ix →
      (decodeSpan octets).dir ≠ spanDir s.linkAddr (s.span n).peer → (decodeSpan octets).ty ≤ 3 →
      tfind (s.span n).members x.ix = some m → thas (s.span n).keys (decodeSpan octets).sel = true →
      ∃ (t : State) (r : SpanRx), exec (.spanFrameReceive x octets meas) s = .next t ∧ t.spanRx = s.spanRx ++ [r] ∧ r.span = n
        ∧ r.band = x.ix ∧ r.octets = octets ∧ r.stamp = s.now - (meas.ago : Int) ∧ t.spans = s.spans ∧ t.mem = s.mem))
  ∧ (∀ (s : State) (n : Nat) (c : Bytes) (t : Int), s.awake = true → (s.span n).challenge = some (c, t) → t ≤ s.now →
    exec (.acquireEchoTimeout n) s = .next (s.modSpan n (fun v => { v with
      challenge := none, begun := v.begun && v.phase != .acquire })))
  ∧ (∀ (s : State) (n : Nat), (s.span n).phase = .up ∨ (s.span n).phase = .resync → (s.span n).expired = false → s.supLeft n ≤ 0 →
    exec (.supervisionExpiry n) s
      = .next ((((s.spanFlush n).2.spanResync n).modSpan n (fun v => { v with expired := true })).raise 0x4002
        [u8 n, u32 (s.spanFlush n).1]))

/-! ### Firn contexts (09 R249-R277) -/

/-- The context commands: a context is copied to the window, its fields are written, it is pinned (with an answer that waits for a load where it
is not resident: the load's place, log entry 190) and unpinned, found by its address, and released with its frames counted; a sync waits for
every stale image and, after them, a final summary. The pager: a load takes the lowest free slot or
counts a stall; a completed load is resident, a bad one is corrupt; an eviction and the end of its write-back are counted; stale images
and urgent ones are asked for, but those that the write under way has. -/
def Obligations.ContextsAreCommandedLoadedAndImaged : Prop :=
  (∀ (s : State) (ch : Nat) (x : Ctx) (q : Req), Asked s ch 0x6001 ctxReadSpec q → (begun s ch).ddrReady = true →
    (begun s ch).ctx? (q.nat 1) = some x → (begun s ch).areaOk (q.nat 2) 1024 = true →
    (let b := (begun s ch).ctxBytes (q.nat 1) x
     exec (.firnCtxRead ch) s = .next (answered s ch 0x6001 stOk
       [⟨3, boolByte (b.2.resident (q.nat 1))⟩, tlvN 4 2 ((b.2.slotOf (q.nat 1)).getD 0xFFFF)] (b.2.winWrite (q.nat 2) b.1))))
  ∧ (∀ (s : State) (ch : Nat) (x : Ctx) (q : Req), Asked s ch 0x6002 ctxWriteSpec q → (begun s ch).ddrReady = true →
    (begun s ch).ctx? (q.nat 1) = some x →
    (∀ (off : Nat) (d : Bytes), q.nat 2 = 0 → q.has 3 = true → q.bytes 3 = u16 off ++ d → d ≠ [] → d.length ≤ 496 → off + d.length ≤ 512 →
      exec (.firnCtxWrite ch) s = .next (answered s ch 0x6002 stOk [] ((begun s ch).modCtx (q.nat 1) (fun x =>
        { x with host := (padTo 512 x.host).take off ++ d ++ (padTo 512 x.host).drop (off + d.length) }))))
    ∧ (q.nat 2 = 1 → q.has 3 = true → (q.bytes 3).length = 2 →
      exec (.firnCtxWrite ch) s = .next (answered s ch 0x6002 stOk [] ((begun s ch).modCtx (q.nat 1) (fun x =>
        { x with level := some (q.int 3) }))))
    ∧ (q.nat 2 = 3 → exec (.firnCtxWrite ch) s = .next (answered s ch 0x6002 stOk []
        ((begun s ch).modCtx (q.nat 1) (fun x => { x with offset := none })))))
  ∧ (∀ (s : State) (ch k : Nat) (x : Ctx) (q : Req), Asked s ch 0x6003 oneCtxSpec q → (begun s ch).ddrReady = true →
    (begun s ch).ctx? (q.nat 1) = some x → x.pinned = true ∨ (begun s ch).pinnedCount < s.pnat 0x6001 →
    (((begun s ch).modCtx (q.nat 1) (fun x => { x with pinned := true })).slotOf (q.nat 1)) = some k →
    exec (.firnPin ch) s = .next (answered s ch 0x6003 stOk [tlvN 4 2 k]
      ((begun s ch).modCtx (q.nat 1) (fun x => { x with pinned := true }))))
  ∧ (∀ (s : State) (ch : Nat) (x : Ctx) (q : Req), Asked s ch 0x6003 oneCtxSpec q → (begun s ch).ddrReady = true →
    (begun s ch).ctx? (q.nat 1) = some x → x.pinned = true ∨ (begun s ch).pinnedCount < s.pnat 0x6001 →
    (let u := (begun s ch).modCtx (q.nat 1) (fun x => { x with pinned := true })
     u.slotOf (q.nat 1) = none → u.revive (q.nat 1) false = none →
     exec (.firnPin ch) s = .next (keptBack s ch 0x6003 [] (u.pinLoad (q.nat 1) [ch]))))
  ∧ (∀ (s : State) (ch : Nat) (x : Ctx) (q : Req), Asked s ch 0x6004 oneCtxSpec q → (begun s ch).ddrReady = true →
    (begun s ch).ctx? (q.nat 1) = some x →
    exec (.firnUnpin ch) s
      = .next (answered s ch 0x6004 stOk [] ((begun s ch).modCtx (q.nat 1) (fun x => { x with pinned := false }))))
  ∧ (∀ (s : State) (ch : Nat) (x : Ctx) (q : Req), Asked s ch 0x6005 oneCtxSpec q → (begun s ch).ddrReady = true →
    (begun s ch).ctx? (q.nat 1) = some x → (begun s ch).ctxCells (q.nat 1) = [] →
    (let u := (begun s ch).bumpBy .firn 17 (x.queues.map (fun p => p.2.length)).sum
     let v := u.bumpBy .firn 11 ((begun s ch).waitingFrames (q.nat 1))
     exec (.firnRelease ch) s = .next (answered s ch 0x6005 stOk [] ((v.dropWaiting (q.nat 1)).dropCtx (q.nat 1)))))
  ∧ (∀ (s : State) (ch : Nat) (q : Req), Asked s ch 0x6006 noTlvs q → s.board.isSome = true → (begun s ch).ddrReady = true →
    (begun s ch).writeRefused (writeCost (recSize 0x0400)) = none →
    (let recs := (begun s ch).imageRecords (begun s ch).imageStale
     exec (.firnSync ch) s = .next (keptBack s ch 0x6006 [tlvN 1 2 recs.length]
       ((recs.foldl (fun (s : State) r => s.recordFor r false [⟨some ch, .none⟩]) (begun s ch)).askFinalLast [⟨some ch, .none⟩]))))
  ∧ (∀ (s : State) (ch c : Nat) (q : Req), Asked s ch 0x6007 firnLookupSpec q → (begun s ch).ddrReady = true → q.has 1 = true → q.has 2 = false →
    q.has 3 = false → q.nat 2 ≤ 1 → (begun s ch).ctxOfEui (q.nat 1) = some c →
    exec (.firnLookup ch) s = .next (answered s ch 0x6007 stOk [tlvN 4 2 c] (begun s ch)))
  ∧ (∀ (s : State) (ch : Nat) (q : Req), Asked s ch 0x6008 noTlvs q → (begun s ch).ddrReady = true →
    ∃ l t, exec (.firnStatusGet ch) s = .next (answered s ch 0x6008 stOk l t) ∧ l.length = 9
      ∧ l.take 6 = [tlvN 1 2 s.firn.ctxs.length, tlvN 2 2 (s.firn.slots.filter (fun p => !p.2.evicted)).length,
          tlvN 3 2 (begun s ch).pinnedCount, tlvN 4 2 (begun s ch).heldCount, tlvN 5 2 (begun s ch).freeSlots.length,
          tlvN 6 2 (begun s ch).missDepth]
      ∧ t = (begun s ch).setFirn { s.firn with missPeak := (begun s ch).missDepth })
  ∧ (∀ (s : State) (l : FirnLoad), s.awake = true → s.ddrReady = true → s.nextLoad = some l → (s.firn.loads.filter (fun l => l.started.isSome)).length < 8 →
    (∀ (k : Nat) (r : List Nat), s.freeSlots = k :: r →
      exec .firnLoadStart s = .next ((s.setFirn { s.firn with slots := tdel s.firn.slots k }).modLoad l.ctx (fun l =>
        { l with started := some s.now, slot := some k })))
    ∧ (s.freeSlots = [] → l.stalled = false →
      exec .firnLoadStart s = .next ((s.modLoad l.ctx (fun l => { l with stalled := true })).bump .firn 6)))
  ∧ (∀ (s : State) (c k : Nat) (l : FirnLoad) (t : Int), s.awake = true → s.firn.loads.find? (fun l => l.ctx == c && l.started.isSome) = some l →
    l.started = some t → s.now - t ≤ 4000 → l.slot = some k →
    exec (.firnLoadComplete c false false) s = .next (((s.placeCtx c k l.held).releaseWaiting c).answerPins l.owners k)
    ∧ exec (.firnLoadComplete c false true) s = .next (s.corruptCtx c))
  ∧ (∀ (s : State) (x : FirnSlot), s.awake = true → s.freeSlots.length < s.pnat 0x6002 → tfind s.firn.slots (s.firn.hand % 512) = some x →
    s.slotKept x = false → x.ref = false →
    ∃ t, exec .firnEvict s = .next t ∧ t.ctr .firn 7 = min 0xFFFFFFFF (s.ctr .firn 7 + 1)
      ∧ t.firn.hand = (s.firn.hand % 512 + 1) % 512
      ∧ tfind t.firn.slots (s.firn.hand % 512) = some { x with evicted := true, writing := x.dirty, ref := false }
      ∧ t.firn.ctxs = s.firn.ctxs ∧ t.mem = s.mem)
  ∧ (∀ (s : State) (k : Nat) (x : FirnSlot), s.awake = true → tfind s.firn.slots k = some x → x.writing = true →
    exec (.writebackComplete k) s = .next ((s.modSlot k (fun v => { v with writing := false, dirty := false })).bump .firn 8))
  ∧ (∀ s : State, s.awake = true → s.ranMs s.firn.sweptAt (1000 * s.pnat 0x6003) = true → exec .firnImageSweep s = .next
      ((s.imageRecords (fun c => s.imageStale c && !s.imageTaken c)).foldl (fun (s : State) r => s.recordDue r false)
        (s.setFirn { s.firn with sweptAt := s.time.aon })))
  ∧ (∀ s : State, s.awake = true → exec .firnImageUrgent s = .next
      ((s.imageRecords (fun c => s.imageUrgent c && !s.imageTaken c)).foldl (fun (s : State) r => s.recordDue r false) s))

/-! ### The cipher engine (10 R278-R310) -/

/-- The key commands: a plain load into an empty slot answers its check value; a counted one waits for its mark entry and starts at the
stored mark plus 4,096 where the entry is of this key; a request to erase stops the slot's use until it is done; a key's information. The
operations of the host on a key of a fitting use: blocks in and out of the window, counter mode, CMAC, the AEAD that seals with an own
nonce, opens and verifies, and random bytes, which are free values (log entry 3); with its queue full a block request is held back and counted. -/
def Obligations.CipherCommandsKeepKeysAndTransform : Prop :=
  (∀ (s u : State) (ch : Nat) (key : Bytes) (q : Req), Asked s ch 0x7001 keyLoadSpec q → q.nat 1 ≤ 8191 → usageOk (q.nat 2) = true →
    tfind s.cipher.keys (q.nat 1) = none → tfind s.cipher.loads (q.nat 1) = none → (begun s ch).loadKey q = .ok key →
    ((begun s ch).cipherQueue (s.pnat 0x7001)).length < 64 →
    ((begun s ch).unwrapUse q).drbgUse = (.served, u) →
    (countedUse (q.nat 2) = none →
      exec (.cipherKeyLoad ch) s = .next (answered s ch 0x7001 stOk [tlvN 7 4 (keyCheck key), tlvN 8 8 0]
        ((u.useBlocks 1).setKey (q.nat 1) { key := key, usage := q.nat 2 })))
    ∧ (∀ (use_ : Nat) (e : MarkEntry), countedUse (q.nat 2) = some use_ → u.nvMark (q.nat 1) = some e → e.check = keyCheck key % 65536 →
      u.writeRefused (writeCost (recSize (markRecord (q.nat 1)))) = none →
      (let c := min (lastCounter use_) (max (e.mark + 4096) (q.nat 6))
       let l : KeyLoad := { slot := { key := key, usage := q.nat 2, counter := c },
                            entry := { mark := c / 4096 * 4096, check := keyCheck key % 65536 } }
       let v := u.useBlocks 1
       exec (.cipherKeyLoad ch) s = .next (keptBack s ch 0x7001 [tlvN 7 4 (keyCheck key), tlvN 8 8 c]
         (({ v with cipher := { v.cipher with loads := tset v.cipher.loads (q.nat 1) l } } : State).recordFor
           (markRecord (q.nat 1)) true [{ chan := some ch, eff := .keyLoad (q.nat 1) }])))))
  ∧ (∀ (s : State) (ch : Nat) (k : KeySlot) (q : Req), Asked s ch 0x7002 oneSlotSpec q → q.nat 1 ≤ 8191 →
    tfind s.cipher.keys (q.nat 1) = some k → k.erasing = none → (begun s ch).keyInUse (q.nat 1) = false →
    exec (.cipherKeyErase ch) s
      = .next (keptBack s ch 0x7002 [] ((begun s ch).setKey (q.nat 1) { k with erasing := some ch })))
  ∧ (∀ (s : State) (slot ch : Nat) (k : KeySlot), s.awake = true → tfind s.cipher.keys slot = some k → k.erasing = some ch →
    (∀ p ∈ s.cipher.queues, ∀ r ∈ p.2, r.slot ≠ slot) → s.hostNames slot = false →
    exec (.keyEraseDone slot) s
      = .next (({ s with cipher := { s.cipher with keys := tdel s.cipher.keys slot } } : State).release ch stOk []))
  ∧ (∀ (s : State) (ch : Nat) (k : KeySlot) (q : Req), Asked s ch 0x7003 oneSlotSpec q → q.nat 1 ≤ 8191 →
    tfind s.cipher.keys (q.nat 1) = some k →
    exec (.cipherKeyInfo ch) s = .next (answered s ch 0x7003 stOk
      [tlvN 2 1 (if k.isExhausted then 2 else 1), tlvN 3 1 k.key.length, tlvN 4 1 k.usage, tlvN 5 4 (keyCheck k.key), tlvN 6 8 k.counter,
        tlvN 7 8 ((begun s ch).markInNv (q.nat 1)), ⟨8, boolByte k.markDue.isSome⟩] (begun s ch)))
  ∧ (∀ (s : State) (ch : Nat) (k : KeySlot) (q : Req), Asked s ch 0x7004 rawSpec q → q.nat 1 ≤ 8191 → ((begun s ch).cipherQueue (s.pnat 0x7001)).length < 64 →
    q.nat 2 ≤ 1 → 0 < q.nat 5 → q.nat 5 ≤ 1024 →
    (begun s ch).cipherArea (q.nat 3) (16 * q.nat 5) = true → (begun s ch).cipherArea (q.nat 4) (16 * q.nat 5) = true →
    overlaps (q.nat 3) (16 * q.nat 5) (q.nat 4) (16 * q.nat 5) = false → (begun s ch).keyFor (q.nat 1) 2 = .ok k →
    exec (.cipherRaw ch) s = .next (answered s ch 0x7004 stOk [] (((begun s ch).winWrite (q.nat 4)
      ((blocks (s.winRead (q.nat 3) (16 * q.nat 5))).flatMap (if q.nat 2 = 0 then aesEncrypt k.key else aesDecrypt k.key))).hostUse
        (q.nat 1) (q.nat 5))))
  ∧ (∀ (s : State) (ch : Nat) (k : KeySlot) (q : Req), Asked s ch 0x7005 ctrSpec q → q.nat 1 ≤ 8191 → ((begun s ch).cipherQueue (s.pnat 0x7001)).length < 64 →
    q.nat 5 ≤ 16384 →
    (begun s ch).cipherArea (q.nat 3) (q.nat 5) = true → (begun s ch).cipherArea (q.nat 4) (q.nat 5) = true →
    overlaps (q.nat 3) (q.nat 5) (q.nat 4) (q.nat 5) = false → (begun s ch).keyFor (q.nat 1) 3 = .ok k →
    exec (.cipherCtr ch) s = .next (answered s ch 0x7005 stOk [] (((begun s ch).winWrite (q.nat 4)
      (ctrMode k.key 4 (q.bytes 2) (blocks (s.winRead (q.nat 3) (q.nat 5))))).hostUse (q.nat 1) (ceilDiv (q.nat 5) 16))))
  ∧ (∀ (s : State) (ch : Nat) (k : KeySlot) (q : Req), Asked s ch 0x7006 cmacSpec q → q.nat 1 ≤ 8191 → ((begun s ch).cipherQueue (s.pnat 0x7001)).length < 64 →
    q.nat 5 ≤ 16384 →
    (begun s ch).cipherArea (q.nat 3) (q.nat 5) = true → (begun s ch).keyFor (q.nat 1) 4 = .ok k →
    exec (.cipherCmac ch) s = .next (answered s ch 0x7006 stOk [⟨6, cmac k.key (s.winRead (q.nat 3) (q.nat 5))⟩]
      ((begun s ch).hostUse (q.nat 1) (1 + max 1 (ceilDiv (q.nat 5) 16)))))
  ∧ (∀ (s : State) (ch : Nat) (k : KeySlot) (q : Req), Asked s ch 0x7007 aeadSpec q → q.nat 1 ≤ 8191 → q.nat 6 = 1 →
    ((begun s ch).cipherQueue (s.pnat 0x7001)).length < 64 →
    (begun s ch).aeadFault q 13 (q.nat 7) (q.nat 7 + q.nat 9) = none → (begun s ch).keyFor (q.nat 1) 5 = .ok k →
    (let sealed := ccmSeal k.key (q.bytes 5) (s.winRead (q.nat 2) (q.nat 3)) (s.winRead (q.nat 4) (q.nat 7)) (q.nat 9)
     exec (.cipherSeal ch) s = .next (answered s ch 0x7007 stOk [⟨0xA, q.bytes 5⟩]
       ((((begun s ch).winWrite (q.nat 8) (sealed.1 ++ sealed.2)).bump .cipher 1).hostUse (q.nat 1) (aeadBlocks (q.nat 3) (q.nat 7))))))
  ∧ (∀ (s : State) (ch : Nat) (k : KeySlot) (q : Req), Asked s ch 0x7008 aeadSpec q → q.nat 1 ≤ 8191 →
    ((begun s ch).cipherQueue (s.pnat 0x7001)).length < 64 →
    (begun s ch).aeadFault q 13 (q.nat 7 + q.nat 9) (q.nat 7) = none → (begun s ch).keyFor (q.nat 1) 5 = .ok k →
    (begun s ch).rimeHeld (hostInst ch) = true ∨ (begun s ch).rimeReady ⟨hostInst ch, rimeNeed (q.nat 7), s.pnat 0x7001, []⟩ = true →
    (let opened := ccmOpen k.key (q.bytes 5) (s.winRead (q.nat 2) (q.nat 3)) (s.winRead (q.nat 4) (q.nat 7))
       (s.winRead (q.nat 4 + q.nat 7) (q.nat 9))
     let u := ((begun s ch).rimeFreeFor (hostInst ch)).hostUse (q.nat 1) (aeadBlocks (q.nat 3) (q.nat 7))
     (∀ p : Bytes, opened = some p →
       exec (.cipherOpen ch) s = .next (answered s ch 0x7008 stOk [] ((u.winWrite (q.nat 8) p).bump .cipher 2)))
     ∧ (opened = none → exec (.cipherOpen ch) s = .next (answered s ch 0x7008 stTag [] (u.bump .cipher 3)))))
  ∧ (∀ (s : State) (ch : Nat) (q : Req), Asked s ch 0x7004 rawSpec q → q.nat 1 ≤ 8191 → 64 ≤ ((begun s ch).cipherQueue (s.pnat 0x7001)).length →
    exec (.cipherRaw ch) s
      = .next (keptBack s ch 0x7004 [] (((begun s ch).bumpBy .cipher 6 (if (begun s ch).hasWaited q then 0 else 1)).awaitHost q)))
  ∧ (∀ (s u : State) (ch : Nat) (q : Req), Asked s ch 0x7009 { rows := [{ ty := 1, len := .exact 2 }] } q → 0 < q.nat 1 → q.nat 1 ≤ 256 →
    (begun s ch).drbgUse = (.served, u) →
    exec (.cipherRandom ch) s = .next (answered s ch 0x7009 stOk
      [⟨2, (List.range (q.nat 1)).map (fun i => BitVec.ofNat 8 (Config.free (u.freeCtr + i)))⟩]
      { u with freeCtr := u.freeCtr + q.nat 1 }))

/-- The engine's own events: a request completes, its blocks written and its completion in SRAM, a tag check ends, units are reserved, masks and shares are refreshed, the entropy
source passes, fails and is given up after three failures in a second, and a due reseed is served or what waits is refused. -/
def Obligations.CipherEngineEventsComplete : Prop :=
  (∀ (s : State) (queue : Nat) (r : CipherReq) (rest : List CipherReq) (use_ : Nat), s.awake = true → tget [] s.cipher.queues queue = r :: rest →
    r.graph = .other use_ →
    (let u : State := { s with cipher := { s.cipher with queues := tset s.cipher.queues queue rest } }
     exec (.cipherRequestComplete queue) s
       = .next (((((u.pipeOut r).cipherDone r 0 r.blocks).countUse r.slot).useBlocks r.blocks).retryNodes.serveHost)))
  ∧ (∀ (s : State) (id inst : Nat) (keyB : Bool) (k : RxCheck), s.awake = true → s.bb.checks.find? (fun k => k.id == id) = some k → k.waits = false →
    k.voidWait = false → k.hdr.beacon = none → s.rimeHeld (rxInst id) = true →
    (let u := s.modCheck id (fun c => { c with inst := some inst })
     exec (.tagCheckDone (.client id false keyB inst)) s = .next (((u.endCheck id).bump .cipher 3).ctxCount k.ctx kMicFail 1)
     ∧ exec (.tagCheckDone (.client id true keyB inst)) s = .next (u.clientPassed { k with keyB := keyB, inst := some inst })))
  ∧ (∀ (s : State) (r : RimeUse), s.awake = true → s.cipher.hostWait = [] → s.cc.waitNodes = [] → s.cipher.rimeWait = [r] → r.units ≤ s.rimeFree →
    exec (.rimeUnitsReserved r.inst) s
      = .next { s with cipher := { s.cipher with rimeUsed := s.cipher.rimeUsed ++ [r], rimeWait := [] } })
  ∧ (∀ s : State, s.awake = true → 4096 ≤ s.cipher.maskBlocks → s.entropyOk = true →
    exec .maskReseed s = .next { s with cipher := { s.cipher with maskBlocks := s.cipher.maskBlocks - 4096 } })
  ∧ (∀ (s u : State) (slot : Nat) (k : KeySlot), s.awake = true → tfind s.cipher.keys slot = some k → 65536 ≤ k.requests → s.drbgUse = (.served, u) →
    exec (.keyShareRefresh slot) s = .next (u.setKey slot { k with requests := k.requests - 65536 }))
  ∧ (∀ s : State, s.awake = true → s.cipher.entropyFailed = false →
    exec .entropyStartupPass s
      = .next (({ s with cipher := { s.cipher with entropyReady := true, maskLate := false } } : State).serveDrbg))
  ∧ (∀ s : State, s.awake = true → s.cipher.entropyFailed = false →
    (let fails := s.time.aon :: s.cipher.entropyFails.filter (fun t => decide (s.time.aon < t + 32768))
     let u := s.bump .cipher 14
     let v : State := { u with cipher := { u.cipher with entropyReady := false, entropyFails := fails } }
     (fails.length < 3 → exec (.entropyTestFail .repetition) s = .next v)
     ∧ (3 ≤ fails.length → exec (.entropyTestFail .repetition) s
         = .next ((({ v with cipher := { v.cipher with entropyFailed := true } } : State).serveDrbg).raise 0x7005
             [u8 EntropyTest.repetition.code, u8 (min 255 fails.length)]))))
  ∧ (∀ s : State, s.awake = true → s.reseedDue = true → s.entropyOk = true → exec .drbgReseed s = .next s.drbgSeed.serveDrbg)
  ∧ (∀ (s : State) (late : Nat × Req → Bool), s.awake = true → late = (fun p => s.ranUs (some p.1) 10000) →
    exec .drbgReseedWaitExpiry s = .next ((s.cipher.drbgWait.filter late).foldl (fun (s : State) p => s.release p.2.ch stEntropy [])
      { s with cipher := { s.cipher with drbgWait := s.cipher.drbgWait.filter (fun p => !late p) } }))

/-! ### The control cluster (11 R311-R337) -/

/-- Dataflow: a template's trigger that may start takes an instance; a node fires on free entries, or waits and counts; an operation that
completes frees its inputs and delivers its outputs; a cancelled instance is freed; a delay node makes its entry; due entries are
delivered; a watchdog withdraws an operation. -/
def Obligations.DataflowStartsFiresAndCompletes : Prop :=
  (∀ (s : State) (tpl : Nat) (roots : List (Nat × Nat)), s.live = true → (s.firstNode tpl).isSome = true → s.cc.waitTriggers = [] →
    s.canStart ⟨tpl, roots⟩ = true →
    (let u : State := { s with cc := { s.cc with waitTriggers := [] } }
     exec (.triggerStart tpl roots) s = .next (u.startInst ⟨tpl, roots⟩)))
  ∧ (∀ (s : State) (inst node : Nat) (req : Option CipherReq) (i : DfsInst) (n : TplNode), s.live = true → tfind s.cc.insts inst = some i →
    s.tplNode inst node = some n → i.cancelled = false → s.isRunning inst node = false → n.kind ≠ .delay →
    s.inputsPresent inst node n.inputs = true →
    (entryRule s.freeEntries n.outs.length n.prio n.completion = true →
      exec (.nodeFire inst node req) s = .next (s.acceptOp inst node n req))
    ∧ (entryRule s.freeEntries n.outs.length n.prio n.completion = false → (s.seenRows inst node).contains 100 = false →
      exec (.nodeFire inst node req) s = .next ((s.bump .cc 3).waitNode inst node req [100])))
  ∧ (∀ (s : State) (inst node : Nat) (o : RunningOp) (n : TplNode), s.live = true →
    s.cc.running.find? (fun o => o.inst == inst && o.node == node) = some o → s.tplNode inst node = some n → o.core = none →
    exec (.operationComplete (.op inst node)) s = .next (({ s with cc := { s.cc with
      ready := s.cc.ready.filter (fun x => ¬ (x.inst = inst ∧ x.node = node))
      quiet := if n.kind == UnitKind.core then 0 else s.cc.quiet } } : State).finishOp inst node n))
  ∧ (∀ (s : State) (inst : Nat) (i : DfsInst), s.live = true → tfind s.cc.insts inst = some i →
    exec (.instanceCancel inst) s = .next (((s.rimeFreeFor inst).closeInst inst i).afterFree)
    ∧ ((s.rimeFreeFor inst).cc.running.any (fun o => o.inst == inst) = false →
      (s.rimeFreeFor inst).closeInst inst i = (s.rimeFreeFor inst).freeInst inst))
  ∧ (∀ (s : State) (inst node : Nat) (i : DfsInst) (n : TplNode) (o : Nat × Nat) (l : List (Nat × Nat)), s.live = true →
    tfind s.cc.insts inst = some i → s.tplNode inst node = some n → i.cancelled = false → n.kind = .delay →
    s.inputsPresent inst node n.inputs = true → n.outs = o :: l → s.delayRoom (n.prio / 4) = true →
    (let e : DelayEntry := ⟨n.prio / 4, (s.time.raw + delayTicks n.delay (s.pnat 0x8001)) % 2 ^ 48, inst, o.1, o.2⟩
     let v := s.unwaitNode inst node
     let u := ({ v with cc := { v.cc with
       delays := s.cc.delays ++ [e]
       store := s.cc.store.filter (fun x => ¬ (x.inst = inst ∧ x.node = node)) } } : State).bump .cc 1
     exec (.delayNodeFire inst node) s = .next (if 2048 ≤ u.cc.delays.length then u.pressure 3 else u).afterFree))
  ∧ (∀ (s : State) (e : DelayEntry), s.live = true → 250 * (s.pnat 0x8001 : Int) ≤ 4 * sdiff 48 s.time.raw s.cc.scanned →
    s.cc.delays = [e] → s.entryDue e = true →
    (entryRule s.freeEntries 1 (4 * e.list) false = true →
      exec .delayEntryDue s = .next (({ s with cc := { s.cc with scanned := s.time.raw, delays := [] } } : State).deliverOperand
        ⟨e.inst, e.node, e.input⟩).afterFree)
    ∧ (entryRule s.freeEntries 1 (4 * e.list) false = false →
      exec .delayEntryDue s = .next ({ s with cc := { s.cc with scanned := s.time.raw } } : State).afterFree))
  ∧ (∀ (s : State) (inst node c : Nat) (o : RunningOp) (n : TplNode) (i : DfsInst), s.live = true → s.opHung inst node = true →
    s.cc.running.find? (fun o => o.inst == inst && o.node == node) = some o → s.tplNode inst node = some n →
    tfind s.cc.insts inst = some i → o.core = some c → (s.core c).jobs = [.op inst node n.prio] →
    (let u := ((s.setCore c { s.core c with st := .reset, jobs := [], signal := none }).bump .cc 7).logFault 1 c
       (i.tpl % 256 + node % 256 * 256)
     let d := u.dispatch inst node n
     ∀ k : Nat, d.1 = some k →
       exec (.opWatchdogExpiry inst node) s
         = .next ((d.2.setOpCore inst node (some k)).raise 0x8001 [u8 c, u8 i.tpl, u16 node, u8 k])))

/-- Interrupts and cores: a source becomes pending, or is held in its group until the group's count or its timer releases it; an
acknowledgement takes the signalled source, clears it and starts its handler, or is counted as spurious; masking withdraws a signal; cores
end their reset and are parked and unparked. What the cluster answers: the states of the eight cores, their loads, the entries in use and
the lowest number that was free since the last question, and each template with its live instances. -/
def Obligations.InterruptsAndCoresAreServed : Prop :=
  (∀ (s : State) (i : Nat), s.live = true → i < 512 → (s.irq i).group = none →
    exec (.irqSourceAssert i) s = .next (s.setIrq i { s.irq i with pending := true }))
  ∧ (∀ (s : State) (i g : Nat), s.live = true → i < 512 → (s.irq i).group = some g →
    (let gr := tget {} s.cc.groups g
     let u : State := { s with cc := { s.cc with groups := tset s.cc.groups g { gr with
       held := gr.held ++ [i], start := if gr.held = [] then s.time.raw else gr.start } } }
     (gr.held.length + 1 < gr.count → exec (.irqSourceAssert i) s = .next u)
     ∧ (gr.count ≤ gr.held.length + 1 → exec (.irqSourceAssert i) s = .next (u.releaseGroup g 12))))
  ∧ (∀ (s : State) (g : Nat), s.awake = true → g ≠ 63 → s.groupDue g = true →
    exec (.coalesceTimerExpiry g) s = .next (s.releaseGroup g 13))
  ∧ (∀ s : State, s.awake = true → s.groupDue 63 = true → exec (.coalesceTimerExpiry 63) s = .next (s.bump .cc 13).releaseHost)
  ∧ (∀ s : State, s.live = true → exec .irqArbitrate s = .next s.arbitrate
      ∧ (s.cc.irqs = [] → s.assignIrqs = [] → ∀ c < 8, (s.arbitrate.core c).signal = none))
  ∧ (∀ (s : State) (c : Nat), s.live = true → c < 8 → (s.core c).signal = none →
    exec (.irqAcknowledge c) s = .next ((s.setCore c { s.core c with ack := 2 ^ 31 }).bump .cc 9))
  ∧ (∀ (s : State) (c i : Nat), s.live = true → c < 8 → (s.core c).signal = some i →
    (let u := s.setIrq i { s.irq i with pending := false }
     exec (.irqAcknowledge c) s = .next ((u.setCore c { (s.core c).take (.handler i (s.irq i).level) with
       signal := none, ack := ackWord i (s.irq i).level }).bump .cc 8)))
  ∧ (∀ (s : State) (i : Nat) (mask : Bool), s.live = true → i < 512 →
    (s.setIrq i { s.irq i with masked := mask }).signalledTo i = none →
    exec (.irqSourceMask i mask) s = .next (s.setIrq i { s.irq i with masked := mask }))
  ∧ (∀ (s : State) (i c : Nat), s.live = true → i < 512 → (s.setIrq i { s.irq i with masked := true }).signalledTo i = some c →
    (let u := s.setIrq i { s.irq i with masked := true }
     exec (.irqSourceMask i true) s = .next (u.setCore c { u.core c with signal := none })))
  ∧ (∀ (s : State) (c : Nat), s.live = true → (s.core c).st = .reset →
    exec (.coreResetEnd c) s = .next ((s.setCore c { s.core c with st := .idle }).takeReady c))
  ∧ (∀ (s : State) (c : Nat), s.live = true → c < 8 → (s.core c).st = .idle → (s.core c).signal = none → s.pnat 0x8004 < s.unparked →
    exec (.corePark c true) s = .next (s.setCore c { s.core c with st := .parked }))
  ∧ (∀ (s : State) (c : Nat), s.live = true → c < 8 → (s.core c).st = .parked →
    exec (.corePark c false) s = .next ((s.setCore c { s.core c with st := .idle }).takeReady c))
  ∧ (∀ (s : State) (ch : Nat) (q : Req), Asked s ch 0x8001 noTlvs q →
    (let l := (begun s ch).loads
     exec (.ccStatusGet ch) s = .next (answered s ch 0x8001 stOk
       [⟨1, (List.range 8).map (fun c => BitVec.ofNat 8 (coreCode (l.2.core c).st))⟩, ⟨2, l.1⟩, ⟨3, boolByte l.2.cc.aocRunning⟩,
         tlvN 4 2 l.2.freeEntries, tlvN 5 2 l.2.cc.lowFree, tlvN 6 2 l.2.cc.insts.length, tlvN 7 2 l.2.cc.delays.length,
         tlvN 8 1 (l.2.pnat 0x8003)]
       { l.2 with cc := { l.2.cc with lowFree := l.2.freeEntries } })))
  ∧ (∀ (s : State) (ch : Nat) (q : Req), Asked s ch 0x8003 noTlvs q →
    exec (.dfsTemplateList ch) s = .next (answered s ch 0x8003 stOk
      ((begun s ch).cc.templates.map (fun p =>
        ⟨1, u8 p.1 ++ u8 0 ++ u16 p.2.version ++ u16 p.2.nodes.length ++ u16 (liveOf (begun s ch) p.1)⟩)) (begun s ch)))

/-! ### The router (12 R338-R373) -/

/-- A wire frame on a port that is up is dropped and counted as too short, too long or of bad FCS, in this order, or else counted with its
octets and taken into the pipeline with its time; the oldest packet of the radios and spans leaves the inbox. The router's other events:
an incomplete datagram whose time has passed is discarded and counted; at an age tick the clock advances modulo 65,536 and the tables are
swept; a gate entry drops what fits no opening; a port at its frame boundary sends. -/
def Obligations.RouterEventsTakeAndSendFrames : Prop :=
  (∀ (s : State) (p ago : Nat) (b : Bytes), p < 4 → s.awake = true → (s.ethPort p).up = true →
    (b.length < 64 → exec (.frameIngress (.wire p b ago)) s = .next (s.bump (.eth p) 4))
    ∧ (64 ≤ b.length → s.pnat (0xC014 + p) < b.length → exec (.frameIngress (.wire p b ago)) s = .next (s.bump (.eth p) 5))
    ∧ (64 ≤ b.length → b.length ≤ s.pnat (0xC014 + p) → u32 (crc32 (b.take (b.length - 4))) ≠ b.drop (b.length - 4) →
      exec (.frameIngress (.wire p b ago)) s = .next (s.bump (.eth p) 3))
    ∧ (64 ≤ b.length → b.length ≤ s.pnat (0xC014 + p) → u32 (crc32 (b.take (b.length - 4))) = b.drop (b.length - 4) →
      (let u := (s.bump (.eth p) 1).bumpBy (.eth p) 2 b.length
       exec (.frameIngress (.wire p b ago)) s
         = .next ((u.wireFrame p (b.take (b.length - 4)) (unsigned 64 (u.now - ago - u.pnat (0xB030 + p)))).pauseCheck))))
  ∧ (∀ (s : State) (k : InPkt) (l : List InPkt), s.awake = true → s.rt.inbox = k :: l →
    exec (.frameIngress .air) s = .next ((({ s with rt := { s.rt with inbox := l } } : State).airIngress k).pauseCheck))
  ∧ (∀ s : State, s.awake = true → ∃ t, exec .reasmTimeout s = .next t ∧ t.rt = s.rt ∧ t.mem = s.mem
    ∧ (∀ p ∈ t.firn.ctxs, ∀ r ∈ p.2.reasm, s.time.aon < r.began + s.pnat 0x9020 * 32768)
    ∧ t.ctr (.rt .air) 19 = min 0xFFFFFFFF (s.ctr (.rt .air) 19 + (s.firn.ctxs.map (fun p =>
        (p.2.reasm.filter (fun r => decide (r.began + s.pnat 0x9020 * 32768 ≤ s.time.aon))).length)).sum))
  ∧ (∀ s : State, s.awake = true → s.ageStep ≤ s.rawSince s.rt.ageAt →
    ∃ t, exec .ageTick s = .next t ∧ t.rt.age = (s.rt.age + 1) % 65536 ∧ t.rt.ageAt = (s.rt.ageAt + s.ageStep) % 2 ^ 48
    ∧ t.rt.fdb.fst = (sweepFdb ((s.rt.age + 1) % 65536) (s.pnat 0x9003) s.rt.fdb.fst).1
    ∧ t.rt.fdb.snd = (sweepFdb ((s.rt.age + 1) % 65536) (s.pnat 0x9003) s.rt.fdb.snd).1
    ∧ t.mem = s.mem ∧ t.nets = s.nets ∧ t.cipher = s.cipher)
  ∧ (∀ (s : State) (p : Nat), s.awake = true → p < 4 → exec (.gateEntry p) s = .next (s.dropHeads p))
  ∧ (∀ (s : State) (p q : Nat) (f : QFrame) (l : List QFrame), s.awake = true → p < 4 → s.activePorts p = [p] →
    (s.dropHeads p).pickQueue p = some (q, f, l) → (s.dropHeads p).laneFree p = true →
    (let u := ((s.dropHeads p).takeFrame p q f l).onLane p (withFcs f.octets)
     exec (.egressSend p) s = .next ((u.2.txStamp f.desc (some u.1) 0).pauseCheck)))

/-- The router's commands: an adaptation context, a shaper, a meter and a gate list are set; the status of a port's queues is told. -/
def Obligations.RouterCommandsSetAndTell : Prop :=
  (∀ (s : State) (ch : Nat) (n : Net) (q : Req), Asked s ch 0x9002 lowpanCtxSpec q → Net.ofNat? (q.nat 1) = some n → q.nat 2 ≤ 15 →
    q.nat 4 ≤ 128 → q.nat 5 ≤ 3 →
    (let c : LowCtx := ⟨beNat (q.bytes 3), q.nat 4, (q.nat 5).testBit 0, (q.nat 5).testBit 1⟩
     exec (.lowpanCtxSet ch) s = .next (answered s ch 0x9002 stOk [] { begun s ch with rt := { s.rt with
       lowpan := s.rt.lowpan.setNet n (tset (s.rt.lowpan.net n) (q.nat 2) c) } })))
  ∧ (∀ (s : State) (ch : Nat) (q : Req), Asked s ch 0xA001 shaperSpec q → shaperTargetOk (q.nat 2) (q.nat 3) = true →
    8 ≤ q.nat 4 → q.nat 4 ≤ 10000000 → 1600 ≤ q.nat 5 → q.nat 5 ≤ 16777215 → q.nat 6 ≤ 1 →
    (begun s ch).shaperTaken (q.nat 1) (q.nat 2) (q.nat 3) = false → q.has 7 = false →
    exec (.tmShaperSet ch) s = .next (answered s ch 0xA001 stOk [] { begun s ch with rt := { s.rt with
      shapers := tset s.rt.shapers (q.nat 1)
        ⟨q.nat 2, q.nat 3, q.nat 4, q.nat 5, if q.nat 6 = 1 then (q.nat 5 * byteUnit : Nat) else 0, s.time.raw⟩ } }))
  ∧ (∀ (s : State) (ch : Nat) (q : Req), Asked s ch 0xA002 meterSpec q → q.nat 1 ≤ 1023 → q.nat 2 ≤ 1 → q.nat 3 ≤ 1 →
    rateOk (leNat ((q.bytes 4).take 4)) = true → rateOk (leNat ((q.bytes 4).drop 4)) = true →
    sizeOk (leNat ((q.bytes 5).take 4)) = true → sizeOk (leNat ((q.bytes 5).drop 4)) = true → q.has 7 = false →
    (let acts := [0, 1, 2].map (fun i => (byteAt (q.bytes 6) (2 * i), byteAt (q.bytes 6) (2 * i + 1)))
     acts.all meterActOk = true →
     exec (.tmMeterSet ch) s = .next (answered s ch 0xA002 stOk [] ((begun s ch).setMeter (q.nat 1)
       ⟨q.nat 2, q.nat 3 == 1, leNat ((q.bytes 4).take 4), leNat ((q.bytes 4).drop 4), leNat ((q.bytes 5).take 4),
         leNat ((q.bytes 5).drop 4), acts, 0, 0, 0⟩))))
  ∧ (∀ (s : State) (ch : Nat) (l : GateList) (q : Req), Asked s ch 0xA003 gateSpec q → q.nat 1 ≤ 3 → q.nat 3 ≤ 256 →
    (begun s ch).areaOk (q.nat 2) (8 * q.nat 3) = true →
    readGates (s.winRead (q.nat 2) (8 * q.nat 3)) (q.nat 3) (q.nat 4) (q.nat 5) = some l → q.has 6 = false →
    (begun s ch).pbool (0xA010 + q.nat 1) = false →
    exec (.gateListSet ch) s = .next (answered s ch 0xA003 stOk [tlvN 7 8 (begun s ch).now64]
      { begun s ch with rt := { s.rt with gates := tset s.rt.gates (q.nat 1) l } }))
  ∧ (∀ (s : State) (ch : Nat) (q : Req), Asked s ch 0xA004 tmStatusSpec q → q.nat 1 < 4 → (begun s ch).gateOf (q.nat 1) = none →
    exec (.tmStatusGet ch) s = .next (answered s ch 0xA004 stOk
      [⟨2, (List.range 8).flatMap (fun i => u32 ((begun s ch).queueOctets (q.nat 1) i))⟩, tlvN 3 1 0xFF, tlvN 4 2 0,
        tlvN 5 4 (begun s ch).sramFree] (begun s ch)))

/-! ### Network time (13 R374-R392) -/

/-- TIME_GET returns network time with its bound, the counters, the quality byte, the state and both corrections; TIME_ADJUST, for source
1, adds to the frequency, steps the clock or sets the phase correction, takes the bound and locks. Events of network time: a fold leaves
the present where it is; a compare fires every trigger that has come; a lost source leaves holdover with the frequency kept; the bound's
alarm is raised in both directions; PPS edges are counted, feed the servo and are made. -/
def Obligations.NetworkTimeIsToldAndKept : Prop :=
  (∀ (s : State) (ch : Nat) (q : Req), Asked s ch 0xB001 noTlvs q →
    exec (.timeGet ch) s = .next (answered s ch 0xB001 stOk
      [tlvN 1 8 (begun s ch).now64, tlvN 2 4 s.time.bound, tlvN 3 8 s.time.raw, tlvN 4 8 s.time.aon, tlvN 5 1 (begun s ch).tq,
        tlvN 6 1 s.time.state.code, ⟨7, leInt 8 s.time.cf⟩, ⟨8, leInt 8 s.time.cp⟩] (begun s ch)))
  ∧ (∀ (s : State) (ch : Nat) (q : Req), Asked s ch 0xB002 timeAdjustSpec q → (begun s ch).source = 1 → q.nat 1 ≤ 1 →
    q.nat 1 = 0 ∨ (q.int 2).natAbs ≤ s.pnat 0xB004 ∨ (begun s ch).scheduleRuns = false →
    (let u := (begun s ch).fold
     let v := if q.int 3 = 0 then u else u.setCf (u.time.cf + q.int 3)
     let w := if q.nat 1 = 1 then v.stepClock (q.int 2) else v.setCp (rateOf (q.int 2) (v.pnat 0xB002))
     exec (.timeAdjust ch) s = .next (answered s ch 0xB002 stOk [] ((w.setBound (q.nat 4)).lockSource))))
  ∧ (∀ (s : State) (ch : Nat) (q : Req), Asked s ch 0xB002 timeAdjustSpec q → (begun s ch).source ≠ 1 →
    exec (.timeAdjust ch) s = .next (answered s ch 0xB002 0xB102 [] (begun s ch)))
  ∧ (∀ s : State, s.awake = true → exec .rawRefFold s = .next { s with time := { s.time with offset := s.now, rawRef := s.time.raw } })
  ∧ (∀ s : State, s.awake = true → ∃ t, exec .triggerCompareFire s = .next t ∧ { t with time := s.time } = s
    ∧ t.time.fired = s.time.fired ++ dueTriggers s.now s.time.triggers
    ∧ ∀ x : Trigger, x ∈ t.time.triggers ↔ x ∈ s.time.triggers ∧ s.now < x.target)
  ∧ (∀ s : State, s.awake = true → s.time.state = .locked → s.sourceLost = true → ∃ t, exec .timeSourceLoss s = .next t ∧ t.time.state = .holdover ∧ t.time.cp = 0
    ∧ t.time.cf = s.time.cf ∧ t.time.offset = s.now ∧ t.ctr .time 4 = min 0xFFFFFFFF (s.ctr .time 4 + 1) ∧ t.mem = s.mem)
  ∧ (∀ s : State, s.awake = true → (s.pnat 0xB007 < s.time.bound → s.time.aboveAlarm = false →
      exec .timeBoundAlarm s
        = .next (({ s with time := { s.time with aboveAlarm := true } } : State).raise 0xB003 [u32 s.time.bound, boolByte true]))
    ∧ (s.time.bound ≤ s.pnat 0xB007 → s.time.aboveAlarm = true →
      exec .timeBoundAlarm s
        = .next (({ s with time := { s.time with aboveAlarm := false } } : State).raise 0xB003 [u32 s.time.bound, boolByte false])))
  ∧ (∀ s : State, s.awake = true →
    (max (s.pnat 0xB020) s.time.bound < (secondPhase s.now).natAbs → exec .ppsInEdge s = .next (s.bump .time 7))
    ∧ ((secondPhase s.now).natAbs ≤ max (s.pnat 0xB020) s.time.bound →
      (let u := s.bump .time 6
       exec .ppsInEdge s = .next (if u.source = 2 then u.servo (-secondPhase s.now) (u.pnat 0xB021) else u))))
  ∧ (∀ s : State, s.awake = true →
    (s.time.ppsOut = true → s.time.ppsFall ≤ s.now → exec .ppsOutEdge s = .next { s with time := { s.time with ppsOut := false } })
    ∧ (s.time.ppsOut = false → (secondPhase s.now).natAbs ≤ 4 → s.pins.ppsDriven = true →
      s.pnat 0xB022 = 1 ∨ (s.pnat 0xB022 = 2 ∧ s.time.bound ≤ s.pnat 0xB024) →
      exec .ppsOutEdge s = .next (({ s with time := { s.time with
        ppsOut := true, ppsFall := s.now - secondPhase s.now + (1000 * s.pnat 0xB023 : Nat) } } : State).bump .time 8)))

/-- A device that holds the cap token runs on source 0 where its parameter says 5; every other device, and every other value, takes
`time.source` as set. -/
def Obligations.HolderReadsSourceFiveAsZero : Prop :=
  ∀ s : State, (s.serial.casc.holder = true → s.pnat 0xB001 = 5 → s.source = 0)
    ∧ (s.serial.casc.holder = true → s.pnat 0xB001 ≠ 5 → s.source = s.pnat 0xB001)
    ∧ (s.serial.casc.holder = false → s.source = s.pnat 0xB001)

/-! ### Serial lanes and the cascade (14 R393-R419) -/

/-- A lane's bring-up, its loss and its tests: each step moves one state on, the last with EV_LANE_UP; a loss is counted and goes back; a
checker locks and loses lock; a timed test ends. The commands on lanes and Ethernet ports: status, tests, error counts, retraining, the
port's status, and the PHY's registers; and a port's link comes up as its lane is up. -/
def Obligations.LanesAndPortsAreBroughtUpAndServed : Prop :=
  (∀ (s : State) (i : Nat), s.serdesOn = true →
    ((s.serLane i).st = .acquire → exec (.laneCdrLock i) s = .next (s.setSerLane i { s.serLane i with st := .align }))
    ∧ (∀ inv : Bool, (s.serLane i).st = .align →
      exec (.laneCommaFound i inv) s = .next (s.setSerLane i { s.serLane i with st := .sync, inverted := inv }))
    ∧ ((s.serLane i).st = .sync →
      exec (.laneSyncDone i) s = .next ((s.setSerLane i { s.serLane i with st := .up, markers := 0 }).raise 0xC001 [u8 i]))
    ∧ (∀ lost : Nat, (s.serLane i).st = .up →
      (let u := if i < 4 then s.bump (.eth i) 8 else s.bump .casc 9
       exec (.laneSyncLoss i true lost) s = .next (u.laneDrop i .acquire 0 lost (some 0)))))
  ∧ (∀ (s : State) (i : Nat), s.serdesOn = true → (s.serLane i).st = .test → (s.serLane i).timed = true →
    s.ranMs (s.serLane i).testAt (s.serLane i).testMs = true →
    exec (.laneTestEnd i) s = .next (s.setSerLane i { s.serLane i with st := .acquire, locked := false, timed := false }))
  ∧ (∀ (s : State) (i : Nat), s.serdesOn = true → (s.serLane i).checks = true →
    exec (.prbsLock i) s = .next (s.setSerLane i { s.serLane i with locked := true }))
  ∧ (∀ (s : State) (i bits errors : Nat), s.serdesOn = true →
    exec (.prbsLockLoss i bits errors) s
      = .next (s.setSerLane i { (s.serLane i).count bits errors with locked := false }))
  ∧ (∀ (s : State) (ch invalid : Nat) (q : Req), Asked s ch 0xC001 laneSpec q → q.nat 1 ≤ 7 →
    (let l := s.serLane (q.nat 1)
     exec (.laneStatusGet ch invalid) s = .next (answered s ch 0xC001 stOk
       [tlvN 2 1 l.st.code, tlvN 3 2 ((begun s ch).laneRate (q.nat 1)), ⟨4, boolByte l.inverted⟩,
         tlvN 5 4 (min 0xFFFFFFFF (l.invalid + invalid))]
       ((begun s ch).setSerLane (q.nat 1) { l with invalid := 0 }))))
  ∧ (∀ (s : State) (ch : Nat) (q : Req), Asked s ch 0xC002 laneTestSpec q → q.nat 1 ≤ 7 → s.board.isSome = true →
    (begun s ch).laneUsed (q.nat 1) = true → 0 < q.nat 2 → q.nat 2 ≤ 4 → q.nat 3 ≤ 3 →
    (let u := (begun s ch).laneDrop (q.nat 1) .test 2 0 none
     exec (.laneTest ch) s = .next (answered s ch 0xC002 stOk [] (u.setSerLane (q.nat 1)
       { u.serLane (q.nat 1) with mode := q.nat 2, pattern := q.nat 3, timed := q.nat 4 != 0, testAt := u.time.aon, testMs := q.nat 4 }))))
  ∧ (∀ (s : State) (ch bits errors : Nat) (q : Req), Asked s ch 0xC003 radioClearSpec q → q.nat 1 ≤ 7 → q.nat 2 ≤ 1 →
    (let l := (s.serLane (q.nat 1)).count bits errors
     exec (.lanePrbsGet ch bits errors) s = .next (answered s ch 0xC003 stOk
       [⟨3, boolByte l.locked⟩, tlvN 4 4 l.errors, tlvN 5 8 l.bits]
       ((begun s ch).setSerLane (q.nat 1) (if q.nat 2 = 1 then { l with errors := 0, bits := 0 } else l)))))
  ∧ (∀ (s : State) (ch : Nat) (q : Req), Asked s ch 0xC004 laneSpec q → q.nat 1 ≤ 7 → s.board.isSome = true →
    (begun s ch).laneUsed (q.nat 1) = true → (s.serLane (q.nat 1)).st ≠ .up →
    exec (.laneRetrain ch) s = .next (answered s ch 0xC004 stOk []
      (((begun s ch).laneDrop (q.nat 1) .acquire 3 0 none).raise 0xC002 [u8 (q.nat 1), u8 3])))
  ∧ (∀ (s : State) (ch : Nat) (q : Req), Asked s ch 0xC005 laneSpec q → q.nat 1 ≤ 3 →
    (let x := s.ethPort (q.nat 1)
     exec (.ethStatusGet ch) s = .next (answered s ch 0xC005 stOk
       [⟨2, boolByte x.up⟩, tlvN 3 2 x.speed, tlvN 4 2 x.abilities, ⟨5, boolByte (x.up && x.active)⟩] (begun s ch))))
  ∧ (∀ (s : State) (b : Board), s.board = some b →
    (∀ (ch : Nat) (reply : Option Nat) (q : Req), Asked s ch 0xC007 { rows := mdioRows } q → q.nat 2 = 22 → q.nat 4 ≤ 31 →
      b.ports.any (fun p => p.phy == q.nat 1) = true →
      exec (.mdioRead ch reply) s = .next (answered s ch 0xC007 stOk [tlvN 5 2 (reply.getD 0xFFFF)]
        (({ begun s ch with pins := { s.pins with mdcDriven := true } } : State).noteMdio q none)))
    ∧ (∀ (ch : Nat) (q : Req), Asked s ch 0xC008 { rows := mdioRows ++ [{ ty := 5, len := .exact 2 }] } q → q.nat 2 = 22 → q.nat 4 ≤ 31 →
      b.ports.any (fun p => p.phy == q.nat 1) = true →
      exec (.mdioWrite ch) s = .next (answered s ch 0xC008 stOk []
        (({ begun s ch with pins := { s.pins with mdcDriven := true } } : State).noteMdio q (some (q.nat 5))))))
  ∧ (∀ (s : State) (p speed abilities : Nat), p < 4 → s.portRole p ≠ 0 → s.serdesOn = true → (s.serLane p).st = .up → (s.ethPort p).up = false →
    (let v := s.ethSpeed p speed
     exec (.ethLinkChange p true speed abilities false) s = .next ((s.setEth p { s.ethPort p with
       abilities := abilities % 65536, up := true, speed := v, active := s.portRole p == 2 }).raise 0xC003 [u8 p, boolByte true, u16 v])))

/-- The cascade's packets: a second marker makes a lane active; LINK, DATA, PAUSE, TIME_SYNC and TIME_REPLY packets for this device act; a
stopped queue resumes; the times are asked for. The cap token: announcing and hearing of it, yielding it where the line shows another
holder or a better claim is heard, ending a dispute, and taking it with a new, stored epoch; and the commands that release it and tell of
it. -/
def Obligations.CascadePacketsAndTokenAct : Prop :=
  (∀ (s : State) (i far p : Nat), s.awake = true → s.lanePeer i = some p → (s.serLane (i + 4)).st = .up → 0 < (s.serLane (i + 4)).markers →
    (s.link p).rx.testBit i = false →
    (let u := s.setSerLane (i + 4) { s.serLane (i + 4) with markers := min 2 ((s.serLane (i + 4)).markers + 1), far := far % 4 }
     exec (.cascMarkerRx (i + 4) far) s
       = .next ((u.cascFresh.putLink p (u.link p).tx ((u.link p).rx + 2 ^ i)).sendLink p)))
  ∧ (∀ (s u : State) (peer lost : Nat) (packet p : Bytes) (h : CascHdr), s.cascTake peer 6 packet = (some (h, p), u) →
    (let tx := byteAt p 0 &&& (List.range 4).foldl (fun m i => if u.lanePeer i = some peer then m + 2 ^ i else m) 0
     tx ≠ (u.link peer).tx →
     exec (.cascLinkRx peer packet lost) s = .next ((u.putLink peer tx (u.link peer).rx).bumpBy .casc 4 lost)))
  ∧ (∀ (s u : State) (peer : Nat) (packet b : Bytes) (h : CascHdr) (k : Pkt), s.awake = true → s.cascTake peer 1 packet = (some (h, b), u) →
    (u.bump .casc 2).admitPkt (Pkt.ofFrame .wire 4 (b.take (b.length - 4))) = .ok k →
    exec (.cascDataRx peer packet) s = .next (((((u.bump .casc 2).peerLearn k.vid k.eth.src peer).pipeline
      (Pkt.ofFrame .wire 4 (b.take (b.length - 4)))).pauseCheck)))
  ∧ (∀ (s u : State) (peer : Nat) (packet p : Bytes) (h : CascHdr), s.cascTake peer 5 packet = (some (h, p), u) →
    exec (.cascPauseRx peer packet) s = .next (u.setLink peer { u.link peer with
      stopped := [4, 5, 6, 7].foldl (fun (t : Tab Int) q =>
        if (byteAt p 0).testBit q then tset t q (u.now + 100000) else tdel t q) (u.link peer).stopped }))
  ∧ (∀ (s : State) (peer queue : Nat) (t : Int), s.awake = true → tfind (s.link peer).stopped queue = some t → t ≤ s.now →
    exec (.cascPauseTimeout peer queue) s
      = .next (s.setLink peer { s.link peer with stopped := tdel (s.link peer).stopped queue }))
  ∧ (∀ (s : State) (h : Nat), s.source = 5 → s.awake = true → s.dueUs s.casc.asked (1000 * s.pnat 0xC034) = true →
    s.casc.holderId = some h → s.linkUp h = true →
    (let u := s.setCasc { s.casc with asked := some s.time.raw }
     s.sourceLost = false ∨ s.time.state ≠ .locked →
     exec .cascTimeSyncSend s = .next (u.cascFresh.cascSend h 3 0 0 (u64 s.now64))))
  ∧ (∀ (s u : State) (peer ago : Nat) (packet p : Bytes) (h : CascHdr), s.cascTake peer 3 packet = (some (h, p), u) →
    u.casc.holder = true → u.casc.dispute = none → u.linkUp peer = true →
    exec (.cascTimeSyncRx peer packet ago) s
      = .next (u.cascFresh.cascSend peer 4 0 0 (padTo 8 p ++ u64 (unsigned 64 (u.now - ago)) ++ u64 u.now64)))
  ∧ (∀ (s u : State) (peer ago : Nat) (packet p : Bytes) (h : CascHdr), s.cascTake peer 4 packet = (some (h, p), u) →
    u.holderIs peer = true → u.linkUp peer = true →
    (let t1 := signed 64 (leNat (p.take 8))
     let t2 := signed 64 (leNat ((p.drop 8).take 8))
     let t3 := signed 64 (leNat ((p.drop 16).take 8))
     let t4 := u.now - ago
     let r := u.roundOpenInt (t2 - t1 + (t3 - t4)) 2
     let v := r.2.setCasc { r.2.casc with applied := some r.2.now }
     t4 - t1 - (t3 - t2) ≤ (u.pnat 0xC035 : Int) →
     exec (.cascTimeReplyRx peer packet ago) s
       = .next (v.servo r.1 (2 ^ (v.casc.holderTq / 4) + 8 + v.pnat 0xC036))))
  ∧ (∀ s : State, s.cascDecl.isSome = true → s.awake = true → s.dueUs s.casc.announced (s.pnat 0xC031) = true →
    exec .cascAnnounceSend s = .next s.announce)
  ∧ (∀ s : State, s.awake = true → s.casc.holder = true → s.dueUs s.casc.sampled (s.pnat 0xC031) = true →
    (let u := s.setCasc { s.casc with sampled := some s.time.raw }
     exec (.cascHoldSample false) s = .next (u.yieldToken none) ∧ exec (.cascHoldSample true) s = .next u))
  ∧ (∀ (s u : State) (peer : Nat) (packet p : Bytes) (h : CascHdr), s.cascTake peer 2 packet = (some (h, p), u) → h.flags.testBit 0 = true →
    (let v := u.setCasc { u.casc with heardHolder := some u.now, holderTq := byteAt p 1 }
     (u.casc.holder = true → exec (.cascAnnounceRx peer packet) s = .next (v.contest h))
     ∧ (u.casc.holder = false → u.casc.holderId = some peer → exec (.cascAnnounceRx peer packet) s = .next v)
     ∧ (u.casc.holder = false → u.casc.holderId = none →
       exec (.cascAnnounceRx peer packet) s = .next (v.setCasc { v.casc with holderId := some peer }))))
  ∧ (∀ (s : State) (d : Dispute), s.awake = true → s.casc.dispute = some d → d.heard + (s.pnat 0xC033 * s.pnat 0xC031 * 1000 : Nat) ≤ s.now →
    exec .disputeClear s = .next (s.setCasc { s.casc with dispute := none }))
  ∧ (∀ s : State, s.cascDecl.isSome = true → s.awake = true → s.pbool 0xC030 = true → s.casc.holder = false → s.casc.taking = none →
    s.holderSilent = true →
    exec .cascTakeWaitMet s = .next ((s.setCasc { s.casc with
      taking := some ((max s.storedEpoch s.casc.epoch + 1) % 2 ^ 32, false) }).recordFor 0x0600 false [deviceOwner]))
  ∧ (∀ (s : State) (e : Nat), s.awake = true → s.casc.taking = some (e, true) →
    exec (.cascTakeDrive false) s = .next (s.setCasc { s.casc with taking := none })
    ∧ (let u := s.setCasc { s.casc with
         taking := none, holder := true, driving := true, epoch := e, claim := e, holderId := some s.cascId }
       exec (.cascTakeDrive true) s = .next ((((u.bump .casc 10).raiseMaster).changeSource s.source).announce)))
  ∧ (∀ (s : State) (ch : Nat) (q : Req), Asked s ch 0xC00B noTlvs q →
    (s.casc.holder = true → exec (.cascRelease ch) s = .next (answered s ch 0xC00B stOk [] ((begun s ch).yieldToken none)))
    ∧ (s.casc.holder = false → exec (.cascRelease ch) s = .next (answered s ch 0xC00B stNotHolder [] (begun s ch))))
  ∧ (∀ (s : State) (ch : Nat) (q : Req), Asked s ch 0xC009 noTlvs q →
    exec (.cascStatusGet ch) s = .next (answered s ch 0xC009 stOk
      [tlvN 1 1 (begun s ch).cascId, tlvN 2 1 (begun s ch).cascRole, tlvN 3 4 s.casc.epoch, tlvN 4 1 (s.casc.holderId.getD 0xFF),
        ⟨5, (List.range 4).flatMap (fun p => u8 ((s.link p).tx + 16 * (s.link p).rx))⟩] (begun s ch)))

/-! ### Memory (15 R420-R444) -/

/-- The DRAM's upkeep: a refresh due in panic is postponed up to eight; the hottest MR4 code sets the interval, code 7 with its event; an
activate is counted and its neighbours are refreshed at the threshold, the count returning to 0; panic begins and ends by its levels;
self-refresh is entered and left, and a request before SRE cancels the entry; delays moved for drift, scrubs and corrected errors are
counted. Training and errors: a step that passes leads to the next one, then to the next rank, and the last one makes the DRAM ready and
BOOT 4 with its event; a failed one is reported and goes on at the next lower rate, or fails; a corrected error is counted and logged, an
uncorrected one is reported with what it loses; a channel's status is told. -/
def Obligations.DramIsKeptTrainedAndReported : Prop :=
  (∀ (s : State) (chan : Nat), s.ddrServes chan = true → (s.ddrChan chan).selfRefresh = false →
    ((s.ddrChan chan).refreshWait : Int) ≤ 4 * sdiff 48 s.time.raw (s.ddrChan chan).refAt →
    (s.ddrPanic = true → (s.ddrChan chan).postponed < 8 → exec (.dramRefresh chan) s = .next ((s.setDdrChan chan { s.ddrChan chan with
      refAt := s.time.raw, refreshWait := (s.ddrChan chan).refreshNs, postponed := (s.ddrChan chan).postponed + 1 }).bump .mem 9))
    ∧ (s.ddrPanic = false ∨ 8 ≤ (s.ddrChan chan).postponed →
      exec (.dramRefresh chan) s = .next (s.setDdrChan chan { s.ddrChan chan with
        refAt := s.time.raw, refreshWait := (s.ddrChan chan).refreshNs })))
  ∧ (∀ (s : State) (chan a b : Nat), s.ddrServes chan = true → s.dueUs (s.ddrChan chan).mr4At 16000 = true → a < 8 → b < 8 →
    (let hot := max a b
     let u := s.setDdrChan chan { s.ddrChan chan with
       mr4 := tset (tset (s.ddrChan chan).mr4 0 a) 1 b
       mr4At := some s.time.raw
       refreshNs := if hot ≤ 3 then 3904 else if hot = 4 then 1952 else 976
       slowTimings := decide (6 ≤ hot) }
     let v := u.bump .mem 11
     (hot ≠ 7 → exec (.mr4Read chan [a, b]) s = .next u)
     ∧ (hot = 7 → (s.ddrChan chan).overtempAt = none → exec (.mr4Read chan [a, b]) s
         = .next ((v.setDdrChan chan { u.ddrChan chan with overtempAt := some s.time.aon }).raise 0xD006 [u8 chan, u8 7]))
     ∧ (∀ t : Nat, hot = 7 → (s.ddrChan chan).overtempAt = some t → s.time.aon < t + 60 * 32768 →
         exec (.mr4Read chan [a, b]) s = .next v)))
  ∧ (∀ (s : State) (chan bank row : Nat), s.ddrServes chan = true →
    (let t := rhActivate (tget [] (s.ddrChan chan).rh bank) row
     ((∀ e ∈ t, e.row = row → e.count < s.pnat 0xD013) →
       exec (.rhThresholdRefresh chan bank row) s
         = .next (s.setDdrChan chan { s.ddrChan chan with rh := tset (s.ddrChan chan).rh bank t }))
     ∧ ((∃ e ∈ t, e.row = row ∧ s.pnat 0xD013 ≤ e.count) →
       exec (.rhThresholdRefresh chan bank row) s = .next ((s.setDdrChan chan { s.ddrChan chan with
         rh := tset (s.ddrChan chan).rh bank (t.map (fun e => if e.row = row then { e with count := 0 } else e)) }).bump .mem 10))))
  ∧ (∀ (s : State) (chan : Nat), s.ddrServes chan = true → s.ranUs (some (s.ddrChan chan).rhAt) 32000 = true →
    exec (.rhTableClear chan) s = .next (s.setDdrChan chan { s.ddrChan chan with rh := [], rhAt := s.time.raw }))
  ∧ (∀ (s : State) (level : Nat), s.awake = true → s.ddrReady = true → s.ddr.panicFirn = false → s.panicThreshold .firn ≤ level →
    exec (.panicEntry .firn level) s = .next ((s.wakeDram.setPanic .firn true).bump .mem 7))
  ∧ (∀ (s : State) (level : Nat), s.awake = true → s.ddrReady = true → s.ddr.panicTxf = false → s.panicThreshold .txf ≤ level →
    exec (.panicEntry .txf level) s = .next ((s.wakeDram.setPanic .txf true).bump .mem 8))
  ∧ (∀ (s : State) (level : Nat), s.awake = true → s.ddr.panicFirn = true → s.ddr.panicTxf = false → 2 * level < s.panicThreshold .firn →
    ∃ t, exec (.panicExit .firn level) s = .next t ∧ t.ddr.panicFirn = false ∧ (∀ p ∈ t.ddr.chans, p.2.postponed = 0)
      ∧ { t with ddr := s.ddr } = s)
  ∧ (∀ (s : State) (chan : Nat), s.ddrServes chan = true → s.pnat 0xD014 ≠ 0 → s.ddrPanic = false →
    (s.ddrChan chan).selfRefresh = false → s.ranUs (some (s.ddrChan chan).busyAt) (s.pnat 0xD014) = true →
    exec (.selfRefreshEntry chan) s = .next ((s.setDdrChan chan { s.ddrChan chan with selfRefresh := true }).bump .mem 12))
  ∧ (∀ (s : State) (chan : Nat), s.ddrServes chan = true → (s.ddrChan chan).selfRefresh = true →
    exec (.selfRefreshExit chan false) s
      = .next ((s.setDdrChan chan { s.ddrChan chan with selfRefresh := false, busyAt := s.time.raw }).bump .mem 14))
  ∧ (∀ (s : State) (chan : Nat), s.ddrServes chan = true → s.srDue chan = true →
    exec (.selfRefreshExit chan true) s
      = .next ((s.setDdrChan chan { s.ddrChan chan with selfRefresh := false, busyAt := s.time.raw }).bump .mem 13))
  ∧ (∀ (s : State) (chan rank : Nat) (drift : Int), s.ddrServes chan = true →
    s.dueUs (tfind (s.ddrChan chan).dqsAt rank) (1000 * s.pnat 0xD015) = true → drift.natAbs ≤ 16 →
    (let c := { s.ddrChan chan with
        dqsAt := tset (s.ddrChan chan).dqsAt rank s.time.raw, drift := tset (s.ddrChan chan).drift rank drift }
     ((drift - tget 0 (s.ddrChan chan).driftMoved rank).natAbs ≤ 2 →
       exec (.dqsOscCheck chan rank drift) s = .next (s.setDdrChan chan c))
     ∧ (2 < (drift - tget 0 (s.ddrChan chan).driftMoved rank).natAbs →
       exec (.dqsOscCheck chan rank drift) s = .next ((s.setDdrChan chan { c with
         driftMoved := tset (s.ddrChan chan).driftMoved rank drift }).bump .mem 15))))
  ∧ (∀ s : State, s.awake = true → s.ddrReady = true → s.dramEcc = true → s.pnat 0xD016 ≠ 0 →
    s.ranMs s.ddr.scrubAt (3600000 * s.pnat 0xD016) = true →
    exec .scrubPass s = .next (({ s with ddr := { s.ddr with scrubAt := s.time.aon } } : State).bump .mem 16))
  ∧ (∀ (s : State) (bank n : Nat), s.awake = true → bank < 32 → s.ranMs (tget 0 s.ddr.bankAt bank) 3600000 = true → 0 < n →
    (let u : State := { s with ddr := { s.ddr with bankAt := tset s.ddr.bankAt bank s.time.aon } }
     exec (.sramScrub bank n) s = .next ((u.bumpBy .mem 1 n).logCe 0 bank 0)))
  ∧ (∀ (s : State) (b : Board) (chan : Nat), s.awake = true → s.board = some b → s.ddr.phase = .training →
    chan < s.ddrChans →
    (s.ddr.trainStep < 4 →
      exec (.trainingStepDone true chan []) s = .next { s with ddr := { s.ddr with trainStep := s.ddr.trainStep + 1 } })
    ∧ (4 ≤ s.ddr.trainStep → s.ddr.trainRank + 1 < b.ddr.ranks →
      exec (.trainingStepDone true chan []) s
        = .next { s with ddr := { s.ddr with trainStep := 0, trainRank := s.ddr.trainRank + 1 } })
    ∧ (4 ≤ s.ddr.trainStep → b.ddr.ranks ≤ s.ddr.trainRank + 1 → s.sys.boot = 3 →
      (let u : State := { s with ddr := { s.ddr with phase := .ready, scrubAt := s.time.aon, rate := s.ddr.trainRate, trainStep := 0, trainRank := 0 } }
       exec (.trainingStepDone true chan []) s = .next ((u.setBoot 4).raise 0x0002 [u8 4])))
    ∧ (let u := s.raise 0xD004 [u16 s.ddr.trainRate, u8 s.ddr.trainStep, u8 chan, u8 s.ddr.trainRank]
       (∀ r : Nat, lowerRate s.ddr.trainRate = some r → exec (.trainingStepDone false chan []) s
         = .next { u with ddr := { s.ddr with trainRate := r, trainRank := 0, trainStep := 0 } })
       ∧ (lowerRate s.ddr.trainRate = none → exec (.trainingStepDone false chan []) s
         = .next { u with ddr := { s.ddr with phase := .failed } })))
  ∧ (∀ (s : State) (e : EccError), s.awake = true → e.mem = .sram →
    (e.double = false → exec (.eccErrorDetected e) s = .next ((s.bump .mem 1).logCe 0 e.bank 0))
    ∧ (e.double = true → exec (.eccErrorDetected e) s
        = .next (((s.bump .mem 2).raise 0xD005 [u8 e.mem.code, u32 e.addr, u8 e.unit]).eccLost e)))
  ∧ (∀ (s : State) (ch : Nat) (q : Req), Asked s ch 0xD002 { rows := [{ ty := 1, len := .exact 1 }] } q → q.nat 1 < partChannels →
    (let c := (begun s ch).ddrChan (q.nat 1)
     exec (.ddrStatusGet ch) s = .next (answered s ch 0xD002 stOk
       [tlvN 2 1 s.ddr.phase.code, tlvN 3 2 s.ddr.rate, ⟨4, u8 (tget 0 c.mr4 0) ++ u8 (tget 0 c.mr4 1)⟩, tlvN 5 2 c.refreshNs,
         tlvN 6 1 c.postponed, ⟨7, c.eyes⟩, ⟨8, leInt 1 (tget 0 c.drift 0) ++ leInt 1 (tget 0 c.drift 1)⟩] (begun s ch))))

/-! ### Power states (16 R446-R460) -/

/-- The power states are entered and left: DOZE gates every idle core; NAP starts from DOZE without a blocker and ends by a latched source
that wakes; HIBERNATE starts after its preparation and ends by such a source; the always-on timer latches its source and starts over;
the status is told, and cleared where that is asked. -/
def Obligations.PowerStatesAreEnteredAndLeft : Prop :=
  (∀ s : State, s.live = true → s.sys.pstate = .active → (∀ i < 8, (s.core i).st = .idle ∨ (s.core i).st = .parked) →
    s.ranUs s.pwr.dozeSince (s.pnat 0xE001) = true →
    ∃ t, exec .dozeEntry s = .next t ∧ t.sys.pstate = .doze ∧ t.ctr .pwr 1 = min 0xFFFFFFFF (s.ctr .pwr 1 + 1)
      ∧ (∀ i < 8, (s.core i).st = .idle → (t.core i).st = .gated) ∧ t.mem = s.mem ∧ t.nets = s.nets ∧ t.time = s.time)
  ∧ (∀ s : State, s.live = true → s.sys.pstate = .doze → s.napBlockers = 0 → s.ranUs s.pwr.napSince (s.pnat 0xE003) = true →
    exec (.napEntry []) s = .next ((s.sleep .nap).bump .pwr 2))
  ∧ (∀ (s : State) (w : WakeSource), s.sys.hold.held = false → s.sys.pstate = .nap → s.latched w = true → s.wakes w true = true →
    w ≠ .scheduled → exec (.napExit w) s = .next (s.endNap w))
  ∧ (∀ (s u : State), s.live = true → s.sys.pstate = .doze → s.hibRun = true →
    (State.prepRecords (s.imageRecords s.imageStale ++ [0x0400, 0x0300]) s = (true, u) →
      exec (.hibernatePrepare []) s = .next u.enterHibernate)
    ∧ (State.prepRecords (s.imageRecords s.imageStale ++ [0x0400, 0x0300]) s = (false, u) →
      exec (.hibernatePrepare []) s = .next (({ u with pwr := { u.pwr with hibSince := some u.time.aon } } : State).bump .pwr 4)))
  ∧ (∀ (s : State) (w : WakeSource), s.sys.hold.held = false → s.sys.pstate = .hibernate → s.latched w = true → s.wakes w false = true →
    exec (.hibernateExit w) s = .next (s.endHibernate w))
  ∧ (∀ (s : State) (t : Nat), s.sys.hold.held = false → s.sys.pstate ≠ .off → s.pwr.aonDue = some t → sdiff 48 t s.time.aon ≤ 0 →
    exec .aonTimerFire s = .next (({ s with pwr := { s.pwr with
      aonDue := some ((t + 32768 * s.pnat 0xE008) % 2 ^ 48) } } : State).latchWake 0))
  ∧ (∀ (s : State) (ch : Nat) (q : Req), Asked s ch 0xE001 clearSpec q → q.nat 1 ≤ 1 →
    (let u := begun s ch
     let e := u.reportedEvent
     exec (.pwrStatusGet ch) s = .next (answered s ch 0xE001 stOk
       [tlvN 2 1 e.2.sys.pstate.code, tlvN 3 4 e.2.napBlockers, tlvN 4 4 e.2.hibBlockers, tlvN 5 8 e.1, tlvN 6 1 e.2.pwr.latch,
         ⟨7, u16 e.2.pwr.thawAddr ++ u8 e.2.pwr.thawCmd⟩, tlvN 8 4 e.2.pwr.lastExitUs, tlvN 9 2 (min 65535 e.2.supplyMv),
         ⟨10, boolByte e.2.pins.mains⟩]
       (if q.nat 1 = 1 then
         { e.2 with pwr := { e.2.pwr with latch := 0, latchState := none, thawAddr := 0, thawCmd := 0 } } else e.2))))

/-! ### Resets and boot (17 R464-R471, 18 R482-R485) -/

/-- A reset by POWER_ON, BROWNOUT, the pin, JTAG, the host's command or a watchdog leaves the cause in SYS_RESET_CAUSE, the device held
and in ACTIVE, BOOT 0, no network, span, mailbox request, key or window content, and every counter at 0; the queue of commands is the
model's own and stays. After a reset: the release samples the straps, and STRAP_BOOT 0b11 ends in BOOT 15; the first image of the boot
order that passes its check starts, or none does; Eotre's start opens the mailboxes with BOOT 3 and EV_BOOT; the host's own reset command
is answered first. -/
def Obligations.ResetsAndBootFollowTheirCause : Prop :=
  (∀ s : State,
    (s.sys.pstate = .off → exec .powerOnReset s = .next (s.deviceReset 1))
    ∧ (s.sys.pstate ≠ .off → exec .jtagReset s = .next (s.deviceReset 8))
    ∧ (s.sys.pstate ≠ .off → s.sys.resetPending = true → 0 ≤ sdiff 48 s.time.aon s.sys.resetAt → exec .sysResetTakesEffect s = .next (s.deviceReset 3))
    ∧ (∀ n : Nat, s.sys.pstate ≠ .off → 1000 ≤ n → exec (.resetPin n) s = .next (s.deviceReset 2))
    ∧ (∀ n : Nat, n < 100 → exec (.resetPin n) s = .next s)
    ∧ (s.sys.pstate ≠ .off → ∃ t, exec .brownoutReset s = .next t ∧ t.sys.cause = 6 ∧ t.sys.hold.coreLow = true
        ∧ { t with sys := { t.sys with hold := (s.deviceReset 6).sys.hold } } = s.deviceReset 6)
    ∧ (s.sys.pstate ≠ .off → ∃ t, exec .vddAonLoss s = .next t ∧ t.sys.pstate = .off ∧ t.sys.hold.held = true ∧ t.mem = [])
    ∧ (s.sys.pstate ≠ .off → ∃ t, exec .vddIo18BelowThreshold s = .next t ∧ t.sys.hold.io18Low = true ∧ t.sys.hold.held = true ∧ t.mem = [])
    ∧ (s.live = true → 1000000 * s.pnat 0xF001 ≤ 4 * s.cc.quiet → exec .sysWatchdogExpiry s = .next ((s.logFault 8 0 0).faultReset 4)))
  ∧ (∀ (s : State) (cause : Nat),
    (let t := s.deviceReset cause
     t.sys.cause = cause ∧ t.sys.hold.held = true ∧ t.sys.boot = 0 ∧ t.sys.pstate = .active ∧ t.mem = [] ∧ t.ctrs = []
     ∧ t.nets = ⟨{}, {}⟩ ∧ t.spans = [] ∧ t.chans = State.reset.chans ∧ t.cipher.keys = [] ∧ t.board = none ∧ t.sets = []
     ∧ (s.nv.busy = none → t.pending = s.pending ∧ t.sys.count = (if cause = 1 then 0 else min 65535 (s.sys.count + 1))
       ∧ t.pwr.latch = (if cause = 1 then 0 else s.pwr.latch) ∧ t.fw.slots = s.startSlots ∧ t.nv.recs = s.startRecs)))
  ∧ (∀ (s : State) (x : Straps), s.sys.pstate ≠ .off → s.sys.hold.held = true →
    (let u : State := { s with sys := { s.sys with hold := {}, straps := x } }
     exec (.resetRelease x) s = .next (if x.boot = 3 then u.setBoot 0xF else u)))
  ∧ (∀ (s : State) (a b : Bool) (k : Nat) (l : List Nat), s.sys.hold.held = false → s.sys.pstate ≠ .off → s.sys.boot ≤ 1 →
    s.bootOrder = k :: l → (if k = 0 then a else b) = true → (s.slot k).state ≠ .empty →
    exec (.bootImageCheckDone a b) s = .next { s with
      sys := { s.sys with boot := 2, fwSlot := k, fwVersion := (s.slot k).version, rollback := s.rollsBack k }
      pins := { s.pins with ppsDriven := true } })
  ∧ (∀ s : State, s.sys.hold.held = false → s.sys.pstate ≠ .off → s.sys.boot ≤ 1 →
    exec (.bootImageCheckDone false false) s = .next (s.setBoot 0xF))
  ∧ (∀ (s : State) (image : EotreImage), s.sys.hold.held = false → s.sys.pstate ≠ .off → s.sys.boot = 2 → s.sys.rollback = false →
    s.flt.waiting = [] →
    (let u : State := { s with cc := { s.cc with templates := image.templates, irqs := image.sources, groups := image.coalescers } }
     let v := (u.setBoot 3).raise 0x0002 [u8 3]
     v.lockBytes = none → exec (.eotreReady image) s
       = .next ((List.range 8).foldl (fun (s : State) ch => State.refuseUnknown ch 16 s) v.reportThaw) ∧ v.sys.boot = 3))
  ∧ (∀ (s : State) (ch : Nat) (q : Req), Asked s ch 0xF001 noTlvs q →
    exec (.sysReset ch) s = .next (answered s ch 0xF001 stOk []
      { begun s ch with sys := { (begun s ch).sys with resetPending := true, resetAt := (s.time.aon + 328) % 2 ^ 48 } }))

/-! ### Faults and firmware (17 R461-R475) -/

/-- The fault log falls due for writing and is copied to the window; an injected fault runs its handling with the injected bit and is
counted, and only while injection is enabled. Firmware: staged bytes are kept in their area; a good image no older in security is written
piece by piece into the other slot; a committed one is activated, runs on trial, and is confirmed; old templates that nothing binds are
freed. -/
def Obligations.FaultsAndFirmwareAreHandled : Prop :=
  (∀ s : State, s.live = true → s.flt.waiting ≠ [] → exec .faultLogEntry s = .next (s.recordFor 0x0700 false [deviceOwner]))
  ∧ (∀ (s : State) (ch : Nat) (q : Req), Asked s ch 0xF007 { rows := [{ ty := 1, len := .exact 4 }] } q →
    (begun s ch).areaOk (q.nat 1) 1024 = true →
    exec (.fltLogGet ch) s = .next (answered s ch 0xF007 stOk
      [tlvN 2 1 (begun s ch).nvFaults.length, tlvN 3 4 (((begun s ch).nvFaults.getLast?.map (fun e => e.seq)).getD 0)]
      ((begun s ch).winWrite (q.nat 1) ((begun s ch).nvFaults.flatMap (fun e => e.bytes)))))
  ∧ (∀ (s : State) (ch : Nat) (q : Req), Asked s ch 0xF008 { rows := [{ ty := 1, len := .exact 1 }, { ty := 2, len := .exact 1 }] } q →
    ((begun s ch).pbool 0xF002 = false →
      exec (.fltInject ch) s = .next (answered s ch 0xF008 stInjectDisabled [] (begun s ch)))
    ∧ ((begun s ch).pbool 0xF002 = true → q.nat 1 = 2 → q.nat 2 < 32 →
      exec (.fltInject ch) s = .next (answered s ch 0xF008 stOk [] ((((begun s ch).bump .mem 1).logCe 0 (q.nat 2) 0x80).bump .flt 7))))
  ∧ (∀ (s : State) (ch : Nat) (q : Req), Asked s ch 0xF002 fwStageSpec q → (begun s ch).ddrReady = true → 4 ≤ q.nat 3 → q.nat 3 ≤ 262144 →
    q.nat 1 + q.nat 3 ≤ stagingBytes → (begun s ch).areaOk (q.nat 2) (q.nat 3) = true →
    exec (.fwStage ch) s = .next (answered s ch 0xF002 stOk [] { begun s ch with
      fw := { s.fw with staged := writeBytes s.fw.staged (q.nat 1) (s.winRead (q.nat 2) (q.nat 3)) } }))
  ∧ (∀ (s : State) (ch : Nat) (q : Req), Asked s ch 0xF003 noTlvs q → s.board.isSome = true → (begun s ch).ddrReady = true →
    s.fw.activating = false → s.fw.writing = none →
    (let f := fwHeader (readBytes s.fw.staged 0 256)
     let k := (begun s ch).otherSlot
     let w : FwWrite := ⟨k, f.version, f.sec, ceilDiv (f.length + 256) 8192, ch⟩
     exec (.fwCommit ch) s = .next (
       if fwImageOk s.fw.staged = false then answered s ch 0xF003 stFwSignature [] ((begun s ch).bump .flt 5)
       else if f.sec < ((begun s ch).slot (begun s ch).sys.fwSlot).sec then answered s ch 0xF003 stFwVersion [] ((begun s ch).bump .flt 5)
       else keptBack s ch 0xF003 [tlvN 1 4 f.version, tlvN 2 1 k]
         (({ begun s ch with fw := { s.fw with slots := tset s.fw.slots k {}, writing := some w } } : State).pushNv fwPieceWrite))))
  ∧ (∀ (s : State) (ch : Nat) (q : Req), Asked s ch 0xF004 noTlvs q → ((begun s ch).slot (begun s ch).otherSlot).state = .committed →
    s.fw.activating = false → (begun s ch).pnat 0x8004 ≠ 8 → (begun s ch).ddrReady = true →
    exec (.fwActivate ch) s = .next (answered s ch 0xF004 stOk [] { begun s ch with fw := { s.fw with activating := true } }))
  ∧ (∀ s : State, s.fw.activating = true → s.live = true →
    ∃ t, exec (.activationCompleted []) s = .next t ∧ t.sys.fwSlot = s.otherSlot ∧ t.sys.fwVersion = (s.slot s.otherSlot).version
      ∧ t.fw.activating = false ∧ (t.slot s.otherSlot).state = .trial ∧ t.mem = s.mem
      ∧ t.ctr .flt 6 = min 0xFFFFFFFF (s.ctr .flt 6 + 1))
  ∧ (∀ (s : State) (ch : Nat) (q : Req), Asked s ch 0xF005 noTlvs q → (s.slot s.sys.fwSlot).state = .trial →
    ∃ t, exec (.fwConfirm ch) s = .next (answered s ch 0xF005 stOk [] t) ∧ (t.slot s.sys.fwSlot).state = .confirmed
      ∧ t.mem = s.mem ∧ t.nv = s.nv)
  ∧ (∀ (s : State) (ch : Nat) (q : Req), Asked s ch 0xF006 noTlvs q →
    exec (.fwStatusGet ch) s = .next (answered s ch 0xF006 stOk
      [⟨1, u32 (s.slot 0).version ++ u32 (s.slot 1).version⟩, ⟨2, u8 (s.slot 0).state.code ++ u8 (s.slot 1).state.code⟩,
        tlvN 3 1 s.sys.fwSlot, tlvN 4 2 ((s.fw.oldSlots.map (liveOf (begun s ch))).sum)] (begun s ch)))
  ∧ (∀ s : State, s.awake = true → (∀ k ∈ s.fw.oldSlots, s.slotUnbound k = true) → s.fw.oldSlots ≠ [] → s.fw.tplWait = [] →
    exec .fwOldImageRelease s = .next { s with
      cc := { s.cc with templates := s.cc.templates.filter (fun p => !s.fw.oldSlots.contains p.1) }
      fw := { s.fw with oldSlots := [], tplWait := [] } })

/-! ### Counters -/

/-- The counter commands of one shape answer every counter of their group and, with clear set, set that group to 0 and no other. -/
def Obligations.CounterCommandsAnswerAndClear : Prop :=
  (∀ (s : State) (ch : Nat) (q : Req), q.nat 1 ≤ 1 →
    (let t := fun (b : CtrBank) => if q.nat 1 = 1 then (begun s ch).clearBank b else begun s ch
     (Asked s ch 0x6009 clearSpec q → (begun s ch).ddrReady = true →
        exec (.firnCountersGet ch) s = .next (answered s ch 0x6009 stOk (ctrTlvs (s.bankValues .firn 17)) (t .firn)))
     ∧ (Asked s ch 0x700A clearSpec q →
        exec (.cipherCountersGet ch) s = .next (answered s ch 0x700A stOk (ctrTlvs (s.bankValues .cipher 17)) (t .cipher)))
     ∧ (Asked s ch 0x8002 clearSpec q →
        exec (.ccCountersGet ch) s = .next (answered s ch 0x8002 stOk (ctrTlvs (s.bankValues .cc 14)) (t .cc)))
     ∧ (Asked s ch 0xB003 clearSpec q →
        exec (.timeCountersGet ch) s = .next (answered s ch 0xB003 stOk (ctrTlvs (s.bankValues .time 9)) (t .time)))
     ∧ (Asked s ch 0xC00A clearSpec q →
        exec (.cascCountersGet ch) s = .next (answered s ch 0xC00A stOk (ctrTlvs (s.bankValues .casc 12)) (t .casc)))
     ∧ (Asked s ch 0xD003 clearSpec q →
        exec (.memCountersGet ch) s = .next (answered s ch 0xD003 stOk (ctrTlvs (s.bankValues .mem 17)) (t .mem)))
     ∧ (Asked s ch 0xE002 clearSpec q →
        exec (.pwrCountersGet ch) s = .next (answered s ch 0xE002 stOk (ctrTlvs (s.bankValues .pwr 14)) (t .pwr)))
     ∧ (Asked s ch 0xF009 clearSpec q →
        exec (.fltCountersGet ch) s = .next (answered s ch 0xF009 stOk (ctrTlvs (s.bankValues .flt 7)) (t .flt)))))
  ∧ (∀ (s : State) (ch : Nat) (q : Req), q.nat 2 ≤ 1 →
    (let t := fun (b : CtrBank) => if q.nat 2 = 1 then (begun s ch).clearBank b else begun s ch
     (∀ n : Net, Asked s ch 0x300B radioClearSpec q → Net.ofNat? (q.nat 1) = some n →
        exec (.schedCountersGet ch) s = .next (answered s ch 0x300B stOk (ctrTlvs (s.bankValues (.sched n) 16)) (t (.sched n))))
     ∧ (Asked s ch 0x4007 radioClearSpec q → q.nat 1 ≤ 31 → (s.span (q.nat 1)).isOpen = true →
        exec (.spanCountersGet ch) s
          = .next (answered s ch 0x4007 stOk (ctrTlvs (s.bankValues (.span (q.nat 1)) 19)) (t (.span (q.nat 1)))))
     ∧ (Asked s ch 0x5006 radioClearSpec q → q.nat 1 < 16 →
        exec (.ablCountersGet ch) s
          = .next (answered s ch 0x5006 stOk (ctrTlvs (s.bankValues (.ablSub (q.nat 1)) 6)) (t (.ablSub (q.nat 1)))))
     ∧ (∀ p : Pipe, Asked s ch 0x9001 radioClearSpec q → Pipe.ofNat? (q.nat 1) = some p →
        exec (.rtCountersGet ch) s = .next (answered s ch 0x9001 stOk (ctrTlvs (s.bankValues (.rt p) 21)) (t (.rt p))))
     ∧ (Asked s ch 0xA005 radioClearSpec q → q.nat 1 < 5 →
        exec (.tmCountersGet ch) s = .next (answered s ch 0xA005 stOk (ctrTlvs (s.bankValues (.tm (q.nat 1)) 8)) (t (.tm (q.nat 1)))))
     ∧ (Asked s ch 0xC006 radioClearSpec q → q.nat 1 ≤ 3 →
        exec (.ethCountersGet ch) s = .next (answered s ch 0xC006 stOk (ctrTlvs (s.bankValues (.eth (q.nat 1)) 9)) (t (.eth (q.nat 1)))))))
  ∧ (∀ (s : State) (b b' : CtrBank) (i : Nat), (s.clearBank b).ctr b i = 0 ∧ (b' ≠ b → (s.clearBank b).ctr b' i = s.ctr b' i)
    ∧ { s.clearBank b with ctrs := s.ctrs } = s)

/-! ### Rules that hold of the whole machine -/

/-- R175: cells at slot offset a of a slotframe of length L1 and b of one of length L2 coincide at some ASN exactly when a ≡ b modulo
gcd(L1, L2); the check of a new cell counts every cell of its network and direction that coincides with it, all at once. -/
def Obligations.CoincidingCellsFollowTheGcd : Prop :=
  (∀ a la b lb : Nat, 0 < la → la ≤ 65535 → 0 < lb → lb ≤ 65535 → a < la → b < lb →
    (coincide a la b lb = true ↔ a % Nat.gcd la lb = b % Nat.gcd la lb)
    ∧ (coincide a la b lb = true ↔ ∃ asn : Nat, asn < 2 ^ 40 ∧ asn % la = a ∧ asn % lb = b))
  ∧ (∀ (s : State) (n : Net) (slot len id : Nat) (c : Cell),
    (id, c) ∈ s.coinciding n slot len ↔ (id, c) ∈ s.cells ∧ c.net = n.ix ∧ c.until_ = none
      ∧ ∃ l : Nat, s.newLen n c.handle = some l ∧ 0 < l ∧ coincide slot len c.slot l = true)
  ∧ (∀ (s : State) (n : Net) (c : Cell) (l : List (Nat × Cell)),
    s.slotFull n c l = s.slotFull n c (l.filter (fun p => p.2.isTx == c.isTx && p.2.isRx == c.isRx)))

/-- The replay check of a client's counter c against a slot's high H, where bit i of the map stands for counter H − 1 − i (R254): a
higher one is accepted and becomes H, and what was marked stays marked; one within 32 below is accepted once and then marked;
H itself or a marked one is a duplicate; a lower one is rejected. -/
def Obligations.ReplayCheckAcceptsACounterOnce : Prop :=
  ∀ h map c : Nat, map < 2 ^ 32 →
    (h < c → (replayCheck (some h) map c).1 = .accept ∧ (replayCheck (some h) map c).2.1 = some c
      ∧ ∀ k : Nat, k < c → c < k + 33 →
        ((replayCheck (some h) map c).2.2.testBit (c - 1 - k) = true ↔ k = h ∨ (k < h ∧ map.testBit (h - 1 - k) = true)))
    ∧ (c < h → h < c + 33 → map.testBit (h - 1 - c) = false →
      (replayCheck (some h) map c).1 = .accept ∧ (replayCheck (some h) map c).2.1 = some h
      ∧ ∀ i : Nat, ((replayCheck (some h) map c).2.2.testBit i = true ↔ i = h - 1 - c ∨ map.testBit i = true))
    ∧ (c = h ∨ (c < h ∧ h < c + 33 ∧ map.testBit (h - 1 - c) = true) → replayCheck (some h) map c = (.dup, some h, map))
    ∧ (c + 33 ≤ h → replayCheck (some h) map c = (.reject, some h, map))
    ∧ (replayCheck (some h) map c).2.2 < 2 ^ 32

/-- A signal header with valid fields is accepted by a lane of the radio that it names, with its length; with any one of its 48 bits
wrong it is refused. -/
def Obligations.SignalHeaderReadsAsBuilt : Prop :=
  ∀ (h : SigFields) (x : Radio), x ≠ .lb → h.mcs ≤ 9 → 1 ≤ h.nss → h.nss ≤ 2 → h.gi ≤ 1 → h.bw ≤ 2 → 8 ≤ h.len → h.len < 2 ^ 14 →
    h.member = (if x = .mb then 1 else 2) → 0 < h.seed → h.seed < 128 →
    sigOk x h.bw (sigWord h) = true ∧ sigWord h / 256 % 2 ^ 14 = h.len
    ∧ ∀ i : Nat, i < 48 → sigOk x h.bw (sigWord h ^^^ 2 ^ i) = false

/-- A message written into a channel's next request slot arrives as it was written: opcode, tag and TLVs read back, whatever they are,
if their area is at most 504 bytes and the command takes them; and the TLVs of every area so written read back in order. -/
def Obligations.RequestsArriveAsWritten : Prop :=
  (∀ (p : TlvSpec) (tlvs : List Tlv), (encodeTlvs tlvs).length ≤ 504 → (∀ t ∈ tlvs, t.ty < 65536) →
    (∀ (k : Nat) (h : k < tlvs.length), tlvFault p (tlvs.take k) tlvs[k] = none) →
    parseTlvs p 504 (encodeTlvs tlvs) [] = .ok tlvs)
  ∧ (∀ (s : State) (ch opcode tag : Nat) (p : TlvSpec) (tlvs : List Tlv), Memory.wf s.mem = true → opcode < 65536 → tag < 65536 →
    (encodeTlvs tlvs).length ≤ 504 → (∀ t ∈ tlvs, t.ty < 65536) →
    (∀ (k : Nat) (h : k < tlvs.length), tlvFault p (tlvs.take k) tlvs[k] = none) → missingTlv p tlvs = none →
    (let t := s.winWrite (reqSlot ch (s.chan ch).reqCi)
       (u16 opcode ++ u16 tag ++ u16 (encodeTlvs tlvs).length ++ u16 0 ++ encodeTlvs tlvs)
     t.reqOpcode ch = opcode ∧ t.reqTag ch = tag ∧ t.checkedReq ch p = .ok ⟨ch, opcode, tag, tlvs⟩))

/-- Right after reset: ACTIVE, BOOT 0, no wake source, no request and no event, every ring disabled, every counter 0, network time 0, no
parameter away from its default, and memory in its form; empty memory reading as zeros is the model's choice (log entry 2). -/
def Obligations.ResetHoldsItsValues : Prop :=
  State.reset.pending = [] ∧ State.reset.mem = [] ∧ State.reset.sys.pstate = .active ∧ State.reset.sys.boot = 0
  ∧ State.reset.sys.scratch = 0#32 ∧ State.reset.sys.boardOk = false ∧ State.reset.sys.siteOk = false
  ∧ State.reset.now = 0 ∧ State.reset.time.raw = 0 ∧ State.reset.time.triggers = [] ∧ State.reset.pwr.latch = 0
  ∧ State.reset.params = [] ∧ State.reset.sets = [] ∧ State.reset.board = none
  ∧ (∀ ch : Nat, (State.reset.chan ch).reqPi = 0 ∧ (State.reset.chan ch).reqCi = 0 ∧ (State.reset.chan ch).rspPi = 0
      ∧ (State.reset.chan ch).rspCi = 0)
  ∧ State.reset.evt.pi = 0 ∧ State.reset.evt.ci = 0 ∧ State.reset.evt.seq = 0 ∧ State.reset.evs.enable = 0x3000
  ∧ (∀ r : Nat, (State.reset.ring r).enable = false ∧ (State.reset.ring r).base = 0 ∧ (State.reset.ring r).head = 0
      ∧ (State.reset.ring r).tail = 0)
  ∧ (∀ (b : CtrBank) (i : Nat), State.reset.ctr b i = 0)
  ∧ (∀ n : Net, (State.reset.net n).running = false) ∧ State.reset.spans = [] ∧ State.reset.cells = [] ∧ State.reset.cipher.keys = []
  ∧ State.reset.firn.ctxs = [] ∧ State.reset.rt.routes = []
  ∧ Memory.wf State.reset.mem = true ∧ State.reset.sram = [] ∧ Memory.wf State.reset.fw.staged = true

/-- The form that every step keeps: the memories are sorted, hold no byte that an unlisted address reads as, and no counter is above
0xFFFF_FFFF. -/
def Sys2Proof.Claims.Kept (s : State) : Prop :=
  Memory.wf s.mem = true ∧ Memory.wf s.sram = true ∧ Memory.wf s.fw.staged = true ∧ ∀ c ∈ s.ctrs, c.value ≤ 0xFFFFFFFF

/-- From every state in that form, a step that answers a next state answers one in that form, whatever the command is. -/
def Obligations.StepKeepsTheForm : Prop := ∀ s t : State, Kept s → step s = .next t → Kept t
end

