-- ==== Sys2Proof/Laws/Tab.lean ====
section
/-! SUPPORT. Sorted tables and the small records: reading after writing. -/

namespace Sys2Proof.Machine

variable {α : Type}

@[simp] theorem tget_nil (d : α) (k : Nat) : tget d [] k = d := rfl

@[simp] theorem tget_tset_same (d : α) (t : Tab α) (k : Nat) (v : α) : tget d (tset t k v) k = v := by
  induction t with
  | nil => simp [tset, tget]
  | cons p t ih =>
    obtain ⟨j, w⟩ := p
    by_cases h1 : k = j
    · simp [tset, tget, h1]
    · by_cases h2 : k < j
      · simp [tset, tget, h1, h2]
      · simp [tset, tget, h1, h2, Ne.symm h1, ih]

theorem tget_tset_other (d : α) (t : Tab α) {k j : Nat} (v : α) (h : j ≠ k) : tget d (tset t k v) j = tget d t j := by
  induction t with
  | nil => simp [tset, tget, Ne.symm h]
  | cons p t ih =>
    obtain ⟨i, w⟩ := p
    by_cases h1 : k = i
    · subst h1; simp [tset, tget, Ne.symm h]
    · by_cases h2 : k < i
      · simp [tset, tget, h1, h2, Ne.symm h]
      · simp [tset, tget, h1, h2, ih]

@[simp] theorem tfind_tset_same (t : Tab α) (k : Nat) (v : α) : tfind (tset t k v) k = some v := by
  induction t with
  | nil => simp [tset, tfind]
  | cons p t ih =>
    obtain ⟨j, w⟩ := p
    by_cases h1 : k = j
    · simp [tset, tfind, h1]
    · by_cases h2 : k < j
      · simp [tset, tfind, h1, h2]
      · simp [tset, tfind, h1, h2, Ne.symm h1, ih]

theorem tfind_tset_other (t : Tab α) {k j : Nat} (v : α) (h : j ≠ k) : tfind (tset t k v) j = tfind t j := by
  induction t with
  | nil => simp [tset, tfind, Ne.symm h]
  | cons p t ih =>
    obtain ⟨i, w⟩ := p
    by_cases h1 : k = i
    · subst h1; simp [tset, tfind, Ne.symm h]
    · by_cases h2 : k < i
      · simp [tset, tfind, h1, h2, Ne.symm h]
      · simp [tset, tfind, h1, h2, ih]

@[simp] theorem tfind_tdel_same (t : Tab α) (k : Nat) : tfind (tdel t k) k = none := by
  induction t with
  | nil => rfl
  | cons p t ih =>
    obtain ⟨j, w⟩ := p
    by_cases h : j = k <;> simp_all [tdel, tfind]

theorem tfind_tdel_other (t : Tab α) {k j : Nat} (h : j ≠ k) : tfind (tdel t k) j = tfind t j := by
  induction t with
  | nil => rfl
  | cons p t ih =>
    obtain ⟨i, w⟩ := p
    by_cases h1 : i = k
    · subst h1; simpa [tdel, tfind, Ne.symm h] using ih
    · by_cases h2 : i = j <;> simp_all [tdel, tfind]

@[simp] theorem Duo.net_setNet_same (t : Duo α) (n : Net) (v : α) : (t.setNet n v).net n = v := by cases n <;> rfl

theorem Duo.net_setNet_other (t : Duo α) {n m : Net} (v : α) (h : m ≠ n) : (t.setNet n v).net m = t.net m := by
  cases n <;> cases m <;> simp_all [Duo.net, Duo.setNet]

theorem thas_eq (t : Tab α) (k : Nat) : thas t k = (tfind t k).isSome := rfl

@[simp] theorem Tri.get_set_same (t : Tri α) (x : Radio) (v : α) : (t.set x v).get x = v := by cases x <;> rfl

theorem Tri.get_set_other (t : Tri α) {x y : Radio} (v : α) (h : y ≠ x) : (t.set x v).get y = t.get y := by
  cases x <;> cases y <;> simp_all [Tri.get, Tri.set]

@[simp] theorem Duo.pipe_setPipe_same (t : Duo α) (p : Pipe) (v : α) : (t.setPipe p v).pipe p = v := by cases p <;> rfl

end Sys2Proof.Machine
end

