-- ==== Sys2Proof/Laws/Ops.lean ====
section
/-! SUPPORT. What each shared operation can do: the fields it may change, everything else staying as it was. -/

namespace Sys2Proof.Machine

variable (s : State)

/-! ### The end of DOZE, and the host line after an access -/

theorem leaveDoze_frame : { s.leaveDoze with sys := s.sys, cc := s.cc } = s := by
  unfold State.leaveDoze; split <;> rfl

@[simp] theorem leaveDoze_pending : (s.leaveDoze).pending = s.pending := (congrArg State.pending (leaveDoze_frame s)).trans rfl
@[simp] theorem leaveDoze_freeCtr : (s.leaveDoze).freeCtr = s.freeCtr := (congrArg State.freeCtr (leaveDoze_frame s)).trans rfl
@[simp] theorem leaveDoze_mem : (s.leaveDoze).mem = s.mem := (congrArg State.mem (leaveDoze_frame s)).trans rfl
@[simp] theorem leaveDoze_hif : (s.leaveDoze).hif = s.hif := (congrArg State.hif (leaveDoze_frame s)).trans rfl
@[simp] theorem leaveDoze_chans : (s.leaveDoze).chans = s.chans := (congrArg State.chans (leaveDoze_frame s)).trans rfl
@[simp] theorem leaveDoze_evt : (s.leaveDoze).evt = s.evt := (congrArg State.evt (leaveDoze_frame s)).trans rfl
@[simp] theorem leaveDoze_rings : (s.leaveDoze).rings = s.rings := (congrArg State.rings (leaveDoze_frame s)).trans rfl
@[simp] theorem leaveDoze_evs : (s.leaveDoze).evs = s.evs := (congrArg State.evs (leaveDoze_frame s)).trans rfl
@[simp] theorem leaveDoze_params : (s.leaveDoze).params = s.params := (congrArg State.params (leaveDoze_frame s)).trans rfl
@[simp] theorem leaveDoze_sets : (s.leaveDoze).sets = s.sets := (congrArg State.sets (leaveDoze_frame s)).trans rfl
@[simp] theorem leaveDoze_setOrder : (s.leaveDoze).setOrder = s.setOrder := (congrArg State.setOrder (leaveDoze_frame s)).trans rfl
@[simp] theorem leaveDoze_board : (s.leaveDoze).board = s.board := (congrArg State.board (leaveDoze_frame s)).trans rfl
@[simp] theorem leaveDoze_site : (s.leaveDoze).site = s.site := (congrArg State.site (leaveDoze_frame s)).trans rfl
@[simp] theorem leaveDoze_nv : (s.leaveDoze).nv = s.nv := (congrArg State.nv (leaveDoze_frame s)).trans rfl
@[simp] theorem leaveDoze_ctrs : (s.leaveDoze).ctrs = s.ctrs := (congrArg State.ctrs (leaveDoze_frame s)).trans rfl
@[simp] theorem leaveDoze_time : (s.leaveDoze).time = s.time := (congrArg State.time (leaveDoze_frame s)).trans rfl
@[simp] theorem leaveDoze_pwr : (s.leaveDoze).pwr = s.pwr := (congrArg State.pwr (leaveDoze_frame s)).trans rfl
@[simp] theorem leaveDoze_pins : (s.leaveDoze).pins = s.pins := (congrArg State.pins (leaveDoze_frame s)).trans rfl
@[simp] theorem leaveDoze_ddr : (s.leaveDoze).ddr = s.ddr := (congrArg State.ddr (leaveDoze_frame s)).trans rfl
@[simp] theorem leaveDoze_cipher : (s.leaveDoze).cipher = s.cipher := (congrArg State.cipher (leaveDoze_frame s)).trans rfl
@[simp] theorem leaveDoze_fw : (s.leaveDoze).fw = s.fw := (congrArg State.fw (leaveDoze_frame s)).trans rfl
@[simp] theorem leaveDoze_flt : (s.leaveDoze).flt = s.flt := (congrArg State.flt (leaveDoze_frame s)).trans rfl
@[simp] theorem leaveDoze_nets : (s.leaveDoze).nets = s.nets := (congrArg State.nets (leaveDoze_frame s)).trans rfl
@[simp] theorem leaveDoze_spans : (s.leaveDoze).spans = s.spans := (congrArg State.spans (leaveDoze_frame s)).trans rfl
@[simp] theorem leaveDoze_cells : (s.leaveDoze).cells = s.cells := (congrArg State.cells (leaveDoze_frame s)).trans rfl
@[simp] theorem leaveDoze_rf : (s.leaveDoze).rf = s.rf := (congrArg State.rf (leaveDoze_frame s)).trans rfl
@[simp] theorem leaveDoze_bb : (s.leaveDoze).bb = s.bb := (congrArg State.bb (leaveDoze_frame s)).trans rfl
@[simp] theorem leaveDoze_abl : (s.leaveDoze).abl = s.abl := (congrArg State.abl (leaveDoze_frame s)).trans rfl
@[simp] theorem leaveDoze_firn : (s.leaveDoze).firn = s.firn := (congrArg State.firn (leaveDoze_frame s)).trans rfl
@[simp] theorem leaveDoze_spanRx : (s.leaveDoze).spanRx = s.spanRx := (congrArg State.spanRx (leaveDoze_frame s)).trans rfl
@[simp] theorem leaveDoze_sram : (s.leaveDoze).sram = s.sram := (congrArg State.sram (leaveDoze_frame s)).trans rfl
@[simp] theorem leaveDoze_rt : (s.leaveDoze).rt = s.rt := (congrArg State.rt (leaveDoze_frame s)).trans rfl
@[simp] theorem leaveDoze_serial : (s.leaveDoze).serial = s.serial := (congrArg State.serial (leaveDoze_frame s)).trans rfl

theorem leaveDoze_sys : s.leaveDoze.sys = { s.sys with pstate := if s.sys.pstate = .doze then .active else s.sys.pstate } := by
  unfold State.leaveDoze State.ungate; split <;> simp_all

@[simp] theorem leaveDoze_awake : s.leaveDoze.awake = s.awake := by
  simp only [State.awake, leaveDoze_sys]; split <;> simp_all

theorem hostRecheck_frame : { s.hostRecheck with evs := s.evs } = s := by
  unfold State.hostRecheck; split <;> rfl

@[simp] theorem hostRecheck_pending : (s.hostRecheck).pending = s.pending := (congrArg State.pending (hostRecheck_frame s)).trans rfl
@[simp] theorem hostRecheck_freeCtr : (s.hostRecheck).freeCtr = s.freeCtr := (congrArg State.freeCtr (hostRecheck_frame s)).trans rfl
@[simp] theorem hostRecheck_mem : (s.hostRecheck).mem = s.mem := (congrArg State.mem (hostRecheck_frame s)).trans rfl
@[simp] theorem hostRecheck_sys : (s.hostRecheck).sys = s.sys := (congrArg State.sys (hostRecheck_frame s)).trans rfl
@[simp] theorem hostRecheck_hif : (s.hostRecheck).hif = s.hif := (congrArg State.hif (hostRecheck_frame s)).trans rfl
@[simp] theorem hostRecheck_chans : (s.hostRecheck).chans = s.chans := (congrArg State.chans (hostRecheck_frame s)).trans rfl
@[simp] theorem hostRecheck_evt : (s.hostRecheck).evt = s.evt := (congrArg State.evt (hostRecheck_frame s)).trans rfl
@[simp] theorem hostRecheck_rings : (s.hostRecheck).rings = s.rings := (congrArg State.rings (hostRecheck_frame s)).trans rfl
@[simp] theorem hostRecheck_params : (s.hostRecheck).params = s.params := (congrArg State.params (hostRecheck_frame s)).trans rfl
@[simp] theorem hostRecheck_sets : (s.hostRecheck).sets = s.sets := (congrArg State.sets (hostRecheck_frame s)).trans rfl
@[simp] theorem hostRecheck_setOrder : (s.hostRecheck).setOrder = s.setOrder := (congrArg State.setOrder (hostRecheck_frame s)).trans rfl
@[simp] theorem hostRecheck_board : (s.hostRecheck).board = s.board := (congrArg State.board (hostRecheck_frame s)).trans rfl
@[simp] theorem hostRecheck_site : (s.hostRecheck).site = s.site := (congrArg State.site (hostRecheck_frame s)).trans rfl
@[simp] theorem hostRecheck_nv : (s.hostRecheck).nv = s.nv := (congrArg State.nv (hostRecheck_frame s)).trans rfl
@[simp] theorem hostRecheck_ctrs : (s.hostRecheck).ctrs = s.ctrs := (congrArg State.ctrs (hostRecheck_frame s)).trans rfl
@[simp] theorem hostRecheck_time : (s.hostRecheck).time = s.time := (congrArg State.time (hostRecheck_frame s)).trans rfl
@[simp] theorem hostRecheck_pwr : (s.hostRecheck).pwr = s.pwr := (congrArg State.pwr (hostRecheck_frame s)).trans rfl
@[simp] theorem hostRecheck_pins : (s.hostRecheck).pins = s.pins := (congrArg State.pins (hostRecheck_frame s)).trans rfl
@[simp] theorem hostRecheck_ddr : (s.hostRecheck).ddr = s.ddr := (congrArg State.ddr (hostRecheck_frame s)).trans rfl
@[simp] theorem hostRecheck_cc : (s.hostRecheck).cc = s.cc := (congrArg State.cc (hostRecheck_frame s)).trans rfl
@[simp] theorem hostRecheck_cipher : (s.hostRecheck).cipher = s.cipher := (congrArg State.cipher (hostRecheck_frame s)).trans rfl
@[simp] theorem hostRecheck_fw : (s.hostRecheck).fw = s.fw := (congrArg State.fw (hostRecheck_frame s)).trans rfl
@[simp] theorem hostRecheck_flt : (s.hostRecheck).flt = s.flt := (congrArg State.flt (hostRecheck_frame s)).trans rfl
@[simp] theorem hostRecheck_nets : (s.hostRecheck).nets = s.nets := (congrArg State.nets (hostRecheck_frame s)).trans rfl
@[simp] theorem hostRecheck_spans : (s.hostRecheck).spans = s.spans := (congrArg State.spans (hostRecheck_frame s)).trans rfl
@[simp] theorem hostRecheck_cells : (s.hostRecheck).cells = s.cells := (congrArg State.cells (hostRecheck_frame s)).trans rfl
@[simp] theorem hostRecheck_rf : (s.hostRecheck).rf = s.rf := (congrArg State.rf (hostRecheck_frame s)).trans rfl
@[simp] theorem hostRecheck_bb : (s.hostRecheck).bb = s.bb := (congrArg State.bb (hostRecheck_frame s)).trans rfl
@[simp] theorem hostRecheck_abl : (s.hostRecheck).abl = s.abl := (congrArg State.abl (hostRecheck_frame s)).trans rfl
@[simp] theorem hostRecheck_firn : (s.hostRecheck).firn = s.firn := (congrArg State.firn (hostRecheck_frame s)).trans rfl
@[simp] theorem hostRecheck_spanRx : (s.hostRecheck).spanRx = s.spanRx := (congrArg State.spanRx (hostRecheck_frame s)).trans rfl
@[simp] theorem hostRecheck_sram : (s.hostRecheck).sram = s.sram := (congrArg State.sram (hostRecheck_frame s)).trans rfl
@[simp] theorem hostRecheck_rt : (s.hostRecheck).rt = s.rt := (congrArg State.rt (hostRecheck_frame s)).trans rfl
@[simp] theorem hostRecheck_serial : (s.hostRecheck).serial = s.serial := (congrArg State.serial (hostRecheck_frame s)).trans rfl

theorem access_awake (f : State → State) (h : s.awake = true) : s.access f = (f s.leaveDoze).hostRecheck := by simp [State.access, h]

/-! ### Causes of the host line -/

theorem hostCause_eq (bit : Nat) : ∃ n h e c, s.hostCause bit = { s with freeCtr := n, hif := h, evs := e, ctrs := c } := by
  unfold State.hostCause State.releaseHost State.assertLine State.notify; simp only
  split
  · exact ⟨_, _, _, _, rfl⟩
  · split
    · split <;> (try split) <;> exact ⟨_, _, _, _, rfl⟩
    · exact ⟨_, _, _, _, rfl⟩

theorem hostCause_frame (bit : Nat) : { s.hostCause bit with freeCtr := s.freeCtr, hif := s.hif, evs := s.evs, ctrs := s.ctrs } = s := by
  obtain ⟨n, h, e, c, h'⟩ := hostCause_eq s bit
  rw [h']

@[simp] theorem hostCause_pending (bit : Nat) : (s.hostCause bit).pending = s.pending := by
  obtain ⟨n, h, e, c, h'⟩ := hostCause_eq s bit
  rw [h']
@[simp] theorem hostCause_mem (bit : Nat) : (s.hostCause bit).mem = s.mem := by
  obtain ⟨n, h, e, c, h'⟩ := hostCause_eq s bit
  rw [h']
@[simp] theorem hostCause_sys (bit : Nat) : (s.hostCause bit).sys = s.sys := by
  obtain ⟨n, h, e, c, h'⟩ := hostCause_eq s bit
  rw [h']
@[simp] theorem hostCause_chans (bit : Nat) : (s.hostCause bit).chans = s.chans := by
  obtain ⟨n, h, e, c, h'⟩ := hostCause_eq s bit
  rw [h']
@[simp] theorem hostCause_evt (bit : Nat) : (s.hostCause bit).evt = s.evt := by
  obtain ⟨n, h, e, c, h'⟩ := hostCause_eq s bit
  rw [h']
@[simp] theorem hostCause_rings (bit : Nat) : (s.hostCause bit).rings = s.rings := by
  obtain ⟨n, h, e, c, h'⟩ := hostCause_eq s bit
  rw [h']
@[simp] theorem hostCause_params (bit : Nat) : (s.hostCause bit).params = s.params := by
  obtain ⟨n, h, e, c, h'⟩ := hostCause_eq s bit
  rw [h']
@[simp] theorem hostCause_sets (bit : Nat) : (s.hostCause bit).sets = s.sets := by
  obtain ⟨n, h, e, c, h'⟩ := hostCause_eq s bit
  rw [h']
@[simp] theorem hostCause_setOrder (bit : Nat) : (s.hostCause bit).setOrder = s.setOrder := by
  obtain ⟨n, h, e, c, h'⟩ := hostCause_eq s bit
  rw [h']
@[simp] theorem hostCause_board (bit : Nat) : (s.hostCause bit).board = s.board := by
  obtain ⟨n, h, e, c, h'⟩ := hostCause_eq s bit
  rw [h']
@[simp] theorem hostCause_site (bit : Nat) : (s.hostCause bit).site = s.site := by
  obtain ⟨n, h, e, c, h'⟩ := hostCause_eq s bit
  rw [h']
@[simp] theorem hostCause_nv (bit : Nat) : (s.hostCause bit).nv = s.nv := by
  obtain ⟨n, h, e, c, h'⟩ := hostCause_eq s bit
  rw [h']
@[simp] theorem hostCause_time (bit : Nat) : (s.hostCause bit).time = s.time := by
  obtain ⟨n, h, e, c, h'⟩ := hostCause_eq s bit
  rw [h']
@[simp] theorem hostCause_pwr (bit : Nat) : (s.hostCause bit).pwr = s.pwr := by
  obtain ⟨n, h, e, c, h'⟩ := hostCause_eq s bit
  rw [h']
@[simp] theorem hostCause_pins (bit : Nat) : (s.hostCause bit).pins = s.pins := by
  obtain ⟨n, h, e, c, h'⟩ := hostCause_eq s bit
  rw [h']
@[simp] theorem hostCause_ddr (bit : Nat) : (s.hostCause bit).ddr = s.ddr := by
  obtain ⟨n, h, e, c, h'⟩ := hostCause_eq s bit
  rw [h']
@[simp] theorem hostCause_cc (bit : Nat) : (s.hostCause bit).cc = s.cc := by
  obtain ⟨n, h, e, c, h'⟩ := hostCause_eq s bit
  rw [h']
@[simp] theorem hostCause_cipher (bit : Nat) : (s.hostCause bit).cipher = s.cipher := by
  obtain ⟨n, h, e, c, h'⟩ := hostCause_eq s bit
  rw [h']
@[simp] theorem hostCause_fw (bit : Nat) : (s.hostCause bit).fw = s.fw := by
  obtain ⟨n, h, e, c, h'⟩ := hostCause_eq s bit
  rw [h']
@[simp] theorem hostCause_flt (bit : Nat) : (s.hostCause bit).flt = s.flt := by
  obtain ⟨n, h, e, c, h'⟩ := hostCause_eq s bit
  rw [h']
@[simp] theorem hostCause_nets (bit : Nat) : (s.hostCause bit).nets = s.nets := by
  obtain ⟨n, h, e, c, h'⟩ := hostCause_eq s bit
  rw [h']
@[simp] theorem hostCause_spans (bit : Nat) : (s.hostCause bit).spans = s.spans := by
  obtain ⟨n, h, e, c, h'⟩ := hostCause_eq s bit
  rw [h']
@[simp] theorem hostCause_cells (bit : Nat) : (s.hostCause bit).cells = s.cells := by
  obtain ⟨n, h, e, c, h'⟩ := hostCause_eq s bit
  rw [h']
@[simp] theorem hostCause_rf (bit : Nat) : (s.hostCause bit).rf = s.rf := by
  obtain ⟨n, h, e, c, h'⟩ := hostCause_eq s bit
  rw [h']
@[simp] theorem hostCause_bb (bit : Nat) : (s.hostCause bit).bb = s.bb := by
  obtain ⟨n, h, e, c, h'⟩ := hostCause_eq s bit
  rw [h']
@[simp] theorem hostCause_abl (bit : Nat) : (s.hostCause bit).abl = s.abl := by
  obtain ⟨n, h, e, c, h'⟩ := hostCause_eq s bit
  rw [h']
@[simp] theorem hostCause_firn (bit : Nat) : (s.hostCause bit).firn = s.firn := by
  obtain ⟨n, h, e, c, h'⟩ := hostCause_eq s bit
  rw [h']
@[simp] theorem hostCause_spanRx (bit : Nat) : (s.hostCause bit).spanRx = s.spanRx := by
  obtain ⟨n, h, e, c, h'⟩ := hostCause_eq s bit
  rw [h']
@[simp] theorem hostCause_sram (bit : Nat) : (s.hostCause bit).sram = s.sram := by
  obtain ⟨n, h, e, c, h'⟩ := hostCause_eq s bit
  rw [h']
@[simp] theorem hostCause_rt (bit : Nat) : (s.hostCause bit).rt = s.rt := by
  obtain ⟨n, h, e, c, h'⟩ := hostCause_eq s bit
  rw [h']
@[simp] theorem hostCause_serial (bit : Nat) : (s.hostCause bit).serial = s.serial := by
  obtain ⟨n, h, e, c, h'⟩ := hostCause_eq s bit
  rw [h']


/-! ### Events and responses -/

theorem raiseNow_eq (code : Nat) (tlvs : List Tlv) : ∃ m r n h e c, s.raiseNow code tlvs = { s with mem := m, evt := r, freeCtr := n, hif := h, evs := e, ctrs := c } := by
  unfold State.raiseNow
  split
  · obtain ⟨n, h, e, c, h'⟩ := hostCause_eq s.dropEvent 9
    rw [h']; exact ⟨_, _, _, _, _, _, rfl⟩
  · obtain ⟨n, h, e, c, h'⟩ := hostCause_eq (s.postEvent code tlvs) 8
    rw [h']; exact ⟨_, _, _, _, _, _, rfl⟩

theorem raiseTlvs_eq (code : Nat) (tlvs : List Tlv) : ∃ m r n h e c, s.raiseTlvs code tlvs = { s with mem := m, evt := r, freeCtr := n, hif := h, evs := e, ctrs := c } := by
  unfold State.raiseTlvs
  split
  · exact ⟨_, _, _, _, _, _, rfl⟩
  · exact raiseNow_eq s code tlvs

theorem not_asleep (h : s.awake = true) : s.asleep = false := by
  revert h; unfold State.awake State.asleep; cases s.sys.pstate <;> simp

/-- Awake, an event is raised at once. -/
theorem raiseTlvs_awake (code : Nat) (tlvs : List Tlv) (h : s.awake = true) : s.raiseTlvs code tlvs = s.raiseNow code tlvs := by
  simp only [State.raiseTlvs, not_asleep s h]; rfl

theorem raise_eq (code : Nat) (fields : List Bytes) : ∃ m r n h e c, s.raise code fields = { s with mem := m, evt := r, freeCtr := n, hif := h, evs := e, ctrs := c } :=
  raiseTlvs_eq s code (fieldTlvs fields)

theorem raise_frame (code : Nat) (fields : List Bytes) : { s.raise code fields with mem := s.mem, evt := s.evt, freeCtr := s.freeCtr, hif := s.hif, evs := s.evs, ctrs := s.ctrs } = s := by
  obtain ⟨m, r, n, h, e, c, h'⟩ := raise_eq s code fields
  rw [h']

@[simp] theorem raise_pending (code : Nat) (fields : List Bytes) : (s.raise code fields).pending = s.pending := by
  obtain ⟨m, r, n, h, e, c, h'⟩ := raise_eq s code fields
  rw [h']
@[simp] theorem raise_sys (code : Nat) (fields : List Bytes) : (s.raise code fields).sys = s.sys := by
  obtain ⟨m, r, n, h, e, c, h'⟩ := raise_eq s code fields
  rw [h']
@[simp] theorem raise_chans (code : Nat) (fields : List Bytes) : (s.raise code fields).chans = s.chans := by
  obtain ⟨m, r, n, h, e, c, h'⟩ := raise_eq s code fields
  rw [h']
@[simp] theorem raise_rings (code : Nat) (fields : List Bytes) : (s.raise code fields).rings = s.rings := by
  obtain ⟨m, r, n, h, e, c, h'⟩ := raise_eq s code fields
  rw [h']
@[simp] theorem raise_params (code : Nat) (fields : List Bytes) : (s.raise code fields).params = s.params := by
  obtain ⟨m, r, n, h, e, c, h'⟩ := raise_eq s code fields
  rw [h']
@[simp] theorem raise_sets (code : Nat) (fields : List Bytes) : (s.raise code fields).sets = s.sets := by
  obtain ⟨m, r, n, h, e, c, h'⟩ := raise_eq s code fields
  rw [h']
@[simp] theorem raise_setOrder (code : Nat) (fields : List Bytes) : (s.raise code fields).setOrder = s.setOrder := by
  obtain ⟨m, r, n, h, e, c, h'⟩ := raise_eq s code fields
  rw [h']
@[simp] theorem raise_board (code : Nat) (fields : List Bytes) : (s.raise code fields).board = s.board := by
  obtain ⟨m, r, n, h, e, c, h'⟩ := raise_eq s code fields
  rw [h']
@[simp] theorem raise_site (code : Nat) (fields : List Bytes) : (s.raise code fields).site = s.site := by
  obtain ⟨m, r, n, h, e, c, h'⟩ := raise_eq s code fields
  rw [h']
@[simp] theorem raise_nv (code : Nat) (fields : List Bytes) : (s.raise code fields).nv = s.nv := by
  obtain ⟨m, r, n, h, e, c, h'⟩ := raise_eq s code fields
  rw [h']
@[simp] theorem raise_time (code : Nat) (fields : List Bytes) : (s.raise code fields).time = s.time := by
  obtain ⟨m, r, n, h, e, c, h'⟩ := raise_eq s code fields
  rw [h']
@[simp] theorem raise_pwr (code : Nat) (fields : List Bytes) : (s.raise code fields).pwr = s.pwr := by
  obtain ⟨m, r, n, h, e, c, h'⟩ := raise_eq s code fields
  rw [h']
@[simp] theorem raise_pins (code : Nat) (fields : List Bytes) : (s.raise code fields).pins = s.pins := by
  obtain ⟨m, r, n, h, e, c, h'⟩ := raise_eq s code fields
  rw [h']
@[simp] theorem raise_ddr (code : Nat) (fields : List Bytes) : (s.raise code fields).ddr = s.ddr := by
  obtain ⟨m, r, n, h, e, c, h'⟩ := raise_eq s code fields
  rw [h']
@[simp] theorem raise_cc (code : Nat) (fields : List Bytes) : (s.raise code fields).cc = s.cc := by
  obtain ⟨m, r, n, h, e, c, h'⟩ := raise_eq s code fields
  rw [h']
@[simp] theorem raise_cipher (code : Nat) (fields : List Bytes) : (s.raise code fields).cipher = s.cipher := by
  obtain ⟨m, r, n, h, e, c, h'⟩ := raise_eq s code fields
  rw [h']
@[simp] theorem raise_fw (code : Nat) (fields : List Bytes) : (s.raise code fields).fw = s.fw := by
  obtain ⟨m, r, n, h, e, c, h'⟩ := raise_eq s code fields
  rw [h']
@[simp] theorem raise_flt (code : Nat) (fields : List Bytes) : (s.raise code fields).flt = s.flt := by
  obtain ⟨m, r, n, h, e, c, h'⟩ := raise_eq s code fields
  rw [h']
@[simp] theorem raise_nets (code : Nat) (fields : List Bytes) : (s.raise code fields).nets = s.nets := by
  obtain ⟨m, r, n, h, e, c, h'⟩ := raise_eq s code fields
  rw [h']
@[simp] theorem raise_spans (code : Nat) (fields : List Bytes) : (s.raise code fields).spans = s.spans := by
  obtain ⟨m, r, n, h, e, c, h'⟩ := raise_eq s code fields
  rw [h']
@[simp] theorem raise_cells (code : Nat) (fields : List Bytes) : (s.raise code fields).cells = s.cells := by
  obtain ⟨m, r, n, h, e, c, h'⟩ := raise_eq s code fields
  rw [h']
@[simp] theorem raise_rf (code : Nat) (fields : List Bytes) : (s.raise code fields).rf = s.rf := by
  obtain ⟨m, r, n, h, e, c, h'⟩ := raise_eq s code fields
  rw [h']
@[simp] theorem raise_bb (code : Nat) (fields : List Bytes) : (s.raise code fields).bb = s.bb := by
  obtain ⟨m, r, n, h, e, c, h'⟩ := raise_eq s code fields
  rw [h']
@[simp] theorem raise_abl (code : Nat) (fields : List Bytes) : (s.raise code fields).abl = s.abl := by
  obtain ⟨m, r, n, h, e, c, h'⟩ := raise_eq s code fields
  rw [h']
@[simp] theorem raise_firn (code : Nat) (fields : List Bytes) : (s.raise code fields).firn = s.firn := by
  obtain ⟨m, r, n, h, e, c, h'⟩ := raise_eq s code fields
  rw [h']
@[simp] theorem raise_spanRx (code : Nat) (fields : List Bytes) : (s.raise code fields).spanRx = s.spanRx := by
  obtain ⟨m, r, n, h, e, c, h'⟩ := raise_eq s code fields
  rw [h']
@[simp] theorem raise_sram (code : Nat) (fields : List Bytes) : (s.raise code fields).sram = s.sram := by
  obtain ⟨m, r, n, h, e, c, h'⟩ := raise_eq s code fields
  rw [h']
@[simp] theorem raise_rt (code : Nat) (fields : List Bytes) : (s.raise code fields).rt = s.rt := by
  obtain ⟨m, r, n, h, e, c, h'⟩ := raise_eq s code fields
  rw [h']
@[simp] theorem raise_serial (code : Nat) (fields : List Bytes) : (s.raise code fields).serial = s.serial := by
  obtain ⟨m, r, n, h, e, c, h'⟩ := raise_eq s code fields
  rw [h']


theorem respond_eq (ch opcode tag st : Nat) (tlvs : List Tlv) : ∃ m q n h e c, s.respond ch opcode tag st tlvs = { s with mem := m, chans := q, freeCtr := n, hif := h, evs := e, ctrs := c } := by
  unfold State.respond
  obtain ⟨n, h, e, c, h'⟩ := hostCause_eq { s.winWrite (rspSlot ch (s.chan ch).rspPi) (responseBytes opcode tag st tlvs) with
    chans := tset s.chans ch { s.chan ch with rspPi := ((s.chan ch).rspPi + 1) % 65536, held := none } } ch
  exact ⟨_, _, _, _, _, _, h'⟩

theorem respond_frame (ch opcode tag st : Nat) (tlvs : List Tlv) : { s.respond ch opcode tag st tlvs with mem := s.mem, chans := s.chans, freeCtr := s.freeCtr, hif := s.hif, evs := s.evs, ctrs := s.ctrs } = s := by
  obtain ⟨m, q, n, h, e, c, h'⟩ := respond_eq s ch opcode tag st tlvs
  rw [h']

@[simp] theorem respond_pending (ch opcode tag st : Nat) (tlvs : List Tlv) : (s.respond ch opcode tag st tlvs).pending = s.pending := by
  obtain ⟨m, q, n, h, e, c, h'⟩ := respond_eq s ch opcode tag st tlvs
  rw [h']
@[simp] theorem respond_sys (ch opcode tag st : Nat) (tlvs : List Tlv) : (s.respond ch opcode tag st tlvs).sys = s.sys := by
  obtain ⟨m, q, n, h, e, c, h'⟩ := respond_eq s ch opcode tag st tlvs
  rw [h']
@[simp] theorem respond_evt (ch opcode tag st : Nat) (tlvs : List Tlv) : (s.respond ch opcode tag st tlvs).evt = s.evt := by
  obtain ⟨m, q, n, h, e, c, h'⟩ := respond_eq s ch opcode tag st tlvs
  rw [h']
@[simp] theorem respond_rings (ch opcode tag st : Nat) (tlvs : List Tlv) : (s.respond ch opcode tag st tlvs).rings = s.rings := by
  obtain ⟨m, q, n, h, e, c, h'⟩ := respond_eq s ch opcode tag st tlvs
  rw [h']
@[simp] theorem respond_params (ch opcode tag st : Nat) (tlvs : List Tlv) : (s.respond ch opcode tag st tlvs).params = s.params := by
  obtain ⟨m, q, n, h, e, c, h'⟩ := respond_eq s ch opcode tag st tlvs
  rw [h']
@[simp] theorem respond_sets (ch opcode tag st : Nat) (tlvs : List Tlv) : (s.respond ch opcode tag st tlvs).sets = s.sets := by
  obtain ⟨m, q, n, h, e, c, h'⟩ := respond_eq s ch opcode tag st tlvs
  rw [h']
@[simp] theorem respond_setOrder (ch opcode tag st : Nat) (tlvs : List Tlv) : (s.respond ch opcode tag st tlvs).setOrder = s.setOrder := by
  obtain ⟨m, q, n, h, e, c, h'⟩ := respond_eq s ch opcode tag st tlvs
  rw [h']
@[simp] theorem respond_board (ch opcode tag st : Nat) (tlvs : List Tlv) : (s.respond ch opcode tag st tlvs).board = s.board := by
  obtain ⟨m, q, n, h, e, c, h'⟩ := respond_eq s ch opcode tag st tlvs
  rw [h']
@[simp] theorem respond_site (ch opcode tag st : Nat) (tlvs : List Tlv) : (s.respond ch opcode tag st tlvs).site = s.site := by
  obtain ⟨m, q, n, h, e, c, h'⟩ := respond_eq s ch opcode tag st tlvs
  rw [h']
@[simp] theorem respond_nv (ch opcode tag st : Nat) (tlvs : List Tlv) : (s.respond ch opcode tag st tlvs).nv = s.nv := by
  obtain ⟨m, q, n, h, e, c, h'⟩ := respond_eq s ch opcode tag st tlvs
  rw [h']
@[simp] theorem respond_time (ch opcode tag st : Nat) (tlvs : List Tlv) : (s.respond ch opcode tag st tlvs).time = s.time := by
  obtain ⟨m, q, n, h, e, c, h'⟩ := respond_eq s ch opcode tag st tlvs
  rw [h']
@[simp] theorem respond_pwr (ch opcode tag st : Nat) (tlvs : List Tlv) : (s.respond ch opcode tag st tlvs).pwr = s.pwr := by
  obtain ⟨m, q, n, h, e, c, h'⟩ := respond_eq s ch opcode tag st tlvs
  rw [h']
@[simp] theorem respond_pins (ch opcode tag st : Nat) (tlvs : List Tlv) : (s.respond ch opcode tag st tlvs).pins = s.pins := by
  obtain ⟨m, q, n, h, e, c, h'⟩ := respond_eq s ch opcode tag st tlvs
  rw [h']
@[simp] theorem respond_ddr (ch opcode tag st : Nat) (tlvs : List Tlv) : (s.respond ch opcode tag st tlvs).ddr = s.ddr := by
  obtain ⟨m, q, n, h, e, c, h'⟩ := respond_eq s ch opcode tag st tlvs
  rw [h']
@[simp] theorem respond_cc (ch opcode tag st : Nat) (tlvs : List Tlv) : (s.respond ch opcode tag st tlvs).cc = s.cc := by
  obtain ⟨m, q, n, h, e, c, h'⟩ := respond_eq s ch opcode tag st tlvs
  rw [h']
@[simp] theorem respond_cipher (ch opcode tag st : Nat) (tlvs : List Tlv) : (s.respond ch opcode tag st tlvs).cipher = s.cipher := by
  obtain ⟨m, q, n, h, e, c, h'⟩ := respond_eq s ch opcode tag st tlvs
  rw [h']
@[simp] theorem respond_fw (ch opcode tag st : Nat) (tlvs : List Tlv) : (s.respond ch opcode tag st tlvs).fw = s.fw := by
  obtain ⟨m, q, n, h, e, c, h'⟩ := respond_eq s ch opcode tag st tlvs
  rw [h']
@[simp] theorem respond_flt (ch opcode tag st : Nat) (tlvs : List Tlv) : (s.respond ch opcode tag st tlvs).flt = s.flt := by
  obtain ⟨m, q, n, h, e, c, h'⟩ := respond_eq s ch opcode tag st tlvs
  rw [h']
@[simp] theorem respond_nets (ch opcode tag st : Nat) (tlvs : List Tlv) : (s.respond ch opcode tag st tlvs).nets = s.nets := by
  obtain ⟨m, q, n, h, e, c, h'⟩ := respond_eq s ch opcode tag st tlvs
  rw [h']
@[simp] theorem respond_spans (ch opcode tag st : Nat) (tlvs : List Tlv) : (s.respond ch opcode tag st tlvs).spans = s.spans := by
  obtain ⟨m, q, n, h, e, c, h'⟩ := respond_eq s ch opcode tag st tlvs
  rw [h']
@[simp] theorem respond_cells (ch opcode tag st : Nat) (tlvs : List Tlv) : (s.respond ch opcode tag st tlvs).cells = s.cells := by
  obtain ⟨m, q, n, h, e, c, h'⟩ := respond_eq s ch opcode tag st tlvs
  rw [h']
@[simp] theorem respond_rf (ch opcode tag st : Nat) (tlvs : List Tlv) : (s.respond ch opcode tag st tlvs).rf = s.rf := by
  obtain ⟨m, q, n, h, e, c, h'⟩ := respond_eq s ch opcode tag st tlvs
  rw [h']
@[simp] theorem respond_bb (ch opcode tag st : Nat) (tlvs : List Tlv) : (s.respond ch opcode tag st tlvs).bb = s.bb := by
  obtain ⟨m, q, n, h, e, c, h'⟩ := respond_eq s ch opcode tag st tlvs
  rw [h']
@[simp] theorem respond_abl (ch opcode tag st : Nat) (tlvs : List Tlv) : (s.respond ch opcode tag st tlvs).abl = s.abl := by
  obtain ⟨m, q, n, h, e, c, h'⟩ := respond_eq s ch opcode tag st tlvs
  rw [h']
@[simp] theorem respond_firn (ch opcode tag st : Nat) (tlvs : List Tlv) : (s.respond ch opcode tag st tlvs).firn = s.firn := by
  obtain ⟨m, q, n, h, e, c, h'⟩ := respond_eq s ch opcode tag st tlvs
  rw [h']
@[simp] theorem respond_spanRx (ch opcode tag st : Nat) (tlvs : List Tlv) : (s.respond ch opcode tag st tlvs).spanRx = s.spanRx := by
  obtain ⟨m, q, n, h, e, c, h'⟩ := respond_eq s ch opcode tag st tlvs
  rw [h']
@[simp] theorem respond_sram (ch opcode tag st : Nat) (tlvs : List Tlv) : (s.respond ch opcode tag st tlvs).sram = s.sram := by
  obtain ⟨m, q, n, h, e, c, h'⟩ := respond_eq s ch opcode tag st tlvs
  rw [h']
@[simp] theorem respond_rt (ch opcode tag st : Nat) (tlvs : List Tlv) : (s.respond ch opcode tag st tlvs).rt = s.rt := by
  obtain ⟨m, q, n, h, e, c, h'⟩ := respond_eq s ch opcode tag st tlvs
  rw [h']
@[simp] theorem respond_serial (ch opcode tag st : Nat) (tlvs : List Tlv) : (s.respond ch opcode tag st tlvs).serial = s.serial := by
  obtain ⟨m, q, n, h, e, c, h'⟩ := respond_eq s ch opcode tag st tlvs
  rw [h']


/-! ### What is read from a state -/

theorem pval_congr {s t : State} (id : Nat) (hp : t.params = s.params) (hs : t.sys.straps = s.sys.straps) : t.pval id = s.pval id := by
  have hd : ∀ (r : ParamRow) (k : Nat), defaultOf t r k = defaultOf s r k := by
    intro r k; unfold defaultOf; rw [hs]
  simp only [State.pval, hp, hd]

theorem pint_congr {s t : State} (id : Nat) (hp : t.params = s.params) (hs : t.sys.straps = s.sys.straps) : t.pint id = s.pint id := by
  simp only [State.pint, pval_congr id hp hs]

theorem pnat_congr {s t : State} (id : Nat) (hp : t.params = s.params) (hs : t.sys.straps = s.sys.straps) : t.pnat id = s.pnat id := by
  simp only [State.pnat, pint_congr id hp hs]

theorem pbool_congr {s t : State} (id : Nat) (hp : t.params = s.params) (hs : t.sys.straps = s.sys.straps) : t.pbool id = s.pbool id := by
  simp only [State.pbool, pint_congr id hp hs]

theorem mapped_congr {s t : State} (a : Nat) (hp : t.params = s.params) (hs : t.sys.straps = s.sys.straps) : t.mapped a = s.mapped a := by
  unfold State.mapped State.winSize; rw [pnat_congr 0xD001 hp hs]

theorem areaOk_congr {s t : State} (a n : Nat) (hp : t.params = s.params) (hs : t.sys.straps = s.sys.straps) :
    t.areaOk a n = s.areaOk a n := by
  unfold State.areaOk State.winSize; rw [pnat_congr 0xD001 hp hs]

@[simp] theorem leaveDoze_straps : s.leaveDoze.sys.straps = s.sys.straps := by rw [leaveDoze_sys]
@[simp] theorem leaveDoze_pval (id : Nat) : s.leaveDoze.pval id = s.pval id := pval_congr id (by simp) (by simp)
@[simp] theorem leaveDoze_pint (id : Nat) : s.leaveDoze.pint id = s.pint id := pint_congr id (by simp) (by simp)
@[simp] theorem leaveDoze_pnat (id : Nat) : s.leaveDoze.pnat id = s.pnat id := pnat_congr id (by simp) (by simp)
@[simp] theorem leaveDoze_pbool (id : Nat) : s.leaveDoze.pbool id = s.pbool id := pbool_congr id (by simp) (by simp)
@[simp] theorem leaveDoze_mapped (a : Nat) : s.leaveDoze.mapped a = s.mapped a := mapped_congr a (by simp) (by simp)
@[simp] theorem leaveDoze_areaOk (a n : Nat) : s.leaveDoze.areaOk a n = s.areaOk a n := areaOk_congr a n (by simp) (by simp)
@[simp] theorem leaveDoze_chan (ch : Nat) : s.leaveDoze.chan ch = s.chan ch := by simp [State.chan]
@[simp] theorem leaveDoze_ring (r : Nat) : s.leaveDoze.ring r = s.ring r := by simp [State.ring]
@[simp] theorem leaveDoze_winRead (a n : Nat) : s.leaveDoze.winRead a n = s.winRead a n := by simp [State.winRead]
@[simp] theorem hostRecheck_pnat (id : Nat) : s.hostRecheck.pnat id = s.pnat id := pnat_congr id (by simp) (by simp)
@[simp] theorem hostRecheck_mapped (a : Nat) : s.hostRecheck.mapped a = s.mapped a := mapped_congr a (by simp) (by simp)

end Sys2Proof.Machine
end

