-- ==== Sys2Proof/Laws/Mailbox.lean ====
section
/-! SUPPORT. A mailbox command whose request is in front: what serving it answers. -/

namespace Sys2Proof.Machine

/-- A checked request carries the channel it came on. -/
theorem checkedReq_ch {s : State} {ch : Nat} {p : TlvSpec} {q : Req} (h : s.checkedReq ch p = .ok q) : q.ch = ch := by
  unfold State.checkedReq at h
  split at h
  · simp at h
  · split at h
    · simp at h
    · split at h <;> simp at h
      rw [← h]

/-- Serving a request whose body answers at once. -/
theorem serve_answers {s t : State} {ch opcode st : Nat} {p : TlvSpec} {q : Req} {body : Body} {tlvs : List Tlv}
    (h1 : s.canServe ch = true) (h2 : s.reqOpcode ch = opcode) (h3 : s.checkedReq ch p = .ok q)
    (hb : body q (s.leaveDoze.consume ch) = (.now st tlvs, t)) :
    s.serve ch opcode p body = State.refuseUnknown ch 16 (t.respond ch opcode (s.reqTag ch) st tlvs) := by
  simp [State.serve, h1, h2, State.runRequest, h3, hb, deliver]

/-- Serving a request whose response waits for record writes. -/
theorem serve_waits {s t : State} {ch opcode : Nat} {p : TlvSpec} {q : Req} {body : Body} {tlvs : List Tlv}
    (h1 : s.canServe ch = true) (h2 : s.reqOpcode ch = opcode) (h3 : s.checkedReq ch p = .ok q)
    (hb : body q (s.leaveDoze.consume ch) = (.wait tlvs, t)) :
    s.serve ch opcode p body
      = State.refuseUnknown ch 16
          { t with chans := tset t.chans ch { t.chan ch with held := some ⟨opcode, s.reqTag ch, stOk, tlvs⟩ } } := by
  simp [State.serve, h1, h2, State.runRequest, h3, hb, deliver]

/-- A request that fails its checks is answered with the fault, and does nothing else. -/
theorem serve_refuses {s : State} {ch opcode st : Nat} {ty : Option Nat} {p : TlvSpec} {body : Body}
    (h1 : s.canServe ch = true) (h2 : s.reqOpcode ch = opcode) (h3 : s.checkedReq ch p = .error (st, ty)) :
    s.serve ch opcode p body
      = State.refuseUnknown ch 16 ((s.leaveDoze.consume ch).respond ch opcode (s.reqTag ch) st (ty.elim [] (fun t => [⟨0xFFFF, u16 t⟩]))) := by
  cases ty <;> simp [State.serve, h1, h2, State.runRequest, h3]

/-- A command whose request is not in front does nothing. -/
theorem serve_idle {s : State} {ch opcode : Nat} {p : TlvSpec} {body : Body} (h : (s.canServe ch && s.reqOpcode ch == opcode) = false) :
    s.serve ch opcode p body = s := by
  simp only [State.serve, h]; rfl

end Sys2Proof.Machine
end

