-- ==== Sys2Proof/Laws/Radio.lean ====
section
/-! SUPPORT. What a radio's moves can do: a blanked lane, a freed one, a dropped frame and a request that falls leave the radios as they
were, and a move puts its radio into the named state; what a group put on a radio, or ended, leaves there. -/

namespace Sys2Proof.Machine

variable (s : State)

@[simp] theorem noteBusy_rf (x : Radio) (b : Nat × Nat) (t u : Int) : (s.noteBusy x b t u).rf = s.rf := by
  unfold State.noteBusy; split <;> rfl

@[simp] theorem vacate_rf (l : Nat) : (s.vacate l).rf = s.rf := by
  unfold State.vacate; repeat' split
  all_goals simp

@[simp] theorem noteFrameEnd_rf (l : Nat) : (s.noteFrameEnd l).rf = s.rf := by
  unfold State.noteFrameEnd
  split
  · split <;> rfl
  · rfl

@[simp] theorem dropSoft_rf (l : Nat) : (s.dropSoft l).rf = s.rf := by
  show (if _ then s else _).rf = s.rf
  split <;> rfl

@[simp] theorem setCoex_radios (b : Bool) (p : CoexPort) : (s.setCoex b p).rf.radios = s.rf.radios := by cases b <;> rfl

/-- A run of steps that each leave the radios as they were leaves them so. -/
theorem foldl_radios {α : Type} (f : State → α → State) (h : ∀ s a, (f s a).rf.radios = s.rf.radios) (l : List α) :
    (l.foldl f s).rf.radios = s.rf.radios := by
  induction l generalizing s with
  | nil => rfl
  | cons a l ih => rw [List.foldl_cons, ih, h]

@[simp] theorem rxRelease_radios (x : Radio) : (s.rxRelease x).rf.radios = s.rf.radios :=
  foldl_radios s _ (fun s a => by dsimp only; split <;> simp) _

@[simp] theorem dropReqs_radios (x : Radio) : (s.dropReqs x).rf.radios = s.rf.radios :=
  foldl_radios s _ (fun s a => by dsimp only; split <;> split <;> simp) _

@[simp] theorem freeLane_radios (l : Nat) : (s.freeLane l).rf.radios = s.rf.radios := by
  unfold State.freeLane
  rw [rxRelease_radios]
  simp

@[simp] theorem dropFrame_radios (l : Nat) : (s.dropFrame l).rf.radios = s.rf.radios := by
  unfold State.dropFrame
  split
  · rfl
  · split <;> simp

@[simp] theorem blankLanes_radios (x : Radio) (b : CtrBank) (row : Nat) : (s.blankLanes x b row).rf.radios = s.rf.radios :=
  foldl_radios s _ (fun s a => by rw [dropFrame_radios]; rfl) _

/-- A move puts the radio into the named state, blanked as that state blanks, and leaves its group as it was. -/
theorem moveRadio_radio (x : Radio) (st : RState) (e : Bool) :
    ((s.moveRadio x st e).radio x).st = st ∧ ((s.moveRadio x st e).radio x).blanked = st.blanks
      ∧ ((s.moveRadio x st e).radio x).group = (s.radio x).group := by
  have k : ∀ (u : State) (r : RadioState), (u.setRadio x r).rf.radios.get x = r := fun u r => setRadio_radio u x r
  unfold State.moveRadio
  dsimp only
  split
  · simp only [State.radio, blankLanes_radios, k, and_self]
  · split
    · simp only [State.radio, noteBusy_rf, k, and_self]
    · simp only [State.radio, k, and_self]

/-- A group put on a radio is its group, or, where one is held already, the last of those locked behind it; nothing else changes. -/
theorem putGroup_cases (x : Radio) (g : EmGroup) :
    ((s.radio x).group = none ∧ s.putGroup x g = s.setRadio x { s.radio x with group := some g })
    ∨ ((s.radio x).group.isSome = true ∧ s.putGroup x g = s.setRadio x { s.radio x with follow := (s.radio x).follow ++ [g] }) := by
  unfold State.putGroup
  cases h : (s.radio x).group with
  | none => exact .inl ⟨rfl, by simp [h]⟩
  | some v => exact .inr ⟨rfl, by simp [h]⟩

/-- With no group locked behind it, a group that ends leaves the radio without one, and its requests fall. -/
theorem endGroup_last (x : Radio) (h : (s.radio x).follow = []) : s.endGroup x = (s.setGroup x none).dropReqs x := by
  unfold State.endGroup
  simp [h]

/-- A context that is changed changes the pager's own state only. -/
theorem modCtx_frame (c : Nat) (f : Ctx → Ctx) : { s.modCtx c f with firn := s.firn } = s := by
  unfold State.modCtx
  split
  · rfl
  · dsimp only
    split
    · unfold State.modSlot
      split <;> rfl
    · rfl

end Sys2Proof.Machine
end

