-- ==== Sys2Proof/Laws/Serving.lean ====
section
/-! SUPPORT. What serving a request answers, in the words of the statements; the state in which a body runs keeps every field but the
power state, the channel and the host's cause bits. -/

namespace Sys2Proof.Claims
open Sys2Proof.Machine

/-- A body that answers at once. -/
theorem serve_now {s : State} {ch op : Nat} {p} {q : Req} {body : Body} {st tl t} (h : Asked s ch op p q)
    (hb : body q (begun s ch) = (.now st tl, t)) : s.serve ch op p body = answered s ch op st tl t := serve_answers h.1 h.2.1 h.2.2 hb

/-- A body that keeps its request waiting. -/
theorem serve_wait {s : State} {ch op : Nat} {p} {q : Req} {body : Body} {tl t} (h : Asked s ch op p q)
    (hb : body q (begun s ch) = (.wait tl, t)) : s.serve ch op p body = keptBack s ch op tl t := serve_waits h.1 h.2.1 h.2.2 hb

@[simp] theorem begun_pending (s : State) (ch) : (begun s ch).pending = s.pending := by simp [begun]
@[simp] theorem begun_freeCtr (s : State) (ch) : (begun s ch).freeCtr = s.freeCtr := by simp [begun]
@[simp] theorem begun_mem (s : State) (ch) : (begun s ch).mem = s.mem := by simp [begun]
@[simp] theorem begun_hif (s : State) (ch) : (begun s ch).hif = s.hif := by simp [begun]
@[simp] theorem begun_evt (s : State) (ch) : (begun s ch).evt = s.evt := by simp [begun]
@[simp] theorem begun_rings (s : State) (ch) : (begun s ch).rings = s.rings := by simp [begun]
@[simp] theorem begun_evs (s : State) (ch) : (begun s ch).evs = s.evs := by simp [begun]
@[simp] theorem begun_params (s : State) (ch) : (begun s ch).params = s.params := by simp [begun]
@[simp] theorem begun_sets (s : State) (ch) : (begun s ch).sets = s.sets := by simp [begun]
@[simp] theorem begun_setOrder (s : State) (ch) : (begun s ch).setOrder = s.setOrder := by simp [begun]
@[simp] theorem begun_board (s : State) (ch) : (begun s ch).board = s.board := by simp [begun]
@[simp] theorem begun_site (s : State) (ch) : (begun s ch).site = s.site := by simp [begun]
@[simp] theorem begun_nv (s : State) (ch) : (begun s ch).nv = s.nv := by simp [begun]
@[simp] theorem begun_ctrs (s : State) (ch) : (begun s ch).ctrs = s.ctrs := by simp [begun]
@[simp] theorem begun_time (s : State) (ch) : (begun s ch).time = s.time := by simp [begun]
@[simp] theorem begun_pwr (s : State) (ch) : (begun s ch).pwr = s.pwr := by simp [begun]
@[simp] theorem begun_pins (s : State) (ch) : (begun s ch).pins = s.pins := by simp [begun]
@[simp] theorem begun_ddr (s : State) (ch) : (begun s ch).ddr = s.ddr := by simp [begun]
@[simp] theorem begun_cipher (s : State) (ch) : (begun s ch).cipher = s.cipher := by simp [begun]
@[simp] theorem begun_fw (s : State) (ch) : (begun s ch).fw = s.fw := by simp [begun]
@[simp] theorem begun_flt (s : State) (ch) : (begun s ch).flt = s.flt := by simp [begun]
@[simp] theorem begun_nets (s : State) (ch) : (begun s ch).nets = s.nets := by simp [begun]
@[simp] theorem begun_spans (s : State) (ch) : (begun s ch).spans = s.spans := by simp [begun]
@[simp] theorem begun_cells (s : State) (ch) : (begun s ch).cells = s.cells := by simp [begun]
@[simp] theorem begun_rf (s : State) (ch) : (begun s ch).rf = s.rf := by simp [begun]
@[simp] theorem begun_bb (s : State) (ch) : (begun s ch).bb = s.bb := by simp [begun]
@[simp] theorem begun_abl (s : State) (ch) : (begun s ch).abl = s.abl := by simp [begun]
@[simp] theorem begun_firn (s : State) (ch) : (begun s ch).firn = s.firn := by simp [begun]
@[simp] theorem begun_spanRx (s : State) (ch) : (begun s ch).spanRx = s.spanRx := by simp [begun]
@[simp] theorem begun_sram (s : State) (ch) : (begun s ch).sram = s.sram := by simp [begun]
@[simp] theorem begun_rt (s : State) (ch) : (begun s ch).rt = s.rt := by simp [begun]
@[simp] theorem begun_serial (s : State) (ch) : (begun s ch).serial = s.serial := by simp [begun]
theorem begun_sys (s : State) (ch) :
    (begun s ch).sys = { s.sys with pstate := if s.sys.pstate = .doze then .active else s.sys.pstate } := by
  simp [begun, leaveDoze_sys]
@[simp] theorem begun_radio (s : State) (ch x) : (begun s ch).radio x = s.radio x := by simp [State.radio]
@[simp] theorem begun_winRead (s : State) (ch x n) : (begun s ch).winRead x n = s.winRead x n := by simp [State.winRead]
@[simp] theorem begun_ctr (s : State) (ch x n) : (begun s ch).ctr x n = s.ctr x n := by simp [State.ctr]
@[simp] theorem begun_bankValues (s : State) (ch x n) : (begun s ch).bankValues x n = s.bankValues x n := by simp [State.bankValues]
@[simp] theorem begun_nvRec (s : State) (ch x) : (begun s ch).nvRec x = s.nvRec x := by simp [State.nvRec]
@[simp] theorem begun_awake (s : State) (ch) : (begun s ch).awake = s.awake := by simp [begun, State.awake, leaveDoze_sys]; split <;> simp_all

end Sys2Proof.Claims
end

