-- ==== Sys2Proof/Laws/Sram.lean ====
section
/-! SUPPORT. What the shared operations over the SRAM and the unverified plaintext store can do: they leave all but the two memories and the
store's reservations as it was, and keep the form of both memories. -/

namespace Sys2Proof.Machine

variable (s : State)

/-- A byte put into SRAM lands in the host windows or beside them, and changes nothing else. -/
theorem sramPut_eq (a : Nat) (b : Byte) :
    (s.inWindows a = true ∧ s.sramPut a b = { s with mem := writeByte s.mem (winBase + (a - sramWindows)) b })
    ∨ (s.inWindows a = false ∧ s.sramPut a b = { s with sram := writeByte s.sram a b }) := by
  unfold State.sramPut
  cases h : s.inWindows a <;> simp

theorem sramPut_frame (a : Nat) (b : Byte) : { s.sramPut a b with mem := s.mem, sram := s.sram } = s := by
  obtain ⟨-, h⟩ | ⟨-, h⟩ := sramPut_eq s a b <;> rw [h]

theorem sramPut_wf (a : Nat) (b : Byte) (hm : Memory.wf s.mem = true) (hs : Memory.wf s.sram = true) :
    Memory.wf (s.sramPut a b).mem = true ∧ Memory.wf (s.sramPut a b).sram = true := by
  obtain ⟨-, h⟩ | ⟨-, h⟩ := sramPut_eq s a b <;> rw [h]
  · exact ⟨writeByte_wf _ b hm, hs⟩
  · exact ⟨hm, writeByte_wf _ b hs⟩

/-- A run of bytes put into SRAM changes the two memories only. -/
theorem sramWrite_frame (a : Nat) (bs : Bytes) : { s.sramWrite a bs with mem := s.mem, sram := s.sram } = s := by
  induction bs generalizing s a with
  | nil => rfl
  | cons b bs ih =>
    have h := congrArg (fun t : State => { t with mem := s.mem, sram := s.sram }) (ih (s.sramPut a b) (a + 1))
    exact h.trans (sramPut_frame s a b)

theorem sramWrite_wf (a : Nat) (bs : Bytes) (hm : Memory.wf s.mem = true) (hs : Memory.wf s.sram = true) :
    Memory.wf (s.sramWrite a bs).mem = true ∧ Memory.wf (s.sramWrite a bs).sram = true := by
  induction bs generalizing s a with
  | nil => exact ⟨hm, hs⟩
  | cons b bs ih => exact ih (s.sramPut a b) (a + 1) (sramPut_wf s a b hm hs).1 (sramPut_wf s a b hm hs).2

/-- The completion record of a request changes the engine's list of completions and the two memories only. -/
theorem cipherDone_frame (r : CipherReq) (st n : Nat) :
    { s.cipherDone r st n with cipher := s.cipher, mem := s.mem, sram := s.sram } = s := by
  have h := congrArg (fun t : State => { t with cipher := s.cipher })
    (sramWrite_frame { s with cipher := { s.cipher with done := ⟨r.tag, st, n⟩ :: s.cipher.done.take 15 } } r.completion
      (u16 r.tag ++ u16 st ++ u16 n ++ u16 0))
  exact h

theorem zeroAreas_frame (l : List (Nat × Nat)) :
    { l.foldl (fun (s : State) a => s.sramWrite a.1 (List.replicate a.2 0)) s with mem := s.mem, sram := s.sram } = s := by
  induction l generalizing s with
  | nil => rfl
  | cons a l ih =>
    have h := congrArg (fun t : State => { t with mem := s.mem, sram := s.sram }) (ih (s.sramWrite a.1 (List.replicate a.2 0)))
    exact h.trans (sramWrite_frame s _ _)

theorem zeroAreas_wf (l : List (Nat × Nat)) (hm : Memory.wf s.mem = true) (hs : Memory.wf s.sram = true) :
    Memory.wf (l.foldl (fun (s : State) a => s.sramWrite a.1 (List.replicate a.2 0)) s).mem = true
    ∧ Memory.wf (l.foldl (fun (s : State) a => s.sramWrite a.1 (List.replicate a.2 0)) s).sram = true := by
  induction l generalizing s with
  | nil => exact ⟨hm, hs⟩
  | cons a l ih => exact ih _ (sramWrite_wf s _ _ hm hs).1 (sramWrite_wf s _ _ hm hs).2

/-- Freeing an instance's units zeroes what it wrote there and withdraws its reservations and its wait: nothing else changes. -/
theorem rimeFreeFor_frame (inst : Nat) : { s.rimeFreeFor inst with cipher := s.cipher, mem := s.mem, sram := s.sram } = s := by
  have h := zeroAreas_frame s ((s.cipher.rimeUsed.filter (fun r => r.inst == inst)).flatMap (fun r => r.areas))
  have h' := congrArg (fun t : State => { t with cipher := s.cipher }) h
  exact h'

theorem rimeFreeFor_wf (inst : Nat) (hm : Memory.wf s.mem = true) (hs : Memory.wf s.sram = true) :
    Memory.wf (s.rimeFreeFor inst).mem = true ∧ Memory.wf (s.rimeFreeFor inst).sram = true :=
  zeroAreas_wf s _ hm hs

end Sys2Proof.Machine
end

