-- ==== Sys2Proof/WellFormed.lean ====
section
/-! DEFINITION. Which terms of `Instr` are commands: every operand within the range that its rule gives it. -/

namespace Sys2Proof

open Sys2Proof.Machine

/-- The opcodes of the host serial interface that have a meaning; a frame with one of them is no HSPI_BAD_OPCODE (02 R23). -/
def knownHspi (b : Byte) : Bool := b == 0x0B#8 || b == 0x02#8

/-- The fields of an in-band request frame within their widths (02 R28). -/
def Machine.InbandReq.ok (r : InbandReq) : Bool :=
  decide (r.port < 4) && decide (r.etype < 2 ^ 16) && decide (r.vlan < 4096) && decide (r.src < 2 ^ 48)
    && decide (r.seq < 2 ^ 16) && decide (r.addr < 2 ^ 32) && decide (r.len < 2 ^ 16)

/-- A PHR within its field (05 R144, R145). -/
def Machine.Phr.ok : Phr → Bool
  | .client len mode => len.all (fun n => decide (n < 2048)) && decide (mode < 256)
  | .span bits => decide (bits < 2 ^ 48)

/-- The addressing fields of a frame within their widths (06 R163). -/
def Machine.RxHdr.ok (h : RxHdr) : Bool :=
  decide (h.pan < 2 ^ 16) && decide (h.srcShort < 2 ^ 16) && h.srcExt.all (fun e => decide (e < 2 ^ 64))
    && decide (h.level < 8) && decide (h.keyIdx < 256) && decide (h.counter < 2 ^ 32)
    && h.beacon.all (fun b => decide (b.link < 2 ^ 40))

/-- A check's graph is an instance (11 R316). -/
def Machine.TagCheck.ok : TagCheck → Bool
  | .client _ _ _ inst | .span _ inst => decide (inst < 4096)

/-- A domain of the table of 02 R44 whose parent can be lost: a network or a span (06 R193). -/
def validDomain (d : Nat) : Bool := d == 0x0100 || d == 0x0101 || (decide (0x0200 ≤ d) && decide (d < 0x0220))

/-- A command, every operand in range. -/
def Instr.wf : Instr → Bool
  | .hspiBadOpcode opcode => !knownHspi opcode
  | .hifErrRead clocked | .evtLostRead clocked => decide (clocked ≤ 4)
  | .mserWrite dev _ _ | .mserRead dev _ _ | .mserAddressMatch dev => decide (dev < 128)
  | .inbandRead req | .inbandWrite req => req.ok
  | .mbxReqPiWrite ch _ | .mbxRspCiWrite ch _ | .sysPing ch | .sysInfoGet ch | .paramSet ch | .paramDescribe ch
  | .stageOpen ch | .stageWrite ch | .stageAbort ch | .commitAt ch | .stageStatus ch | .siteDeclare ch | .nvStore ch
  | .nvRead ch | .nvDelete ch | .nvStatusGet ch | .factoryRead ch | .rfCalRun ch | .rfStatusGet ch | .rfCountersGet ch
  | .rfTestTx ch | .bbCountersGet ch | .bbNfConfig ch | .bbNfGet ch | .bbSlotStatusGet ch | .bbTxCountersGet ch
  | .phyAirtimeGet ch | .ablProfileWrite ch | .ablProfileLock ch | .ablProfileGet ch | .ablBudgetGet ch | .ablDwellGet ch
  | .ablCountersGet ch | .schedNetStart ch | .schedNetStop ch | .schedSlotframeAdd ch | .schedSlotframeDel ch
  | .schedCellAdd ch | .schedCellDel ch | .schedCellGet ch | .schedJoinAccept ch | .schedJoinReject ch | .schedStatusGet ch
  | .schedCountersGet ch | .spanOpen ch | .spanClose ch | .spanMemberSet ch | .spanMemberDrop ch | .spanKeyRoll ch
  | .spanStatusGet ch | .spanCountersGet ch | .firnCtxRead ch | .firnCtxWrite ch | .firnPin ch | .firnUnpin ch
  | .firnRelease ch | .firnSync ch | .firnLookup ch | .firnStatusGet ch | .firnCountersGet ch | .cipherKeyLoad ch
  | .cipherKeyErase ch | .cipherKeyInfo ch | .cipherRaw ch | .cipherCtr ch | .cipherCmac ch | .cipherSeal ch | .cipherOpen ch
  | .cipherRandom ch | .cipherCountersGet ch | .ccStatusGet ch | .ccCountersGet ch | .dfsTemplateList ch | .rtCountersGet ch
  | .lowpanCtxSet ch | .tmShaperSet ch | .tmMeterSet ch | .gateListSet ch | .tmStatusGet ch | .tmCountersGet ch | .timeGet ch
  | .timeAdjust ch | .timeCountersGet ch | .laneTest ch | .lanePrbsGet ch _ _ | .laneRetrain ch | .ethStatusGet ch
  | .ethCountersGet ch | .mdioWrite ch | .cascStatusGet ch | .cascCountersGet ch | .cascRelease ch | .memStatusGet ch
  | .ddrStatusGet ch | .memCountersGet ch | .pwrStatusGet ch | .pwrCountersGet ch | .sysReset ch | .fwStage ch | .fwCommit ch
  | .fwActivate ch | .fwConfirm ch | .fwStatusGet ch | .fltLogGet ch | .fltInject ch | .fltCountersGet ch =>
    decide (ch < 8)
  | .ringBaseWrite ring _ | .ringCfgWrite ring _ | .ringTailWrite ring _ | .hostTxRingFrame ring => decide (ring < 32)
  | .paramGet ch gpio => decide (ch < 8) && decide (gpio < 65536)
  | .commitBoundary handle => decide (handle < 4)
  | .boardDeclare ch sense => decide (ch < 8) && decide (sense < 1024)
  | .nvWriteStart sense | .holdupWarningFall sense | .holdupWarningRise sense => decide (sense < 1024)
  | .calibrationComplete _ failed _ => decide (failed < 256)
  | .bgCalItem _ item _ => decide (item < 3)
  | .synthRelockDone _ result => decide (result < 3)
  | .thawFrameRx sync addr cmd check =>
    decide (sync < 65536) && decide (addr < 65536) && decide (cmd < 256) && decide (check < 256)
  | .rxWindowOpen lane | .rxWindowClose lane | .preambleDetect lane _ | .sfdSearchFail lane | .afcFreeze lane _ _ _
  | .secondPreamble lane _ | .softBlockPost lane _ | .frameEnd lane _ _ => decide (lane < 50)
  | .phrDecode lane phr => decide (lane < 50) && phr.ok
  | .headerDecode lane hdr => decide (lane < 50) && hdr.ok
  | .decoderBlockDone decoder => decide (decoder < 8)
  | .timeParentLost domain => validDomain domain
  | .spanEventPlan span | .spanAnchor span | .subeventStart span _ | .subeventEnd span _ | .resyncBurstSend span
  | .acquireEchoTimeout span | .supervisionExpiry span | .keyOverlapEnd span => decide (span < 32)
  | .firnLoadComplete ctx _ _ => decide (ctx < 32768)
  | .writebackComplete slot => decide (slot < 512)
  | .tagCheckDone check => check.ok
  | .keyEraseDone slot | .keyShareRefresh slot => decide (slot < 8192)
  | .cipherRequestComplete queue => decide (queue < 16)
  | .instanceCancel inst => decide (inst < 4096)
  | .rimeUnitsReserved inst => decide (inst < 4096) || decide (0x10000 ≤ inst)
  | .triggerStart tpl _ => decide (tpl < 64)
  | .nodeFire inst node _ | .delayNodeFire inst node | .opWatchdogExpiry inst node =>
    decide (inst < 4096) && decide (node < 256)
  | .coreResetEnd core | .corePark core _ | .irqAcknowledge core => decide (core < 8)
  | .irqSourceAssert source | .irqSourceMask source _ => decide (source < 512)
  | .coalesceTimerExpiry group => decide (group < 64)
  | .egressSend port => decide (port < 6)
  | .gateEntry port => decide (port < 4)
  | .laneStatusGet ch invalid => decide (ch < 8) && decide (invalid < 2 ^ 32)
  | .mdioRead ch reply => decide (ch < 8) && reply.all (fun v => decide (v < 65536))
  | .laneCdrLock lane | .laneCommaFound lane _ | .laneSyncDone lane | .laneSyncLoss lane _ _ | .laneTestEnd lane
  | .prbsLock lane | .prbsLockLoss lane _ _ => decide (lane < 8)
  | .ethLinkChange port _ speed abilities _ => decide (port < 4) && decide (speed ≤ 2500) && decide (abilities < 65536)
  | .cascMarkerRx lane far => decide (lane < 8) && decide (4 ≤ lane) && decide (far < 4)
  | .cascDataRx peer _ | .cascAnnounceRx peer _ | .cascTimeSyncRx peer _ _ | .cascTimeReplyRx peer _ _ | .cascPauseRx peer _
  | .cascLinkRx peer _ _ => decide (peer < 4)
  | .cascPauseTimeout peer queue => decide (peer < 4) && decide (queue < 8)
  | .dramRefresh chan | .rhTableClear chan | .selfRefreshEntry chan | .selfRefreshExit chan _ => decide (chan < 2)
  | .mr4Read chan codes => decide (chan < 2) && decide (codes.length ≤ 2) && codes.all (fun c => decide (c < 8))
  | .rhThresholdRefresh chan bank _ => decide (chan < 2) && decide (bank < 16)
  | .dqsOscCheck chan rank _ => decide (chan < 2) && decide (rank < 2)
  | .sramScrub bank _ => decide (bank < 32)
  | .trainingStepDone _ chan eyes => decide (chan < 2) && decide (eyes.length ≤ 32)
  | .resetRelease straps => decide (straps.boot < 4) && decide (straps.cascId < 4)
  | .unmappedAccess _ _ | .registerWrite _ _ | .wakeWrite | .evtCiWrite _ | .evsRingRxWrite _ | .evsRingTxWrite _
  | .evsBootClear | .evsEnableWrite _ | .tblRead | .tblWrite | .tblInsert | .tblDelete | .tblSearch | .tblAgeScan
  | .tblOverrun | .nvWriteComplete | .mainsFall | .mainsRise | .dieTempSample _ | .paSupplySample _ _ | .calGapStart _
  | .calForced _ | .transitionDone _ _ | .synthLockVerified _ | .synthUnlock _ | .emissionDeferredStart _
  | .emissionLatestStart _ _ | .coexReqLead _ _ | .coexGntSample _ _ | .coexGntRise _ | .coexGntFall _ | .coexReqRise _ _
  | .coexReqFall _ | .coexMaxGrantExpiry _ | .thawRetune | .timeslotPlan _ | .timeslotStart _ | .ccaMeasure _ _ _
  | .clipLimitExceeded _ | .timeslotEnd _ _ _ | .planLock _ _ | .emissionStart _ | .emissionEnd _ | .bucketBoundary
  | .dwellBucketBoundary | .dwellClosureEnd | .ablationSnapshotDue | .joinRelease _ | .joinTimeout _ | .asnMarkCross _
  | .asnMarkHold _ | .placementAudit _ | .spanFrameReceive _ _ _ | .firnLoadStart | .firnEvict | .firnImageSweep
  | .firnImageUrgent | .maskReseed | .entropyStartupPass | .entropyTestFail _ | .drbgReseed
  | .drbgReseedWaitExpiry | .operationComplete _ | .delayEntryDue | .irqArbitrate | .frameIngress _ | .reasmTimeout | .ageTick
  | .rawRefFold | .triggerCompareFire | .timeSourceLoss | .timeBoundAlarm | .ppsInEdge | .ppsOutEdge | .cascTimeSyncSend
  | .cascAnnounceSend | .cascHoldSample _ | .cascTakeWaitMet | .cascTakeDrive _ | .disputeClear | .panicEntry _ _ | .scrubPass
  | .eccErrorDetected _ | .dozeEntry | .napEntry _ | .napExit _ | .hibernatePrepare _ | .hibernateExit _ | .aonTimerFire
  | .powerOnReset | .brownoutReset | .vddAonLoss | .resetPin _ | .bootImageCheckDone _ _ | .eotreReady _
  | .sysResetTakesEffect | .sysWatchdogExpiry | .faultLogEntry | .fwOldImageRelease | .jtagReset | .vddIo18BelowThreshold
  | .tblCmdCompletion | .activationCompleted _ | .panicExit _ _ => true

end Sys2Proof
end

