-- ==== Sys2Proof/Tests/Slice0.lean ====
section
/-! SUPPORT. The model's own tests: ill-formed terms that WellFormed refuses, worked values, and for every statement states and operands
that meet all its premises, clause by clause. -/

namespace Sys2Proof.Tests

set_option Elab.async false

open Sys2Proof.Machine Sys2Proof.Claims

/-- A device in operation: mailboxes open, DRAM ready, every other unit as after reset. -/
def calm : State := { sys := { boot := 4 }, ddr := { phase := .ready } }

/-- `s` with a request of these TLVs and tag 7 at the front of channel 0. -/
def asking (s : State) (opcode : Nat) (tlvs : List Tlv) : State :=
  { s with
    mem := writeBytes s.mem winBase (u16 opcode ++ u16 7 ++ u16 (encodeTlvs tlvs).length ++ u16 0 ++ encodeTlvs tlvs)
    chans := tset s.chans 0 { reqPi := 1 } }

def isOk {ε α : Type} [DecidableEq α] (e : Except ε α) (a : α) : Bool := match e with | .ok b => decide (b = a) | .error _ => false

def isError {ε α : Type} [DecidableEq ε] (e : Except ε α) (a : ε) : Bool := match e with | .ok _ => false | .error b => decide (b = a)

theorem ok_of {ε α : Type} [DecidableEq α] {e : Except ε α} {a : α} (h : isOk e a = true) : e = .ok a := by
  cases e <;> simp_all [isOk]

theorem error_of {ε α : Type} [DecidableEq ε] {e : Except ε α} {a : ε} (h : isError e a = true) : e = .error a := by
  cases e <;> simp_all [isError]

theorem none_imp {α : Type} {o : Option α} {P : α → Prop} (h : o = none) : ∀ x : α, o = some x → P x := by
  intro x hx; rw [h] at hx; cases hx

theorem pair_of {α β : Type} {x : α × β} {a : α} (h : x.1 = a) : x = (a, x.2) := by rw [← h]

theorem asked_of {s : State} {ch op : Nat} {p : TlvSpec} {q : Req}
    (h : (s.canServe ch && s.reqOpcode ch == op && isOk (s.checkedReq ch p) q) = true) : Asked s ch op p q := by
  simp only [Bool.and_eq_true, beq_iff_eq] at h
  exact ⟨h.1.1, h.1.2, ok_of h.2⟩

/-- A board with port E0, all three front ends and one DRAM rank. -/
def plainBoard : Board :=
  { ports := [⟨1, 5⟩, ⟨0, 0⟩, ⟨0, 0⟩, ⟨0, 0⟩]
    fems := [0, 1, 2].map (fun r => ⟨r, 0, 3, 1, 0, 1, 1, 0, 0, [(0, 0), (1, 0), (2, 2), (3, 1)]⟩)
    gains := [0, 0, 0, 0, 0, 0], tol40 := 20000, tol32 := 20000, holdup := ⟨1000000, 5000, 10000, 900, 6000⟩
    ddr := ⟨1, 2, 8, true, 4266⟩, casc := some ⟨0, 3, [1, 1, 0xFF, 0xFF]⟩, coex := [⟨2, 0⟩, ⟨3, 1⟩] }

/-- The device with that board declared, its hold-up charged. -/
def wired : State := { calm with board := some plainBoard, pins := { holdup := 1023 } }

/-- A profile of one sub-band for class 1, 868.0 to 868.6 MHz at 1 % in an hour. -/
def oneBand : Bytes := padTo 80 (u16 1 ++ u8 1 ++ u8 1 ++ u32 9) ++ padTo 32 (u32 868000 ++ u32 868600 ++ u16 10 ++ u16 60 ++ u16 400 ++ u16 20 ++ u16 56 ++ u16 56 ++ u8 1 ++ u8 3)

def oneLimit : SubLimit := calm.effective 0 (subBandAt oneBand 0)

def anEmission (owner : EmOwner) : Emission :=
  { id := 1, owner := owner, cls := 0, nominal := 0, sync := false, khz := 2450000, mode := none, chains := 1, air := 100, power := 0, lane := 0 }

def aCarrier (owner : EmOwner) : Carrier := { em := anEmission owner, target := 0, setting := 0, applied := 0, sub := 0 }

/-- `s` with radio `x` in state `r`. -/
def radioAt (s : State) (x : Radio) (r : RadioState) : State := s.setRadio x r

/-- A member record of MB: mode 0xC0, 3 ms at offset 0, hopping over channel 1. -/
def mbMember : Bytes := padTo 56 (u8 1 ++ u8 0xC0 ++ u8 1 ++ u8 0 ++ u32 0 ++ u32 3000 ++ u16 0 ++ u8 1 ++ List.replicate 9 0#8 ++ u8 2)

def mbState : MemberState := { rec_ := (decodeMember mbMember).2, up := true }

/-- An open span with peer 9, role R. -/
def upSpan : SpanState :=
  { phase := .up, peer := 9, members := [(1, mbState)], keys := [(0, 5)], windows := [(0, { high := some 0 }), (1, { high := some 0 })] }

def spanAs (v : SpanState) : State := { wired with spans := [(31, v)] }

def keyOf (usage : Nat) : KeySlot := { key := List.replicate 16 1#8, usage := usage }

/-- The device with a key of a usage in slot 5. -/
def keyed (usage : Nat) : State := { wired with cipher := { keys := [(5, keyOf usage)] } }

def aCtx : Ctx := { eui := 9, short := 0x10, net := 0, keyA := 5 }

def withCtx (x : Ctx) : State := { wired with firn := { ctxs := [(4095, x)], slots := [(511, { ctx := 4095 })], restored := true } }

def aNode (kind : UnitKind) (prio : Nat) : TplNode := ⟨0, [(1, 0)], kind, prio, 1, false, 4⟩

/-- The device with one template of one node, and an instance of it. -/
def graphAs (n : TplNode) (c : Cc) : State :=
  { calm with cc := { c with templates := [(0, ⟨1, [n]⟩)], insts := [(0, { tpl := 0, version := 1 })] } }

/-- Cache slots 0 to n - 1, each holding the context of its number. -/
@[irreducible] def fullSlots (n : Nat) : Tab FirnSlot := (List.range n).map (fun k => (k, { ctx := k, ref := false }))

/-- The cache with every slot holding a context. -/
def fullCache (l : List FirnLoad) : State := { calm with firn := { slots := fullSlots 512, loads := l } }

/-- The cascade with a link to device 1. -/
def linked (c : Casc) : State := { wired with serial := { casc := { c with links := [(1, { tx := 1, rx := 1 })] } } }

/-- A cascade packet from device 1 to device 0. -/
def packetOf (ty flags : Nat) (b : Bytes) : Bytes := (⟨ty, 1, 0, 0, flags, b.length, 0, 3⟩ : CascHdr).bytes ++ b

/-- What the cascade takes from such a packet. -/
def taken (c : Casc) (ty flags : Nat) (b : Bytes) : State := ((linked c).cascTake 1 ty (packetOf ty flags b)).2

/-! ### WellFormed: one ill-formed term for each check, and what it takes -/

def badFrame : InbandReq := ⟨4, 0, 0, 0, 0, 0, 0, []⟩

def hdrOf (pan short level key ctr : Nat) (ext : Option Nat) : RxHdr := ⟨pan, true, ext, short, false, level, key, ctr, false, none, none⟩

theorem test_wf_refuses_host_operands :
    ([.hspiBadOpcode 0x0B#8, .hspiBadOpcode 0x02#8, .hifErrRead 5, .evtLostRead 5, .mserWrite 128 0 [], .mserRead 128 none 0,
      .mserAddressMatch 128, .inbandRead badFrame, .inbandWrite ⟨0, 65536, 0, 0, 0, 0, 0, []⟩, .inbandRead ⟨0, 0, 4096, 0, 0, 0, 0, []⟩,
      .inbandRead ⟨0, 0, 0, 2 ^ 48, 0, 0, 0, []⟩, .inbandRead ⟨0, 0, 0, 0, 65536, 0, 0, []⟩, .inbandRead ⟨0, 0, 0, 0, 0, 2 ^ 32, 0, []⟩,
      .inbandRead ⟨0, 0, 0, 0, 0, 0, 65536, []⟩, .mbxReqPiWrite 8 0, .mbxRspCiWrite 8 0, .sysPing 8, .ringBaseWrite 32 0,
      .ringCfgWrite 32 0, .ringTailWrite 32 0, .hostTxRingFrame 32, .paramGet 8 0, .paramGet 0 65536, .commitBoundary 4,
      .boardDeclare 8 0, .boardDeclare 0 1024, .nvWriteStart 1024, .holdupWarningFall 1024, .holdupWarningRise 1024] : List Instr).all
      (fun i => !i.wf) = true := by decide +kernel

theorem test_wf_refuses_radio_operands :
    ([.calibrationComplete .lb 256 0, .bgCalItem .lb 3 true, .synthRelockDone .lb 3, .thawFrameRx 65536 0 0 0, .thawFrameRx 0 65536 0 0,
      .thawFrameRx 0 0 256 0, .thawFrameRx 0 0 0 256, .rxWindowOpen 50, .rxWindowClose 50, .preambleDetect 50 ⟨0, 0⟩, .sfdSearchFail 50,
      .afcFreeze 50 0 0 0, .secondPreamble 50 ⟨0, 0⟩, .softBlockPost 50 0, .frameEnd 50 true [], .phrDecode 50 (.client none 0),
      .phrDecode 0 (.client (some 2048) 0), .phrDecode 0 (.client none 256), .phrDecode 0 (.span (2 ^ 48)), .headerDecode 50 (hdrOf 0 0 0 0 0 none),
      .headerDecode 0 (hdrOf 65536 0 0 0 0 none), .headerDecode 0 (hdrOf 0 65536 0 0 0 none), .headerDecode 0 (hdrOf 0 0 8 0 0 none),
      .headerDecode 0 (hdrOf 0 0 0 256 0 none), .headerDecode 0 (hdrOf 0 0 0 0 (2 ^ 32) none),
      .headerDecode 0 (hdrOf 0 0 0 0 0 (some (2 ^ 64))), .decoderBlockDone 8, .tagCheckDone (.client 0 true false 4096), .tagCheckDone (.span 0 4096), .timeParentLost 0x0102, .timeParentLost 0x0220,
      .spanEventPlan 32, .spanAnchor 32, .subeventStart 32 .lb, .subeventEnd 32 .lb, .resyncBurstSend 32, .acquireEchoTimeout 32,
      .supervisionExpiry 32, .keyOverlapEnd 32, .firnLoadComplete 32768 true false, .writebackComplete 512] : List Instr).all
      (fun i => !i.wf) = true := by decide +kernel

theorem test_wf_refuses_other_operands :
    ([.keyEraseDone 8192, .keyShareRefresh 8192, .cipherRequestComplete 16, .rimeUnitsReserved 4096, .instanceCancel 4096,
      .triggerStart 64 [], .nodeFire 4096 0 none, .nodeFire 0 256 none, .delayNodeFire 4096 0, .opWatchdogExpiry 0 256, .coreResetEnd 8,
      .corePark 8 true, .irqAcknowledge 8, .irqSourceAssert 512, .irqSourceMask 512 true, .coalesceTimerExpiry 64, .egressSend 6,
      .gateEntry 4, .laneStatusGet 8 0, .laneStatusGet 0 (2 ^ 32), .mdioRead 8 none, .mdioRead 0 (some 65536), .laneCdrLock 8,
      .laneCommaFound 8 true, .laneSyncDone 8, .laneSyncLoss 8 true 0, .laneTestEnd 8, .prbsLock 8, .prbsLockLoss 8 0 0,
      .ethLinkChange 4 true 0 0 false, .ethLinkChange 0 true 2501 0 false, .ethLinkChange 0 true 0 65536 false, .cascMarkerRx 3 0,
      .cascMarkerRx 8 0, .cascMarkerRx 4 4, .cascDataRx 4 [], .cascAnnounceRx 4 [], .cascTimeSyncRx 4 [] 0, .cascTimeReplyRx 4 [] 0,
      .cascPauseRx 4 [], .cascLinkRx 4 [] 0, .cascPauseTimeout 4 0, .cascPauseTimeout 0 8, .dramRefresh 2, .rhTableClear 2,
      .selfRefreshEntry 2, .selfRefreshExit 2 true, .mr4Read 2 [], .mr4Read 0 [1, 1, 1], .mr4Read 0 [8], .rhThresholdRefresh 2 0 0,
      .rhThresholdRefresh 0 16 0, .dqsOscCheck 2 0 0, .dqsOscCheck 0 2 0, .sramScrub 32 0, .trainingStepDone true 2 [],
      .trainingStepDone true 0 (List.replicate 33 0#8), .resetRelease { boot := 4 }, .resetRelease { cascId := 4 }] : List Instr).all
      (fun i => !i.wf) = true := by decide +kernel

theorem test_wf_takes_bounds :
    ([.hspiBadOpcode 0x0C#8, .hifErrRead 4, .mserAddressMatch 127, .inbandRead ⟨3, 1, 4095, 0, 65535, 0, 65535, []⟩, .sysPing 7,
      .ringTailWrite 31 0, .commitBoundary 3, .nvWriteStart 1023, .rxWindowOpen 49, .phrDecode 49 (.client (some 2047) 127), .tagCheckDone (.span 0 4095),
      .timeParentLost 0x0101, .timeParentLost 0x021F, .firnLoadComplete 32767 true false, .writebackComplete 511, .keyEraseDone 8191,
      .irqSourceAssert 511, .cascMarkerRx 7 3, .mr4Read 1 [7, 7], .resetRelease { boot := 3, cascId := 3 }, .ppsInEdge] : List Instr).all
      (fun i => i.wf) = true := by decide +kernel

/-! ### Worked values of the spec and of the standards it names -/

/-- 01 and 05: the uncoded SHR of 400 µs and a 40-octet PSDU in mode 0x13 with an 8-octet preamble take 3,760 µs; a 16-octet
acknowledgement 1,840 µs. Air times are in thirds of a ns. -/
theorem test_airtime_of_the_example : airThirds 0x13 40 8 1 0 = 3 * 3760000 ∧ airThirds 0x13 16 8 1 0 = 3 * 1840000 := by decide +kernel

/-- 05 R130: the four codes of its examples. -/
theorem test_phy_codes : phyFamily 0x13 = .fsk ∧ phyFamily 0x4C = .ofdm ∧ phyFamily 0x80 = .oqpsk ∧ phyFamily 0xE7 = .span := by decide

/-- 05 R140 and R143: the counts of the numerology table, and of the STF. -/
theorem test_span_tones : [0, 1, 2].map (fun bw => ((spanUsed bw).length, (spanDataTones bw).length, (stfTones bw).length))
    = [(56, 52, 14), (114, 108, 28), (242, 234, 60)] := by decide +kernel

/-- 05, "One frame on the three members of S0": symbols, pad bits and air time on HB and MB. -/
theorem test_span_frame_of_the_example : spanSymbols 0xE7 1500 2 = 6 ∧ spanPad 0xE7 1500 2 = 2034 ∧ spanSymbols 0xC5 1500 2 = 29
    ∧ spanPad 0xC5 1500 2 = 58 ∧ ((spanFields 0xE7 1500 2 0).map Prod.snd).sum = 50400
    ∧ ((spanFields 0xC5 1500 2 0).map Prod.snd).sum = 147200 := by decide +kernel

/-- FIPS-197 appendix C.1 (10, log entry 15). -/
theorem test_aes_128 :
    aesEncrypt (beBytes 16 0x000102030405060708090a0b0c0d0e0f) (beBytes 16 0x00112233445566778899aabbccddeeff)
      = beBytes 16 0x69c4e0d86a7b0430d8cdb78070b4c55a := by decide +kernel

/-- FIPS 180-4, the message "abc" (17 R469, log entry 15). -/
theorem test_sha256 : beNat (sha256 (beBytes 3 0x616263))
    = 0xba7816bf8f01cfea414140de5dae2223b00361a396177a9cb410ff61f20015ad := by decide +kernel

/-- The check values of the CRC catalogue for the digits 1 to 9: CRC-32 (14), CRC-16 with the polynomial 0x1021 and start 0xFFFF (14
R407), CRC-8 with the polynomial 0x07. -/
theorem test_crcs : crc32 (beBytes 9 0x313233343536373839) = 0xCBF43926 ∧ crc16 (beBytes 9 0x313233343536373839) = 0x29B1
    ∧ crc8 0 (beBytes 9 0x313233343536373839) = 0xF4 := by decide +kernel

/-- 08, the night of GL-0142: 10 % of 3,600 s is B = 360,000,000 µs. -/
theorem test_budget :
    SubLimit.budget { oneLimit with band := { oneLimit.band with duty := 100, windowMin := 60 } } = 360000000 := by decide +kernel

/-- 06: a cell at offset 1 of 3 meets one at offset 1 of 5 at ASN 1; one at offset 0 of 2 never meets one at offset 1 of 4 (R175). -/
theorem test_coincide : coincide 1 3 1 5 = true ∧ coincide 0 2 1 4 = false := by decide +kernel

/-- 13: +1 ppm over a second is 1,000 ns, and the edge of a second rounds to the nearer one. -/
theorem test_rate : rateOf 1000 1 = 1099511 ∧ secondPhase 999999999 = -1 := by decide +kernel

/-- The reading of a command that no row spells in bits. -/
theorem test_no_word_spells_a_command : decodeTableWord 0 0 = none ∧ decodeTableWord 64 12345 = none := by decide

/-! ### Witnesses that are not closed computations -/

theorem fullSlots_find (k : Nat) (n : Nat) (h : k < n) : tfind (fullSlots n) k = some { ctx := k, ref := false } := by
  have key : ∀ l : List Nat, k ∈ l → tfind (l.map (fun i => (i, ({ ctx := i, ref := false } : FirnSlot)))) k
      = some { ctx := k, ref := false } := by
    intro l
    induction l with
    | nil => intro h; cases h
    | cons a l ih =>
      intro h
      by_cases e : a = k
      · subst e; simp [tfind]
      · rw [List.map_cons]; simp only [tfind, if_neg e]; exact ih (by simpa [Ne.symm e] using h)
  unfold fullSlots
  exact key _ (List.mem_range.mpr h)

theorem fullCache_free (l : List FirnLoad) : (fullCache l).freeSlots = [] := by
  unfold State.freeSlots
  rw [List.filter_eq_nil_iff]
  intro k hk
  have e : (fullCache l).firn.slots = fullSlots 512 := rfl
  have h := fullSlots_find k 512 (List.mem_range.mp hk)
  rw [← e] at h
  simp [State.slotFree, h]

theorem crc32_parts {a b c d : Bytes} {x y z w : Nat} (ha : (a.flatMap lsbBits).foldl crc32Step 0xFFFFFFFF = x)
    (hb : (b.flatMap lsbBits).foldl crc32Step x = y) (hc : (c.flatMap lsbBits).foldl crc32Step y = z)
    (hd : (d.flatMap lsbBits).foldl crc32Step z ^^^ 0xFFFFFFFF = w) : crc32 (a ++ (b ++ (c ++ d))) = w := by
  unfold crc32
  rw [List.flatMap_append, List.flatMap_append, List.flatMap_append, List.foldl_append, List.foldl_append, List.foldl_append, ha, hb, hc, hd]

theorem crc_oneBand : crc32 oneBand = 2230737571 := by
  have h : oneBand = oneBand.take 28 ++ ((oneBand.drop 28).take 28 ++ ((oneBand.drop 56).take 28 ++ oneBand.drop 84)) := by decide +kernel
  have k := crc32_parts (a := oneBand.take 28) (b := (oneBand.drop 28).take 28) (c := (oneBand.drop 56).take 28) (d := oneBand.drop 84)
    (x := 1870928395) (y := 3751166065) (z := 1589338143) (w := 2230737571)
    (by decide +kernel) (by decide +kernel) (by decide +kernel) (by decide +kernel)
  rw [← h] at k
  exact k

/-- A state whose records hold that profile and its lock has that profile locked. -/
theorem locked_one {s : State} (h : s.lockBytes = some (padTo 32 (u32 9 ++ u32 2230737571))) (k : s.profileBytes = some oneBand) :
    s.lockedProfile = some oneBand := by
  have e : fieldAt (padTo 32 (u32 9 ++ u32 2230737571)) 0 4 = profileId oneBand
      ∧ fieldAt (padTo 32 (u32 9 ++ u32 2230737571)) 4 4 = 2230737571 := by decide +kernel
  unfold State.lockedProfile
  rw [h, k]
  have u : ∀ b : Bytes, crc32 b = 2230737571 → fieldAt (padTo 32 (u32 9 ++ u32 2230737571)) 0 4 = profileId b →
      (match some (padTo 32 (u32 9 ++ u32 2230737571)), some b with
        | some l, some p => if fieldAt l 0 4 = profileId p ∧ fieldAt l 4 4 = crc32 p then some p else none
        | _, _ => none) = some b := by
    intro b c d
    simp only [c, d, e.2, and_self, if_true]
  exact u oneBand crc_oneBand e.1

theorem subLimit_one {s : State} {i : Nat} {l : SubLimit} (h : s.lockBytes = some (padTo 32 (u32 9 ++ u32 2230737571)))
    (k : s.profileBytes = some oneBand)
    (e : (((List.range (fieldAt oneBand 2 1)).map (fun i => s.effective i (subBandAt oneBand i))).filter
      (fun l => l.band.classes.testBit s.site.cls)).find? (fun l => l.ix == i) = some l) : s.subLimit? i = some l := by
  unfold State.subLimit? State.subLimits State.allLimits
  rw [locked_one h k]
  exact e

theorem ddrChans_pos {s : State} {b : Board} (h : s.board = some b) (k : 0 < b.ddr.channels) : 0 < s.ddrChans := by
  unfold State.ddrChans
  rw [h]
  have : 0 < partChannels := by unfold partChannels; split <;> decide
  show 0 < min partChannels b.ddr.channels
  omega

theorem ddrServes_zero {s : State} {b : Board} (h : s.awake = true) (e : s.board = some b) (k : 0 < b.ddr.channels) (r : s.ddrReady = true) :
    s.ddrServes 0 = true := by
  unfold State.ddrServes
  rw [h, r, decide_eq_true (ddrChans_pos e k)]
  rfl

theorem boundaryGroup_one {s : State} {h : Nat} {x : StageSet}
    (e : s.sets.filter (fun (p : Nat × StageSet) => p.2.committed && s.boundaryDue p.2 && s.boundaryAt p.2 == s.boundaryAt x) = [(h, x)]) :
    s.boundaryGroup x = [(h, x)] := by
  unfold State.boundaryGroup
  rw [e]
  simp

theorem above_of {a k o : Int} (h : a ≤ k) : a ≤ k - o + o := by omega

theorem betweenAt_sorted (l : List Activity) (r : Activity → Activity → Bool) (t : Int) : betweenAt (l.mergeSort r) t = betweenAt l t := by
  unfold betweenAt
  exact (List.mergeSort_perm l r).all_eq

theorem leadIn_of {s : State} {n : Nat} {x : Radio} {m : MemberState} (e : s.netRuns x = false) (h : (
    let t := (s.span n).nextAnchor + (1000 * m.rec_.offUs : Nat)
    decide (s.readyAt n x t ≤ s.now) && decide (s.now < t) && !m.inSub && (s.subSkip n x m.rec_ (s.span n).nextAnchor).isNone
      && betweenAt ((match x.net? with | some n => s.slotActivities n | none => [])
          ++ s.spans.flatMap (fun p => spanActivities p.1 p.2 x (1000000 * s.pnat (0x4101 + 0x20 * p.1)) s.now (s.netRuns x))) s.now) = true) :
    s.leadIn n x m = true := by
  unfold State.leadIn State.freeForSub State.activities
  rw [betweenAt_sorted]
  simp only [e, Bool.false_eq_true, if_false] at h ⊢
  exact h

/-- A bucket of four entries of another VLAN. -/
def fdbFullTab (b : Nat) : Tab FdbEntry := (List.range 4).map (fun k => (4 * b + k, ⟨0, 2, 0, 1, 0, 0⟩))

theorem fdbFullTab_find (b vid mac : Nat) (h : vid ≠ 2) : fdbFind (fdbFullTab b) vid mac = none := by
  simp [fdbFind, fdbFullTab, List.range, List.range.loop, Ne.symm h]

theorem fdbFullTab_free (b : Nat) : fdbFree (fdbFullTab b) b = none := by
  simp [fdbFree, fdbFullTab, List.range, List.range.loop, thas, tfind]

theorem fdbFree_nil (b : Nat) : fdbFree [] b = some (4 * b) := by
  simp [fdbFree, List.range, List.range.loop, thas, tfind]

/-- The host's insertion of MAC 5 in VLAN 1, port 0, into the wire pipeline's FDB. -/
def fdbInsertOp : TblOp := ⟨3, 0, false, 0, padTo 32 (beBytes 6 5 ++ u16 1 ++ u8 0 ++ u8 1 ++ u16 0 ++ u16 0xFFFF), 0, false⟩

theorem witness_FdbInsertionKeepsToItsBucket :
    (∃ (s : State) (t : TblOp), t.table < 2 ∧ t.op = 3 ∧ s.tblCheck t = tOk
      ∧ (let p := tblPipe t.table
         let e := FdbEntry.read t.data
         fdbFind (s.fdb p) e.vlan e.mac = none ∧ (s.fdb p).length < 32768 ∧ fdbFree (s.fdb p) (fdbBucket e.vlan e.mac) = none))
    ∧ (∃ (s : State) (t : TblOp) (i j : Nat), t.table < 2 ∧ t.op = 3 ∧ s.tblCheck t = tOk
      ∧ (let p := tblPipe t.table
         let e := FdbEntry.read t.data
         fdbFind (s.fdb p) e.vlan e.mac = none ∧ (s.fdb p).length < 32768 ∧ fdbFree (s.fdb p) (fdbBucket e.vlan e.mac) = some i
         ∧ e.flags.testBit 0 = true ∧ j ≠ i))
    ∧ (∃ (s : State) (p : Pipe) (vid mac : Nat), fdbFind (s.fdb p) vid mac = none ∧ (s.fdb p).length < 32768
      ∧ fdbFree (s.fdb p) (fdbBucket vid mac) = none)
    ∧ (∃ (s : State) (p : Pipe) (vid mac i : Nat), fdbFind (s.fdb p) vid mac = none ∧ (s.fdb p).length < 32768
      ∧ fdbFree (s.fdb p) (fdbBucket vid mac) = some i) := by
  have full : ∀ b : Nat, (({ calm with rt := { fdb := ⟨fdbFullTab b, fdbFullTab b⟩ } } : State).fdb .wire) = fdbFullTab b := fun _ => rfl
  refine ⟨⟨{ calm with rt := { fdb := ⟨fdbFullTab (fdbBucket 1 5), fdbFullTab (fdbBucket 1 5)⟩ } }, fdbInsertOp, by decide, by decide,
      by decide +kernel, fdbFullTab_find _ 1 5 (by decide), ?_, fdbFullTab_free _⟩,
    ⟨calm, fdbInsertOp, 4 * fdbBucket 1 5, 4 * fdbBucket 1 5 + 1, by decide, by decide, by decide +kernel, rfl, ?_, fdbFree_nil _,
      by decide +kernel, by omega⟩,
    ⟨{ calm with rt := { fdb := ⟨fdbFullTab (fdbBucket 1 5), fdbFullTab (fdbBucket 1 5)⟩ } }, .wire, 1, 5,
      fdbFullTab_find _ 1 5 (by decide), ?_, fdbFullTab_free _⟩,
    ⟨calm, .wire, 1, 5, 4 * fdbBucket 1 5, rfl, ?_, fdbFree_nil _⟩⟩
  · show (fdbFullTab _).length < 32768
    simp [fdbFullTab]
  · show ([] : Tab FdbEntry).length < 32768
    decide
  · show (fdbFullTab _).length < 32768
    simp [fdbFullTab]
  · show ([] : Tab FdbEntry).length < 32768
    decide

/-- Two routes of one family, a /8 and a /16 that lies in it. -/
def routed : State := { calm with rt := { routes := [⟨0x0A000000 * 2 ^ 96, 0, 8, 0⟩, ⟨0x0A010000 * 2 ^ 96, 0, 16, 1⟩] } }

theorem witness_RouteSearchFindsTheLongestPrefix :
    (∃ (s : State) (family addr : Nat) (r x : Route), s.longest family addr = some r ∧ x ∈ s.rt.routes ∧ x.family = family
      ∧ x.pfx = addr / hostBits x.len * hostBits x.len ∧ x.len < r.len)
    ∧ (∃ (s : State) (family addr : Nat) (x : Route), s.longest family addr = none ∧ x ∈ s.rt.routes ∧ x.family = family) :=
  ⟨⟨routed, 0, 0x0A010203 * 2 ^ 96, ⟨0x0A010000 * 2 ^ 96, 0, 16, 1⟩, ⟨0x0A000000 * 2 ^ 96, 0, 8, 0⟩, by decide +kernel⟩,
   ⟨routed, 0, 0x0B010203 * 2 ^ 96, ⟨0x0A000000 * 2 ^ 96, 0, 8, 0⟩, by decide +kernel⟩⟩

theorem witness_ReplayCheckAcceptsACounterOnce :
    (∃ h map c k : Nat, map < 2 ^ 32 ∧ h < c ∧ k < c ∧ c < k + 33)
    ∧ (∃ h map c : Nat, map < 2 ^ 32 ∧ c < h ∧ h < c + 33 ∧ map.testBit (h - 1 - c) = false)
    ∧ (∃ h map c : Nat, map < 2 ^ 32 ∧ (c = h ∨ (c < h ∧ h < c + 33 ∧ map.testBit (h - 1 - c) = true)))
    ∧ (∃ h map c : Nat, map < 2 ^ 32 ∧ (c < h ∧ h < c + 33 ∧ map.testBit (h - 1 - c) = true))
    ∧ (∃ h map c : Nat, map < 2 ^ 32 ∧ c + 33 ≤ h) :=
  ⟨⟨0, 0, 32, 0, by decide⟩, ⟨32, 0, 0, by decide⟩, ⟨5, 0, 5, by decide⟩, ⟨32, 2 ^ 31, 0, by decide⟩, ⟨33, 0, 0, by decide⟩⟩

theorem witness_SignalHeaderReadsAsBuilt :
    (∃ (h : SigFields), h.mcs ≤ 9 ∧ 1 ≤ h.nss ∧ h.nss ≤ 2 ∧ h.gi ≤ 1 ∧ h.bw ≤ 2 ∧ 8 ≤ h.len ∧ h.len < 2 ^ 14
      ∧ h.member = (if Radio.mb = .mb then 1 else 2) ∧ 0 < h.seed ∧ h.seed < 128)
    ∧ (∃ (h : SigFields), h.mcs ≤ 9 ∧ 1 ≤ h.nss ∧ h.nss ≤ 2 ∧ h.gi ≤ 1 ∧ h.bw ≤ 2 ∧ 8 ≤ h.len ∧ h.len < 2 ^ 14
      ∧ h.member = (if Radio.hb = .mb then 1 else 2) ∧ 0 < h.seed ∧ h.seed < 128) :=
  ⟨⟨⟨0, 1, 0, 0, 8, 1, 1⟩, by decide⟩, ⟨⟨9, 2, 1, 2, 16383, 2, 127⟩, by decide⟩⟩

/-- 05 R144, R145: a header built is accepted, and refused with any one bit wrong. -/
theorem test_signal_header : sigOk .hb 2 (sigWord ⟨9, 2, 1, 2, 16383, 2, 127⟩) = true ∧ sigOk .mb 0 (sigWord ⟨0, 1, 0, 0, 8, 1, 1⟩) = true
    ∧ (List.range 48).all (fun i => !sigOk .hb 2 (sigWord ⟨9, 2, 1, 2, 16383, 2, 127⟩ ^^^ 2 ^ i)) = true := by decide +kernel

theorem witness_RequestsArriveAsWritten :
    ∃ (s : State) (opcode tag : Nat) (p : TlvSpec) (tlvs : List Tlv), tlvs ≠ [] ∧ Memory.wf s.mem = true ∧ opcode < 65536 ∧ tag < 65536
      ∧ (encodeTlvs tlvs).length ≤ 504 ∧ (∀ t ∈ tlvs, t.ty < 65536)
      ∧ (∀ (k : Nat) (h : k < tlvs.length), tlvFault p (tlvs.take k) tlvs[k] = none) ∧ missingTlv p tlvs = none := by
  refine ⟨calm, 65535, 65535, clearSpec, [tlvN 1 1 1], by decide, by decide, by decide, by decide, by decide, by decide, ?_, by decide⟩
  intro k h
  match k, h with
  | 0, _ => exact (by decide : tlvFault clearSpec [] (tlvN 1 1 1) = none)

theorem witness_StepKeepsTheForm : ∃ s t : State, s.pending ≠ [] ∧ Kept s ∧ step s = .next t :=
  ⟨{ calm with pending := [.rawRefFold], mem := [(winBase, 1#8)] }, _, by decide, ⟨by decide, by decide, by decide, by simp [calm]⟩, rfl⟩

/-- A device with that profile locked, and a group of one test carrier on LB at its start. -/
def ramping : State :=
  ({ wired with nv := { recs := [(0x0500, { a := some ⟨1, .bytes oneBand⟩ }), (0x0501, { a := some ⟨1, .bytes (padTo 32 (u32 9 ++ u32 2230737571))⟩ })] } } : State).setRadio .lb
    { locked := true, verified := true, group := some { carriers := [aCarrier .test], start := 0 } }

theorem ramp_keeps_one {s : State} {l : SubLimit} (sub : s.subLimit? 0 = some l) (e : s.extPa .lb = none) (n : Config.paSettings 0 = 1)
    (h : s.predicted .lb 0 ≤ s.target .lb (anEmission .test) l 1 (carriersIn [(anEmission .test, l)] l.ix) 0) :
    (s.rampPower .lb { carriers := [aCarrier .test], start := 0 }).1.carriers ≠ [] := by
  have c : s.chooseSetting .lb (s.target .lb (anEmission .test) l 1 (carriersIn [(anEmission .test, l)] l.ix) 0) = some (0, s.predicted .lb 0) := by
    unfold State.chooseSetting
    rw [show Config.paSettings Radio.lb.ix = 1 from n]
    simp [List.range, List.range.loop, Int.not_lt.mpr h]
  have p : ∀ b : Bool, s.chainPowers .lb b (anEmission .test) l 1 (carriersIn [(anEmission .test, l)] l.ix)
      = [(s.target .lb (anEmission .test) l 1 (carriersIn [(anEmission .test, l)] l.ix) 0, some (0, s.predicted .lb 0, false))] := by
    intro b
    show [(_, s.powerOf .lb b _)] = _
    unfold State.powerOf
    rw [e]
    simp only [show 2 * Radio.lb.ix = 0 from rfl, c, Option.map_some]
  have q : ∀ b : Bool, carrierOf (anEmission .test) l (s.chainPowers .lb b (anEmission .test) l 1 (carriersIn [(anEmission .test, l)] l.ix))
      = some ({ em := anEmission .test, target := s.target .lb (anEmission .test) l 1 (carriersIn [(anEmission .test, l)] l.ix) 0,
                setting := 0, applied := s.predicted .lb 0, sub := l.ix }, false) := by
    intro b
    rw [p]; rfl
  have a : ([aCarrier .test].filterMap (fun c => (s.subLimit? c.sub).map (fun l => (c.em, l)))) = [(anEmission .test, l)] := by
    simp [aCarrier, sub]
  unfold State.rampPower
  simp only [a]
  simp [State.decidePower, q]

theorem witness_TookAir (n : Config.paSettings 0 = 1)
    (h : ramping.predicted .lb 0 ≤ ramping.target .lb (anEmission .test) oneLimit 1 (carriersIn [(anEmission .test, oneLimit)] oneLimit.ix) 0) :
    ∃ (s : State) (x : Radio) (g : EmGroup), (s.radio x).group = some g ∧ s.mayStart g g.start = true ∧ s.yields x = false ∧ s.heldBy x g = none
      ∧ s.beyondProjection g = false ∧ g.hold = none ∧ (s.rampPower x g).1.carriers ≠ [] := by
  have sub : ramping.subLimit? 0 = some oneLimit := subLimit_one (by decide +kernel) (by decide +kernel) (by decide +kernel)
  have e : ramping.extPa .lb = none := by decide +kernel
  exact ⟨ramping, .lb, { carriers := [aCarrier .test], start := 0 }, by decide +kernel, by decide +kernel, by decide +kernel, by decide +kernel,
    by decide +kernel, by decide +kernel, ramp_keeps_one sub e n h⟩

/-! ### States and operands that meet the premises, clause by clause -/

theorem witness_EmptyQueuePassesOneTick :
    (∃ (s : State), s.pending = [] ∧ s.awake = true ∧ s.pwr.thawPending = false)
    ∧ (∃ (s : State), s.pending = [] ∧ s.awake = true ∧ s.pwr.thawPending = false ∧ s.time.aonPhase + 32768 < 250000000)
    ∧ (∃ (s : State), s.pending = [] ∧ s.awake = true ∧ s.pwr.thawPending = false ∧ 250000000 ≤ s.time.aonPhase + 32768)
    ∧ (∃ (s : State), s.pending = [] ∧ (s.sys.hold.held = true ∨ s.sys.pstate = .off)) :=
  ⟨⟨calm, by decide +kernel⟩,
   ⟨calm, by decide +kernel⟩,
   ⟨{ calm with time := { aonPhase := 249967232 } }, by decide +kernel⟩,
   ⟨{ calm with sys := { pstate := .off } }, by decide +kernel⟩⟩

theorem witness_HostWordsReachTheirRegisters :
    (∃ (op : Byte) (s : State), s.awake = true ∧ op ≠ 0x0B#8 ∧ op ≠ 0x02#8)
    ∧ (∃ (a : Nat) (s : State), s.awake = true ∧ a % 4 = 0 ∧ s.mapped a = false)
    ∧ (∃ (a : Nat) (s : State), s.awake = true ∧ a % 4 = 0 ∧ s.mapped a = false)
    ∧ (∃ (a : Nat) (s : State), s.awake = true ∧ a % 4 ≠ 0 ∧ a / 4 * 4 ≠ 0x10 ∧ a / 4 * 4 ≠ 0x10108 ∧ s.mapped (a / 4 * 4) = true)
    ∧ (∃ (n : Nat) (s : State), s.awake = true ∧ 4 ≤ n)
    ∧ (∃ (n : Nat) (s : State), s.awake = true ∧ n < 4)
    ∧ (∃ (s : State), s.awake = true)
    ∧ (∃ (a : Nat) (s : State), s.awake = true ∧ a < 0x20 ∧ a % 4 = 0 ∧ a ≠ 0x14)
    ∧ (∃ (a : Nat) (s : State) (b : Nat), s.awake = true ∧ Memory.wf s.mem = true ∧ winBase ≤ a ∧ a < winBase + s.winSize ∧ a % 4 = 0 ∧ (b < a ∨ a + 4 ≤ b)) :=
  ⟨⟨0x77#8, calm, by decide +kernel⟩,
   ⟨0x24, calm, by decide +kernel⟩,
   ⟨0x24, calm, by decide +kernel⟩,
   ⟨0x15, calm, by decide +kernel⟩,
   ⟨4, calm, by decide +kernel⟩,
   ⟨3, calm, by decide +kernel⟩,
   ⟨calm, by decide +kernel⟩,
   ⟨0x1C, calm, by decide +kernel⟩,
   ⟨winBase, calm, winBase + 4, by decide +kernel⟩⟩

theorem witness_SummaryAndIndexWritesKeepTheirRules :
    (∃ (s : State), s.awake = true)
    ∧ (∃ (s : State), s.awake = true)
    ∧ (∃ (ch : Nat) (v : Nat) (s : State), s.awake = true ∧ ch < 8 ∧ v < 65536 ∧ (s.chan ch).outstanding + (v + 65536 - (s.chan ch).reqPi % 65536) % 65536 ≤ 16 ∧ (let u : State := { s.leaveDoze with chans := tset s.chans ch { s.chan ch with reqPi := v } }; (u.canServe ch && !knownOpcodes.contains (u.reqOpcode ch)) = false))
    ∧ (∃ (ch : Nat) (v : Nat) (s : State), s.awake = true ∧ ch < 8 ∧ v < 65536 ∧ 16 < (s.chan ch).outstanding + (v + 65536 - (s.chan ch).reqPi % 65536) % 65536)
    ∧ (∃ (ch : Nat) (v : Nat) (s : State), s.awake = true ∧ ch < 8 ∧ v < 65536 ∧ (v + 65536 - (s.chan ch).rspCi % 65536) % 65536 ≤ (s.chan ch).unread ∧ (let u : State := { s.leaveDoze with chans := tset s.chans ch { s.chan ch with rspCi := v } }; (u.canServe ch && !knownOpcodes.contains (u.reqOpcode ch)) = false))
    ∧ (∃ (ch : Nat) (v : Nat) (s : State), s.awake = true ∧ ch < 8 ∧ v < 65536 ∧ (s.chan ch).unread < (v + 65536 - (s.chan ch).rspCi % 65536) % 65536)
    ∧ (∃ (v : Nat) (s : State), s.awake = true ∧ v < 65536 ∧ s.evt.dropped = 0 ∧ (v + 65536 - s.evt.ci % 65536) % 65536 ≤ s.evtUsed)
    ∧ (∃ (v : Nat) (s : State), s.awake = true ∧ v < 65536 ∧ s.evtUsed < (v + 65536 - s.evt.ci % 65536) % 65536) :=
  ⟨⟨calm, by decide +kernel⟩,
   ⟨calm, by decide +kernel⟩,
   ⟨7, 16, { calm with mem := writeBytes [] (winBase + 0x1C000) (u16 1) }, by decide +kernel⟩,
   ⟨7, 17, calm, by decide +kernel⟩,
   ⟨7, 16, { calm with chans := [(7, { rspPi := 16 })] }, by decide +kernel⟩,
   ⟨7, 1, calm, by decide +kernel⟩,
   ⟨1, { calm with evt := { pi := 1 } }, by decide +kernel⟩,
   ⟨1, calm, by decide +kernel⟩⟩

theorem witness_FreedSlotTellsLostEvents :
    ∃ (v : Nat) (s : State), s.awake = true ∧ Memory.wf s.mem = true ∧ v < 65536 ∧ s.evt.pi < 65536 ∧ s.evt.ci < 65536 ∧ 0 < s.evt.dropped ∧ 0 < (v + 65536 - s.evt.ci % 65536) % 65536 ∧ (v + 65536 - s.evt.ci % 65536) % 65536 ≤ s.evtUsed ∧ s.evtUsed ≤ 256 :=
  ⟨256, { calm with evt := { pi := 256, dropped := 1, lost := 1 } }, by decide +kernel⟩

theorem witness_RingRegistersFollowTheirRules :
    (∃ (r : Nat) (s : State), s.awake = true ∧ r < 32 ∧ (s.ring r).enable = false)
    ∧ (∃ (r : Nat) (s : State), s.awake = true ∧ (s.ring r).enable = true)
    ∧ (∃ (r : Nat) (log2 : Nat) (s : State), s.awake = true ∧ r < 32 ∧ (s.ring r).enable = false ∧ 6 ≤ log2 ∧ log2 ≤ 16 ∧ s.ringOk (s.ring r) log2 = true)
    ∧ (∃ (r : Nat) (log2 : Nat) (s : State), s.awake = true ∧ r < 32 ∧ (s.ring r).enable = false ∧ 6 ≤ log2 ∧ log2 ≤ 16 ∧ s.ringOk (s.ring r) log2 = false)
    ∧ (∃ (r : Nat) (s : State), s.awake = true ∧ r < 32 ∧ (s.ring r).enable = true ∧ (s.ring r).waiting = false)
    ∧ (∃ (r : Nat) (v : Nat) (s : State), s.awake = true ∧ r < 32 ∧ v < (s.ring r).size ∧ (s.ring r).head < (s.ring r).size ∧ (s.ring r).tail < (s.ring r).size ∧ (s.ring r).log2 ≤ 16 ∧ (v + (s.ring r).size - (s.ring r).tail) % (s.ring r).size ≤ (s.ring r).size - 1 - (s.ring r).posted ∧ v < 65536)
    ∧ (∃ (r : Nat) (v : Nat) (s : State), s.awake = true ∧ r < 32 ∧ (s.ring r).size ≤ v ∧ v < 65536) :=
  ⟨⟨31, calm, by decide +kernel⟩,
   ⟨31, { calm with rings := [(31, { base := 0x30000, enable := true })] }, by decide +kernel⟩,
   ⟨31, 6, { calm with rings := [(31, { base := 0x30000 })] }, by decide +kernel⟩,
   ⟨31, 16, { calm with rings := [(31, { base := 1 })] }, by decide +kernel⟩,
   ⟨31, { calm with rings := [(31, { base := 0x30000, enable := true })] }, by decide +kernel⟩,
   ⟨31, 63, { calm with rings := [(31, { base := 0x30000, enable := true })] }, by decide +kernel⟩,
   ⟨31, 64, { calm with rings := [(31, { base := 0x30000, enable := true })] }, by decide +kernel⟩⟩

theorem witness_TransmitRingEntryIsConsumed :
    (∃ (r : Nat) (s : State), r < 16 ∧ s.live = true ∧ (s.ring r).enable = true ∧ (s.ring r).posted ≠ 0 ∧ (s.ring r).waiting = false ∧ (let d := s.winRead ((s.ring r).entryAt (s.ring r).head) 32; let buf := leNat (d.take 4); let len := leNat ((d.drop 6).take 2); s.leaveDoze.areaOk buf len = false))
    ∧ (∃ (r : Nat) (s : State), r < 16 ∧ s.live = true ∧ (s.ring r).enable = true ∧ (s.ring r).posted ≠ 0 ∧ (s.ring r).waiting = false ∧ (let d := s.winRead ((s.ring r).entryAt (s.ring r).head) 32; let buf := leNat (d.take 4); let len := leNat ((d.drop 6).take 2); s.leaveDoze.areaOk buf len = true) ∧ (let d := s.winRead ((s.ring r).entryAt (s.ring r).head) 32; byteAt d 8 = 0xFF) ∧ (let d := s.winRead ((s.ring r).entryAt (s.ring r).head) 32; (leNat ((d.drop 12).take 2)).testBit 1 = false)) :=
  ⟨⟨15, { calm with rings := [(15, { base := 0x30000, enable := true, tail := 1 })] }, by decide +kernel⟩,
   ⟨15, { calm with rings := [(15, { base := 0x30000, enable := true, tail := 1 })], mem := writeBytes [] (winBase + 0x30000) (u32 0x31000 ++ u16 0 ++ u16 60 ++ u8 0xFF) }, by decide +kernel⟩⟩

theorem witness_SerialAndInbandAccessesAct :
    (∃ (s : State), s.mserOn = true)
    ∧ (∃ (d : Nat) (s : State), s.mserOurs d = true ∧ (s.sys.pstate = .nap ∨ s.sys.pstate = .hibernate))
    ∧ (∃ (d : Nat) (p : Nat) (s : State), s.mserOurs d = true ∧ p < 8 ∧ p ≠ 4)
    ∧ (∃ (d : Nat) (s : State), s.mserOurs d = true ∧ s.awake = true)
    ∧ (∃ (d : Nat) (s : State), s.mserOurs d = false)
    ∧ (∃ (q : InbandReq) (s : State), s.inbandOurs q = true ∧ s.pnat 0x0014 ≠ 0 ∧ q.src ≠ s.pnat 0x0014)
    ∧ (∃ (q : InbandReq) (e : InbandEntry) (s : State), s.inbandOurs q = true ∧ (s.pnat 0x0014 = 0 ∨ q.src = s.pnat 0x0014) ∧ (s.hif.cache.find? (fun e => e.src == q.src && e.seq == q.seq) = some e))
    ∧ (∃ (q : InbandReq) (s : State), s.inbandOurs q = true ∧ (s.pnat 0x0014 = 0 ∨ q.src = s.pnat 0x0014) ∧ (s.hif.cache.find? (fun e => e.src == q.src && e.seq == q.seq) = none) ∧ q.len = 4 ∧ q.addr % 4 = 0 ∧ s.mapped q.addr = true ∧ q.addr ≠ 0x10 ∧ q.addr ≠ 0x10108)
    ∧ (∃ (q : InbandReq) (s : State), s.inbandOurs q = true ∧ (s.pnat 0x0014 = 0 ∨ q.src = s.pnat 0x0014) ∧ (s.hif.cache.find? (fun e => e.src == q.src && e.seq == q.seq) = none) ∧ q.len = 4 ∧ q.data.length = 4 ∧ q.addr = 0x14) :=
  ⟨⟨calm, by decide +kernel⟩,
   ⟨calm.pnat 0x0018, { calm with sys := { pstate := .nap } }, by decide +kernel⟩,
   ⟨calm.pnat 0x0018, 7, calm, by decide +kernel⟩,
   ⟨calm.pnat 0x0018, calm, by decide +kernel⟩,
   ⟨calm.pnat 0x0018 + 1, calm, by decide +kernel⟩,
   ⟨⟨0, calm.pnat 0x0012, calm.pnat 0x0013, 8, 3, 0, 4, []⟩, { calm with params := [(0x0010, .num 1), (0x0014, .num 9)], serial := { eth := [(0, { up := true })] } }, by decide +kernel⟩,
   ⟨⟨0, calm.pnat 0x0012, calm.pnat 0x0013, 8, 3, 0, 4, []⟩, ⟨8, 3, ⟨0x81, 8, 3, 0, 4, 0, []⟩⟩, { calm with params := [(0x0010, .num 1)], serial := { eth := [(0, { up := true })] }, hif := { cache := [⟨8, 3, ⟨0x81, 8, 3, 0, 4, 0, []⟩⟩] } }, by decide +kernel⟩,
   ⟨⟨0, calm.pnat 0x0012, calm.pnat 0x0013, 8, 3, 0x14, 4, []⟩, { calm with params := [(0x0010, .num 1)], serial := { eth := [(0, { up := true })] } }, by decide +kernel⟩,
   ⟨⟨0, calm.pnat 0x0012, calm.pnat 0x0013, 8, 3, 0x14, 4, [1#8, 2#8, 3#8, 4#8]⟩, { calm with params := [(0x0010, .num 1), (0x0014, .num 8)], serial := { eth := [(0, { up := true })] } }, by decide +kernel⟩⟩

theorem witness_TableCommandsRunOrChangeNothing :
    (∃ (s : State) (t : TblOp), s.awake = true ∧ s.rt.blk.busy = true ∧ s.rt.blk.latched = some (t, none) ∧ s.rt.blk.answer = none ∧ t.op = 1)
    ∧ (∃ (s : State) (t : TblOp), s.awake = true ∧ s.rt.blk.busy = true ∧ s.rt.blk.latched = some (t, none) ∧ s.rt.blk.answer = none ∧ t.op = 2)
    ∧ (∃ (s : State) (t : TblOp), s.awake = true ∧ s.rt.blk.busy = true ∧ s.rt.blk.latched = some (t, none) ∧ s.rt.blk.answer = none ∧ t.op = 3)
    ∧ (∃ (s : State) (t : TblOp), s.awake = true ∧ s.rt.blk.busy = true ∧ s.rt.blk.latched = some (t, none) ∧ s.rt.blk.answer = none ∧ t.op = 4)
    ∧ (∃ (s : State) (t : TblOp), s.awake = true ∧ s.rt.blk.busy = true ∧ s.rt.blk.latched = some (t, none) ∧ s.rt.blk.answer = none ∧ t.op = 5)
    ∧ (∃ (s : State) (t : TblOp), s.awake = true ∧ s.rt.blk.busy = true ∧ s.rt.blk.latched = some (t, none) ∧ s.rt.blk.answer = none ∧ t.op = 6)
    ∧ (∃ (s : State), s.awake = true ∧ s.rt.blk.busy = true)
    ∧ (∃ (s : State) (r : TblRes), s.awake = true ∧ s.rt.blk.answer = some r)
    ∧ (∃ (s : State) (t : TblOp), (s.tblDo t).1.code ≠ tOk)
    ∧ (∃ (t : TblOp), (t.op = 1 ∨ t.op = 5)) :=
  ⟨⟨{ calm with rt := { blk := { busy := true, latched := some (⟨1, 5, true, 0, [], 0, false⟩, none) } } }, ⟨1, 5, true, 0, [], 0, false⟩, by decide +kernel⟩,
   ⟨{ calm with rt := { blk := { busy := true, latched := some (⟨2, 5, true, 0, [], 0, false⟩, none) } } }, ⟨2, 5, true, 0, [], 0, false⟩, by decide +kernel⟩,
   ⟨{ calm with rt := { blk := { busy := true, latched := some (⟨3, 5, true, 0, [], 0, false⟩, none) } } }, ⟨3, 5, true, 0, [], 0, false⟩, by decide +kernel⟩,
   ⟨{ calm with rt := { blk := { busy := true, latched := some (⟨4, 5, true, 0, [], 0, false⟩, none) } } }, ⟨4, 5, true, 0, [], 0, false⟩, by decide +kernel⟩,
   ⟨{ calm with rt := { blk := { busy := true, latched := some (⟨5, 5, true, 0, [], 0, false⟩, none) } } }, ⟨5, 5, true, 0, [], 0, false⟩, by decide +kernel⟩,
   ⟨{ calm with rt := { blk := { busy := true, latched := some (⟨6, 5, true, 0, [], 0, false⟩, none) } } }, ⟨6, 5, true, 0, [], 0, false⟩, by decide +kernel⟩,
   ⟨{ calm with rt := { blk := { busy := true } } }, by decide +kernel⟩,
   ⟨{ calm with rt := { blk := { answer := some { code := 0 } } } }, { code := 0 }, by decide +kernel⟩,
   ⟨calm, ⟨9, 0, false, 0, [], 0, false⟩, by decide +kernel⟩,
   ⟨⟨5, 0, false, 0, [], 0, false⟩, by decide +kernel⟩⟩

theorem witness_ResponseFillsTheNextSlot :
    (∃ (s : State) (ch : Nat) (opcode : Nat) (tag : Nat) (st : Nat) (tlvs : List Tlv) (x : Nat), Memory.wf s.mem = true ∧ (let b := responseBytes opcode tag st tlvs; let a := winBase + rspSlot ch (s.chan ch).rspPi; x < a ∨ a + b.length ≤ x))
    ∧ (∃ (s : State) (ch : Nat) (k : Nat), Memory.wf s.mem = true ∧ k ≠ ch) :=
  ⟨⟨calm, 0, 1, 7, 0, [], winBase, by decide +kernel⟩,
   ⟨calm, 0, 1, by decide +kernel⟩⟩

theorem witness_EventFillsTheNextSlotOrIsCounted :
    ∃ (s : State) (x : Nat), Memory.wf s.mem = true ∧ s.awake = true ∧ s.evtUsed < 256 ∧ x < winBase + (0x20000 + 0x80 * (s.evt.pi % 256)) :=
  ⟨{ calm with evt := { pi := 255 } }, winBase, by decide +kernel⟩

theorem witness_FaultyRequestsHaveNoEffect :
    (∃ (s : State) (ch : Nat) (st : Nat) (ty : Option Nat), s.canServe ch = true ∧ s.reqOpcode ch = 0x0011 ∧ s.checkedReq ch paramSetSpec = .error (st, ty))
    ∧ (∃ (s : State) (ch : Nat) (st : Nat) (ty : Option Nat), s.canServe ch = true ∧ s.reqOpcode ch = 0xD010 ∧ s.checkedReq ch nvStoreSpec = .error (st, ty))
    ∧ (∃ (s : State) (ch : Nat) (st : Nat) (ty : Option Nat), s.canServe ch = true ∧ s.reqOpcode ch = 0xF002 ∧ s.checkedReq ch fwStageSpec = .error (st, ty)) :=
  ⟨⟨(asking (calm) 0x0011 [⟨1, [0#8]⟩, ⟨1, [0#8]⟩]), 0, 3, some 1, by decide +kernel, by decide +kernel, error_of (by decide +kernel)⟩,
   ⟨(asking (calm) 0xD010 [⟨1, [0#8]⟩]), 0, 2, some 1, by decide +kernel, by decide +kernel, error_of (by decide +kernel)⟩,
   ⟨(asking (calm) 0xF002 [⟨1, [0#8]⟩]), 0, 2, some 1, by decide +kernel, by decide +kernel, error_of (by decide +kernel)⟩⟩

theorem witness_IdentificationCommandsAnswer :
    (∃ (s : State) (ch : Nat) (q : Req), Asked s ch 0x0001 noTlvs q)
    ∧ (∃ (s : State) (ch : Nat) (q : Req), Asked s ch 0x0002 noTlvs q)
    ∧ (∃ (s : State) (ch : Nat) (q : Req), Asked s ch 0xD013 { rows := [{ ty := 1, len := .exact 2 }] } q ∧ q.nat 1 = 0x0031)
    ∧ (∃ (s : State) (ch : Nat) (q : Req), Asked s ch 0xD013 { rows := [{ ty := 1, len := .exact 2 }] } q ∧ q.nat 1 ≠ 0x0031)
    ∧ (∃ (s : State) (ch : Nat) (q : Req), Asked s ch 0xD001 noTlvs q) :=
  ⟨⟨(asking (calm) 0x0001 []), 0, ⟨0, 0x0001, 7, []⟩, asked_of (by decide +kernel)⟩,
   ⟨(asking (calm) 0x0002 []), 0, ⟨0, 0x0002, 7, []⟩, asked_of (by decide +kernel)⟩,
   ⟨(asking (calm) 0xD013 [tlvN 1 2 0x0031]), 0, ⟨0, 0xD013, 7, [tlvN 1 2 0x0031]⟩, asked_of (by decide +kernel), by decide +kernel⟩,
   ⟨(asking (calm) 0xD013 [tlvN 1 2 0x0032]), 0, ⟨0, 0xD013, 7, [tlvN 1 2 0x0032]⟩, asked_of (by decide +kernel), by decide +kernel⟩,
   ⟨(asking (calm) 0xD001 []), 0, ⟨0, 0xD001, 7, []⟩, asked_of (by decide +kernel)⟩⟩

theorem witness_ParameterCommandsReadAndWrite :
    (∃ (s : State) (ch : Nat) (id : Nat) (k : Nat) (q : Req) (r : ParamRow), Asked s ch 0x0010 paramGetSpec q ∧ q.tlvs = [⟨id, []⟩] ∧ id ≠ 0xFFFE ∧ id ≠ 0x0033 ∧ paramRow? id = some (r, k) ∧ r.access ≠ .wo)
    ∧ (∃ (s : State) (ch : Nat) (q : Req) (l : List (Nat × PVal)), Asked s ch 0x0011 paramSetSpec q ∧ (begun s ch).setValues q.tlvs = .ok l ∧ (l.all (fun p => !isOverlay p.1 && !isResetClass p.1) = true))
    ∧ (∃ (s : State) (ch : Nat) (id : Nat) (q : Req) (v : PVal), Asked s ch 0x0011 paramSetSpec q ∧ (begun s ch).setValues q.tlvs = .ok [(id, v)] ∧ isOverlay id = true ∧ isResetClass id = false ∧ (begun s ch).writeRefused (writeCost 256) = none)
    ∧ (∃ (s : State) (ch : Nat) (id : Nat) (k : Nat) (q : Req) (r : ParamRow), Asked s ch 0x0012 paramSetSpec q ∧ q.tlvs = [⟨id, []⟩] ∧ paramRow? id = some (r, k)) :=
  ⟨⟨(asking (calm) 0x0010 [⟨0x2002, []⟩]), 0, 0x2002, 0, ⟨0, 0x0010, 7, [⟨0x2002, []⟩]⟩, ⟨0x2002, .bool, [(0, 1)], .val (.num 1), .rw, .immediate, 0, 1, 0, 0⟩, asked_of (by decide +kernel), by decide +kernel⟩,
   ⟨(asking (calm) 0x0011 [tlvN 0x2002 1 1]), 0, ⟨0, 0x0011, 7, [tlvN 0x2002 1 1]⟩, [(0x2002, .num 1)], asked_of (by decide +kernel), ok_of (by decide +kernel), by decide +kernel⟩,
   ⟨(asking (wired) 0x0011 [tlvN 0x2040 1 1]), 0, 0x2040, ⟨0, 0x0011, 7, [tlvN 0x2040 1 1]⟩, .num 1, asked_of (by decide +kernel), ok_of (by decide +kernel), by decide +kernel⟩,
   ⟨(asking (calm) 0x0012 [⟨0x2002, []⟩]), 0, 0x2002, 0, ⟨0, 0x0012, 7, [⟨0x2002, []⟩]⟩, ⟨0x2002, .bool, [(0, 1)], .val (.num 1), .rw, .immediate, 0, 1, 0, 0⟩, asked_of (by decide +kernel), by decide +kernel⟩⟩

theorem witness_ParameterReadsAsWritten :
    ∃ (id : Nat) (j : Nat), id < 0xA010 ∧ (¬ (0x4100 ≤ id ∧ id < 0x4500)) ∧ (¬ (0x5001 ≤ id ∧ id < 0x5200)) ∧ id ≠ 0x1011 ∧ id ≠ 0x1012 ∧ (¬ (0x1050 ≤ id ∧ id < 0x1055)) ∧ j ≠ id :=
  ⟨0xA00F, 0x1000, by decide +kernel⟩

theorem witness_StagingCommandsHoldAndApplySets :
    (∃ (s : State) (ch : Nat) (h : Nat) (q : Req) (c : CommitClass), Asked s ch 0x0020 { rows := [{ ty := 1, len := .exact 1 }, { ty := 2, len := .exact 2 }] } q ∧ CommitClass.ofCode? (q.nat 1) = some c ∧ c ≠ .reset ∧ c.takes (q.nat 2) = true ∧ tfree s.sets 4 = some h)
    ∧ (∃ (s : State) (ch : Nat) (q : Req) (x : StageSet) (l : List (Nat × PVal)) (ws : List Staged), Asked s ch 0x0021 stageWriteSpec q ∧ s.set? (q.nat 3) = some x ∧ x.committed = false ∧ ((begun s ch).stageValues x (q.tlvs.filter (fun t => t.ty != 3)) = .ok l) ∧ (addWrites x.writes (l.map (fun p => .param p.1 p.2)) = some ws))
    ∧ (∃ (s : State) (ch : Nat) (q : Req) (x : StageSet), Asked s ch 0x0022 handleSpec q ∧ s.set? (q.nat 3) = some x ∧ x.committed = false)
    ∧ (∃ (s : State) (ch : Nat) (q : Req) (x : StageSet), Asked s ch 0x0024 handleSpec q ∧ s.set? (q.nat 3) = some x)
    ∧ (∃ (s : State) (ch : Nat) (q : Req) (x : StageSet), Asked s ch 0x0023 commitSpec q ∧ s.set? (q.nat 3) = some x ∧ x.committed = false ∧ x.cls = .immediate ∧ (begun s ch).setFault x (q.nat 5) = none ∧ s.board.isSome = true)
    ∧ (∃ (s : State) (h : Nat) (x : StageSet), s.set? h = some x ∧ x.committed = true ∧ s.awake = true ∧ s.boundaryDue x = true ∧ s.boundaryGroup x = [(h, x)]) :=
  ⟨⟨(asking (calm) 0x0020 [tlvN 1 1 0, tlvN 2 2 0]), 0, 0, ⟨0, 0x0020, 7, [tlvN 1 1 0, tlvN 2 2 0]⟩, .immediate, asked_of (by decide +kernel), by decide +kernel⟩,
   ⟨(asking ({ calm with sets := [(3, { cls := .immediate, domain := 0 })] }) 0x0021 [tlvN 3 1 3, tlvN 0x2003 1 9]), 0, ⟨0, 0x0021, 7, [tlvN 3 1 3, tlvN 0x2003 1 9]⟩, { cls := .immediate, domain := 0 }, [(0x2003, .num 9)], [.param 0x2003 (.num 9)], asked_of (by decide +kernel), by decide +kernel, by decide +kernel, ok_of (by decide +kernel), by decide +kernel⟩,
   ⟨(asking ({ calm with sets := [(3, { cls := .immediate, domain := 0 })] }) 0x0022 [tlvN 3 1 3]), 0, ⟨0, 0x0022, 7, [tlvN 3 1 3]⟩, { cls := .immediate, domain := 0 }, asked_of (by decide +kernel), by decide +kernel⟩,
   ⟨(asking ({ calm with sets := [(3, { cls := .immediate, domain := 0 })] }) 0x0024 [tlvN 3 1 3]), 0, ⟨0, 0x0024, 7, [tlvN 3 1 3]⟩, { cls := .immediate, domain := 0 }, asked_of (by decide +kernel), by decide +kernel⟩,
   ⟨(asking ({ calm with sets := [(3, { cls := .immediate, domain := 0, writes := [.param 0x2003 (.num 9)] })], board := some plainBoard }) 0x0023 [tlvN 3 1 3]), 0, ⟨0, 0x0023, 7, [tlvN 3 1 3]⟩, { cls := .immediate, domain := 0, writes := [.param 0x2003 (.num 9)] }, asked_of (by decide +kernel), by decide +kernel⟩,
   ⟨{ calm with sets := [(3, { cls := .time, domain := 0, committed := true })] }, 3, { cls := .time, domain := 0, committed := true }, by decide +kernel, by decide +kernel, by decide +kernel, by decide +kernel, boundaryGroup_one (by decide +kernel)⟩⟩

theorem witness_SetAppliesWholeOrNotAtAll :
    (∃ (s : State) (h : Nat) (at_ : Nat) (e : Nat) (p : Nat) (x : StageSet), ({ s with sets := tdel s.sets h } : State).runSet x at_ = .error (e, p))
    ∧ (∃ (s : State) (u : State) (h : Nat) (at_ : Nat) (x : StageSet), ({ s with sets := tdel s.sets h } : State).runSet x at_ = .ok u) :=
  ⟨⟨calm, 3, 0, 9, 0x2040, { cls := .immediate, domain := 0, writes := [.param 0x2040 (.num 1)] }, error_of (by decide +kernel)⟩,
   ⟨calm, (calm.setParams [(0x2003, .num 9)]).overlayRecord { cls := .immediate, domain := 0, writes := [.param 0x2003 (.num 9)] }, 3, 0, { cls := .immediate, domain := 0, writes := [.param 0x2003 (.num 9)] }, rfl⟩⟩

theorem witness_DeclarationsAreAccepted :
    (∃ (s : State) (ch : Nat) (q : Req), Asked s ch 0x0030 boardSpec q ∧ (begun s ch).boardFault q = none ∧ (begun s ch).repeatFault (readBoard q) = none)
    ∧ (∃ (s : State) (ch : Nat) (q : Req), Asked s ch 0x0031 siteSpec q ∧ (begun s ch).ddrReady = true ∧ (begun s ch).classFault (q.nat 0x0201) = none ∧ q.has 0x0204 = false ∧ q.has 0x0205 = false ∧ s.sys.siteOk = true) :=
  ⟨⟨(asking (calm) 0x0030 [⟨0x0101, [1#8, 5#8, 0#8, 0#8, 0#8, 0#8, 0#8, 0#8]⟩, ⟨0x0103, List.replicate 12 0#8⟩, tlvN 0x0104 4 0, ⟨0x0105, u32 1000000 ++ u16 5000 ++ u16 10000 ++ u16 900 ++ u16 6000⟩, ⟨0x0106, [1#8, 2#8, 8#8, 1#8] ++ u16 4266 ++ u16 0⟩]), 0, ⟨0, 0x0030, 7, [⟨0x0101, [1#8, 5#8, 0#8, 0#8, 0#8, 0#8, 0#8, 0#8]⟩, ⟨0x0103, List.replicate 12 0#8⟩, tlvN 0x0104 4 0, ⟨0x0105, u32 1000000 ++ u16 5000 ++ u16 10000 ++ u16 900 ++ u16 6000⟩, ⟨0x0106, [1#8, 2#8, 8#8, 1#8] ++ u16 4266 ++ u16 0⟩]⟩, asked_of (by decide +kernel), by decide +kernel⟩,
   ⟨(asking ({ calm with sys := { boot := 4, siteOk := true } }) 0x0031 [tlvN 0x0201 1 7]), 0, ⟨0, 0x0031, 7, [tlvN 0x0201 1 7]⟩, asked_of (by decide +kernel), by decide +kernel⟩⟩

theorem witness_RecordWriteTakesTheOlderCopy :
    (∃ (r : NvRec), r.a = none ∧ r.b = none)
    ∧ (∃ (r : NvRec) (x : NvCopy), r.a = some x ∧ r.b = none)
    ∧ (∃ (r : NvRec) (x : NvCopy) (y : NvCopy), r.a = some x ∧ r.b = some y ∧ x.seq < 2 ^ 32 ∧ y.seq < 2 ^ 32 ∧ x.seq = (y.seq + 1) % 2 ^ 32)
    ∧ (∃ (r : NvRec) (x : NvCopy) (y : NvCopy), r.a = some x ∧ r.b = some y ∧ x.seq < 2 ^ 32 ∧ y.seq < 2 ^ 32 ∧ y.seq = (x.seq + 1) % 2 ^ 32) :=
  ⟨⟨{}, by decide +kernel⟩,
   ⟨{ a := some ⟨4294967295, .number 0⟩ }, ⟨4294967295, .number 0⟩, by decide +kernel⟩,
   ⟨{ a := some ⟨0, .number 0⟩, b := some ⟨4294967295, .number 0⟩ }, ⟨0, .number 0⟩, ⟨4294967295, .number 0⟩, by decide +kernel⟩,
   ⟨{ a := some ⟨4294967295, .number 0⟩, b := some ⟨0, .number 0⟩ }, ⟨4294967295, .number 0⟩, ⟨0, .number 0⟩, by decide +kernel⟩⟩

theorem witness_RecordCommandsStoreReadAndDelete :
    (∃ (s : State) (ch : Nat) (p : Nat) (q : Req), Asked s ch 0xD010 nvStoreSpec q ∧ 0x8000 ≤ q.nat 1 ∧ 0 < q.nat 3 ∧ q.nat 3 ≤ 8192 ∧ (begun s ch).areaOk (q.nat 2) (q.nat 3) = true ∧ tfind s.nv.recs (q.nat 1) = none ∧ (begun s ch).userFit (q.nat 3) = some p ∧ (begun s ch).writeRefused (writeCost (q.nat 3)) = none)
    ∧ (∃ (s : State) (ch : Nat) (seq : Nat) (b : Bytes) (q : Req), Asked s ch 0xD011 { rows := [{ ty := 1, len := .exact 2 }, { ty := 2, len := .exact 4 }] } q ∧ 0x8000 ≤ q.nat 1 ∧ (s.nvRec (q.nat 1)).newest = some ⟨seq, .bytes b⟩ ∧ (begun s ch).areaOk (q.nat 2) b.length = true)
    ∧ (∃ (s : State) (ch : Nat) (q : Req), Asked s ch 0xD012 { rows := [{ ty := 1, len := .exact 2 }] } q ∧ 0x8000 ≤ q.nat 1 ∧ (s.nvRec (q.nat 1)).newest.isSome = true ∧ (begun s ch).writeRefused (writeCost 0) = none)
    ∧ (∃ (s : State) (ch : Nat) (q : Req), Asked s ch 0xD014 noTlvs q) :=
  ⟨⟨(asking (wired) 0xD010 [tlvN 1 2 0x8000, tlvN 2 4 0x30000, tlvN 3 4 8192]), 0, (wired.userFit 8192).getD 0, ⟨0, 0xD010, 7, [tlvN 1 2 0x8000, tlvN 2 4 0x30000, tlvN 3 4 8192]⟩, asked_of (by decide +kernel), by decide +kernel⟩,
   ⟨(asking ({ wired with nv := { recs := [(0x8000, { a := some ⟨1, .bytes [5#8]⟩, len := 1 })] } }) 0xD011 [tlvN 1 2 0x8000, tlvN 2 4 0x30000]), 0, 1, [5#8], ⟨0, 0xD011, 7, [tlvN 1 2 0x8000, tlvN 2 4 0x30000]⟩, asked_of (by decide +kernel), by decide +kernel⟩,
   ⟨(asking ({ wired with nv := { recs := [(0x8000, { a := some ⟨1, .bytes [5#8]⟩, len := 1 })] } }) 0xD012 [tlvN 1 2 0x8000]), 0, ⟨0, 0xD012, 7, [tlvN 1 2 0x8000]⟩, asked_of (by decide +kernel), by decide +kernel⟩,
   ⟨(asking (calm) 0xD014 []), 0, ⟨0, 0xD014, 7, []⟩, asked_of (by decide +kernel)⟩⟩

theorem witness_WritesCompleteAndSupplyEventsAct :
    (∃ (s : State) (code : Nat) (w : NvWrite) (l : List NvWrite), s.awake = true ∧ s.nv.busy = none ∧ s.board.isSome = true ∧ s.nv.flush = none ∧ s.nv.queue = w :: l ∧ ({ s with pins := { s.pins with holdup := code } } : State).mayWrite w = true)
    ∧ (∃ (s : State) (id : Nat) (l : List (Nat × PVal)) (k : Nat), s.awake = true ∧ id ≠ 0 ∧ isMarkRecord id = false ∧ s.nv.flush = none ∧ s.nv.busy = some { id := id, data := some (.params l), size := 256, urgent := false, owners := [⟨none, .none⟩] } ∧ k ≠ id)
    ∧ (∃ (s : State), s.sys.hold.held = false ∧ s.sys.pstate ≠ .off ∧ s.sys.pstate ≠ .hibernate ∧ s.pins.mains = true ∧ s.board.isSome = true)
    ∧ (∃ (s : State), s.sys.hold.held = false ∧ s.sys.pstate ≠ .off ∧ s.pins.mains = false)
    ∧ (∃ (s : State) (code : Nat), s.sys.hold.held = false ∧ s.sys.pstate ≠ .off ∧ s.board.isSome = true ∧ s.pwr.below = false ∧ s.senseOver code 0 < 0)
    ∧ (∃ (s : State) (code : Nat), s.sys.hold.held = false ∧ s.sys.pstate ≠ .off ∧ s.board.isSome = true ∧ s.pwr.below = true ∧ 0 ≤ s.senseOver code 10) :=
  ⟨⟨{ wired with nv := { queue := [{ id := 0x0010, data := none, size := 256, urgent := false, owners := [⟨none, .none⟩] }] } }, 1023, { id := 0x0010, data := none, size := 256, urgent := false, owners := [⟨none, .none⟩] }, [], by decide +kernel⟩,
   ⟨{ calm with nv := { busy := some { id := 0x0010, data := some (.params []), size := 256, urgent := false, owners := [⟨none, .none⟩] } } }, 0x0010, [], 0, by decide +kernel⟩,
   ⟨{ wired with pins := { mains := true } }, by decide +kernel⟩,
   ⟨calm, by decide +kernel⟩,
   ⟨wired, 0, by decide +kernel⟩,
   ⟨{ wired with pwr := { below := true } }, 1023, by decide +kernel⟩⟩

theorem witness_RadioCommandsAndSamplesAct :
    (∃ (s : State) (ch : Nat) (x : Radio) (q : Req), Asked s ch 0x1001 calRunSpec q ∧ Radio.ofNat? (q.nat 1) = some x ∧ q.nat 2 ≤ 3 ∧ q.nat 3 ≤ 1 ∧ s.board.isSome = true ∧ (begun s ch).calMayStart x { set := q.nat 2, since := s.time.aon } = true)
    ∧ (∃ (s : State) (ch : Nat) (x : Radio) (q : Req), Asked s ch 0x1002 { rows := [{ ty := 1, len := .exact 1 }] } q ∧ Radio.ofNat? (q.nat 1) = some x)
    ∧ (∃ (s : State) (ch : Nat) (x : Radio) (q : Req), Asked s ch 0x1003 radioClearSpec q ∧ Radio.ofNat? (q.nat 1) = some x ∧ q.nat 2 ≤ 1)
    ∧ (∃ (s : State) (ch : Nat) (q : Req), Asked s ch 0x1003 radioClearSpec q ∧ q.nat 1 = 3 ∧ q.nat 2 ≤ 1)
    ∧ (∃ (s : State) (ch : Nat) (x : Radio) (q : Req), Asked s ch 0x1004 testTxSpec q ∧ Radio.ofNat? (q.nat 1) = some x ∧ inBand x (q.nat 2) = true ∧ q.nat 4 ≤ 1 ∧ 0 < q.nat 5 ∧ q.nat 5 ≤ 10000 ∧ ((begun s ch).femOf x).isSome = true ∧ ((begun s ch).netRuns x || (begun s ch).hasMember x || (begun s ch).hasTest x) = false)
    ∧ (∃ (s : State), s.awake = true)
    ∧ (∃ (s : State), s.awake = true)
    ∧ (∃ (s : State) (x : Radio) (st : RState), s.mayMove x st = true ∧ st ≠ .settle ∧ st ≠ .calBg)
    ∧ (∃ (s : State) (x : Radio), s.mayMove x .calBg = true)
    ∧ (∃ (s : State) (x : Radio), s.mayMove x .settle = true ∧ ((s.moveRadio x .settle false).radio x).calTemp = none ∧ ((s.moveRadio x .settle false).radio x).calRun = none)
    ∧ (∃ (s : State) (x : Radio), s.awake = true ∧ ((s.radio x).st = .settle ∨ (s.radio x).st = .rx) ∧ (s.radio x).relock = none ∧ (s.radio x).calTemp.isSome = true)
    ∧ (∃ (s : State), (s.rf.thaw.retunedAon + 32768 * s.pnat 0x1055 ≤ s.time.aon ∨ 100 ≤ (s.rf.dieTemp - s.rf.thaw.retunedTemp).natAbs))
    ∧ (∃ (s : State), s.time.aon < s.rf.thaw.retunedAon + 32768 * s.pnat 0x1055 ∧ (s.rf.dieTemp - s.rf.thaw.retunedTemp).natAbs < 100) :=
  ⟨⟨(asking (wired) 0x1001 [tlvN 1 1 2, tlvN 2 1 3, tlvN 3 1 1]), 0, .hb, ⟨0, 0x1001, 7, [tlvN 1 1 2, tlvN 2 1 3, tlvN 3 1 1]⟩, asked_of (by decide +kernel), by decide +kernel⟩,
   ⟨(asking (calm) 0x1002 [tlvN 1 1 2]), 0, .hb, ⟨0, 0x1002, 7, [tlvN 1 1 2]⟩, asked_of (by decide +kernel), by decide +kernel⟩,
   ⟨(asking (calm) 0x1003 [tlvN 1 1 2, tlvN 2 1 1]), 0, .hb, ⟨0, 0x1003, 7, [tlvN 1 1 2, tlvN 2 1 1]⟩, asked_of (by decide +kernel), by decide +kernel⟩,
   ⟨(asking (calm) 0x1003 [tlvN 1 1 3, tlvN 2 1 1]), 0, ⟨0, 0x1003, 7, [tlvN 1 1 3, tlvN 2 1 1]⟩, asked_of (by decide +kernel), by decide +kernel⟩,
   ⟨(asking (wired) 0x1004 [tlvN 1 1 1, tlvN 2 4 2450000, tlvN 3 2 0, tlvN 4 1 1, tlvN 5 4 10000]), 0, .mb, ⟨0, 0x1004, 7, [tlvN 1 1 1, tlvN 2 4 2450000, tlvN 3 2 0, tlvN 4 1 1, tlvN 5 4 10000]⟩, asked_of (by decide +kernel), by decide +kernel⟩,
   ⟨calm, by decide +kernel⟩,
   ⟨calm, by decide +kernel⟩,
   ⟨wired, .lb, .standby, by decide +kernel⟩,
   ⟨radioAt wired .lb { st := .calFg, calRun := some { set := 3, since := 0 } }, .lb, by decide +kernel⟩,
   ⟨radioAt wired .lb { st := .standby }, .lb, by decide +kernel⟩,
   ⟨radioAt calm .lb { st := .rx, calTemp := some 0 }, .lb, by decide +kernel⟩,
   ⟨{ calm with rf := { dieTemp := 100 } }, by decide +kernel⟩,
   ⟨{ calm with rf := { dieTemp := 99 } }, by decide +kernel⟩⟩

theorem witness_CalibrationsRunAndThawFramesMatch :
    (∃ (s : State) (x : Radio) (c : CalDue), s.awake = true ∧ ((s.radio x).cals.find? (fun c => s.calMayStart x c) = some c))
    ∧ (∃ (s : State) (x : Radio) (c : CalDue) (t : Int) (n : Nat), s.awake = true ∧ (s.radio x).gap = none ∧ ((s.radio x).cals.find? (fun c => decide (c.since + 32768 * s.pnat 0x1016 ≤ s.time.aon)) = some c) ∧ bestGap (s.activities x) s.now (s.calWindow c.set) = some (t, n))
    ∧ (∃ (s : State) (x : Radio) (c : CalDue), s.awake = true ∧ (s.radio x).calRun = some c ∧ c.set = 0)
    ∧ (∃ (s : State) (x : Radio) (item : Nat), s.awake = true ∧ item < 3 ∧ (s.radio x).st ≠ .off ∧ s.bgDue x item = true ∧ ((∀ j < item, s.bgDue x j = false)) ∧ s.radioIdle x = true ∧ gapAt (s.activities x) s.now (1000 * max (s.pnat 0x1013) (bgMaxUs item + 30)) = true)
    ∧ (∃ (s : State) (x : Radio), s.awake = true ∧ (s.radio x).locked = true ∧ (s.radio x).relock = none ∧ (s.radio x).group = none)
    ∧ (∃ (s : State) (x : Radio) (was : RState) (lost : Nat), s.awake = true ∧ (s.radio x).relock = some (was, lost))
    ∧ (∃ (s : State) (addr : Nat) (cmd : Nat) (check : Nat), s.thawDeaf s.thawFrame.1 s.thawFrame.2 = false ∧ crc8 0 (beBytes 2 addr ++ u8 cmd) ≠ check)
    ∧ (∃ (s : State) (addr : Nat) (cmd : Nat) (check : Nat), s.thawDeaf s.thawFrame.1 s.thawFrame.2 = false ∧ crc8 0 (beBytes 2 addr ++ u8 cmd) = check ∧ (s.thawFrame.2.matches addr = false))
    ∧ (∃ (s : State) (addr : Nat) (cmd : Nat) (check : Nat), s.thawDeaf s.thawFrame.1 s.thawFrame.2 = false ∧ crc8 0 (beBytes 2 addr ++ u8 cmd) = check ∧ (s.thawFrame.2.matches addr = true) ∧ s.pwr.thawPending = false)
    ∧ (∃ (s : State) (sync : Nat), s.thawDeaf s.thawFrame.1 s.thawFrame.2 = false ∧ sync ≠ 0x6E29)
    ∧ (∃ (s : State), s.thawDeaf s.thawFrame.1 s.thawFrame.2 = true) :=
  ⟨⟨radioAt calm .hb { cals := [{ set := 3, since := 0 }] }, .hb, { set := 3, since := 0 }, by decide +kernel⟩,
   ⟨{ radioAt calm .hb { cals := [{ set := 3, since := 0 }] } with time := { aon := 32768 * 3600 * 24 } }, .hb, { set := 3, since := 0 }, 0, 0, by decide +kernel⟩,
   ⟨radioAt calm .hb { calRun := some { set := 0, since := 0 } }, .hb, { set := 0, since := 0 }, by decide +kernel⟩,
   ⟨radioAt calm .hb { st := .rx, bg := [{ lastAon := some 0 }, { lastAon := some 0 }, {}] }, .hb, 2, by decide +kernel⟩,
   ⟨radioAt calm .hb { locked := true }, .hb, by decide +kernel⟩,
   ⟨radioAt calm .hb { relock := some (.rx, 0) }, .hb, .rx, 0, by decide +kernel⟩,
   ⟨{ calm with params := [(0x1050, .num 1), (0x1053, .num 5)] }, 5, 1, (crc8 0 (beBytes 2 5 ++ u8 1) + 1) % 256, by decide +kernel⟩,
   ⟨{ calm with params := [(0x1050, .num 1), (0x1053, .num 5)] }, 0xFFFF, 1, crc8 0 (beBytes 2 0xFFFF ++ u8 1), by decide +kernel⟩,
   ⟨{ calm with params := [(0x1050, .num 1), (0x1053, .num 5)] }, 5, 1, crc8 0 (beBytes 2 5 ++ u8 1), by decide +kernel⟩,
   ⟨{ calm with params := [(0x1050, .num 1), (0x1053, .num 5)] }, 0x6E28, by decide +kernel⟩,
   ⟨{ calm with params := [(0x1050, .num 1), (0x1053, .num 5)], rf := { thaw := { blanked := true } } }, by decide +kernel⟩⟩

theorem witness_EmissionsAreLockedStartedAndEnded :
    (∃ (s : State) (x : Radio) (g : List Emission), s.awake = true ∧ s.dueGroup x = g ∧ g ≠ [] ∧ (g.all (fun e => match e.owner with | .beacon _ _ => false | _ => true) = true) ∧ ((∀ e ∈ g, e.owner = .test ∨ s.firstSymbol g ≤ s.latestStart e)))
    ∧ (∃ (s : State) (x : Radio) (g : EmGroup), (s.radio x).group = some g ∧ s.mayStart g g.start = true ∧ g.hold = none ∧ s.yields x = true)
    ∧ (∃ (s : State) (x : Radio) (g : EmGroup) (h : HoldCause), (s.radio x).group = some g ∧ s.mayStart g g.start = true ∧ g.hold = none ∧ s.yields x = false ∧ s.heldBy x g = some h)
    ∧ (∃ (s : State) (x : Radio) (g : EmGroup), (s.radio x).group = some g ∧ s.mayStart g g.start = true ∧ g.hold = none ∧ s.yields x = false ∧ s.heldBy x g = none)
    ∧ (∃ (s : State) (x : Radio) (g : EmGroup), (s.radio x).group = some g ∧ s.mayStart g g.start = true ∧ g.hold = none ∧ s.yields x = false ∧ s.heldBy x g = none ∧ s.beyondProjection g = true)
    ∧ (∃ (s : State) (x : Radio) (g : EmGroup), (s.radio x).group = some g ∧ s.mayStart g g.start = true ∧ g.hold = none ∧ s.yields x = false ∧ s.heldBy x g = none ∧ s.beyondProjection g = false)
    ∧ (∃ (s : State) (x : Radio) (g : EmGroup), (s.radio x).group = some g ∧ s.mayStart g (s.firstAt x g) = true ∧ g.hold.isSome = true ∧ s.blockedBy x g = none)
    ∧ (∃ (s : State) (x : Radio) (id : Nat) (e : Emission), ((s.radio x).pend.find? (fun e => e.id == id) = some e) ∧ e.owner ≠ .test ∧ s.latestStart e ≤ s.now)
    ∧ (∃ (s : State) (x : Radio) (id : Nat) (g : EmGroup) (c : Carrier), ((s.radio x).pend.find? (fun e => e.id == id) = none) ∧ (s.radio x).follow = [] ∧ (s.radio x).group = some g ∧ g.onAir = false ∧ g.carriers = [c] ∧ c.em.id = id ∧ c.em.owner ≠ .test ∧ s.latestStart c.em ≤ s.now ∧ s.stillStarts x g c.em = false)
    ∧ (∃ (s : State) (x : Radio) (g : EmGroup), (s.radio x).group = some g ∧ g.onAir = true ∧ g.cut = none)
    ∧ (∃ (s : State) (x : Radio) (g : EmGroup) (v : Nat), (s.radio x).group = some g ∧ g.onAir = true ∧ g.cut = some v) :=
  ⟨⟨radioAt calm .mb { pend := [anEmission .test] }, .mb, [anEmission .test], by decide +kernel⟩,
   ⟨radioAt { wired with rf := { coexB := { gnt := true } } } .hb { group := some { carriers := [aCarrier .test], start := 0 }, locked := true, verified := true }, .hb, { carriers := [aCarrier .test], start := 0 }, by decide +kernel⟩,
   ⟨radioAt calm .mb { group := some { carriers := [aCarrier .test], start := 0 } }, .mb, { carriers := [aCarrier .test], start := 0 }, .synth, by decide +kernel⟩,
   ⟨radioAt calm .mb { group := some { carriers := [aCarrier .test], start := 100, due := 0 }, locked := true, verified := true }, .mb, { carriers := [aCarrier .test], start := 100, due := 0 }, by decide +kernel⟩,
   ⟨radioAt { calm with time := { offset := 100000100 } } .mb { group := some { carriers := [aCarrier .test], start := 100000000, due := 0 }, locked := true, verified := true }, .mb, { carriers := [aCarrier .test], start := 100000000, due := 0 }, by decide +kernel⟩,
   ⟨radioAt calm .mb { group := some { carriers := [aCarrier .test], start := 0 }, locked := true, verified := true }, .mb, { carriers := [aCarrier .test], start := 0 }, by decide +kernel⟩,
   ⟨radioAt calm .mb { group := some { carriers := [aCarrier .test], start := 0, hold := some .coex }, locked := true, verified := true }, .mb, { carriers := [aCarrier .test], start := 0, hold := some .coex }, by decide +kernel⟩,
   ⟨radioAt { calm with time := { offset := 100000000 } } .mb { pend := [anEmission (.beacon .mb 0)] }, .mb, 1, anEmission (.beacon .mb 0), by decide +kernel⟩,
   ⟨radioAt { calm with time := { offset := 100000000 } } .mb { group := some { carriers := [aCarrier (.beacon .mb 0)], start := 0, hold := some .selfcoex } }, .mb, 1, { carriers := [aCarrier (.beacon .mb 0)], start := 0, hold := some .selfcoex }, aCarrier (.beacon .mb 0), by decide +kernel⟩,
   ⟨radioAt calm .mb { group := some { carriers := [aCarrier .test], start := 0, onAir := true } }, .mb, { carriers := [aCarrier .test], start := 0, onAir := true }, by decide +kernel⟩,
   ⟨radioAt calm .mb { group := some { carriers := [aCarrier .test], start := 0, onAir := true, cut := some 5 } }, .mb, { carriers := [aCarrier .test], start := 0, onAir := true, cut := some 5 }, 5, by decide +kernel⟩⟩

theorem witness_EmissionRowsComplete :
    (∃ (s : State) (x : Radio) (g : List Emission), s.awake = true ∧ (s.radio x).group = none ∧ s.dueGroup x = g ∧ g ≠ [] ∧ ((∀ e ∈ g, e.owner = .test ∨ s.firstSymbol g ≤ s.latestStart e)))
    ∧ (∃ (s : State) (u : State) (x : Radio) (g : EmGroup) (h : EmGroup), (s.radio x).group = some g ∧ s.yields x = false ∧ s.beyondProjection g = false ∧ s.rampPower x g = (h, u) ∧ g.hold = none ∧ s.mayStart g g.start = true ∧ s.heldBy x g = none)
    ∧ (∃ (s : State) (u : State) (x : Radio) (g : EmGroup) (h : EmGroup), (s.radio x).group = some g ∧ s.yields x = false ∧ s.beyondProjection g = false ∧ s.rampPower x g = (h, u) ∧ g.hold.isSome = true ∧ s.mayStart g (s.firstAt x g) = true ∧ s.blockedBy x g = none)
    ∧ (∃ (s : State) (x : Radio) (id : Nat) (e : Emission), ((s.radio x).pend.find? (fun e => e.id == id) = some e) ∧ e.owner ≠ .test ∧ s.latestStart e ≤ s.now)
    ∧ (∃ (s : State) (x : Radio) (g : EmGroup), (s.radio x).group = some g ∧ g.onAir = true ∧ (s.radio x).follow = []) :=
  ⟨⟨radioAt calm .mb { pend := [anEmission .test] }, .mb, [anEmission .test], by decide +kernel⟩,
   ⟨radioAt calm .mb { group := some { carriers := [aCarrier .test], start := 0 }, locked := true, verified := true }, ((radioAt calm .mb { group := some { carriers := [aCarrier .test], start := 0 }, locked := true, verified := true }).rampPower .mb { carriers := [aCarrier .test], start := 0 }).2, .mb, { carriers := [aCarrier .test], start := 0 }, ((radioAt calm .mb { group := some { carriers := [aCarrier .test], start := 0 }, locked := true, verified := true }).rampPower .mb { carriers := [aCarrier .test], start := 0 }).1, by decide +kernel, by decide +kernel, by decide +kernel, by decide +kernel, by decide +kernel, rfl, by decide +kernel⟩,
   ⟨radioAt calm .mb { group := some { carriers := [aCarrier .test], start := 0, hold := some .coex }, locked := true, verified := true }, ((radioAt calm .mb { group := some { carriers := [aCarrier .test], start := 0, hold := some .coex }, locked := true, verified := true }).rampPower .mb { carriers := [aCarrier .test], start := 0, hold := some .coex }).2, .mb, { carriers := [aCarrier .test], start := 0, hold := some .coex }, ((radioAt calm .mb { group := some { carriers := [aCarrier .test], start := 0, hold := some .coex }, locked := true, verified := true }).rampPower .mb { carriers := [aCarrier .test], start := 0, hold := some .coex }).1, by decide +kernel, by decide +kernel, by decide +kernel, by decide +kernel, by decide +kernel, rfl, by decide +kernel⟩,
   ⟨radioAt { calm with time := { offset := 100000000 } } .mb { pend := [anEmission (.beacon .mb 0)] }, .mb, 1, anEmission (.beacon .mb 0), by decide +kernel⟩,
   ⟨radioAt calm .mb { group := some { carriers := [aCarrier .test], start := 0, onAir := true } }, .mb, { carriers := [aCarrier .test], start := 0, onAir := true }, by decide +kernel⟩⟩

theorem witness_CoexistencePortsFollowTheirLines :
    (∃ (s : State) (b : Bool) (x : Radio) (g : EmGroup), s.awake = true ∧ s.coexRadio b false = some x ∧ (s.radio x).nextGroup = some g ∧ g.start - (1000 * s.coexParam b 0x1030 : Nat) ≤ s.now)
    ∧ (∃ (s : State) (b : Bool) (x : Radio), s.awake = true ∧ s.coexRadio b false = some x ∧ s.coexParam b 0x1033 = 1)
    ∧ (∃ (s : State) (b : Bool) (x : Radio) (g : EmGroup), s.awake = true ∧ s.coexRadio b false = some x ∧ (s.radio x).nextGroup = some g ∧ (s.coexPort b).req = true ∧ g.start - (1000 * (s.coexPort b).sample : Nat) ≤ s.now ∧ s.now ≤ g.start)
    ∧ (∃ (s : State) (b : Bool) (x : Radio), s.awake = true ∧ s.coexRadio b false = some x ∧ (s.coexPort b).req = true ∧ (s.coexPort b).gnt = false)
    ∧ (∃ (s : State) (b : Bool) (x : Radio) (g : EmGroup), s.awake = true ∧ s.coexRadio b false = some x ∧ (s.radio x).group = some g ∧ g.onAir = true ∧ (s.coexPort b).revoke = true)
    ∧ (∃ (s : State) (b : Bool) (x : Radio), s.awake = true ∧ s.coexRadio b true = some x ∧ s.guarded x b = [] ∧ (s.coexPort b).spent = false)
    ∧ (∃ (s : State) (b : Bool) (pri : Bool) (x : Radio) (e : Emission) (l : List Emission), s.awake = true ∧ s.coexRadio b true = some x ∧ s.guarded x b = e :: l ∧ s.coexRead b 2 pri = false)
    ∧ (∃ (s : State) (b : Bool) (x : Radio), s.awake = true ∧ s.coexRadio b true = some x)
    ∧ (∃ (s : State) (b : Bool) (x : Radio), s.awake = true ∧ s.coexRadio b true = some x ∧ (s.coexPort b).gnt = true ∧ s.ranUs (some (s.coexPort b).rose) (s.coexPort b).limit = true) :=
  ⟨⟨radioAt wired .mb { group := some { carriers := [aCarrier .test], start := 0 } }, false, .mb, { carriers := [aCarrier .test], start := 0 }, by decide +kernel⟩,
   ⟨{ wired with params := [(0x1033, .num 1)] }, false, .mb, by decide +kernel⟩,
   ⟨radioAt { wired with rf := { coexA := { req := true, sample := 5 } } } .mb { group := some { carriers := [aCarrier .test], start := 5000 } }, false, .mb, { carriers := [aCarrier .test], start := 5000 }, by decide +kernel⟩,
   ⟨{ wired with rf := { coexA := { req := true } } }, false, .mb, by decide +kernel⟩,
   ⟨radioAt { wired with rf := { coexA := { revoke := true } } } .mb { group := some { carriers := [aCarrier .test], start := 0, onAir := true } }, false, .mb, { carriers := [aCarrier .test], start := 0, onAir := true }, by decide +kernel⟩,
   ⟨wired, true, .hb, by decide +kernel⟩,
   ⟨radioAt wired .hb { pend := [anEmission .test] }, true, false, .hb, anEmission .test, [], by decide +kernel⟩,
   ⟨wired, true, .hb, by decide +kernel⟩,
   ⟨{ wired with time := { raw := 2 ^ 40 }, rf := { coexB := { gnt := true } } }, true, .hb, by decide +kernel⟩⟩

theorem witness_FramesAreFollowedDecodedAndEnded :
    (∃ (s : State) (l : Nat) (v : Lane) (a : Int) (b : Int), s.awake = true ∧ s.lane? l = some v ∧ v.window = some (a, b) ∧ a ≤ s.now ∧ s.now < b)
    ∧ (∃ (s : State) (l : Nat), s.lane? l = none ∧ (l = 0 ∨ l = 48 ∨ l = 49))
    ∧ (∃ (s : State) (l : Nat) (v : Lane), s.lane? l = some v ∧ v.open_ = true ∧ s.windowOver v = true ∧ v.frame = none ∧ v.detected = false ∧ v.scan = false ∧ v.wide = true)
    ∧ (∃ (s : State) (l : Nat) (v : Lane), s.lane? l = some v ∧ v.open_ = true ∧ s.windowOver v = true ∧ v.frame.isSome = true)
    ∧ (∃ (s : State) (l : Nat) (v : Lane), s.lane? l = some v ∧ s.windowOver v = false)
    ∧ (∃ (s : State) (l : Nat) (rho : Nat) (v : Lane), s.awake = true ∧ s.lane? l = some v ∧ v.open_ = true ∧ v.frame = none ∧ s.isBlanked (laneRadio l) = false ∧ s.fires l v rho = true)
    ∧ (∃ (s : State) (l : Nat) (rho : Nat) (v : Lane), s.lane? l = some v ∧ (s.fires l v rho = false ∨ s.isBlanked (laneRadio l) = true))
    ∧ (∃ (s : State) (l : Nat) (v : Lane) (f : RxFrame), s.lane? l = some v ∧ v.frame = some f ∧ f.sfd = false ∧ s.searchOver l v f = true)
    ∧ (∃ (s : State) (l : Nat) (v : Lane) (f : RxFrame), s.lane? l = some v ∧ v.frame = some f ∧ f.sfd = false ∧ s.now ≤ f.at_ + (s.searchNs (s.laneMode l v) : Int))
    ∧ (∃ (s : State) (l : Nat) (n : Nat) (m : Nat) (v : Lane) (f : RxFrame) (p : Phr), s.lane? l = some v ∧ v.frame = some f ∧ f.sfd = true ∧ f.len = none ∧ s.phrLen l v p = some (n, m))
    ∧ (∃ (s : State) (l : Nat) (v : Lane) (f : RxFrame) (p : Phr), s.lane? l = some v ∧ v.frame = some f ∧ f.sfd = true ∧ f.len = none ∧ s.phrLen l v p = none)
    ∧ (∃ (s : State) (l : Nat) (net : Net) (v : Lane) (f : RxFrame) (h : RxHdr), s.lane? l = some v ∧ (laneRadio l).net? = some net ∧ v.frame = some f ∧ f.len.isSome = true ∧ f.hdr = none ∧ v.cells ≠ [] ∧ ((h.unsupported = true ∨ h.level = 4 ∨ h.dstOk = false ∨ h.pan ≠ s.netParam net 0x3002)))
    ∧ (∃ (s : State) (l : Nat) (net : Net) (v : Lane) (f : RxFrame) (h : RxHdr), s.lane? l = some v ∧ (laneRadio l).net? = some net ∧ v.frame = some f ∧ f.len.isSome = true ∧ f.hdr = none ∧ v.cells ≠ [] ∧ h.unsupported = false ∧ h.level ≠ 4 ∧ h.dstOk = true ∧ h.pan = s.netParam net 0x3002 ∧ h.beacon = none ∧ s.ackCtx net v = none ∧ ((s.laneCells net v).any (fun c => c.kind == 2) = false) ∧ ((match h.srcExt with | some e => s.ctxOfEui e | none => s.ctxOfShort net.ix h.srcShort) = none))
    ∧ (∃ (s : State) (l : Nat) (bytes : Nat) (v : Lane) (f : RxFrame), s.lane? l = some v ∧ v.frame = some f ∧ l ≠ 49 ∧ bytes ≤ 64 ∧ s.softUsed + bytes ≤ 65536)
    ∧ (∃ (s : State) (k : Nat) (b : SoftBlock), tfind s.bb.running k = some b)
    ∧ (∃ (s : State) (l : Nat) (v : Lane) (f : RxFrame), s.lane? l = some v ∧ v.frame = some f ∧ f.sfd = true ∧ s.decoding l = false ∧ s.isBlanked (laneRadio l) = false)
    ∧ (∃ (s : State) (l : Nat) (net : Net) (v : Lane) (f : RxFrame) (h : RxHdr), s.lane? l = some v ∧ v.frame = some f ∧ f.sfd = true ∧ f.hdr = some h ∧ (laneRadio l).net? = some net ∧ s.decoding l = false ∧ s.isBlanked (laneRadio l) = false) :=
  ⟨⟨{ calm with bb := { lanes := [(31, { khz := 868100, window := some (0, 1) })] } }, 31, { khz := 868100, window := some (0, 1) }, 0, 1, by decide +kernel⟩,
   ⟨calm, 49, by decide +kernel⟩,
   ⟨{ calm with bb := { lanes := [(31, { khz := 868100, open_ := true, wide := true })] } }, 31, { khz := 868100, open_ := true, wide := true }, by decide +kernel⟩,
   ⟨{ calm with bb := { lanes := [(31, { khz := 868100, open_ := true, frame := some { level := 0 } })] } }, 31, { khz := 868100, open_ := true, frame := some { level := 0 } }, by decide +kernel⟩,
   ⟨{ calm with bb := { lanes := [(31, { khz := 868100, window := some (0, 1) })] } }, 31, { khz := 868100, window := some (0, 1) }, by decide +kernel⟩,
   ⟨{ calm with bb := { lanes := [(31, { khz := 868100, open_ := true })] } }, 31, (2 ^ 20), { khz := 868100, open_ := true }, by decide +kernel⟩,
   ⟨{ calm with bb := { lanes := [(31, { khz := 868100, open_ := true })] } }, 31, 0, { khz := 868100, open_ := true }, by decide +kernel⟩,
   ⟨{ calm with bb := { lanes := [(31, { khz := 868100, frame := some { level := 0, at_ := -1000000000000 } })] } }, 31, { khz := 868100, frame := some { level := 0, at_ := -1000000000000 } }, { level := 0, at_ := -1000000000000 }, by decide +kernel⟩,
   ⟨{ calm with bb := { lanes := [(31, { khz := 868100, frame := some { level := 0 } })] } }, 31, { khz := 868100, frame := some { level := 0 } }, { level := 0 }, by decide +kernel⟩,
   ⟨{ calm with bb := { lanes := [(31, { khz := 868100, frame := some { level := 0, sfd := true } })] } }, 31, 2047, calm.laneMode 31 { khz := 868100 }, { khz := 868100, frame := some { level := 0, sfd := true } }, { level := 0, sfd := true }, .client (some 2047) (calm.laneMode 31 { khz := 868100 }), by decide +kernel⟩,
   ⟨{ calm with bb := { lanes := [(31, { khz := 868100, frame := some { level := 0, sfd := true } })] } }, 31, { khz := 868100, frame := some { level := 0, sfd := true } }, { level := 0, sfd := true }, .client (some 2048) 0x01, by decide +kernel⟩,
   ⟨{ calm with bb := { lanes := [(31, { khz := 868100, cells := [1], frame := some { level := 0, sfd := true, len := some 20 } })] } }, 31, .lb, { khz := 868100, cells := [1], frame := some { level := 0, sfd := true, len := some 20 } }, { level := 0, sfd := true, len := some 20 }, { pan := calm.netParam .lb 0x3002, dstOk := true, srcExt := none, srcShort := 0x11, unsupported := true, level := 5, keyIdx := 0, counter := 1, ackReq := false, beacon := none }, by decide +kernel⟩,
   ⟨{ calm with bb := { lanes := [(31, { khz := 868100, cells := [1], frame := some { level := 0, sfd := true, len := some 20 } })] } }, 31, .lb, { khz := 868100, cells := [1], frame := some { level := 0, sfd := true, len := some 20 } }, { level := 0, sfd := true, len := some 20 }, { pan := calm.netParam .lb 0x3002, dstOk := true, srcExt := none, srcShort := 0x11, unsupported := false, level := 5, keyIdx := 0, counter := 1, ackReq := false, beacon := none }, by decide +kernel⟩,
   ⟨{ calm with bb := { lanes := [(31, { khz := 868100, frame := some { level := 0, sfd := true } })] } }, 31, 64, { khz := 868100, frame := some { level := 0, sfd := true } }, { level := 0, sfd := true }, by decide +kernel⟩,
   ⟨{ calm with bb := { running := [(7, { id := 31, lane := 8, bytes := 0, postedAt := 0 })] } }, 7, { id := 31, lane := 8, bytes := 0, postedAt := 0 }, by decide +kernel⟩,
   ⟨{ calm with bb := { lanes := [(31, { khz := 868100, frame := some { level := 0, sfd := true } })] } }, 31, { khz := 868100, frame := some { level := 0, sfd := true } }, { level := 0, sfd := true }, by decide +kernel⟩,
   ⟨{ calm with bb := { lanes := [(31, { khz := 868100, frame := some { level := 0, sfd := true, hdr := some { pan := calm.netParam .lb 0x3002, dstOk := true, srcExt := none, srcShort := 0x11, unsupported := false, level := 5, keyIdx := 0, counter := 1, ackReq := false, beacon := none } } })] } }, 31, .lb, { khz := 868100, frame := some { level := 0, sfd := true, hdr := some { pan := calm.netParam .lb 0x3002, dstOk := true, srcExt := none, srcShort := 0x11, unsupported := false, level := 5, keyIdx := 0, counter := 1, ackReq := false, beacon := none } } }, { level := 0, sfd := true, hdr := some { pan := calm.netParam .lb 0x3002, dstOk := true, srcExt := none, srcShort := 0x11, unsupported := false, level := 5, keyIdx := 0, counter := 1, ackReq := false, beacon := none } }, { pan := calm.netParam .lb 0x3002, dstOk := true, srcExt := none, srcShort := 0x11, unsupported := false, level := 5, keyIdx := 0, counter := 1, ackReq := false, beacon := none }, by decide +kernel⟩⟩

theorem witness_SecondPreambleForksSwitchesOrStays :
    (∃ (s : State) (l : Nat) (rho : Nat) (v : Lane) (f : RxFrame), s.lane? l = some v ∧ v.frame = some f ∧ s.fires l v rho = false)
    ∧ (∃ (s : State) (l : Nat) (rho : Nat) (v : Lane) (f : RxFrame) (raw : Int) (k : Nat), s.lane? l = some v ∧ v.frame = some f ∧ s.fires l v rho = true ∧ (let x := laneRadio l; s.bbParam x 0x2002 = 1) ∧ (let x := laneRadio l; let level := raw + s.levelOffset x; f.level + 4 * (s.bbParam x 0x2003 : Int) ≤ level) ∧ s.forkLane l = some k ∧ (let x := laneRadio l; s.bb.lanes.all (fun p => laneRadio p.1 != x || !p.2.forked) = true) ∧ k ≠ l)
    ∧ (∃ (s : State) (l : Nat) (rho : Nat) (v : Lane) (f : RxFrame) (raw : Int), s.lane? l = some v ∧ v.frame = some f ∧ s.fires l v rho = true ∧ (let x := laneRadio l; let level := raw + s.levelOffset x; s.bbParam x 0x2002 ≠ 1 ∨ level < f.level + 4 * (s.bbParam x 0x2003 : Int) ∨ (s.forkLane l = none ∧ s.weakFork x level = none)) ∧ (let x := laneRadio l; let level := raw + s.levelOffset x; f.level + 4 * (s.bbParam x 0x2001 : Int) ≤ level) ∧ (f.matched = false))
    ∧ (∃ (s : State) (l : Nat) (rho : Nat) (v : Lane) (f : RxFrame) (raw : Int), s.lane? l = some v ∧ v.frame = some f ∧ s.fires l v rho = true ∧ (let x := laneRadio l; let level := raw + s.levelOffset x; s.bbParam x 0x2002 ≠ 1 ∨ level < f.level + 4 * (s.bbParam x 0x2003 : Int) ∨ (s.forkLane l = none ∧ s.weakFork x level = none)) ∧ (let x := laneRadio l; let level := raw + s.levelOffset x; f.matched = true ∨ level < f.level + 4 * (s.bbParam x 0x2001 : Int))) :=
  ⟨⟨{ calm with bb := { lanes := [(31, { khz := 868100, frame := some { level := 0 } })] } }, 31, 0, { khz := 868100, frame := some { level := 0 } }, { level := 0 }, by decide +kernel⟩,
   ⟨{ calm with bb := { lanes := [(31, { khz := 868100, frame := some { level := 0 } })] } }, 31, 2 ^ 20, { khz := 868100, frame := some { level := 0 } }, { level := 0 }, 1000 - ({ calm with bb := { lanes := [(31, { khz := 868100, frame := some { level := 0 } })] } } : State).levelOffset (laneRadio 31), 0, by decide +kernel, by decide +kernel, by decide +kernel, by decide +kernel, above_of (by decide +kernel), by decide +kernel⟩,
   ⟨{ calm with params := [(0x2002, .num 0)], bb := { lanes := [(31, { khz := 868100, frame := some { level := 0 } })] } }, 31, 2 ^ 20, { khz := 868100, frame := some { level := 0 } }, { level := 0 }, 1000 - ({ calm with params := [(0x2002, .num 0)], bb := { lanes := [(31, { khz := 868100, frame := some { level := 0 } })] } } : State).levelOffset (laneRadio 31), by decide +kernel, by decide +kernel, by decide +kernel, Or.inl (by decide +kernel), above_of (by decide +kernel), by decide +kernel⟩,
   ⟨{ calm with params := [(0x2002, .num 0)], bb := { lanes := [(31, { khz := 868100, frame := some { level := 0, matched := true } })] } }, 31, 2 ^ 20, { khz := 868100, frame := some { level := 0, matched := true } }, { level := 0, matched := true }, 0, by decide +kernel, by decide +kernel, by decide +kernel, Or.inl (by decide +kernel), Or.inl rfl⟩⟩

theorem witness_TimeslotsArePlannedStartedAndEnded :
    (∃ (s : State) (n : Net), s.awake = true ∧ (s.net n).running = true ∧ (s.net n).plan = none ∧ (s.net n).waitMark = false ∧ s.slotAt n (if (s.net n).begun then 1 else 0) - 500000 ≤ s.now)
    ∧ (∃ (s : State) (n : Net), s.awake = true ∧ (s.net n).running = true ∧ (s.net n).waitMark = false ∧ s.slotAt n (if (s.net n).begun then 1 else 0) ≤ s.now ∧ (s.dueWrites (0x0100 + n.ix) (s.asnAfter n (if (s.net n).begun then 1 else 0))).isEmpty = true)
    ∧ (∃ (s : State) (n : Net), (s.net n).waitMark = true)
    ∧ (∃ (s : State), s.awake = true ∧ 10000000 ≤ s.receiveNs .hb)
    ∧ (∃ (s : State) (x : Radio) (c : Nat) (k : Nat), s.awake = true ∧ x ≠ .hb ∧ ((s.bbRadio x).clipped = true ∨ tget 0 (s.bbRadio x).clipCount c + k ≤ s.bbParam x 0x2014))
    ∧ (∃ (s : State) (x : Radio) (c : Nat) (k : Nat), s.awake = true ∧ x ≠ .hb ∧ (s.bbRadio x).clipped = false ∧ s.bbParam x 0x2014 < tget 0 (s.bbRadio x).clipCount c + k)
    ∧ (∃ (s : State) (n : Net) (level : Int), level + s.levelOffset n.radio ≤ 4 * s.schedInt n 0x3014)
    ∧ (∃ (s : State) (n : Net) (khz : Nat) (c : Nat) (k : Nat) (cell : Nat) (level : Int) (e : Emission), s.awake = true ∧ ((s.net n).slotStart + (1000 * (s.netParam n 0x3005 + s.netParam n 0x3006) : Nat) ≤ s.now ∨ s.isDsme n = true) ∧ 4 * s.schedInt n 0x3014 < level + s.levelOffset n.radio ∧ ((s.radio n.radio).pend.find? (fun e => e.khz == khz && s.inSharedCell n e) = some e) ∧ e.owner = .client c k cell) :=
  ⟨⟨{ calm with nets := ⟨{ running := true }, {}⟩ }, .lb, by decide +kernel⟩,
   ⟨{ calm with nets := ⟨{ running := true }, {}⟩ }, .lb, by decide +kernel⟩,
   ⟨{ calm with nets := ⟨{ running := true, waitMark := true }, {}⟩ }, .lb, by decide +kernel⟩,
   ⟨{ calm with time := { offset := 10000000 } }, by decide +kernel⟩,
   ⟨calm, .mb, 1, calm.bbParam .mb 0x2014, by decide +kernel⟩,
   ⟨calm, .mb, 1, calm.bbParam .mb 0x2014 + 1, by decide +kernel⟩,
   ⟨calm, .mb, 4 * calm.schedInt .mb 0x3014 - calm.levelOffset Net.mb.radio, by omega⟩,
   ⟨radioAt { calm with time := { offset := 1000000000 }, cells := [(1, { net := 0, handle := 0, slot := 0, chan := 0, kind := 0, opts := 5, span := 0, ctx := 0, slotMin := 0, slotMax := 0 })] } .lb { pend := [{ anEmission (.client 0 0 1) with khz := 868100 }] }, .lb, 868100, 0, 0, 1, 4 * (radioAt { calm with time := { offset := 1000000000 }, cells := [(1, { net := 0, handle := 0, slot := 0, chan := 0, kind := 0, opts := 5, span := 0, ctx := 0, slotMin := 0, slotMax := 0 })] } .lb { pend := [{ anEmission (.client 0 0 1) with khz := 868100 }] } : State).schedInt .lb 0x3014 + 1 - (radioAt { calm with time := { offset := 1000000000 }, cells := [(1, { net := 0, handle := 0, slot := 0, chan := 0, kind := 0, opts := 5, span := 0, ctx := 0, slotMin := 0, slotMax := 0 })] } .lb { pend := [{ anEmission (.client 0 0 1) with khz := 868100 }] } : State).levelOffset Net.lb.radio, { anEmission (.client 0 0 1) with khz := 868100 }, by decide +kernel, by decide +kernel, by omega, by decide +kernel⟩⟩

theorem witness_BasebandCommandsAnswer :
    (∃ (s : State) (ch : Nat) (x : Radio) (q : Req), Asked s ch 0x2001 radioClearSpec q ∧ Radio.ofNat? (q.nat 1) = some x ∧ q.nat 2 ≤ 1)
    ∧ (∃ (s : State) (ch : Nat) (x : Radio) (q : Req), Asked s ch 0x2005 radioClearSpec q ∧ Radio.ofNat? (q.nat 1) = some x ∧ q.nat 2 ≤ 1)
    ∧ (∃ (s : State) (ch : Nat) (x : Radio) (q : Req), Asked s ch 0x2002 nfConfigSpec q ∧ Radio.ofNat? (q.nat 1) = some x ∧ x ≠ .hb ∧ 2 ≤ q.nat 3 ∧ q.nat 3 ≤ 1024 ∧ 0 < q.nat 4 ∧ q.nat 4 ≤ 1000 ∧ q.nat 5 ≤ 2 ∧ q.nat 6 = 1 ∧ (begun s ch).areaOk (q.nat 2) (q.nat 3 * (32 + 2 * nfCount x)) = true)
    ∧ (∃ (s : State) (ch : Nat) (x : Radio) (q : Req), Asked s ch 0x2003 { rows := [{ ty := 1, len := .exact 1 }] } q ∧ Radio.ofNat? (q.nat 1) = some x ∧ x ≠ .hb)
    ∧ (∃ (s : State) (ch : Nat) (x : Radio) (v : SlotStat) (q : Req), Asked s ch 0x2004 { rows := [{ ty := 1, len := .exact 1 }] } q ∧ Radio.ofNat? (q.nat 1) = some x ∧ (s.bbRadio x).last = some v)
    ∧ (∃ (s : State) (ch : Nat) (q : Req), Asked s ch 0x2006 airtimeSpec q ∧ phySupported (q.nat 1) = true ∧ q.nat 2 ≤ psduMax (q.nat 1) ∧ phyFamily (q.nat 1) = .fsk ∧ q.has 3 = true ∧ 4 ≤ q.nat 3 ∧ q.nat 3 ≤ 1000) :=
  ⟨⟨(asking (calm) 0x2001 [tlvN 1 1 2, tlvN 2 1 1]), 0, .hb, ⟨0, 0x2001, 7, [tlvN 1 1 2, tlvN 2 1 1]⟩, asked_of (by decide +kernel), by decide +kernel⟩,
   ⟨(asking (calm) 0x2005 [tlvN 1 1 2, tlvN 2 1 1]), 0, .hb, ⟨0, 0x2005, 7, [tlvN 1 1 2, tlvN 2 1 1]⟩, asked_of (by decide +kernel), by decide +kernel⟩,
   ⟨(asking (calm) 0x2002 [tlvN 1 1 0, tlvN 2 4 0x30000, tlvN 3 2 2, tlvN 4 2 1000, tlvN 5 1 2, tlvN 6 1 1]), 0, .lb, ⟨0, 0x2002, 7, [tlvN 1 1 0, tlvN 2 4 0x30000, tlvN 3 2 2, tlvN 4 2 1000, tlvN 5 1 2, tlvN 6 1 1]⟩, asked_of (by decide +kernel), by decide +kernel⟩,
   ⟨(asking (calm) 0x2003 [tlvN 1 1 1]), 0, .mb, ⟨0, 0x2003, 7, [tlvN 1 1 1]⟩, asked_of (by decide +kernel), by decide +kernel⟩,
   ⟨(asking (calm.setBb .hb { last := some {} }) 0x2004 [tlvN 1 1 2]), 0, .hb, {}, ⟨0, 0x2004, 7, [tlvN 1 1 2]⟩, asked_of (by decide +kernel), by decide +kernel⟩,
   ⟨(asking (calm) 0x2006 [tlvN 1 1 0x13, tlvN 2 2 2047, tlvN 3 2 4]), 0, ⟨0, 0x2006, 7, [tlvN 1 1 0x13, tlvN 2 2 2047, tlvN 3 2 4]⟩, asked_of (by decide +kernel), by decide +kernel⟩⟩

theorem witness_AblationCommandsAnswerAndTimePasses :
    (∃ (s : State) (ch : Nat) (q : Req), Asked s ch 0x5001 profileWriteSpec q ∧ (begun s ch).regLocked = false ∧ (begun s ch).areaOk (q.nat 1) (q.nat 2) = true ∧ q.nat 2 ≤ 1024 ∧ profileFault (s.winRead (q.nat 1) (q.nat 2)) = none ∧ (begun s ch).writeRefused (writeCost (s.winRead (q.nat 1) (q.nat 2)).length) = none)
    ∧ (∃ (s : State) (ch : Nat) (q : Req), Asked s ch 0x5001 profileWriteSpec q ∧ (begun s ch).regLocked = true)
    ∧ (∃ (s : State) (ch : Nat) (q : Req) (b : Board) (p : Bytes), Asked s ch 0x5002 profileWriteSpec q ∧ s.board = some b ∧ (begun s ch).regLocked = false ∧ s.sys.siteOk = true ∧ (begun s ch).profileBytes = some p ∧ profileId p = q.nat 1 ∧ q.nat 2 = 0x4C4F434B ∧ s.site.cls < fieldAt p 3 1 ∧ (begun s ch).writeRefused (writeCost 32) = none)
    ∧ (∃ (s : State) (ch : Nat) (p : Bytes) (q : Req), Asked s ch 0x5003 { rows := [{ ty := 1, len := .exact 4 }] } q ∧ (begun s ch).profileBytes = some p ∧ (begun s ch).areaOk (q.nat 1) p.length = true)
    ∧ (∃ (s : State) (ch : Nat) (l : SubLimit) (q : Req), Asked s ch 0x5004 { rows := [{ ty := 1, len := .exact 1 }] } q ∧ (begun s ch).subLimit? (q.nat 1) = some l ∧ l.dutyOn = true)
    ∧ (∃ (s : State) (ch : Nat) (l : SubLimit) (q : Req), Asked s ch 0x5005 { rows := [{ ty := 1, len := .exact 1 }, { ty := 2, len := .exact 4 }] } q ∧ (begun s ch).subLimit? (q.nat 1) = some l ∧ l.band.low ≤ q.nat 2 ∧ q.nat 2 ≤ l.band.high)
    ∧ (∃ (s : State), s.awake = true)
    ∧ (∃ (s : State), s.awake = true ∧ s.abl.snapMin < s.time.aon / (60 * 32768)) :=
  ⟨⟨(asking ({ wired with mem := writeBytes [] (winBase + 0x30000) oneBand }) 0x5001 [tlvN 1 4 0x30000, tlvN 2 4 112]), 0, ⟨0, 0x5001, 7, [tlvN 1 4 0x30000, tlvN 2 4 112]⟩, asked_of (by decide +kernel), by decide +kernel, by decide +kernel, by decide +kernel, by decide +kernel, by decide +kernel⟩,
   ⟨(asking ({ wired with nv := { recs := [(0x0501, { a := some ⟨1, .bytes (padTo 32 (u32 9 ++ u32 2230737571))⟩ })] } }) 0x5001 [tlvN 1 4 0x30000, tlvN 2 4 112]), 0, ⟨0, 0x5001, 7, [tlvN 1 4 0x30000, tlvN 2 4 112]⟩, asked_of (by decide +kernel), by decide +kernel⟩,
   ⟨(asking ({ wired with nv := { recs := [(0x0500, { a := some ⟨1, .bytes oneBand⟩ })] }, sys := { boot := 4, siteOk := true } }) 0x5002 [tlvN 1 4 9, tlvN 2 4 0x4C4F434B]), 0, ⟨0, 0x5002, 7, [tlvN 1 4 9, tlvN 2 4 0x4C4F434B]⟩, plainBoard, oneBand, asked_of (by decide +kernel), by decide +kernel, by decide +kernel, by decide +kernel, by decide +kernel, by decide +kernel, by decide +kernel, by decide +kernel, by decide +kernel⟩,
   ⟨(asking ({ wired with nv := { recs := [(0x0500, { a := some ⟨1, .bytes oneBand⟩ })] } }) 0x5003 [tlvN 1 4 0x30000]), 0, oneBand, ⟨0, 0x5003, 7, [tlvN 1 4 0x30000]⟩, asked_of (by decide +kernel), by decide +kernel, by decide +kernel⟩,
   ⟨(asking ({ wired with nv := { recs := [(0x0500, { a := some ⟨1, .bytes oneBand⟩ }), (0x0501, { a := some ⟨1, .bytes (padTo 32 (u32 9 ++ u32 2230737571))⟩ })] } }) 0x5004 [tlvN 1 1 0]), 0, oneLimit, ⟨0, 0x5004, 7, [tlvN 1 1 0]⟩, asked_of (by decide +kernel), subLimit_one (by decide +kernel) (by decide +kernel) (by decide +kernel), by decide +kernel⟩,
   ⟨(asking ({ wired with nv := { recs := [(0x0500, { a := some ⟨1, .bytes oneBand⟩ }), (0x0501, { a := some ⟨1, .bytes (padTo 32 (u32 9 ++ u32 2230737571))⟩ })] } }) 0x5005 [tlvN 1 1 0, tlvN 2 4 868600]), 0, oneLimit, ⟨0, 0x5005, 7, [tlvN 1 1 0, tlvN 2 4 868600]⟩, asked_of (by decide +kernel), subLimit_one (by decide +kernel) (by decide +kernel) (by decide +kernel), by decide +kernel, by decide +kernel⟩,
   ⟨calm, by decide +kernel⟩,
   ⟨{ calm with time := { aon := 60 * 32768 } }, by decide +kernel, by decide +kernel⟩⟩

theorem witness_NetworksAndCellsAreSetUp :
    (∃ (s : State) (ch : Nat) (n : Net) (q : Req) (keys : List (Nat × Nat)) (m : Nat), Asked s ch 0x3001 netStartSpec q ∧ Net.ofNat? (q.nat 1) = some n ∧ s.board.isSome = true ∧ (begun s ch).ddrReady = true ∧ (begun s ch).isDsme n = false ∧ ((begun s ch).net n).running = false ∧ ((s.cells.any (fun p => p.2.net == n.ix) && !(begun s ch).cellInBand n) = false) ∧ ((begun s ch).femOf n.radio).isSome = true ∧ s.firn.restored = true ∧ (begun s ch).templateOk n = true ∧ (n ≠ .lb ∨ (begun s ch).fixedLoOk = true) ∧ (q.bytes 3).length % 2 = 0 ∧ (begun s ch).netKeys (nat16s (q.bytes 3)) = .ok keys ∧ q.has 2 = false ∧ (begun s ch).unchangedMark n keys = some m)
    ∧ (∃ (s : State) (ch : Nat) (n : Net) (q : Req) (keys : List (Nat × Nat)), Asked s ch 0x3001 netStartSpec q ∧ Net.ofNat? (q.nat 1) = some n ∧ s.board.isSome = true ∧ (begun s ch).ddrReady = true ∧ (begun s ch).isDsme n = false ∧ ((begun s ch).net n).running = false ∧ ((s.cells.any (fun p => p.2.net == n.ix) && !(begun s ch).cellInBand n) = false) ∧ ((begun s ch).femOf n.radio).isSome = true ∧ s.firn.restored = true ∧ (begun s ch).templateOk n = true ∧ (n ≠ .lb ∨ (begun s ch).fixedLoOk = true) ∧ (q.bytes 3).length % 2 = 0 ∧ (begun s ch).netKeys (nat16s (q.bytes 3)) = .ok keys ∧ q.has 2 = false ∧ (begun s ch).unchangedMark n keys = none)
    ∧ (∃ (s : State) (ch : Nat) (n : Net) (q : Req), Asked s ch 0x3002 { rows := [{ ty := 1, len := .exact 1 }] } q ∧ Net.ofNat? (q.nat 1) = some n ∧ (s.net n).running = true)
    ∧ (∃ (s : State) (ch : Nat) (n : Net) (q : Req), Asked s ch 0x300A { rows := [{ ty := 1, len := .exact 1 }] } q ∧ Net.ofNat? (q.nat 1) = some n)
    ∧ (∃ (s : State) (ch : Nat) (n : Net) (q : Req), Asked s ch 0x3003 frameAddSpec q ∧ Net.ofNat? (q.nat 1) = some n ∧ q.nat 2 ≤ 15 ∧ 0 < q.nat 3 ∧ (begun s ch).isDsme n = false ∧ q.has 4 = false)
    ∧ (∃ (s : State) (ch : Nat) (n : Net) (q : Req), Asked s ch 0x3004 frameDelSpec q ∧ Net.ofNat? (q.nat 1) = some n ∧ q.nat 2 ≤ 15 ∧ (begun s ch).isDsme n = false ∧ ((begun s ch).newLen n (q.nat 2)).isSome = true ∧ q.has 4 = false)
    ∧ (∃ (s : State) (ch : Nat) (id : Nat) (n : Net) (q : Req) (c : Cell), Asked s ch 0x3005 cellAddSpec q ∧ q.has 3 = false ∧ (begun s ch).placeCell (decodeCell (q.bytes 1)) = .ok c ∧ Net.ofNat? c.net = some n ∧ (begun s ch).freeCell = some id)
    ∧ (∃ (s : State) (ch : Nat) (n : Net) (q : Req) (c : Cell), Asked s ch 0x3006 { rows := [{ ty := 1, len := .exact 2 }, { ty := 3, len := .exact 1, must := false }] } q ∧ q.has 3 = false ∧ tfind s.cells (q.nat 1) = some c ∧ Net.ofNat? c.net = some n)
    ∧ (∃ (s : State) (ch : Nat) (q : Req), Asked s ch 0x3007 { rows := [{ ty := 1, len := .exact 2 }, { ty := 2, len := .exact 1 }] } q ∧ 0 < q.nat 2 ∧ q.nat 2 ≤ 30) :=
  ⟨⟨(asking ({ keyed 1 with firn := { restored := true }, nv := { recs := [(0x0200, { a := some ⟨1, .asn 0 0 [(5, keyCheck (keyOf 1).key)]⟩ })] } }) 0x3001 [tlvN 1 1 0, ⟨3, [5#8, 0#8]⟩]), 0, .lb, ⟨0, 0x3001, 7, [tlvN 1 1 0, ⟨3, [5#8, 0#8]⟩]⟩, [(5, keyCheck (keyOf 1).key)], 0, asked_of (by decide +kernel), by decide +kernel, by decide +kernel, by decide +kernel, by decide +kernel, by decide +kernel, by decide +kernel, by decide +kernel, by decide +kernel, by decide +kernel, by decide +kernel, by decide +kernel, ok_of (by decide +kernel), by decide +kernel⟩,
   ⟨(asking ({ keyed 1 with firn := { restored := true } }) 0x3001 [tlvN 1 1 0, ⟨3, [5#8, 0#8]⟩]), 0, .lb, ⟨0, 0x3001, 7, [tlvN 1 1 0, ⟨3, [5#8, 0#8]⟩]⟩, [(5, keyCheck (keyOf 1).key)], asked_of (by decide +kernel), by decide +kernel, by decide +kernel, by decide +kernel, by decide +kernel, by decide +kernel, by decide +kernel, by decide +kernel, by decide +kernel, by decide +kernel, by decide +kernel, by decide +kernel, ok_of (by decide +kernel), by decide +kernel⟩,
   ⟨(asking ({ calm with nets := ⟨{ running := true }, {}⟩ }) 0x3002 [tlvN 1 1 0]), 0, .lb, ⟨0, 0x3002, 7, [tlvN 1 1 0]⟩, asked_of (by decide +kernel), by decide +kernel⟩,
   ⟨(asking (calm) 0x300A [tlvN 1 1 1]), 0, .mb, ⟨0, 0x300A, 7, [tlvN 1 1 1]⟩, asked_of (by decide +kernel), by decide +kernel⟩,
   ⟨(asking (calm) 0x3003 [tlvN 1 1 1, tlvN 2 1 15, tlvN 3 2 1]), 0, .mb, ⟨0, 0x3003, 7, [tlvN 1 1 1, tlvN 2 1 15, tlvN 3 2 1]⟩, asked_of (by decide +kernel), by decide +kernel⟩,
   ⟨(asking ({ calm with nets := ⟨{ frames := [(15, [(0, some 7)])] }, {}⟩ }) 0x3004 [tlvN 1 1 0, tlvN 2 1 15]), 0, .lb, ⟨0, 0x3004, 7, [tlvN 1 1 0, tlvN 2 1 15]⟩, asked_of (by decide +kernel), by decide +kernel⟩,
   ⟨(asking ({ calm with nets := ⟨{ frames := [(15, [(0, some 7)])] }, {}⟩ }) 0x3005 [⟨1, u16 0 ++ u8 0 ++ u8 15 ++ u16 6 ++ u8 0 ++ u8 1 ++ u8 5 ++ u8 0 ++ u16 0xFFFF ++ u16 0 ++ u16 0⟩]), 0, 0, .lb, ⟨0, 0x3005, 7, [⟨1, u16 0 ++ u8 0 ++ u8 15 ++ u16 6 ++ u8 0 ++ u8 1 ++ u8 5 ++ u8 0 ++ u16 0xFFFF ++ u16 0 ++ u16 0⟩]⟩, decodeCell (u16 0 ++ u8 0 ++ u8 15 ++ u16 6 ++ u8 0 ++ u8 1 ++ u8 5 ++ u8 0 ++ u16 0xFFFF ++ u16 0 ++ u16 0), asked_of (by decide +kernel), by decide +kernel, ok_of (by decide +kernel), by decide +kernel⟩,
   ⟨(asking ({ calm with cells := [(3, { net := 0, handle := 15, slot := 6, chan := 0, kind := 1, opts := 1, span := 0, ctx := 0, slotMin := 0, slotMax := 0 })] }) 0x3006 [tlvN 1 2 3]), 0, .lb, ⟨0, 0x3006, 7, [tlvN 1 2 3]⟩, { net := 0, handle := 15, slot := 6, chan := 0, kind := 1, opts := 1, span := 0, ctx := 0, slotMin := 0, slotMax := 0 }, asked_of (by decide +kernel), by decide +kernel⟩,
   ⟨(asking (calm) 0x3007 [tlvN 1 2 0, tlvN 2 1 30]), 0, ⟨0, 0x3007, 7, [tlvN 1 2 0, tlvN 2 1 30]⟩, asked_of (by decide +kernel), by decide +kernel⟩⟩

theorem witness_JoinsMarksAndParentsAreFollowed :
    (∃ (s : State) (n : Net) (r : JoinReq) (rest : List JoinReq), s.awake = true ∧ (s.net n).backlog = r :: rest ∧ ((∀ t : Int, (s.net n).lastRelease = some t → 1000000000 ≤ (s.now - t) * s.schedParam n 0x3020)))
    ∧ (∃ (s : State), s.awake = true)
    ∧ (∃ (s : State) (ch : Nat) (n : Net) (q : Req), Asked s ch 0x3008 joinAcceptSpec q ∧ Net.ofNat? (q.nat 1) = some n ∧ q.nat 3 ≤ 4095 ∧ q.nat 4 ≤ 8191 ∧ q.nat 5 = 1 ∧ ((s.net n).released.any (fun r => r.eui == q.nat 2) = true) ∧ (begun s ch).bindConflict (q.nat 2) n.ix 0xFFFE (q.nat 3) = false ∧ (begun s ch).ctx? (q.nat 3) = none)
    ∧ (∃ (s : State) (ch : Nat) (n : Net) (q : Req), Asked s ch 0x3009 { rows := [{ ty := 1, len := .exact 1 }, { ty := 2, len := .exact 8 }] } q ∧ Net.ofNat? (q.nat 1) = some n ∧ ((s.net n).released.any (fun r => r.eui == q.nat 2) = true))
    ∧ (∃ (s : State) (n : Net), s.awake = true ∧ (s.net n).running = true ∧ (s.net n).begun = true ∧ s.isDsme n = false ∧ ((∀ k : Nat, s.asnMark n = some k → 0 < sdiff 40 ((s.net n).asn / 2 ^ 19 * 2 ^ 19) k)))
    ∧ (∃ (s : State) (n : Net), s.awake = true ∧ (s.net n).running = true ∧ (s.net n).begun = true ∧ s.asnHeld n (s.net n).asn = true ∧ (s.net n).holdRaised = false)
    ∧ (∃ (s : State) (n : Net), (s.schedParam n 0x302B = 0 ∨ (s.net n).audited = true))
    ∧ (∃ (s : State) (n : Net) (h : Nat) (slot : Nat) (len : Nat), s.awake = true ∧ s.schedParam n 0x302B ≠ 0 ∧ (s.net n).running = true ∧ (s.net n).audited = false ∧ (((s.cells.filter (fun p => p.2.net == n.ix)).map (fun p => (p.2.handle, p.2.slot))).eraseDups = [(h, slot)]) ∧ s.newLen n h = some len ∧ 4 * s.schedParam n 0x3029 < spreadOf (s.levelSet n (s.coinciding n slot len)))
    ∧ (∃ (s : State) (domain : Nat) (p : Parent), s.awake = true ∧ s.parentOf domain = some p ∧ p.lost = false ∧ s.schedParam (if domain = 0x0101 then .mb else .lb) 0x3038 ≤ p.misses) :=
  ⟨⟨{ calm with nets := ⟨{ backlog := [{ eui := 9, payload := [], at_ := 0 }] }, {}⟩ }, .lb, { eui := 9, payload := [], at_ := 0 }, [], by decide +kernel, by decide +kernel, none_imp (by decide +kernel)⟩,
   ⟨calm, by decide +kernel⟩,
   ⟨(asking ({ calm with nets := ⟨{ released := [{ eui := 9, payload := [], at_ := 0 }] }, {}⟩ }) 0x3008 [tlvN 1 1 0, tlvN 2 8 9, tlvN 3 2 4095, tlvN 4 2 8191, tlvN 5 1 1]), 0, .lb, ⟨0, 0x3008, 7, [tlvN 1 1 0, tlvN 2 8 9, tlvN 3 2 4095, tlvN 4 2 8191, tlvN 5 1 1]⟩, asked_of (by decide +kernel), by decide +kernel⟩,
   ⟨(asking ({ calm with nets := ⟨{ released := [{ eui := 9, payload := [], at_ := 0 }] }, {}⟩ }) 0x3009 [tlvN 1 1 0, tlvN 2 8 9]), 0, .lb, ⟨0, 0x3009, 7, [tlvN 1 1 0, tlvN 2 8 9]⟩, asked_of (by decide +kernel), by decide +kernel⟩,
   ⟨{ calm with nets := ⟨{ running := true, begun := true, asn := 0x80000 }, {}⟩ }, .lb, by decide +kernel, by decide +kernel, by decide +kernel, by decide +kernel, none_imp (by decide +kernel)⟩,
   ⟨{ calm with nets := ⟨{ running := true, begun := true, asn := 0x80000 }, {}⟩ }, .lb, by decide +kernel⟩,
   ⟨{ calm with params := [(0x302B, .num 0)] }, .lb, by decide +kernel⟩,
   ⟨{ calm with params := [(0x302B, .num 1)], nets := ⟨{ running := true, frames := [(15, [(0, some 7)])] }, {}⟩, cells := [(0, { net := 0, handle := 15, slot := 6, chan := 0, kind := 0, opts := 2, span := 0, ctx := 0, slotMin := 0, slotMax := 0 }), (1, { net := 0, handle := 15, slot := 6, chan := 1, kind := 0, opts := 2, span := 0, ctx := 1, slotMin := 0, slotMax := 0 })], firn := { ctxs := [(0, { aCtx with level := some 0 }), (1, { aCtx with level := some (-400) })] } }, .lb, 15, 6, 7, by decide +kernel⟩,
   ⟨{ calm with nets := ⟨{}, { parent := some { misses := 65535 } }⟩ }, 0x0101, { misses := 65535 }, by decide +kernel⟩⟩

theorem witness_SpanCommandsOpenChangeAndClose :
    (∃ (s : State) (ch : Nat) (q : Req) (k : KeySlot) (members : Tab MemberState), Asked s ch 0x4001 spanOpenSpec q ∧ spanOpenFault q = none ∧ s.board.isSome = true ∧ (begun s ch).ddrReady = true ∧ ((begun s ch).span (q.nat 1)).isOpen = false ∧ q.nat 2 ≠ (begun s ch).linkAddr ∧ (begun s ch).spanOfPeer (q.nat 2) = none ∧ supOk ((begun s ch).spanParam (q.nat 1) 0x4101) ((begun s ch).spanParam (q.nat 1) 0x4100) = true ∧ (begun s ch).keyFor (q.nat 4) 1 = .ok k ∧ (begun s ch).readMembers ((begun s ch).spanParam (q.nat 1) 0x4100) (q.all 7) [] = .ok members ∧ ((begun s ch).bandsDeclared (members.map (fun p => p.1)) = true) ∧ q.nat 3 = 2 ∧ q.has 6 = true)
    ∧ (∃ (s : State) (ch : Nat) (q : Req), Asked s ch 0x4002 oneSpanSpec q ∧ q.nat 1 ≤ 31 ∧ (s.span (q.nat 1)).isOpen = true)
    ∧ (∃ (s : State) (ch : Nat) (x : Radio) (m : Member) (q : Req), Asked s ch 0x4003 memberSetSpec q ∧ q.nat 1 ≤ 31 ∧ (s.span (q.nat 1)).isOpen = true ∧ decodeMember (q.bytes 2) = (x.ix, m) ∧ (begun s ch).memberFault (s.span (q.nat 1)).interval (q.bytes 2) = none ∧ (begun s ch).bandsDeclared [x.ix] = true ∧ q.has 3 = false)
    ∧ (∃ (s : State) (ch : Nat) (q : Req), Asked s ch 0x4004 memberDropSpec q ∧ q.nat 1 ≤ 31 ∧ (s.span (q.nat 1)).isOpen = true ∧ (State.bandsAfter (begun s ch) (q.nat 1) none).contains (q.nat 2) = true ∧ 2 ≤ (State.bandsAfter (begun s ch) (q.nat 1) none).length ∧ q.has 3 = false)
    ∧ (∃ (s : State) (ch : Nat) (k : KeySlot) (q : Req), Asked s ch 0x4005 keyRollSpec q ∧ q.nat 1 ≤ 31 ∧ (s.span (q.nat 1)).isOpen = true ∧ q.nat 2 ≤ 8191 ∧ q.nat 3 < 2 ^ 40 ∧ (s.span (q.nat 1)).rolled = false ∧ (begun s ch).keyFor (q.nat 2) 1 = .ok k)
    ∧ (∃ (s : State) (ch : Nat) (h0 : Nat) (h1 : Nat) (q : Req), Asked s ch 0x4006 oneSpanSpec q ∧ q.nat 1 ≤ 31 ∧ (s.span (q.nat 1)).isOpen = true ∧ (tget {} (s.span (q.nat 1)).windows 0).high = some h0 ∧ (tget {} (s.span (q.nat 1)).windows 1).high = some h1) :=
  ⟨⟨(asking ({ keyed 2 with params := [(0x4001, .bytes [1#8, 0#8, 0#8, 0#8, 0#8])] }) 0x4001 [tlvN 1 1 31, tlvN 2 5 9, tlvN 3 1 2, tlvN 4 2 5, tlvN 5 1 16, tlvN 6 1 100, ⟨7, mbMember⟩]), 0, ⟨0, 0x4001, 7, [tlvN 1 1 31, tlvN 2 5 9, tlvN 3 1 2, tlvN 4 2 5, tlvN 5 1 16, tlvN 6 1 100, ⟨7, mbMember⟩]⟩, keyOf 2, [(1, { mbState with up := false })], asked_of (by decide +kernel), by decide +kernel, by decide +kernel, by decide +kernel, by decide +kernel, by decide +kernel, by decide +kernel, by decide +kernel, ok_of (by decide +kernel), ok_of (by decide +kernel), by decide +kernel⟩,
   ⟨(asking (spanAs upSpan) 0x4002 [tlvN 1 1 31]), 0, ⟨0, 0x4002, 7, [tlvN 1 1 31]⟩, asked_of (by decide +kernel), by decide +kernel⟩,
   ⟨(asking (spanAs upSpan) 0x4003 [tlvN 1 1 31, ⟨2, mbMember⟩]), 0, .mb, mbState.rec_, ⟨0, 0x4003, 7, [tlvN 1 1 31, ⟨2, mbMember⟩]⟩, asked_of (by decide +kernel), by decide +kernel⟩,
   ⟨(asking (spanAs { upSpan with members := [(1, mbState), (2, mbState)] }) 0x4004 [tlvN 1 1 31, tlvN 2 1 1]), 0, ⟨0, 0x4004, 7, [tlvN 1 1 31, tlvN 2 1 1]⟩, asked_of (by decide +kernel), by decide +kernel⟩,
   ⟨(asking ({ keyed 2 with spans := [(31, upSpan)] }) 0x4005 [tlvN 1 1 31, tlvN 2 2 5, tlvN 3 8 (2 ^ 40 - 1)]), 0, keyOf 2, ⟨0, 0x4005, 7, [tlvN 1 1 31, tlvN 2 2 5, tlvN 3 8 (2 ^ 40 - 1)]⟩, asked_of (by decide +kernel), by decide +kernel, by decide +kernel, by decide +kernel, by decide +kernel, by decide +kernel, ok_of (by decide +kernel)⟩,
   ⟨(asking (spanAs upSpan) 0x4006 [tlvN 1 1 31]), 0, 0, 0, ⟨0, 0x4006, 7, [tlvN 1 1 31]⟩, asked_of (by decide +kernel), by decide +kernel⟩⟩

theorem witness_MemberChannelFollowsTheEvent :
    ∃ (m : Member), m.channels ≠ [] :=
  ⟨mbState.rec_, by decide +kernel⟩

theorem witness_SpanEventsRunAndFramesAreTaken :
    (∃ (s : State) (n : Nat), (s.span n).isOpen = true ∧ s.awake = true ∧ (s.span n).planned ≠ some (s.span n).nextEvent ∧ s.planPoint n = true)
    ∧ (∃ (s : State) (n : Nat), (s.span n).isOpen = true ∧ s.awake = true ∧ ((s.span n).isT = true ∨ (s.span n).begun = true) ∧ (s.span n).nextAnchor ≤ s.now)
    ∧ (∃ (s : State) (n : Nat), (s.span n).isOpen = true ∧ s.awake = true ∧ s.burstEvent n (s.span n).nextEvent = true ∧ (s.span n).bursts = [] ∧ s.eventHeld n (s.span n).nextAnchor = false ∧ s.planPoint n = true)
    ∧ (∃ (s : State) (n : Nat) (e : Nat) (k : Nat), s.awake = true ∧ (s.span n).roll = some (e, k) ∧ (s.span n).rolled = true ∧ (s.spanPar n 0x4007 : Int) ≤ sdiff 40 (s.span n).event e)
    ∧ (∃ (s : State) (n : Nat) (x : Radio) (m : MemberState), tfind (s.span n).members x.ix = some m ∧ s.awake = true ∧ (s.span n).isOpen = true ∧ ((s.span n).isT = true ∨ (s.span n).phase = .up ∨ (s.span n).challenge.isSome = true) ∧ s.leadIn n x m = true ∧ s.eventHeld n (s.span n).nextAnchor = false)
    ∧ (∃ (s : State) (n : Nat) (x : Radio) (m : MemberState) (row : Nat), tfind (s.span n).members x.ix = some m ∧ s.awake = true ∧ (s.span n).isOpen = true ∧ ((s.span n).isT = true ∨ (s.span n).phase = .up ∨ (s.span n).challenge.isSome = true) ∧ s.leadIn n x m = false ∧ (s.span n).begun = true ∧ m.inSub = false ∧ s.eventHeld n (s.span n).anchor = false ∧ s.readyAt n x ((s.span n).anchor + (1000 * m.rec_.offUs : Nat)) ≤ s.now ∧ (m.skipIn (s.span n).event).or (s.subSkip n x m.rec_ (s.span n).anchor) = some row)
    ∧ (∃ (s : State) (n : Nat) (x : Radio) (m : MemberState), tfind (s.span n).members x.ix = some m ∧ s.awake = true ∧ (s.span n).isOpen = true ∧ ((s.span n).isT = true ∨ (s.span n).phase = .up ∨ (s.span n).challenge.isSome = true) ∧ s.leadIn n x m = false ∧ (s.span n).begun = true ∧ m.inSub = false ∧ s.eventHeld n (s.span n).anchor = false ∧ s.readyAt n x ((s.span n).anchor + (1000 * m.rec_.offUs : Nat)) ≤ s.now ∧ (m.skipIn (s.span n).event).or (s.subSkip n x m.rec_ (s.span n).anchor) = none)
    ∧ (∃ (s : State) (n : Nat) (x : Radio) (m : MemberState), tfind (s.span n).members x.ix = some m ∧ (s.span n).isOpen = true ∧ m.inSub = true ∧ m.heard = true ∧ s.awake = true ∧ (s.span n).anchor + (1000 * (m.rec_.offUs + m.rec_.lenUs) : Nat) ≤ s.now ∧ (let u := (s.modMember n x.ix (fun m => { m with inSub := false, skip := tdel m.skip (s.span n).event })).modMember n x.ix (fun m => { m with misses := 0 }); let w := if u.netRuns x then u else u.closeSub x; (w.span n).eventOver x.ix = false))
    ∧ (∃ (s : State) (octets : Bytes), s.awake = true ∧ s.spanOfPeer (decodeSpan octets).src = none)
    ∧ (∃ (s : State) (x : Radio) (octets : Bytes) (n : Nat), s.awake = true ∧ s.spanOfPeer (decodeSpan octets).src = some n ∧ (octets.length < 36 ∨ (decodeSpan octets).dst ≠ s.linkAddr ∨ (decodeSpan octets).band ≠ x.ix ∨ (decodeSpan octets).dir = spanDir s.linkAddr (s.span n).peer ∨ 3 < (decodeSpan octets).ty ∨ thas (s.span n).members x.ix = false))
    ∧ (∃ (s : State) (x : Radio) (octets : Bytes) (n : Nat), s.awake = true ∧ s.spanOfPeer (decodeSpan octets).src = some n ∧ 36 ≤ octets.length ∧ (decodeSpan octets).dst = s.linkAddr ∧ (decodeSpan octets).band = x.ix ∧ (decodeSpan octets).dir ≠ spanDir s.linkAddr (s.span n).peer ∧ (decodeSpan octets).ty ≤ 3 ∧ thas (s.span n).members x.ix = true ∧ thas (s.span n).keys (decodeSpan octets).sel = false)
    ∧ (∃ (s : State) (x : Radio) (octets : Bytes) (n : Nat) (m : MemberState), s.awake = true ∧ s.spanOfPeer (decodeSpan octets).src = some n ∧ 36 ≤ octets.length ∧ (decodeSpan octets).dst = s.linkAddr ∧ (decodeSpan octets).band = x.ix ∧ (decodeSpan octets).dir ≠ spanDir s.linkAddr (s.span n).peer ∧ (decodeSpan octets).ty ≤ 3 ∧ tfind (s.span n).members x.ix = some m ∧ thas (s.span n).keys (decodeSpan octets).sel = true)
    ∧ (∃ (s : State) (n : Nat) (c : Bytes) (t : Int), s.awake = true ∧ (s.span n).challenge = some (c, t) ∧ t ≤ s.now)
    ∧ (∃ (s : State) (n : Nat), ((s.span n).phase = .up ∨ (s.span n).phase = .resync) ∧ (s.span n).expired = false ∧ s.supLeft n ≤ 0) :=
  ⟨⟨spanAs { upSpan with isT := true, anchor := 500000 }, 31, by decide +kernel⟩,
   ⟨spanAs { upSpan with isT := true }, 31, by decide +kernel⟩,
   ⟨spanAs { upSpan with isT := true, phase := .resync, event := 256 }, 31, by decide +kernel⟩,
   ⟨spanAs { upSpan with roll := some (0, 5), rolled := true, event := 4096 }, 31, 0, 5, by decide +kernel⟩,
   ⟨radioAt (spanAs { upSpan with anchor := 50000 }) .mb { calTemp := some 0, fgDone := true, bg := [{ lastAon := some 0 }, { lastAon := some 0 }, { lastAon := some 0 }] }, 31, .mb, mbState, by decide +kernel, by decide +kernel, by decide +kernel, by decide +kernel, leadIn_of (by decide +kernel) (by decide +kernel), by decide +kernel⟩,
   ⟨{ spanAs { upSpan with begun := true, members := [(1, { mbState with skip := [(0, 1)] })] } with nets := ⟨{}, { running := true }⟩ }, 31, .mb, { mbState with skip := [(0, 1)] }, 1, by decide +kernel⟩,
   ⟨radioAt (spanAs { upSpan with begun := true }) .mb { calTemp := some 0, fgDone := true, bg := [{ lastAon := some 0 }, { lastAon := some 0 }, { lastAon := some 0 }] }, 31, .mb, mbState, by decide +kernel⟩,
   ⟨{ spanAs { upSpan with members := [(1, { mbState with inSub := true, heard := true }), (2, { mbState with inSub := true })] } with time := { offset := 3000000 } }, 31, .mb, { mbState with inSub := true, heard := true }, by decide +kernel⟩,
   ⟨calm, List.replicate 36 0#8, by decide +kernel⟩,
   ⟨{ spanAs upSpan with params := [(0x4001, .bytes [1#8, 0#8, 0#8, 0#8, 0#8])] }, .mb, (([0x00#8, 0x05#8] ++ leBytes 5 9 ++ leBytes 5 1 ++ List.replicate 24 0#8)).take 35, 31, by decide +kernel⟩,
   ⟨{ spanAs { upSpan with keys := [] } with params := [(0x4001, .bytes [1#8, 0#8, 0#8, 0#8, 0#8])] }, .mb, ([0x00#8, 0x05#8] ++ leBytes 5 9 ++ leBytes 5 1 ++ List.replicate 24 0#8), 31, by decide +kernel⟩,
   ⟨{ spanAs upSpan with params := [(0x4001, .bytes [1#8, 0#8, 0#8, 0#8, 0#8])] }, .mb, ([0x00#8, 0x05#8] ++ leBytes 5 9 ++ leBytes 5 1 ++ List.replicate 24 0#8), 31, mbState, by decide +kernel⟩,
   ⟨spanAs { upSpan with challenge := some ([], 0) }, 31, [], 0, by decide +kernel⟩,
   ⟨{ spanAs upSpan with time := { offset := 100000000000000 } }, 31, by decide +kernel⟩⟩

theorem witness_ContextsAreCommandedLoadedAndImaged :
    (∃ (s : State) (ch : Nat) (x : Ctx) (q : Req), Asked s ch 0x6001 ctxReadSpec q ∧ (begun s ch).ddrReady = true ∧ (begun s ch).ctx? (q.nat 1) = some x ∧ (begun s ch).areaOk (q.nat 2) 1024 = true)
    ∧ (∃ (s : State) (ch : Nat) (x : Ctx) (q : Req) (off : Nat) (d : Bytes), Asked s ch 0x6002 ctxWriteSpec q ∧ (begun s ch).ddrReady = true ∧ (begun s ch).ctx? (q.nat 1) = some x ∧ q.nat 2 = 0 ∧ q.has 3 = true ∧ q.bytes 3 = u16 off ++ d ∧ d ≠ [] ∧ d.length ≤ 496 ∧ off + d.length ≤ 512)
    ∧ (∃ (s : State) (ch : Nat) (x : Ctx) (q : Req), Asked s ch 0x6002 ctxWriteSpec q ∧ (begun s ch).ddrReady = true ∧ (begun s ch).ctx? (q.nat 1) = some x ∧ q.nat 2 = 1 ∧ q.has 3 = true ∧ (q.bytes 3).length = 2)
    ∧ (∃ (s : State) (ch : Nat) (x : Ctx) (q : Req), Asked s ch 0x6002 ctxWriteSpec q ∧ (begun s ch).ddrReady = true ∧ (begun s ch).ctx? (q.nat 1) = some x ∧ q.nat 2 = 3)
    ∧ (∃ (s : State) (ch : Nat) (k : Nat) (x : Ctx) (q : Req), Asked s ch 0x6003 oneCtxSpec q ∧ (begun s ch).ddrReady = true ∧ (begun s ch).ctx? (q.nat 1) = some x ∧ (x.pinned = true ∨ (begun s ch).pinnedCount < s.pnat 0x6001) ∧ ((((begun s ch).modCtx (q.nat 1) (fun x => { x with pinned := true })).slotOf (q.nat 1)) = some k))
    ∧ (∃ (s : State) (ch : Nat) (x : Ctx) (q : Req), Asked s ch 0x6003 oneCtxSpec q ∧ (begun s ch).ddrReady = true ∧ (begun s ch).ctx? (q.nat 1) = some x ∧ (x.pinned = true ∨ (begun s ch).pinnedCount < s.pnat 0x6001) ∧ (let u := (begun s ch).modCtx (q.nat 1) (fun x => { x with pinned := true }); u.slotOf (q.nat 1) = none) ∧ (let u := (begun s ch).modCtx (q.nat 1) (fun x => { x with pinned := true }); u.revive (q.nat 1) false = none))
    ∧ (∃ (s : State) (ch : Nat) (x : Ctx) (q : Req), Asked s ch 0x6004 oneCtxSpec q ∧ (begun s ch).ddrReady = true ∧ (begun s ch).ctx? (q.nat 1) = some x)
    ∧ (∃ (s : State) (ch : Nat) (x : Ctx) (q : Req), Asked s ch 0x6005 oneCtxSpec q ∧ (begun s ch).ddrReady = true ∧ (begun s ch).ctx? (q.nat 1) = some x ∧ (begun s ch).ctxCells (q.nat 1) = [])
    ∧ (∃ (s : State) (ch : Nat) (q : Req), Asked s ch 0x6006 noTlvs q ∧ s.board.isSome = true ∧ (begun s ch).ddrReady = true ∧ (begun s ch).writeRefused (writeCost (recSize 0x0400)) = none)
    ∧ (∃ (s : State) (ch : Nat) (c : Nat) (q : Req), Asked s ch 0x6007 firnLookupSpec q ∧ (begun s ch).ddrReady = true ∧ q.has 1 = true ∧ q.has 2 = false ∧ q.has 3 = false ∧ q.nat 2 ≤ 1 ∧ (begun s ch).ctxOfEui (q.nat 1) = some c)
    ∧ (∃ (s : State) (ch : Nat) (q : Req), Asked s ch 0x6008 noTlvs q ∧ (begun s ch).ddrReady = true)
    ∧ (∃ (s : State) (l : FirnLoad) (k : Nat) (r : List Nat), s.awake = true ∧ s.ddrReady = true ∧ s.nextLoad = some l ∧ ((s.firn.loads.filter (fun l => l.started.isSome)).length < 8) ∧ s.freeSlots = k :: r)
    ∧ (∃ (s : State) (l : FirnLoad), s.awake = true ∧ s.ddrReady = true ∧ s.nextLoad = some l ∧ ((s.firn.loads.filter (fun l => l.started.isSome)).length < 8) ∧ s.freeSlots = [] ∧ l.stalled = false)
    ∧ (∃ (s : State) (c : Nat) (k : Nat) (l : FirnLoad) (t : Int), s.awake = true ∧ (s.firn.loads.find? (fun l => l.ctx == c && l.started.isSome) = some l) ∧ l.started = some t ∧ s.now - t ≤ 4000 ∧ l.slot = some k)
    ∧ (∃ (s : State) (x : FirnSlot), s.awake = true ∧ s.freeSlots.length < s.pnat 0x6002 ∧ tfind s.firn.slots (s.firn.hand % 512) = some x ∧ s.slotKept x = false ∧ x.ref = false)
    ∧ (∃ (s : State) (k : Nat) (x : FirnSlot), s.awake = true ∧ tfind s.firn.slots k = some x ∧ x.writing = true)
    ∧ (∃ (s : State), s.awake = true ∧ s.ranMs s.firn.sweptAt (1000 * s.pnat 0x6003) = true)
    ∧ (∃ (s : State), s.awake = true) :=
  ⟨⟨(asking (withCtx aCtx) 0x6001 [tlvN 1 2 4095, tlvN 2 4 0x30000]), 0, aCtx, ⟨0, 0x6001, 7, [tlvN 1 2 4095, tlvN 2 4 0x30000]⟩, asked_of (by decide +kernel), by decide +kernel⟩,
   ⟨(asking (withCtx aCtx) 0x6002 [tlvN 1 2 4095, tlvN 2 1 0, ⟨3, u16 511 ++ [1#8]⟩]), 0, aCtx, ⟨0, 0x6002, 7, [tlvN 1 2 4095, tlvN 2 1 0, ⟨3, u16 511 ++ [1#8]⟩]⟩, 511, [1#8], asked_of (by decide +kernel), by decide +kernel⟩,
   ⟨(asking (withCtx aCtx) 0x6002 [tlvN 1 2 4095, tlvN 2 1 1, ⟨3, [0#8, 0#8]⟩]), 0, aCtx, ⟨0, 0x6002, 7, [tlvN 1 2 4095, tlvN 2 1 1, ⟨3, [0#8, 0#8]⟩]⟩, asked_of (by decide +kernel), by decide +kernel⟩,
   ⟨(asking (withCtx aCtx) 0x6002 [tlvN 1 2 4095, tlvN 2 1 3]), 0, aCtx, ⟨0, 0x6002, 7, [tlvN 1 2 4095, tlvN 2 1 3]⟩, asked_of (by decide +kernel), by decide +kernel⟩,
   ⟨(asking (withCtx aCtx) 0x6003 [tlvN 1 2 4095]), 0, 511, aCtx, ⟨0, 0x6003, 7, [tlvN 1 2 4095]⟩, asked_of (by decide +kernel), by decide +kernel⟩,
   ⟨(asking ({ wired with firn := { ctxs := [(4095, aCtx)], restored := true } }) 0x6003 [tlvN 1 2 4095]), 0, aCtx, ⟨0, 0x6003, 7, [tlvN 1 2 4095]⟩, asked_of (by decide +kernel), by decide +kernel⟩,
   ⟨(asking (withCtx aCtx) 0x6004 [tlvN 1 2 4095]), 0, aCtx, ⟨0, 0x6004, 7, [tlvN 1 2 4095]⟩, asked_of (by decide +kernel), by decide +kernel⟩,
   ⟨(asking (withCtx aCtx) 0x6005 [tlvN 1 2 4095]), 0, aCtx, ⟨0, 0x6005, 7, [tlvN 1 2 4095]⟩, asked_of (by decide +kernel), by decide +kernel⟩,
   ⟨(asking (wired) 0x6006 []), 0, ⟨0, 0x6006, 7, []⟩, asked_of (by decide +kernel), by decide +kernel⟩,
   ⟨(asking (withCtx aCtx) 0x6007 [tlvN 1 8 9]), 0, 4095, ⟨0, 0x6007, 7, [tlvN 1 8 9]⟩, asked_of (by decide +kernel), by decide +kernel⟩,
   ⟨(asking (calm) 0x6008 []), 0, ⟨0, 0x6008, 7, []⟩, asked_of (by decide +kernel), by decide +kernel⟩,
   ⟨{ calm with firn := { loads := [{ ctx := 0, miss := true }] } }, { ctx := 0, miss := true }, 0, (List.range 511).map (· + 1), by decide +kernel⟩,
   ⟨fullCache [{ ctx := 600, miss := true }], { ctx := 600, miss := true }, by decide +kernel, by decide +kernel, rfl, by decide, fullCache_free _, by decide +kernel⟩,
   ⟨{ calm with firn := { loads := [{ ctx := 600, miss := true, started := some 0, slot := some 0 }] } }, 600, 0, { ctx := 600, miss := true, started := some 0, slot := some 0 }, 0, by decide +kernel⟩,
   ⟨fullCache [], { ctx := 0, ref := false }, by decide +kernel, by rw [fullCache_free]; decide +kernel, fullSlots_find 0 512 (by decide), by decide +kernel⟩,
   ⟨{ calm with firn := { slots := [(511, { ctx := 0, writing := true })] } }, 511, { ctx := 0, writing := true }, by decide +kernel⟩,
   ⟨{ calm with time := { aon := 2 ^ 40 } }, by decide +kernel⟩,
   ⟨calm, by decide +kernel⟩⟩

theorem witness_CipherCommandsKeepKeysAndTransform :
    (∃ (s : State) (u : State) (ch : Nat) (key : Bytes) (q : Req), Asked s ch 0x7001 keyLoadSpec q ∧ q.nat 1 ≤ 8191 ∧ usageOk (q.nat 2) = true ∧ tfind s.cipher.keys (q.nat 1) = none ∧ tfind s.cipher.loads (q.nat 1) = none ∧ (begun s ch).loadKey q = .ok key ∧ ((begun s ch).cipherQueue (s.pnat 0x7001)).length < 64 ∧ ((begun s ch).unwrapUse q).drbgUse = (.served, u) ∧ countedUse (q.nat 2) = none)
    ∧ (∃ (s : State) (u : State) (ch : Nat) (key : Bytes) (q : Req) (use_ : Nat) (e : MarkEntry), Asked s ch 0x7001 keyLoadSpec q ∧ q.nat 1 ≤ 8191 ∧ usageOk (q.nat 2) = true ∧ tfind s.cipher.keys (q.nat 1) = none ∧ tfind s.cipher.loads (q.nat 1) = none ∧ (begun s ch).loadKey q = .ok key ∧ ((begun s ch).cipherQueue (s.pnat 0x7001)).length < 64 ∧ ((begun s ch).unwrapUse q).drbgUse = (.served, u) ∧ countedUse (q.nat 2) = some use_ ∧ u.nvMark (q.nat 1) = some e ∧ e.check = keyCheck key % 65536 ∧ u.writeRefused (writeCost (recSize (markRecord (q.nat 1)))) = none)
    ∧ (∃ (s : State) (ch : Nat) (k : KeySlot) (q : Req), Asked s ch 0x7002 oneSlotSpec q ∧ q.nat 1 ≤ 8191 ∧ tfind s.cipher.keys (q.nat 1) = some k ∧ k.erasing = none ∧ (begun s ch).keyInUse (q.nat 1) = false)
    ∧ (∃ (s : State) (slot : Nat) (ch : Nat) (k : KeySlot), s.awake = true ∧ tfind s.cipher.keys slot = some k ∧ k.erasing = some ch ∧ ((∀ p ∈ s.cipher.queues, ∀ r ∈ p.2, r.slot ≠ slot)) ∧ s.hostNames slot = false)
    ∧ (∃ (s : State) (ch : Nat) (k : KeySlot) (q : Req), Asked s ch 0x7003 oneSlotSpec q ∧ q.nat 1 ≤ 8191 ∧ tfind s.cipher.keys (q.nat 1) = some k)
    ∧ (∃ (s : State) (ch : Nat) (k : KeySlot) (q : Req), Asked s ch 0x7004 rawSpec q ∧ q.nat 1 ≤ 8191 ∧ ((begun s ch).cipherQueue (s.pnat 0x7001)).length < 64 ∧ q.nat 2 ≤ 1 ∧ 0 < q.nat 5 ∧ q.nat 5 ≤ 1024 ∧ (begun s ch).cipherArea (q.nat 3) (16 * q.nat 5) = true ∧ (begun s ch).cipherArea (q.nat 4) (16 * q.nat 5) = true ∧ overlaps (q.nat 3) (16 * q.nat 5) (q.nat 4) (16 * q.nat 5) = false ∧ (begun s ch).keyFor (q.nat 1) 2 = .ok k)
    ∧ (∃ (s : State) (ch : Nat) (k : KeySlot) (q : Req), Asked s ch 0x7005 ctrSpec q ∧ q.nat 1 ≤ 8191 ∧ ((begun s ch).cipherQueue (s.pnat 0x7001)).length < 64 ∧ q.nat 5 ≤ 16384 ∧ (begun s ch).cipherArea (q.nat 3) (q.nat 5) = true ∧ (begun s ch).cipherArea (q.nat 4) (q.nat 5) = true ∧ overlaps (q.nat 3) (q.nat 5) (q.nat 4) (q.nat 5) = false ∧ (begun s ch).keyFor (q.nat 1) 3 = .ok k)
    ∧ (∃ (s : State) (ch : Nat) (k : KeySlot) (q : Req), Asked s ch 0x7006 cmacSpec q ∧ q.nat 1 ≤ 8191 ∧ ((begun s ch).cipherQueue (s.pnat 0x7001)).length < 64 ∧ q.nat 5 ≤ 16384 ∧ (begun s ch).cipherArea (q.nat 3) (q.nat 5) = true ∧ (begun s ch).keyFor (q.nat 1) 4 = .ok k)
    ∧ (∃ (s : State) (ch : Nat) (k : KeySlot) (q : Req), Asked s ch 0x7007 aeadSpec q ∧ q.nat 1 ≤ 8191 ∧ q.nat 6 = 1 ∧ ((begun s ch).cipherQueue (s.pnat 0x7001)).length < 64 ∧ (begun s ch).aeadFault q 13 (q.nat 7) (q.nat 7 + q.nat 9) = none ∧ (begun s ch).keyFor (q.nat 1) 5 = .ok k)
    ∧ (∃ (s : State) (ch : Nat) (k : KeySlot) (q : Req) (p : Bytes), Asked s ch 0x7008 aeadSpec q ∧ q.nat 1 ≤ 8191 ∧ ((begun s ch).cipherQueue (s.pnat 0x7001)).length < 64 ∧ (begun s ch).aeadFault q 13 (q.nat 7 + q.nat 9) (q.nat 7) = none ∧ (begun s ch).keyFor (q.nat 1) 5 = .ok k ∧ ((begun s ch).rimeHeld (hostInst ch) = true ∨ (begun s ch).rimeReady ⟨hostInst ch, rimeNeed (q.nat 7), s.pnat 0x7001, []⟩ = true) ∧ (let opened := ccmOpen k.key (q.bytes 5) (s.winRead (q.nat 2) (q.nat 3)) (s.winRead (q.nat 4) (q.nat 7)) (s.winRead (q.nat 4 + q.nat 7) (q.nat 9)); opened = some p))
    ∧ (∃ (s : State) (ch : Nat) (k : KeySlot) (q : Req), Asked s ch 0x7008 aeadSpec q ∧ q.nat 1 ≤ 8191 ∧ ((begun s ch).cipherQueue (s.pnat 0x7001)).length < 64 ∧ (begun s ch).aeadFault q 13 (q.nat 7 + q.nat 9) (q.nat 7) = none ∧ (begun s ch).keyFor (q.nat 1) 5 = .ok k ∧ ((begun s ch).rimeHeld (hostInst ch) = true ∨ (begun s ch).rimeReady ⟨hostInst ch, rimeNeed (q.nat 7), s.pnat 0x7001, []⟩ = true) ∧ (let opened := ccmOpen k.key (q.bytes 5) (s.winRead (q.nat 2) (q.nat 3)) (s.winRead (q.nat 4) (q.nat 7)) (s.winRead (q.nat 4 + q.nat 7) (q.nat 9)); opened = none))
    ∧ (∃ (s : State) (ch : Nat) (q : Req), Asked s ch 0x7004 rawSpec q ∧ q.nat 1 ≤ 8191 ∧ 64 ≤ ((begun s ch).cipherQueue (s.pnat 0x7001)).length)
    ∧ (∃ (s : State) (u : State) (ch : Nat) (q : Req), Asked s ch 0x7009 { rows := [{ ty := 1, len := .exact 2 }] } q ∧ 0 < q.nat 1 ∧ q.nat 1 ≤ 256 ∧ (begun s ch).drbgUse = (.served, u)) :=
  ⟨⟨(asking ({ wired with cipher := { entropyReady := true } }) 0x7001 [tlvN 1 2 8191, tlvN 2 1 4, ⟨3, List.replicate 16 1#8⟩]), ((begun (asking ({ wired with cipher := { entropyReady := true } }) 0x7001 ([tlvN 1 2 8191, tlvN 2 1 4, ⟨3, List.replicate 16 1#8⟩])) 0).unwrapUse ⟨0, 0x7001, 7, [tlvN 1 2 8191, tlvN 2 1 4, ⟨3, List.replicate 16 1#8⟩]⟩).drbgUse.2, 0, List.replicate 16 1#8, ⟨0, 0x7001, 7, [tlvN 1 2 8191, tlvN 2 1 4, ⟨3, List.replicate 16 1#8⟩]⟩, asked_of (by decide +kernel), by decide +kernel, by decide +kernel, by decide +kernel, by decide +kernel, ok_of (by decide +kernel), by decide +kernel, pair_of (by decide +kernel), by decide +kernel⟩,
   ⟨(asking ({ wired with cipher := { entropyReady := true }, nv := { recs := [(0x013F, { a := some ⟨1, .marks [(8191, ⟨0, keyCheck (keyOf 1).key % 65536⟩)]⟩ })] } }) 0x7001 [tlvN 1 2 8191, tlvN 2 1 1, ⟨3, List.replicate 16 1#8⟩]), ((begun (asking ({ wired with cipher := { entropyReady := true }, nv := { recs := [(0x013F, { a := some ⟨1, .marks [(8191, ⟨0, keyCheck (keyOf 1).key % 65536⟩)]⟩ })] } }) 0x7001 ([tlvN 1 2 8191, tlvN 2 1 1, ⟨3, List.replicate 16 1#8⟩])) 0).unwrapUse ⟨0, 0x7001, 7, [tlvN 1 2 8191, tlvN 2 1 1, ⟨3, List.replicate 16 1#8⟩]⟩).drbgUse.2, 0, List.replicate 16 1#8, ⟨0, 0x7001, 7, [tlvN 1 2 8191, tlvN 2 1 1, ⟨3, List.replicate 16 1#8⟩]⟩, 0, ⟨0, keyCheck (keyOf 1).key % 65536⟩, asked_of (by decide +kernel), by decide +kernel, by decide +kernel, by decide +kernel, by decide +kernel, ok_of (by decide +kernel), by decide +kernel, pair_of (by decide +kernel), by decide +kernel⟩,
   ⟨(asking (keyed 4) 0x7002 [tlvN 1 2 5]), 0, keyOf 4, ⟨0, 0x7002, 7, [tlvN 1 2 5]⟩, asked_of (by decide +kernel), by decide +kernel⟩,
   ⟨{ calm with cipher := { keys := [(5, { keyOf 4 with erasing := some 0 })] } }, 5, 0, { keyOf 4 with erasing := some 0 }, by decide +kernel⟩,
   ⟨(asking (keyed 4) 0x7003 [tlvN 1 2 5]), 0, keyOf 4, ⟨0, 0x7003, 7, [tlvN 1 2 5]⟩, asked_of (by decide +kernel), by decide +kernel⟩,
   ⟨(asking (keyed 4) 0x7004 [tlvN 1 2 5, tlvN 2 1 1, tlvN 3 4 0x30000, tlvN 4 4 0x38000, tlvN 5 2 1024]), 0, keyOf 4, ⟨0, 0x7004, 7, [tlvN 1 2 5, tlvN 2 1 1, tlvN 3 4 0x30000, tlvN 4 4 0x38000, tlvN 5 2 1024]⟩, asked_of (by decide +kernel), by decide +kernel, by decide +kernel, by decide +kernel, by decide +kernel, by decide +kernel, by decide +kernel, by decide +kernel, by decide +kernel, ok_of (by decide +kernel)⟩,
   ⟨(asking (keyed 8) 0x7005 [tlvN 1 2 5, ⟨2, List.replicate 16 0#8⟩, tlvN 3 4 0x30000, tlvN 4 4 0x38000, tlvN 5 2 16384]), 0, keyOf 8, ⟨0, 0x7005, 7, [tlvN 1 2 5, ⟨2, List.replicate 16 0#8⟩, tlvN 3 4 0x30000, tlvN 4 4 0x38000, tlvN 5 2 16384]⟩, asked_of (by decide +kernel), by decide +kernel, by decide +kernel, by decide +kernel, by decide +kernel, by decide +kernel, by decide +kernel, ok_of (by decide +kernel)⟩,
   ⟨(asking (keyed 16) 0x7006 [tlvN 1 2 5, tlvN 3 4 0x30000, tlvN 5 2 16384]), 0, keyOf 16, ⟨0, 0x7006, 7, [tlvN 1 2 5, tlvN 3 4 0x30000, tlvN 5 2 16384]⟩, asked_of (by decide +kernel), by decide +kernel, by decide +kernel, by decide +kernel, by decide +kernel, ok_of (by decide +kernel)⟩,
   ⟨(asking (keyed 32) 0x7007 [tlvN 1 2 5, tlvN 2 4 0x30000, tlvN 3 2 0, tlvN 4 4 0x30000, ⟨5, List.replicate 13 0#8⟩, tlvN 6 1 1, tlvN 7 2 0, tlvN 8 4 0x38000, tlvN 9 1 16]), 0, keyOf 32, ⟨0, 0x7007, 7, [tlvN 1 2 5, tlvN 2 4 0x30000, tlvN 3 2 0, tlvN 4 4 0x30000, ⟨5, List.replicate 13 0#8⟩, tlvN 6 1 1, tlvN 7 2 0, tlvN 8 4 0x38000, tlvN 9 1 16]⟩, asked_of (by decide +kernel), by decide +kernel, by decide +kernel, by decide +kernel, by decide +kernel, ok_of (by decide +kernel)⟩,
   ⟨(asking ({ keyed 32 with mem := writeBytes [] (winBase + 0x30000) (ccmSeal (keyOf 32).key (List.replicate 13 0#8) [] [] 16).2 }) 0x7008 [tlvN 1 2 5, tlvN 2 4 0x30000, tlvN 3 2 0, tlvN 4 4 0x30000, ⟨5, List.replicate 13 0#8⟩, tlvN 6 1 1, tlvN 7 2 0, tlvN 8 4 0x38000, tlvN 9 1 16]), 0, keyOf 32, ⟨0, 0x7008, 7, [tlvN 1 2 5, tlvN 2 4 0x30000, tlvN 3 2 0, tlvN 4 4 0x30000, ⟨5, List.replicate 13 0#8⟩, tlvN 6 1 1, tlvN 7 2 0, tlvN 8 4 0x38000, tlvN 9 1 16]⟩, [], asked_of (by decide +kernel), by decide +kernel, by decide +kernel, by decide +kernel, ok_of (by decide +kernel), by decide +kernel⟩,
   ⟨(asking (keyed 32) 0x7008 [tlvN 1 2 5, tlvN 2 4 0x30000, tlvN 3 2 0, tlvN 4 4 0x30000, ⟨5, List.replicate 13 0#8⟩, tlvN 6 1 1, tlvN 7 2 0, tlvN 8 4 0x38000, tlvN 9 1 16]), 0, keyOf 32, ⟨0, 0x7008, 7, [tlvN 1 2 5, tlvN 2 4 0x30000, tlvN 3 2 0, tlvN 4 4 0x30000, ⟨5, List.replicate 13 0#8⟩, tlvN 6 1 1, tlvN 7 2 0, tlvN 8 4 0x38000, tlvN 9 1 16]⟩, asked_of (by decide +kernel), by decide +kernel, by decide +kernel, by decide +kernel, ok_of (by decide +kernel), by decide +kernel⟩,
   ⟨(asking ({ keyed 4 with cipher := { (keyed 4).cipher with queues := [(calm.pnat 0x7001, List.replicate 64 ⟨5, false, false, 1, 7, 0, 0, 0, .other 2, 0⟩)] } }) 0x7004 [tlvN 1 2 5, tlvN 2 1 1, tlvN 3 4 0x30000, tlvN 4 4 0x38000, tlvN 5 2 1024]), 0, ⟨0, 0x7004, 7, [tlvN 1 2 5, tlvN 2 1 1, tlvN 3 4 0x30000, tlvN 4 4 0x38000, tlvN 5 2 1024]⟩, asked_of (by decide +kernel), by decide +kernel⟩,
   ⟨(asking ({ wired with cipher := { entropyReady := true } }) 0x7009 [tlvN 1 2 256]), (begun (asking ({ wired with cipher := { entropyReady := true } }) 0x7009 [tlvN 1 2 256]) 0).drbgUse.2, 0, ⟨0, 0x7009, 7, [tlvN 1 2 256]⟩, asked_of (by decide +kernel), by decide +kernel, by decide +kernel, pair_of (by decide +kernel)⟩⟩

theorem witness_CipherEngineEventsComplete :
    (∃ (s : State) (queue : Nat) (r : CipherReq) (rest : List CipherReq) (use_ : Nat), s.awake = true ∧ tget [] s.cipher.queues queue = r :: rest ∧ r.graph = .other use_)
    ∧ (∃ (s : State) (id : Nat) (k : RxCheck), s.awake = true ∧ (s.bb.checks.find? (fun k => k.id == id) = some k) ∧ k.waits = false ∧ k.voidWait = false ∧ k.hdr.beacon = none ∧ s.rimeHeld (rxInst id) = true)
    ∧ (∃ (s : State) (r : RimeUse), s.awake = true ∧ s.cipher.hostWait = [] ∧ s.cc.waitNodes = [] ∧ s.cipher.rimeWait = [r] ∧ r.units ≤ s.rimeFree)
    ∧ (∃ (s : State), s.awake = true ∧ 4096 ≤ s.cipher.maskBlocks ∧ s.entropyOk = true)
    ∧ (∃ (s : State) (u : State) (slot : Nat) (k : KeySlot), s.awake = true ∧ tfind s.cipher.keys slot = some k ∧ 65536 ≤ k.requests ∧ s.drbgUse = (.served, u))
    ∧ (∃ (s : State), s.awake = true ∧ s.cipher.entropyFailed = false)
    ∧ (∃ (s : State), s.awake = true ∧ s.cipher.entropyFailed = false ∧ (let fails := s.time.aon :: s.cipher.entropyFails.filter (fun t => decide (s.time.aon < t + 32768)); fails.length < 3))
    ∧ (∃ (s : State), s.awake = true ∧ s.cipher.entropyFailed = false ∧ (let fails := s.time.aon :: s.cipher.entropyFails.filter (fun t => decide (s.time.aon < t + 32768)); 3 ≤ fails.length))
    ∧ (∃ (s : State), s.awake = true ∧ s.reseedDue = true ∧ s.entropyOk = true)
    ∧ (∃ (s : State) (late : Nat × Req → Bool), s.awake = true ∧ (late = (fun p => s.ranUs (some p.1) 10000))) :=
  ⟨⟨{ calm with cipher := { queues := [(3, [⟨5, false, false, 1, 7, 0, 0, 0, .other 2, 0⟩])] } }, 3, ⟨5, false, false, 1, 7, 0, 0, 0, .other 2, 0⟩, [], 2, by decide +kernel⟩,
   ⟨{ calm with cipher := { rimeUsed := [⟨rxInst 1, 0, 0, []⟩] }, bb := { checks := [{ id := 1, net := .lb, ctx := 0, waits := false, lane := 31, khz := 868100, rx := { level := 0 }, hdr := { pan := calm.netParam .lb 0x3002, dstOk := true, srcExt := none, srcShort := 0x11, unsupported := false, level := 5, keyIdx := 0, counter := 1, ackReq := false, beacon := none }, payload := [], asn := 0, shared := false, ack := false, clipped := false, fs := 0, ended := 0 }] } }, 1, { id := 1, net := .lb, ctx := 0, waits := false, lane := 31, khz := 868100, rx := { level := 0 }, hdr := { pan := calm.netParam .lb 0x3002, dstOk := true, srcExt := none, srcShort := 0x11, unsupported := false, level := 5, keyIdx := 0, counter := 1, ackReq := false, beacon := none }, payload := [], asn := 0, shared := false, ack := false, clipped := false, fs := 0, ended := 0 }, by decide +kernel⟩,
   ⟨{ calm with cipher := { rimeWait := [⟨1, 1024, 0, []⟩] } }, ⟨1, 1024, 0, []⟩, by decide +kernel⟩,
   ⟨{ calm with cipher := { maskBlocks := 4096, entropyReady := true } }, by decide +kernel⟩,
   ⟨{ calm with cipher := { keys := [(5, { keyOf 4 with requests := 65536 })], entropyReady := true } }, ({ calm with cipher := { keys := [(5, { keyOf 4 with requests := 65536 })], entropyReady := true } } : State).drbgUse.2, 5, { keyOf 4 with requests := 65536 }, by decide +kernel, by decide +kernel, by decide +kernel, pair_of (by decide +kernel)⟩,
   ⟨calm, by decide +kernel⟩,
   ⟨{ calm with cipher := { entropyFails := [0] } }, by decide +kernel⟩,
   ⟨{ calm with cipher := { entropyFails := [0, 0] } }, by decide +kernel⟩,
   ⟨{ calm with cipher := { drbgSeeded := true, drbgUses := 65536, entropyReady := true } }, by decide +kernel⟩,
   ⟨calm, (fun p => calm.ranUs (some p.1) 10000), by decide +kernel, rfl⟩⟩

theorem witness_DataflowStartsFiresAndCompletes :
    (∃ (s : State) (tpl : Nat) (roots : List (Nat × Nat)), s.live = true ∧ (s.firstNode tpl).isSome = true ∧ s.cc.waitTriggers = [] ∧ s.canStart ⟨tpl, roots⟩ = true)
    ∧ (∃ (s : State) (inst : Nat) (node : Nat) (i : DfsInst) (n : TplNode), s.live = true ∧ tfind s.cc.insts inst = some i ∧ s.tplNode inst node = some n ∧ i.cancelled = false ∧ s.isRunning inst node = false ∧ n.kind ≠ .delay ∧ s.inputsPresent inst node n.inputs = true ∧ entryRule s.freeEntries n.outs.length n.prio n.completion = true)
    ∧ (∃ (s : State) (inst : Nat) (node : Nat) (i : DfsInst) (n : TplNode), s.live = true ∧ tfind s.cc.insts inst = some i ∧ s.tplNode inst node = some n ∧ i.cancelled = false ∧ s.isRunning inst node = false ∧ n.kind ≠ .delay ∧ s.inputsPresent inst node n.inputs = true ∧ entryRule s.freeEntries n.outs.length n.prio n.completion = false ∧ (s.seenRows inst node).contains 100 = false)
    ∧ (∃ (s : State) (inst : Nat) (node : Nat) (o : RunningOp) (n : TplNode), s.live = true ∧ (s.cc.running.find? (fun o => o.inst == inst && o.node == node) = some o) ∧ s.tplNode inst node = some n ∧ o.core = none)
    ∧ (∃ (s : State) (inst : Nat) (i : DfsInst), s.live = true ∧ tfind s.cc.insts inst = some i)
    ∧ (∃ (s : State) (inst : Nat) (i : DfsInst), s.live = true ∧ tfind s.cc.insts inst = some i ∧ ((s.rimeFreeFor inst).cc.running.any (fun o => o.inst == inst) = false))
    ∧ (∃ (s : State) (inst : Nat) (node : Nat) (i : DfsInst) (n : TplNode) (o : Nat × Nat) (l : List (Nat × Nat)), s.live = true ∧ tfind s.cc.insts inst = some i ∧ s.tplNode inst node = some n ∧ i.cancelled = false ∧ n.kind = .delay ∧ s.inputsPresent inst node n.inputs = true ∧ n.outs = o :: l ∧ s.delayRoom (n.prio / 4) = true)
    ∧ (∃ (s : State) (e : DelayEntry), s.live = true ∧ 250 * (s.pnat 0x8001 : Int) ≤ 4 * sdiff 48 s.time.raw s.cc.scanned ∧ s.cc.delays = [e] ∧ s.entryDue e = true ∧ entryRule s.freeEntries 1 (4 * e.list) false = true)
    ∧ (∃ (s : State) (e : DelayEntry), s.live = true ∧ 250 * (s.pnat 0x8001 : Int) ≤ 4 * sdiff 48 s.time.raw s.cc.scanned ∧ s.cc.delays = [e] ∧ s.entryDue e = true ∧ entryRule s.freeEntries 1 (4 * e.list) false = false)
    ∧ (∃ (s : State) (inst : Nat) (node : Nat) (c : Nat) (o : RunningOp) (n : TplNode) (i : DfsInst) (k : Nat), s.live = true ∧ s.opHung inst node = true ∧ (s.cc.running.find? (fun o => o.inst == inst && o.node == node) = some o) ∧ s.tplNode inst node = some n ∧ tfind s.cc.insts inst = some i ∧ o.core = some c ∧ (s.core c).jobs = [.op inst node n.prio] ∧ (let u := ((s.setCore c { s.core c with st := .reset, jobs := [], signal := none }).bump .cc 7).logFault 1 c (i.tpl % 256 + node % 256 * 256); let d := u.dispatch inst node n; d.1 = some k)) :=
  ⟨⟨graphAs (aNode .core 0) {}, 0, [], by decide +kernel⟩,
   ⟨graphAs (aNode .core 0) {}, 0, 0, { tpl := 0, version := 1 }, aNode .core 0, by decide +kernel⟩,
   ⟨graphAs (aNode .core 0) { store := (List.range 8192).map (fun k => ⟨1, 0, k⟩) }, 0, 0, { tpl := 0, version := 1 }, aNode .core 0, by decide +kernel⟩,
   ⟨graphAs (aNode .core 0) { running := [{ inst := 0, node := 0, core := none }] }, 0, 0, { inst := 0, node := 0, core := none }, aNode .core 0, by decide +kernel⟩,
   ⟨graphAs (aNode .core 0) {}, 0, { tpl := 0, version := 1 }, by decide +kernel⟩,
   ⟨graphAs (aNode .core 0) {}, 0, { tpl := 0, version := 1 }, by decide +kernel⟩,
   ⟨graphAs (aNode .delay 7) {}, 0, 0, { tpl := 0, version := 1 }, aNode .delay 7, (1, 0), [], by decide +kernel⟩,
   ⟨{ graphAs (aNode .core 0) { delays := [⟨3, 0, 0, 0, 0⟩] } with time := { raw := 2 ^ 40 } }, ⟨3, 0, 0, 0, 0⟩, by decide +kernel⟩,
   ⟨{ graphAs (aNode .core 0) { delays := [⟨3, 0, 0, 0, 0⟩], store := (List.range 8192).map (fun k => ⟨1, 0, k⟩) } with time := { raw := 2 ^ 40 } }, ⟨3, 0, 0, 0, 0⟩, by decide +kernel⟩,
   ⟨graphAs { aNode .core 0 with mask := 3 } { running := [{ inst := 0, node := 0, core := some 0, ran := 2 ^ 40 }], cores := [(0, { st := .running, jobs := [.op 0 0 0] })] }, 0, 0, 0, { inst := 0, node := 0, core := some 0, ran := 2 ^ 40 }, { aNode .core 0 with mask := 3 }, { tpl := 0, version := 1 }, 1, by decide +kernel⟩⟩

theorem witness_InterruptsAndCoresAreServed :
    (∃ (s : State) (i : Nat), s.live = true ∧ i < 512 ∧ (s.irq i).group = none)
    ∧ (∃ (s : State) (i : Nat) (g : Nat), s.live = true ∧ i < 512 ∧ (s.irq i).group = some g ∧ (let gr := tget {} s.cc.groups g; gr.held.length + 1 < gr.count))
    ∧ (∃ (s : State) (i : Nat) (g : Nat), s.live = true ∧ i < 512 ∧ (s.irq i).group = some g ∧ (let gr := tget {} s.cc.groups g; gr.count ≤ gr.held.length + 1))
    ∧ (∃ (s : State) (g : Nat), s.awake = true ∧ g ≠ 63 ∧ s.groupDue g = true)
    ∧ (∃ (s : State), s.awake = true ∧ s.groupDue 63 = true)
    ∧ (∃ (s : State), s.live = true)
    ∧ (∃ (s : State), s.live = true ∧ s.cc.irqs = [] ∧ s.assignIrqs = [])
    ∧ (∃ (s : State) (c : Nat), s.live = true ∧ c < 8 ∧ (s.core c).signal = none)
    ∧ (∃ (s : State) (c : Nat) (i : Nat), s.live = true ∧ c < 8 ∧ (s.core c).signal = some i)
    ∧ (∃ (s : State) (i : Nat) (mask : Bool), s.live = true ∧ i < 512 ∧ (s.setIrq i { s.irq i with masked := mask }).signalledTo i = none)
    ∧ (∃ (s : State) (i : Nat) (c : Nat), s.live = true ∧ i < 512 ∧ (s.setIrq i { s.irq i with masked := true }).signalledTo i = some c)
    ∧ (∃ (s : State) (c : Nat), s.live = true ∧ (s.core c).st = .reset)
    ∧ (∃ (s : State) (c : Nat), s.live = true ∧ c < 8 ∧ (s.core c).st = .idle ∧ (s.core c).signal = none ∧ s.pnat 0x8004 < s.unparked)
    ∧ (∃ (s : State) (c : Nat), s.live = true ∧ c < 8 ∧ (s.core c).st = .parked)
    ∧ (∃ (s : State) (ch : Nat) (q : Req), Asked s ch 0x8001 noTlvs q)
    ∧ (∃ (s : State) (ch : Nat) (q : Req), Asked s ch 0x8003 noTlvs q) :=
  ⟨⟨calm, 511, by decide +kernel⟩,
   ⟨{ calm with cc := { irqs := [(511, { group := some 5 })], groups := [(5, { count := 2 })] } }, 511, 5, by decide +kernel⟩,
   ⟨{ calm with cc := { irqs := [(511, { group := some 5 })], groups := [(5, { count := 1 })] } }, 511, 5, by decide +kernel⟩,
   ⟨{ calm with cc := { groups := [(5, { held := [511] })] }, time := { raw := 250 } }, 5, by decide +kernel⟩,
   ⟨{ calm with evs := { held := 1 }, time := { raw := 250 } }, by decide +kernel⟩,
   ⟨calm, by decide +kernel⟩,
   ⟨calm, by decide +kernel⟩,
   ⟨calm, 7, by decide +kernel⟩,
   ⟨{ calm with cc := { cores := [(7, { signal := some 511 })] } }, 7, 511, by decide +kernel⟩,
   ⟨calm, 511, true, by decide +kernel⟩,
   ⟨{ calm with cc := { cores := [(7, { signal := some 511 })] } }, 511, 7, by decide +kernel⟩,
   ⟨{ calm with cc := { cores := [(7, { st := .reset })] } }, 7, by decide +kernel⟩,
   ⟨calm, 7, by decide +kernel⟩,
   ⟨{ calm with cc := { cores := [(7, { st := .parked })] } }, 7, by decide +kernel⟩,
   ⟨(asking (calm) 0x8001 []), 0, ⟨0, 0x8001, 7, []⟩, asked_of (by decide +kernel)⟩,
   ⟨(asking (calm) 0x8003 []), 0, ⟨0, 0x8003, 7, []⟩, asked_of (by decide +kernel)⟩⟩

theorem witness_RouterEventsTakeAndSendFrames :
    (∃ (s : State) (p : Nat) (b : Bytes), p < 4 ∧ s.awake = true ∧ (s.ethPort p).up = true ∧ b.length < 64)
    ∧ (∃ (s : State) (p : Nat) (b : Bytes), p < 4 ∧ s.awake = true ∧ (s.ethPort p).up = true ∧ 64 ≤ b.length ∧ s.pnat (0xC014 + p) < b.length)
    ∧ (∃ (s : State) (p : Nat) (b : Bytes), p < 4 ∧ s.awake = true ∧ (s.ethPort p).up = true ∧ 64 ≤ b.length ∧ b.length ≤ s.pnat (0xC014 + p) ∧ u32 (crc32 (b.take (b.length - 4))) ≠ b.drop (b.length - 4))
    ∧ (∃ (s : State) (p : Nat) (b : Bytes), p < 4 ∧ s.awake = true ∧ (s.ethPort p).up = true ∧ 64 ≤ b.length ∧ b.length ≤ s.pnat (0xC014 + p) ∧ u32 (crc32 (b.take (b.length - 4))) = b.drop (b.length - 4))
    ∧ (∃ (s : State) (k : InPkt) (l : List InPkt), s.awake = true ∧ s.rt.inbox = k :: l)
    ∧ (∃ (s : State), s.awake = true)
    ∧ (∃ (s : State), s.awake = true ∧ s.ageStep ≤ s.rawSince s.rt.ageAt)
    ∧ (∃ (s : State) (p : Nat), s.awake = true ∧ p < 4)
    ∧ (∃ (s : State) (p : Nat) (q : Nat) (f : QFrame) (l : List QFrame), s.awake = true ∧ p < 4 ∧ s.activePorts p = [p] ∧ (s.dropHeads p).pickQueue p = some (q, f, l) ∧ (s.dropHeads p).laneFree p = true) :=
  ⟨⟨{ wired with serial := { eth := [(3, { up := true, speed := 1000 })] } }, 3, List.replicate 63 0#8, by decide +kernel⟩,
   ⟨{ wired with serial := { eth := [(3, { up := true, speed := 1000 })] } }, 3, List.replicate 2001 0#8, by decide +kernel⟩,
   ⟨{ wired with serial := { eth := [(3, { up := true, speed := 1000 })] } }, 3, List.replicate 64 0#8, by decide +kernel⟩,
   ⟨{ wired with serial := { eth := [(3, { up := true, speed := 1000 })] } }, 3, withFcs (List.replicate 60 0#8), by decide +kernel⟩,
   ⟨{ wired with rt := { inbox := [{ octets := [], port := 0x10, cls := 0 }] } }, { octets := [], port := 0x10, cls := 0 }, [], by decide +kernel⟩,
   ⟨calm, by decide +kernel⟩,
   ⟨{ calm with time := { raw := calm.ageStep } }, by decide +kernel⟩,
   ⟨calm, 3, by decide +kernel⟩,
   ⟨{ wired with serial := { eth := [(0, { up := true, speed := 1000 })] }, rt := { queues := [(7, [{ octets := List.replicate 60 0#8, len := 60 }])] } }, 0, 7, { octets := List.replicate 60 0#8, len := 60 }, [], by decide +kernel⟩⟩

theorem witness_RouterCommandsSetAndTell :
    (∃ (s : State) (ch : Nat) (n : Net) (q : Req), Asked s ch 0x9002 lowpanCtxSpec q ∧ Net.ofNat? (q.nat 1) = some n ∧ q.nat 2 ≤ 15 ∧ q.nat 4 ≤ 128 ∧ q.nat 5 ≤ 3)
    ∧ (∃ (s : State) (ch : Nat) (q : Req), Asked s ch 0xA001 shaperSpec q ∧ shaperTargetOk (q.nat 2) (q.nat 3) = true ∧ 8 ≤ q.nat 4 ∧ q.nat 4 ≤ 10000000 ∧ 1600 ≤ q.nat 5 ∧ q.nat 5 ≤ 16777215 ∧ q.nat 6 ≤ 1 ∧ (begun s ch).shaperTaken (q.nat 1) (q.nat 2) (q.nat 3) = false ∧ q.has 7 = false)
    ∧ (∃ (s : State) (ch : Nat) (q : Req), Asked s ch 0xA002 meterSpec q ∧ q.nat 1 ≤ 1023 ∧ q.nat 2 ≤ 1 ∧ q.nat 3 ≤ 1 ∧ rateOk (leNat ((q.bytes 4).take 4)) = true ∧ rateOk (leNat ((q.bytes 4).drop 4)) = true ∧ sizeOk (leNat ((q.bytes 5).take 4)) = true ∧ sizeOk (leNat ((q.bytes 5).drop 4)) = true ∧ q.has 7 = false ∧ (let acts := [0, 1, 2].map (fun i => (byteAt (q.bytes 6) (2 * i), byteAt (q.bytes 6) (2 * i + 1))); acts.all meterActOk = true))
    ∧ (∃ (s : State) (ch : Nat) (l : GateList) (q : Req), Asked s ch 0xA003 gateSpec q ∧ q.nat 1 ≤ 3 ∧ q.nat 3 ≤ 256 ∧ (begun s ch).areaOk (q.nat 2) (8 * q.nat 3) = true ∧ readGates (s.winRead (q.nat 2) (8 * q.nat 3)) (q.nat 3) (q.nat 4) (q.nat 5) = some l ∧ q.has 6 = false ∧ (begun s ch).pbool (0xA010 + q.nat 1) = false)
    ∧ (∃ (s : State) (ch : Nat) (q : Req), Asked s ch 0xA004 tmStatusSpec q ∧ q.nat 1 < 4 ∧ (begun s ch).gateOf (q.nat 1) = none) :=
  ⟨⟨(asking (calm) 0x9002 [tlvN 1 1 1, tlvN 2 1 15, ⟨3, List.replicate 16 0#8⟩, tlvN 4 1 128, tlvN 5 1 3]), 0, .mb, ⟨0, 0x9002, 7, [tlvN 1 1 1, tlvN 2 1 15, ⟨3, List.replicate 16 0#8⟩, tlvN 4 1 128, tlvN 5 1 3]⟩, asked_of (by decide +kernel), by decide +kernel⟩,
   ⟨(asking (calm) 0xA001 [tlvN 1 1 255, tlvN 2 1 0x3F, tlvN 3 1 0xFF, tlvN 4 4 10000000, tlvN 5 4 16777215, tlvN 6 1 1]), 0, ⟨0, 0xA001, 7, [tlvN 1 1 255, tlvN 2 1 0x3F, tlvN 3 1 0xFF, tlvN 4 4 10000000, tlvN 5 4 16777215, tlvN 6 1 1]⟩, asked_of (by decide +kernel), by decide +kernel⟩,
   ⟨(asking (calm) 0xA002 [tlvN 1 2 1023, tlvN 2 1 1, tlvN 3 1 1, ⟨4, u32 8 ++ u32 10000000⟩, ⟨5, u32 64 ++ u32 16777215⟩, ⟨6, [1#8, 7#8, 2#8, 63#8, 3#8, 0#8]⟩]), 0, ⟨0, 0xA002, 7, [tlvN 1 2 1023, tlvN 2 1 1, tlvN 3 1 1, ⟨4, u32 8 ++ u32 10000000⟩, ⟨5, u32 64 ++ u32 16777215⟩, ⟨6, [1#8, 7#8, 2#8, 63#8, 3#8, 0#8]⟩]⟩, asked_of (by decide +kernel), by decide +kernel⟩,
   ⟨(asking ({ calm with mem := writeBytes [] (winBase + 0x30000) (u32 255 ++ u32 100) }) 0xA003 [tlvN 1 1 3, tlvN 2 4 0x30000, tlvN 3 2 1, tlvN 4 4 1000, tlvN 5 8 0]), 0, ⟨[(255, 100)], 1000, 0⟩, ⟨0, 0xA003, 7, [tlvN 1 1 3, tlvN 2 4 0x30000, tlvN 3 2 1, tlvN 4 4 1000, tlvN 5 8 0]⟩, asked_of (by decide +kernel), by decide +kernel⟩,
   ⟨(asking (calm) 0xA004 [tlvN 1 1 3]), 0, ⟨0, 0xA004, 7, [tlvN 1 1 3]⟩, asked_of (by decide +kernel), by decide +kernel⟩⟩

theorem witness_NetworkTimeIsToldAndKept :
    (∃ (s : State) (ch : Nat) (q : Req), Asked s ch 0xB001 noTlvs q)
    ∧ (∃ (s : State) (ch : Nat) (q : Req), Asked s ch 0xB002 timeAdjustSpec q ∧ (begun s ch).source = 1 ∧ q.nat 1 ≤ 1 ∧ (q.nat 1 = 0 ∨ (q.int 2).natAbs ≤ s.pnat 0xB004 ∨ (begun s ch).scheduleRuns = false))
    ∧ (∃ (s : State) (ch : Nat) (q : Req), Asked s ch 0xB002 timeAdjustSpec q ∧ (begun s ch).source ≠ 1)
    ∧ (∃ (s : State), s.awake = true)
    ∧ (∃ (s : State), s.awake = true ∧ s.time.state = .locked ∧ s.sourceLost = true)
    ∧ (∃ (s : State), s.awake = true ∧ s.pnat 0xB007 < s.time.bound ∧ s.time.aboveAlarm = false)
    ∧ (∃ (s : State), s.awake = true ∧ s.time.bound ≤ s.pnat 0xB007 ∧ s.time.aboveAlarm = true)
    ∧ (∃ (s : State), s.awake = true ∧ max (s.pnat 0xB020) s.time.bound < (secondPhase s.now).natAbs)
    ∧ (∃ (s : State), s.awake = true ∧ (secondPhase s.now).natAbs ≤ max (s.pnat 0xB020) s.time.bound)
    ∧ (∃ (s : State), s.awake = true ∧ s.time.ppsOut = true ∧ s.time.ppsFall ≤ s.now)
    ∧ (∃ (s : State), s.awake = true ∧ s.time.ppsOut = false ∧ (secondPhase s.now).natAbs ≤ 4 ∧ s.pins.ppsDriven = true ∧ (s.pnat 0xB022 = 1 ∨ (s.pnat 0xB022 = 2 ∧ s.time.bound ≤ s.pnat 0xB024))) :=
  ⟨⟨(asking (calm) 0xB001 []), 0, ⟨0, 0xB001, 7, []⟩, asked_of (by decide +kernel)⟩,
   ⟨(asking ({ calm with params := [(0xB001, .num 1)] }) 0xB002 [tlvN 1 1 1, ⟨2, leInt 8 (-1000000)⟩, ⟨3, leInt 8 5⟩, tlvN 4 4 100]), 0, ⟨0, 0xB002, 7, [tlvN 1 1 1, ⟨2, leInt 8 (-1000000)⟩, ⟨3, leInt 8 5⟩, tlvN 4 4 100]⟩, asked_of (by decide +kernel), by decide +kernel⟩,
   ⟨(asking (calm) 0xB002 [tlvN 1 1 1, ⟨2, leInt 8 0⟩, tlvN 4 4 100]), 0, ⟨0, 0xB002, 7, [tlvN 1 1 1, ⟨2, leInt 8 0⟩, tlvN 4 4 100]⟩, asked_of (by decide +kernel), by decide +kernel⟩,
   ⟨calm, by decide +kernel⟩,
   ⟨{ calm with params := [(0xB001, .num 2)], time := { state := .locked, aon := 98304 } }, by decide +kernel⟩,
   ⟨{ calm with time := { bound := 4294967295 } }, by decide +kernel⟩,
   ⟨{ calm with time := { aboveAlarm := true } }, by decide +kernel⟩,
   ⟨{ calm with time := { offset := 500000000 } }, by decide +kernel⟩,
   ⟨calm, by decide +kernel⟩,
   ⟨{ calm with time := { ppsOut := true } }, by decide +kernel⟩,
   ⟨{ calm with params := [(0xB022, .num 1)], pins := { ppsDriven := true } }, by decide +kernel⟩⟩

theorem witness_HolderReadsSourceFiveAsZero :
    (∃ (s : State), s.serial.casc.holder = true ∧ s.pnat 0xB001 = 5)
    ∧ (∃ (s : State), s.serial.casc.holder = true ∧ s.pnat 0xB001 ≠ 5)
    ∧ (∃ (s : State), s.serial.casc.holder = false) :=
  ⟨⟨{ calm with serial := { casc := { holder := true } }, params := [(0xB001, .num 5)] }, by decide +kernel⟩,
   ⟨{ calm with serial := { casc := { holder := true } }, params := [(0xB001, .num 2)] }, by decide +kernel⟩,
   ⟨calm, by decide +kernel⟩⟩

theorem witness_LanesAndPortsAreBroughtUpAndServed :
    (∃ (s : State) (i : Nat), s.serdesOn = true ∧ (s.serLane i).st = .acquire)
    ∧ (∃ (s : State) (i : Nat), s.serdesOn = true ∧ (s.serLane i).st = .align)
    ∧ (∃ (s : State) (i : Nat), s.serdesOn = true ∧ (s.serLane i).st = .sync)
    ∧ (∃ (s : State) (i : Nat), s.serdesOn = true ∧ (s.serLane i).st = .up)
    ∧ (∃ (s : State) (i : Nat), s.serdesOn = true ∧ (s.serLane i).st = .test ∧ (s.serLane i).timed = true ∧ s.ranMs (s.serLane i).testAt (s.serLane i).testMs = true)
    ∧ (∃ (s : State) (i : Nat), s.serdesOn = true ∧ (s.serLane i).checks = true)
    ∧ (∃ (s : State), s.serdesOn = true)
    ∧ (∃ (s : State) (ch : Nat) (q : Req), Asked s ch 0xC001 laneSpec q ∧ q.nat 1 ≤ 7)
    ∧ (∃ (s : State) (ch : Nat) (q : Req), Asked s ch 0xC002 laneTestSpec q ∧ q.nat 1 ≤ 7 ∧ s.board.isSome = true ∧ (begun s ch).laneUsed (q.nat 1) = true ∧ 0 < q.nat 2 ∧ q.nat 2 ≤ 4 ∧ q.nat 3 ≤ 3)
    ∧ (∃ (s : State) (ch : Nat) (q : Req), Asked s ch 0xC003 radioClearSpec q ∧ q.nat 1 ≤ 7 ∧ q.nat 2 ≤ 1)
    ∧ (∃ (s : State) (ch : Nat) (q : Req), Asked s ch 0xC004 laneSpec q ∧ q.nat 1 ≤ 7 ∧ s.board.isSome = true ∧ (begun s ch).laneUsed (q.nat 1) = true ∧ (s.serLane (q.nat 1)).st ≠ .up)
    ∧ (∃ (s : State) (ch : Nat) (q : Req), Asked s ch 0xC005 laneSpec q ∧ q.nat 1 ≤ 3)
    ∧ (∃ (s : State) (b : Board) (ch : Nat) (q : Req), s.board = some b ∧ Asked s ch 0xC007 { rows := mdioRows } q ∧ q.nat 2 = 22 ∧ q.nat 4 ≤ 31 ∧ (b.ports.any (fun p => p.phy == q.nat 1) = true))
    ∧ (∃ (s : State) (b : Board) (ch : Nat) (q : Req), s.board = some b ∧ Asked s ch 0xC008 { rows := mdioRows ++ [{ ty := 5, len := .exact 2 }] } q ∧ q.nat 2 = 22 ∧ q.nat 4 ≤ 31 ∧ (b.ports.any (fun p => p.phy == q.nat 1) = true))
    ∧ (∃ (s : State) (p : Nat), p < 4 ∧ s.portRole p ≠ 0 ∧ s.serdesOn = true ∧ (s.serLane p).st = .up ∧ (s.ethPort p).up = false) :=
  ⟨⟨{ wired with serial := { lanes := [(7, { st := .acquire })] } }, 7, by decide +kernel⟩,
   ⟨{ wired with serial := { lanes := [(7, { st := .align })] } }, 7, by decide +kernel⟩,
   ⟨{ wired with serial := { lanes := [(7, { st := .sync })] } }, 7, by decide +kernel⟩,
   ⟨{ wired with serial := { lanes := [(3, { st := .up })] } }, 3, by decide +kernel⟩,
   ⟨{ wired with serial := { lanes := [(7, { st := .test, timed := true })] } }, 7, by decide +kernel⟩,
   ⟨{ wired with serial := { lanes := [(7, { st := .test, mode := 3 })] } }, 7, by decide +kernel⟩,
   ⟨calm, by decide +kernel⟩,
   ⟨(asking (calm) 0xC001 [tlvN 1 1 7]), 0, ⟨0, 0xC001, 7, [tlvN 1 1 7]⟩, asked_of (by decide +kernel), by decide +kernel⟩,
   ⟨(asking (wired) 0xC002 [tlvN 1 1 5, tlvN 2 1 4, tlvN 3 1 3, tlvN 4 4 0]), 0, ⟨0, 0xC002, 7, [tlvN 1 1 5, tlvN 2 1 4, tlvN 3 1 3, tlvN 4 4 0]⟩, asked_of (by decide +kernel), by decide +kernel⟩,
   ⟨(asking (calm) 0xC003 [tlvN 1 1 7, tlvN 2 1 1]), 0, ⟨0, 0xC003, 7, [tlvN 1 1 7, tlvN 2 1 1]⟩, asked_of (by decide +kernel), by decide +kernel⟩,
   ⟨(asking (wired) 0xC004 [tlvN 1 1 5]), 0, ⟨0, 0xC004, 7, [tlvN 1 1 5]⟩, asked_of (by decide +kernel), by decide +kernel⟩,
   ⟨(asking (calm) 0xC005 [tlvN 1 1 3]), 0, ⟨0, 0xC005, 7, [tlvN 1 1 3]⟩, asked_of (by decide +kernel), by decide +kernel⟩,
   ⟨(asking (wired) 0xC007 [tlvN 1 1 5, tlvN 2 1 22, tlvN 4 2 31]), plainBoard, 0, ⟨0, 0xC007, 7, [tlvN 1 1 5, tlvN 2 1 22, tlvN 4 2 31]⟩, by decide +kernel, asked_of (by decide +kernel), by decide +kernel⟩,
   ⟨(asking (wired) 0xC008 [tlvN 1 1 5, tlvN 2 1 22, tlvN 4 2 31, tlvN 5 2 9]), plainBoard, 0, ⟨0, 0xC008, 7, [tlvN 1 1 5, tlvN 2 1 22, tlvN 4 2 31, tlvN 5 2 9]⟩, by decide +kernel, asked_of (by decide +kernel), by decide +kernel⟩,
   ⟨{ wired with serial := { lanes := [(0, { st := .up })] } }, 0, by decide +kernel⟩⟩

theorem witness_CascadePacketsAndTokenAct :
    (∃ (s : State) (i : Nat) (p : Nat), s.awake = true ∧ s.lanePeer i = some p ∧ (s.serLane (i + 4)).st = .up ∧ 0 < (s.serLane (i + 4)).markers ∧ (s.link p).rx.testBit i = false)
    ∧ (∃ (s : State) (u : State) (peer : Nat) (packet : Bytes) (p : Bytes) (h : CascHdr), s.cascTake peer 6 packet = (some (h, p), u) ∧ (let tx := byteAt p 0 &&& (List.range 4).foldl (fun m i => if u.lanePeer i = some peer then m + 2 ^ i else m) 0; tx ≠ (u.link peer).tx))
    ∧ (∃ (s : State) (u : State) (peer : Nat) (packet : Bytes) (b : Bytes) (h : CascHdr) (k : Pkt), s.awake = true ∧ s.cascTake peer 1 packet = (some (h, b), u) ∧ (u.bump .casc 2).admitPkt (Pkt.ofFrame .wire 4 (b.take (b.length - 4))) = .ok k)
    ∧ (∃ (s : State) (u : State) (peer : Nat) (packet : Bytes) (p : Bytes) (h : CascHdr), s.cascTake peer 5 packet = (some (h, p), u))
    ∧ (∃ (s : State) (peer : Nat) (queue : Nat) (t : Int), s.awake = true ∧ tfind (s.link peer).stopped queue = some t ∧ t ≤ s.now)
    ∧ (∃ (s : State) (h : Nat), s.source = 5 ∧ s.awake = true ∧ s.dueUs s.casc.asked (1000 * s.pnat 0xC034) = true ∧ s.casc.holderId = some h ∧ s.linkUp h = true ∧ (s.sourceLost = false ∨ s.time.state ≠ .locked))
    ∧ (∃ (s : State) (u : State) (peer : Nat) (packet : Bytes) (p : Bytes) (h : CascHdr), s.cascTake peer 3 packet = (some (h, p), u) ∧ u.casc.holder = true ∧ u.casc.dispute = none ∧ u.linkUp peer = true)
    ∧ (∃ (s : State) (u : State) (peer : Nat) (ago : Nat) (packet : Bytes) (p : Bytes) (h : CascHdr), s.cascTake peer 4 packet = (some (h, p), u) ∧ u.holderIs peer = true ∧ u.linkUp peer = true ∧ (let t1 := signed 64 (leNat (p.take 8)); let t2 := signed 64 (leNat ((p.drop 8).take 8)); let t3 := signed 64 (leNat ((p.drop 16).take 8)); let t4 := u.now - ago; t4 - t1 - (t3 - t2) ≤ (u.pnat 0xC035 : Int)))
    ∧ (∃ (s : State), s.cascDecl.isSome = true ∧ s.awake = true ∧ s.dueUs s.casc.announced (s.pnat 0xC031) = true)
    ∧ (∃ (s : State), s.awake = true ∧ s.casc.holder = true ∧ s.dueUs s.casc.sampled (s.pnat 0xC031) = true)
    ∧ (∃ (s : State) (u : State) (peer : Nat) (packet : Bytes) (p : Bytes) (h : CascHdr), s.cascTake peer 2 packet = (some (h, p), u) ∧ h.flags.testBit 0 = true ∧ u.casc.holder = true)
    ∧ (∃ (s : State) (u : State) (peer : Nat) (packet : Bytes) (p : Bytes) (h : CascHdr), s.cascTake peer 2 packet = (some (h, p), u) ∧ h.flags.testBit 0 = true ∧ u.casc.holder = false ∧ u.casc.holderId = some peer)
    ∧ (∃ (s : State) (u : State) (peer : Nat) (packet : Bytes) (p : Bytes) (h : CascHdr), s.cascTake peer 2 packet = (some (h, p), u) ∧ h.flags.testBit 0 = true ∧ u.casc.holder = false ∧ u.casc.holderId = none)
    ∧ (∃ (s : State) (d : Dispute), s.awake = true ∧ s.casc.dispute = some d ∧ d.heard + (s.pnat 0xC033 * s.pnat 0xC031 * 1000 : Nat) ≤ s.now)
    ∧ (∃ (s : State), s.cascDecl.isSome = true ∧ s.awake = true ∧ s.pbool 0xC030 = true ∧ s.casc.holder = false ∧ s.casc.taking = none ∧ s.holderSilent = true)
    ∧ (∃ (s : State) (e : Nat), s.awake = true ∧ s.casc.taking = some (e, true))
    ∧ (∃ (s : State) (ch : Nat) (q : Req), Asked s ch 0xC00B noTlvs q ∧ s.casc.holder = true)
    ∧ (∃ (s : State) (ch : Nat) (q : Req), Asked s ch 0xC00B noTlvs q ∧ s.casc.holder = false)
    ∧ (∃ (s : State) (ch : Nat) (q : Req), Asked s ch 0xC009 noTlvs q) :=
  ⟨⟨{ wired with serial := { lanes := [(5, { st := .up, markers := 1 })] } }, 1, 1, by decide +kernel⟩,
   ⟨linked {}, taken {} 6 0 ([2#8, 0#8, 0#8, 0#8]), 1, packetOf 6 0 ([2#8, 0#8, 0#8, 0#8]), [2#8, 0#8, 0#8, 0#8], ⟨6, 1, 0, 0, 0, 4, 0, 3⟩, pair_of (by decide +kernel), by decide +kernel⟩,
   ⟨{ linked {} with rt := { ports := [(4, { pvid := 1, flags := 15 })], vlans := [(1, { members := 16, flags := 1 })] } }, (({ linked {} with rt := { ports := [(4, { pvid := 1, flags := 15 })], vlans := [(1, { members := 16, flags := 1 })] } }).cascTake 1 1 (packetOf 1 0 (withFcs (List.replicate 60 0#8)))).2, 1, packetOf 1 0 (withFcs (List.replicate 60 0#8)), withFcs (List.replicate 60 0#8), ⟨1, 1, 0, 0, 0, 64, 0, 3⟩, { Pkt.ofFrame .wire 4 (List.replicate 60 0#8) with vid := 1 }, by decide +kernel, pair_of (by decide +kernel), ok_of (by decide +kernel)⟩,
   ⟨linked {}, taken {} 5 0 ([16#8, 0#8, 0#8, 0#8]), 1, packetOf 5 0 ([16#8, 0#8, 0#8, 0#8]), [16#8, 0#8, 0#8, 0#8], ⟨5, 1, 0, 0, 0, 4, 0, 3⟩, pair_of (by decide +kernel)⟩,
   ⟨{ wired with serial := { casc := { links := [(1, { tx := 1, rx := 1, stopped := [(7, 0)] })] } } }, 1, 7, 0, by decide +kernel⟩,
   ⟨{ linked { applied := some 0, holderId := some 1 } with params := [(0xB001, .num 5)] }, 1, by decide +kernel⟩,
   ⟨linked { holder := true }, taken { holder := true } 3 0 (List.replicate 8 0#8), 1, packetOf 3 0 (List.replicate 8 0#8), List.replicate 8 0#8, ⟨3, 1, 0, 0, 0, 8, 0, 3⟩, pair_of (by decide +kernel), by decide +kernel⟩,
   ⟨{ linked { holderId := some 1 } with params := [(0xB001, .num 5)] }, (({ linked { holderId := some 1 } with params := [(0xB001, .num 5)] }).cascTake 1 4 (packetOf 4 0 (List.replicate 24 0#8))).2, 1, 0, packetOf 4 0 (List.replicate 24 0#8), List.replicate 24 0#8, ⟨4, 1, 0, 0, 0, 24, 0, 3⟩, pair_of (by decide +kernel), by decide +kernel⟩,
   ⟨wired, by decide +kernel⟩,
   ⟨linked { holder := true }, by decide +kernel⟩,
   ⟨linked { holder := true }, taken { holder := true } 2 1 (List.replicate 4 0#8), 1, packetOf 2 1 (List.replicate 4 0#8), List.replicate 4 0#8, ⟨2, 1, 0, 0, 1, 4, 0, 3⟩, pair_of (by decide +kernel), by decide +kernel⟩,
   ⟨linked { holderId := some 1 }, taken { holderId := some 1 } 2 1 (List.replicate 4 0#8), 1, packetOf 2 1 (List.replicate 4 0#8), List.replicate 4 0#8, ⟨2, 1, 0, 0, 1, 4, 0, 3⟩, pair_of (by decide +kernel), by decide +kernel⟩,
   ⟨linked {}, taken {} 2 1 (List.replicate 4 0#8), 1, packetOf 2 1 (List.replicate 4 0#8), List.replicate 4 0#8, ⟨2, 1, 0, 0, 1, 4, 0, 3⟩, pair_of (by decide +kernel), by decide +kernel⟩,
   ⟨linked { dispute := some ⟨0, -1000000000000, []⟩ }, ⟨0, -1000000000000, []⟩, by decide +kernel⟩,
   ⟨{ wired with params := [(0xC030, .num 1)] }, by decide +kernel⟩,
   ⟨linked { taking := some (4, true) }, 4, by decide +kernel⟩,
   ⟨(asking (linked { holder := true }) 0xC00B []), 0, ⟨0, 0xC00B, 7, []⟩, asked_of (by decide +kernel), by decide +kernel⟩,
   ⟨(asking (calm) 0xC00B []), 0, ⟨0, 0xC00B, 7, []⟩, asked_of (by decide +kernel), by decide +kernel⟩,
   ⟨(asking (calm) 0xC009 []), 0, ⟨0, 0xC009, 7, []⟩, asked_of (by decide +kernel)⟩⟩

theorem witness_DramIsKeptTrainedAndReported :
    (∃ (s : State) (chan : Nat), s.ddrServes chan = true ∧ (s.ddrChan chan).selfRefresh = false ∧ ((s.ddrChan chan).refreshWait : Int) ≤ 4 * sdiff 48 s.time.raw (s.ddrChan chan).refAt ∧ s.ddrPanic = true ∧ (s.ddrChan chan).postponed < 8)
    ∧ (∃ (s : State) (chan : Nat), s.ddrServes chan = true ∧ (s.ddrChan chan).selfRefresh = false ∧ ((s.ddrChan chan).refreshWait : Int) ≤ 4 * sdiff 48 s.time.raw (s.ddrChan chan).refAt ∧ (s.ddrPanic = false ∨ 8 ≤ (s.ddrChan chan).postponed))
    ∧ (∃ (s : State) (chan : Nat) (a : Nat) (b : Nat), s.ddrServes chan = true ∧ s.dueUs (s.ddrChan chan).mr4At 16000 = true ∧ a < 8 ∧ b < 8 ∧ (let hot := max a b; hot ≠ 7))
    ∧ (∃ (s : State) (chan : Nat) (a : Nat) (b : Nat), s.ddrServes chan = true ∧ s.dueUs (s.ddrChan chan).mr4At 16000 = true ∧ a < 8 ∧ b < 8 ∧ (let hot := max a b; hot = 7) ∧ (s.ddrChan chan).overtempAt = none)
    ∧ (∃ (s : State) (chan : Nat) (a : Nat) (b : Nat) (t : Nat), s.ddrServes chan = true ∧ s.dueUs (s.ddrChan chan).mr4At 16000 = true ∧ a < 8 ∧ b < 8 ∧ (let hot := max a b; hot = 7) ∧ (s.ddrChan chan).overtempAt = some t ∧ s.time.aon < t + 60 * 32768)
    ∧ (∃ (s : State) (chan : Nat) (bank : Nat) (row : Nat), s.ddrServes chan = true ∧ (let t := rhActivate (tget [] (s.ddrChan chan).rh bank) row; (∀ e ∈ t, e.row = row → e.count < s.pnat 0xD013)))
    ∧ (∃ (s : State) (chan : Nat) (bank : Nat) (row : Nat), s.ddrServes chan = true ∧ (let t := rhActivate (tget [] (s.ddrChan chan).rh bank) row; (∃ e ∈ t, e.row = row ∧ s.pnat 0xD013 ≤ e.count)))
    ∧ (∃ (s : State) (chan : Nat), s.ddrServes chan = true ∧ s.ranUs (some (s.ddrChan chan).rhAt) 32000 = true)
    ∧ (∃ (s : State) (level : Nat), s.awake = true ∧ s.ddrReady = true ∧ s.ddr.panicFirn = false ∧ s.panicThreshold .firn ≤ level)
    ∧ (∃ (s : State) (level : Nat), s.awake = true ∧ s.ddrReady = true ∧ s.ddr.panicTxf = false ∧ s.panicThreshold .txf ≤ level)
    ∧ (∃ (s : State) (level : Nat), s.awake = true ∧ s.ddr.panicFirn = true ∧ s.ddr.panicTxf = false ∧ 2 * level < s.panicThreshold .firn)
    ∧ (∃ (s : State) (chan : Nat), s.ddrServes chan = true ∧ s.pnat 0xD014 ≠ 0 ∧ s.ddrPanic = false ∧ (s.ddrChan chan).selfRefresh = false ∧ s.ranUs (some (s.ddrChan chan).busyAt) (s.pnat 0xD014) = true)
    ∧ (∃ (s : State) (chan : Nat), s.ddrServes chan = true ∧ (s.ddrChan chan).selfRefresh = true)
    ∧ (∃ (s : State) (chan : Nat), s.ddrServes chan = true ∧ s.srDue chan = true)
    ∧ (∃ (s : State) (chan : Nat) (rank : Nat) (drift : Int), s.ddrServes chan = true ∧ s.dueUs (tfind (s.ddrChan chan).dqsAt rank) (1000 * s.pnat 0xD015) = true ∧ drift.natAbs ≤ 16 ∧ (drift - tget 0 (s.ddrChan chan).driftMoved rank).natAbs ≤ 2)
    ∧ (∃ (s : State) (chan : Nat) (rank : Nat) (drift : Int), s.ddrServes chan = true ∧ s.dueUs (tfind (s.ddrChan chan).dqsAt rank) (1000 * s.pnat 0xD015) = true ∧ drift.natAbs ≤ 16 ∧ 2 < (drift - tget 0 (s.ddrChan chan).driftMoved rank).natAbs)
    ∧ (∃ (s : State), s.awake = true ∧ s.ddrReady = true ∧ s.dramEcc = true ∧ s.pnat 0xD016 ≠ 0 ∧ s.ranMs s.ddr.scrubAt (3600000 * s.pnat 0xD016) = true)
    ∧ (∃ (s : State) (bank : Nat) (n : Nat), s.awake = true ∧ bank < 32 ∧ s.ranMs (tget 0 s.ddr.bankAt bank) 3600000 = true ∧ 0 < n)
    ∧ (∃ (s : State) (b : Board) (chan : Nat), s.awake = true ∧ s.board = some b ∧ s.ddr.phase = .training ∧ chan < s.ddrChans ∧ s.ddr.trainStep < 4)
    ∧ (∃ (s : State) (b : Board) (chan : Nat), s.awake = true ∧ s.board = some b ∧ s.ddr.phase = .training ∧ chan < s.ddrChans ∧ 4 ≤ s.ddr.trainStep ∧ s.ddr.trainRank + 1 < b.ddr.ranks)
    ∧ (∃ (s : State) (b : Board) (chan : Nat), s.awake = true ∧ s.board = some b ∧ s.ddr.phase = .training ∧ chan < s.ddrChans ∧ 4 ≤ s.ddr.trainStep ∧ b.ddr.ranks ≤ s.ddr.trainRank + 1 ∧ s.sys.boot = 3)
    ∧ (∃ (s : State) (b : Board) (chan : Nat) (r : Nat), s.awake = true ∧ s.board = some b ∧ s.ddr.phase = .training ∧ chan < s.ddrChans ∧ lowerRate s.ddr.trainRate = some r)
    ∧ (∃ (s : State) (b : Board) (chan : Nat), s.awake = true ∧ s.board = some b ∧ s.ddr.phase = .training ∧ chan < s.ddrChans ∧ lowerRate s.ddr.trainRate = none)
    ∧ (∃ (s : State) (e : EccError), s.awake = true ∧ e.mem = .sram ∧ e.double = false)
    ∧ (∃ (s : State) (e : EccError), s.awake = true ∧ e.mem = .sram ∧ e.double = true)
    ∧ (∃ (s : State) (ch : Nat) (q : Req), Asked s ch 0xD002 { rows := [{ ty := 1, len := .exact 1 }] } q ∧ q.nat 1 < partChannels) :=
  ⟨⟨{ wired with ddr := { phase := .ready, panicFirn := true, chans := [(0, { postponed := 7 })] }, time := { raw := 2 ^ 40, aon := 2 ^ 40 } }, 0, ddrServes_zero (by decide) rfl (by decide) (by decide), by decide +kernel⟩,
   ⟨{ wired with ddr := { phase := .ready, chans := [] }, time := { raw := 2 ^ 40, aon := 2 ^ 40 } }, 0, ddrServes_zero (by decide) rfl (by decide) (by decide), by decide +kernel⟩,
   ⟨{ wired with ddr := { phase := .ready, chans := [] } }, 0, 6, 3, ddrServes_zero (by decide) rfl (by decide) (by decide), by decide +kernel⟩,
   ⟨{ wired with ddr := { phase := .ready, chans := [] } }, 0, 7, 6, ddrServes_zero (by decide) rfl (by decide) (by decide), by decide +kernel⟩,
   ⟨{ wired with ddr := { phase := .ready, chans := [(0, { overtempAt := some 5 })] } }, 0, 7, 7, 5, ddrServes_zero (by decide) rfl (by decide) (by decide), by decide +kernel⟩,
   ⟨{ wired with ddr := { phase := .ready, chans := [] } }, 0, 15, 65535, ddrServes_zero (by decide) rfl (by decide) (by decide), by decide +kernel⟩,
   ⟨{ wired with ddr := { phase := .ready, chans := [(0, { rh := [(15, [⟨65535, 1000000⟩])] })] } }, 0, 15, 65535, ddrServes_zero (by decide) rfl (by decide) (by decide), by decide +kernel⟩,
   ⟨{ wired with ddr := { phase := .ready, chans := [] }, time := { raw := 2 ^ 40, aon := 2 ^ 40 } }, 0, ddrServes_zero (by decide) rfl (by decide) (by decide), by decide +kernel⟩,
   ⟨calm, 1000000, by decide +kernel⟩,
   ⟨calm, 1000000, by decide +kernel⟩,
   ⟨{ calm with ddr := { phase := .ready, panicFirn := true } }, 0, by decide +kernel⟩,
   ⟨{ wired with ddr := { phase := .ready, chans := [] }, time := { raw := 2 ^ 40, aon := 2 ^ 40 }, params := [(0xD014, .num 1)] }, 0, ddrServes_zero (by decide) rfl (by decide) (by decide), by decide +kernel⟩,
   ⟨{ wired with ddr := { phase := .ready, chans := [(0, { selfRefresh := true })] } }, 0, ddrServes_zero (by decide) rfl (by decide) (by decide), by decide +kernel⟩,
   ⟨{ wired with ddr := { phase := .ready, chans := [] }, time := { raw := 2 ^ 40, aon := 2 ^ 40 }, params := [(0xD014, .num 1)] }, 0, ddrServes_zero (by decide) rfl (by decide) (by decide), by decide +kernel⟩,
   ⟨{ wired with ddr := { phase := .ready, chans := [] } }, 0, 1, -2, ddrServes_zero (by decide) rfl (by decide) (by decide), by decide +kernel⟩,
   ⟨{ wired with ddr := { phase := .ready, chans := [] } }, 0, 1, -16, ddrServes_zero (by decide) rfl (by decide) (by decide), by decide +kernel⟩,
   ⟨{ wired with time := { aon := 2 ^ 45 } }, by decide +kernel⟩,
   ⟨{ calm with time := { aon := 2 ^ 45 } }, 31, 1, by decide +kernel⟩,
   ⟨{ wired with sys := { boot := 3 }, ddr := { phase := .training, trainRate := 4266, trainStep := 3 } }, plainBoard, 0, by decide +kernel, by decide +kernel, by decide +kernel, ddrChans_pos rfl (by decide), by decide +kernel⟩,
   ⟨{ wired with sys := { boot := 3 }, ddr := { phase := .training, trainRate := 4266, trainStep := 4 } }, plainBoard, 0, by decide +kernel, by decide +kernel, by decide +kernel, ddrChans_pos rfl (by decide), by decide +kernel⟩,
   ⟨{ wired with sys := { boot := 3 }, ddr := { phase := .training, trainRate := 4266, trainStep := 4, trainRank := 1 } }, plainBoard, 0, by decide +kernel, by decide +kernel, by decide +kernel, ddrChans_pos rfl (by decide), by decide +kernel⟩,
   ⟨{ wired with sys := { boot := 3 }, ddr := { phase := .training, trainRate := 4266, trainStep := 4 } }, plainBoard, 0, 3733, by decide +kernel, by decide +kernel, by decide +kernel, ddrChans_pos rfl (by decide), by decide +kernel⟩,
   ⟨{ wired with ddr := { phase := .training, trainRate := 1 } }, plainBoard, 0, by decide +kernel, by decide +kernel, by decide +kernel, ddrChans_pos rfl (by decide), by decide +kernel⟩,
   ⟨calm, ⟨.sram, false, 0, 0, 31, .sharedData⟩, by decide +kernel⟩,
   ⟨calm, ⟨.sram, true, 0, 0, 31, .sharedData⟩, by decide +kernel⟩,
   ⟨(asking (calm) 0xD002 [tlvN 1 1 0]), 0, ⟨0, 0xD002, 7, [tlvN 1 1 0]⟩, asked_of (by decide +kernel), by unfold partChannels; split <;> decide +kernel⟩⟩

theorem witness_PowerStatesAreEnteredAndLeft :
    (∃ (s : State), s.live = true ∧ s.sys.pstate = .active ∧ ((∀ i < 8, (s.core i).st = .idle ∨ (s.core i).st = .parked)) ∧ s.ranUs s.pwr.dozeSince (s.pnat 0xE001) = true)
    ∧ (∃ (s : State) (i : Nat), s.live = true ∧ s.sys.pstate = .active ∧ ((∀ i < 8, (s.core i).st = .idle ∨ (s.core i).st = .parked)) ∧ s.ranUs s.pwr.dozeSince (s.pnat 0xE001) = true ∧ (s.core i).st = .idle)
    ∧ (∃ (s : State), s.live = true ∧ s.sys.pstate = .doze ∧ s.napBlockers = 0 ∧ s.ranUs s.pwr.napSince (s.pnat 0xE003) = true)
    ∧ (∃ (s : State) (w : WakeSource), s.sys.hold.held = false ∧ s.sys.pstate = .nap ∧ s.latched w = true ∧ s.wakes w true = true ∧ w ≠ .scheduled)
    ∧ (∃ (s : State) (u : State), s.live = true ∧ s.sys.pstate = .doze ∧ s.hibRun = true ∧ State.prepRecords (s.imageRecords s.imageStale ++ [0x0400, 0x0300]) s = (true, u))
    ∧ (∃ (s : State) (u : State), s.live = true ∧ s.sys.pstate = .doze ∧ s.hibRun = true ∧ State.prepRecords (s.imageRecords s.imageStale ++ [0x0400, 0x0300]) s = (false, u))
    ∧ (∃ (s : State) (w : WakeSource), s.sys.hold.held = false ∧ s.sys.pstate = .hibernate ∧ s.latched w = true ∧ s.wakes w false = true)
    ∧ (∃ (s : State) (t : Nat), s.sys.hold.held = false ∧ s.sys.pstate ≠ .off ∧ s.pwr.aonDue = some t ∧ sdiff 48 t s.time.aon ≤ 0)
    ∧ (∃ (s : State) (ch : Nat) (q : Req), Asked s ch 0xE001 clearSpec q ∧ q.nat 1 ≤ 1) :=
  ⟨⟨{ calm with time := { raw := 2 ^ 40 }, pwr := { dozeSince := some 0 } }, by decide +kernel⟩,
   ⟨{ calm with time := { raw := 2 ^ 40 }, pwr := { dozeSince := some 0 } }, 7, by decide +kernel⟩,
   ⟨{ calm with sys := { boot := 4, pstate := .doze }, params := [(0xE002, .num 1), (0xE004, .num 1), (0xE006, .num 1)], time := { raw := 2 ^ 40, aon := 2 ^ 40 }, pwr := { napSince := some 0 } }, by decide +kernel⟩,
   ⟨{ calm with sys := { boot := 4, pstate := .nap }, pwr := { latch := 1 }, params := [(0xE007, .num 31)] }, .aonTimer, by decide +kernel⟩,
   ⟨{ calm with sys := { boot := 4, pstate := .doze }, params := [(0xE002, .num 1), (0xE004, .num 1), (0xE006, .num 1)], time := { raw := 2 ^ 40, aon := 2 ^ 40 }, pwr := { napSince := some 0, hibSince := some 0 }, board := some plainBoard, pins := { holdup := 1023 } }, (State.prepRecords (({ calm with sys := { boot := 4, pstate := .doze }, params := [(0xE002, .num 1), (0xE004, .num 1), (0xE006, .num 1)], time := { raw := 2 ^ 40, aon := 2 ^ 40 }, pwr := { napSince := some 0, hibSince := some 0 }, board := some plainBoard, pins := { holdup := 1023 } } : State).imageRecords ({ calm with sys := { boot := 4, pstate := .doze }, params := [(0xE002, .num 1), (0xE004, .num 1), (0xE006, .num 1)], time := { raw := 2 ^ 40, aon := 2 ^ 40 }, pwr := { napSince := some 0, hibSince := some 0 }, board := some plainBoard, pins := { holdup := 1023 } } : State).imageStale ++ [0x0400, 0x0300]) ({ calm with sys := { boot := 4, pstate := .doze }, params := [(0xE002, .num 1), (0xE004, .num 1), (0xE006, .num 1)], time := { raw := 2 ^ 40, aon := 2 ^ 40 }, pwr := { napSince := some 0, hibSince := some 0 }, board := some plainBoard, pins := { holdup := 1023 } })).2, by decide +kernel, by decide +kernel, by decide +kernel, pair_of (by decide +kernel)⟩,
   ⟨{ calm with sys := { boot := 4, pstate := .doze }, params := [(0xE002, .num 1), (0xE004, .num 1), (0xE006, .num 1)], time := { raw := 2 ^ 40, aon := 2 ^ 40 }, pwr := { napSince := some 0, hibSince := some 0 }, board := some { plainBoard with holdup := ⟨1, 5000, 10000, 900, 6000⟩ } }, (State.prepRecords (({ calm with sys := { boot := 4, pstate := .doze }, params := [(0xE002, .num 1), (0xE004, .num 1), (0xE006, .num 1)], time := { raw := 2 ^ 40, aon := 2 ^ 40 }, pwr := { napSince := some 0, hibSince := some 0 }, board := some { plainBoard with holdup := ⟨1, 5000, 10000, 900, 6000⟩ } } : State).imageRecords ({ calm with sys := { boot := 4, pstate := .doze }, params := [(0xE002, .num 1), (0xE004, .num 1), (0xE006, .num 1)], time := { raw := 2 ^ 40, aon := 2 ^ 40 }, pwr := { napSince := some 0, hibSince := some 0 }, board := some { plainBoard with holdup := ⟨1, 5000, 10000, 900, 6000⟩ } } : State).imageStale ++ [0x0400, 0x0300]) ({ calm with sys := { boot := 4, pstate := .doze }, params := [(0xE002, .num 1), (0xE004, .num 1), (0xE006, .num 1)], time := { raw := 2 ^ 40, aon := 2 ^ 40 }, pwr := { napSince := some 0, hibSince := some 0 }, board := some { plainBoard with holdup := ⟨1, 5000, 10000, 900, 6000⟩ } })).2, by decide +kernel, by decide +kernel, by decide +kernel, pair_of (by decide +kernel)⟩,
   ⟨{ calm with sys := { boot := 4, pstate := .hibernate }, pwr := { latch := 4 }, params := [(0xE007, .num 31)] }, .thaw, by decide +kernel⟩,
   ⟨{ calm with pwr := { aonDue := some 5 }, time := { aon := 5 } }, 5, by decide +kernel⟩,
   ⟨(asking (calm) 0xE001 [tlvN 1 1 1]), 0, ⟨0, 0xE001, 7, [tlvN 1 1 1]⟩, asked_of (by decide +kernel), by decide +kernel⟩⟩

theorem witness_ResetsAndBootFollowTheirCause :
    (∃ (s : State), s.sys.pstate = .off)
    ∧ (∃ (s : State), s.sys.pstate ≠ .off)
    ∧ (∃ (s : State), s.sys.pstate ≠ .off ∧ s.sys.resetPending = true ∧ 0 ≤ sdiff 48 s.time.aon s.sys.resetAt)
    ∧ (∃ (s : State) (n : Nat), s.sys.pstate ≠ .off ∧ 1000 ≤ n)
    ∧ (∃ (n : Nat), n < 100)
    ∧ (∃ (s : State), s.live = true ∧ 1000000 * s.pnat 0xF001 ≤ 4 * s.cc.quiet)
    ∧ (∃ (s : State), s.nv.busy = none)
    ∧ (∃ (s : State), s.sys.pstate ≠ .off ∧ s.sys.hold.held = true)
    ∧ (∃ (s : State) (a : Bool) (b : Bool) (k : Nat) (l : List Nat), s.sys.hold.held = false ∧ s.sys.pstate ≠ .off ∧ s.sys.boot ≤ 1 ∧ s.bootOrder = k :: l ∧ (if k = 0 then a else b) = true ∧ (s.slot k).state ≠ .empty)
    ∧ (∃ (s : State), s.sys.hold.held = false ∧ s.sys.pstate ≠ .off ∧ s.sys.boot ≤ 1)
    ∧ (∃ (s : State) (image : EotreImage), s.sys.hold.held = false ∧ s.sys.pstate ≠ .off ∧ s.sys.boot = 2 ∧ s.sys.rollback = false ∧ s.flt.waiting = [] ∧ (let u : State := { s with cc := { s.cc with templates := image.templates, irqs := image.sources, groups := image.coalescers } }; let v := (u.setBoot 3).raise 0x0002 [u8 3]; v.lockBytes = none))
    ∧ (∃ (s : State) (ch : Nat) (q : Req), Asked s ch 0xF001 noTlvs q) :=
  ⟨⟨{ calm with sys := { pstate := .off } }, by decide +kernel⟩,
   ⟨calm, by decide +kernel⟩,
   ⟨{ calm with sys := { boot := 4, resetPending := true } }, by decide +kernel⟩,
   ⟨calm, 1000, by decide +kernel⟩,
   ⟨99, by decide +kernel⟩,
   ⟨{ calm with cc := { quiet := 2 ^ 40 } }, by decide +kernel⟩,
   ⟨calm, by decide +kernel⟩,
   ⟨{ calm with sys := { boot := 0, hold := { held := true } } }, by decide +kernel⟩,
   ⟨{ calm with sys := { boot := 0 } }, true, false, 0, [1], by decide +kernel⟩,
   ⟨{ calm with sys := { boot := 0 } }, by decide +kernel⟩,
   ⟨{ calm with sys := { boot := 2 } }, ⟨[], [], []⟩, by decide +kernel⟩,
   ⟨(asking (calm) 0xF001 []), 0, ⟨0, 0xF001, 7, []⟩, asked_of (by decide +kernel)⟩⟩

theorem witness_FaultsAndFirmwareAreHandled :
    (∃ (s : State), s.live = true ∧ s.flt.waiting ≠ [])
    ∧ (∃ (s : State) (ch : Nat) (q : Req), Asked s ch 0xF007 { rows := [{ ty := 1, len := .exact 4 }] } q ∧ (begun s ch).areaOk (q.nat 1) 1024 = true)
    ∧ (∃ (s : State) (ch : Nat) (q : Req), Asked s ch 0xF008 { rows := [{ ty := 1, len := .exact 1 }, { ty := 2, len := .exact 1 }] } q ∧ (begun s ch).pbool 0xF002 = false)
    ∧ (∃ (s : State) (ch : Nat) (q : Req), Asked s ch 0xF008 { rows := [{ ty := 1, len := .exact 1 }, { ty := 2, len := .exact 1 }] } q ∧ (begun s ch).pbool 0xF002 = true ∧ q.nat 1 = 2 ∧ q.nat 2 < 32)
    ∧ (∃ (s : State) (ch : Nat) (q : Req), Asked s ch 0xF002 fwStageSpec q ∧ (begun s ch).ddrReady = true ∧ 4 ≤ q.nat 3 ∧ q.nat 3 ≤ 262144 ∧ q.nat 1 + q.nat 3 ≤ stagingBytes ∧ (begun s ch).areaOk (q.nat 2) (q.nat 3) = true)
    ∧ (∃ (s : State) (ch : Nat) (q : Req), Asked s ch 0xF003 noTlvs q ∧ s.board.isSome = true ∧ (begun s ch).ddrReady = true ∧ s.fw.activating = false ∧ s.fw.writing = none)
    ∧ (∃ (s : State) (ch : Nat) (q : Req), Asked s ch 0xF004 noTlvs q ∧ ((begun s ch).slot (begun s ch).otherSlot).state = .committed ∧ s.fw.activating = false ∧ (begun s ch).pnat 0x8004 ≠ 8 ∧ (begun s ch).ddrReady = true)
    ∧ (∃ (s : State), s.fw.activating = true ∧ s.live = true)
    ∧ (∃ (s : State) (ch : Nat) (q : Req), Asked s ch 0xF005 noTlvs q ∧ (s.slot s.sys.fwSlot).state = .trial)
    ∧ (∃ (s : State) (ch : Nat) (q : Req), Asked s ch 0xF006 noTlvs q)
    ∧ (∃ (s : State), s.awake = true ∧ ((∀ k ∈ s.fw.oldSlots, s.slotUnbound k = true)) ∧ s.fw.oldSlots ≠ [] ∧ s.fw.tplWait = []) :=
  ⟨⟨{ calm with flt := { waiting := [⟨1, 1, 0, 0, 0⟩] } }, by decide +kernel⟩,
   ⟨(asking (calm) 0xF007 [tlvN 1 4 0x30000]), 0, ⟨0, 0xF007, 7, [tlvN 1 4 0x30000]⟩, asked_of (by decide +kernel), by decide +kernel⟩,
   ⟨(asking (calm) 0xF008 [tlvN 1 1 2, tlvN 2 1 31]), 0, ⟨0, 0xF008, 7, [tlvN 1 1 2, tlvN 2 1 31]⟩, asked_of (by decide +kernel), by decide +kernel⟩,
   ⟨(asking ({ calm with params := [(0xF002, .num 1)] }) 0xF008 [tlvN 1 1 2, tlvN 2 1 31]), 0, ⟨0, 0xF008, 7, [tlvN 1 1 2, tlvN 2 1 31]⟩, asked_of (by decide +kernel), by decide +kernel⟩,
   ⟨(asking (calm) 0xF002 [tlvN 1 4 0, tlvN 2 4 0x30000, tlvN 3 4 262144]), 0, ⟨0, 0xF002, 7, [tlvN 1 4 0, tlvN 2 4 0x30000, tlvN 3 4 262144]⟩, asked_of (by decide +kernel), by decide +kernel⟩,
   ⟨(asking (wired) 0xF003 []), 0, ⟨0, 0xF003, 7, []⟩, asked_of (by decide +kernel), by decide +kernel⟩,
   ⟨(asking ({ calm with fw := { slots := [(0, ⟨0, 0, .confirmed⟩), (1, ⟨2, 0, .committed⟩)] } }) 0xF004 []), 0, ⟨0, 0xF004, 7, []⟩, asked_of (by decide +kernel), by decide +kernel⟩,
   ⟨{ calm with fw := { activating := true } }, by decide +kernel⟩,
   ⟨(asking ({ calm with fw := { slots := [(0, ⟨1, 0, .trial⟩)] } }) 0xF005 []), 0, ⟨0, 0xF005, 7, []⟩, asked_of (by decide +kernel), by decide +kernel⟩,
   ⟨(asking (calm) 0xF006 []), 0, ⟨0, 0xF006, 7, []⟩, asked_of (by decide +kernel)⟩,
   ⟨{ calm with fw := { oldSlots := [1023] } }, by decide +kernel⟩⟩

theorem witness_CounterCommandsAnswerAndClear :
    (∃ (s : State) (ch : Nat) (q : Req), q.nat 1 ≤ 1 ∧ Asked s ch 0x6009 clearSpec q ∧ (begun s ch).ddrReady = true)
    ∧ (∃ (s : State) (ch : Nat) (q : Req), q.nat 1 ≤ 1 ∧ Asked s ch 0x700A clearSpec q)
    ∧ (∃ (s : State) (ch : Nat) (q : Req), q.nat 1 ≤ 1 ∧ Asked s ch 0x8002 clearSpec q)
    ∧ (∃ (s : State) (ch : Nat) (q : Req), q.nat 1 ≤ 1 ∧ Asked s ch 0xB003 clearSpec q)
    ∧ (∃ (s : State) (ch : Nat) (q : Req), q.nat 1 ≤ 1 ∧ Asked s ch 0xC00A clearSpec q)
    ∧ (∃ (s : State) (ch : Nat) (q : Req), q.nat 1 ≤ 1 ∧ Asked s ch 0xD003 clearSpec q)
    ∧ (∃ (s : State) (ch : Nat) (q : Req), q.nat 1 ≤ 1 ∧ Asked s ch 0xE002 clearSpec q)
    ∧ (∃ (s : State) (ch : Nat) (q : Req), q.nat 1 ≤ 1 ∧ Asked s ch 0xF009 clearSpec q)
    ∧ (∃ (s : State) (ch : Nat) (q : Req) (n : Net), q.nat 2 ≤ 1 ∧ Asked s ch 0x300B radioClearSpec q ∧ Net.ofNat? (q.nat 1) = some n)
    ∧ (∃ (s : State) (ch : Nat) (q : Req), q.nat 2 ≤ 1 ∧ Asked s ch 0x4007 radioClearSpec q ∧ q.nat 1 ≤ 31 ∧ (s.span (q.nat 1)).isOpen = true)
    ∧ (∃ (s : State) (ch : Nat) (q : Req), q.nat 2 ≤ 1 ∧ Asked s ch 0x5006 radioClearSpec q ∧ q.nat 1 < 16)
    ∧ (∃ (s : State) (ch : Nat) (q : Req) (p : Pipe), q.nat 2 ≤ 1 ∧ Asked s ch 0x9001 radioClearSpec q ∧ Pipe.ofNat? (q.nat 1) = some p)
    ∧ (∃ (s : State) (ch : Nat) (q : Req), q.nat 2 ≤ 1 ∧ Asked s ch 0xA005 radioClearSpec q ∧ q.nat 1 < 5)
    ∧ (∃ (s : State) (ch : Nat) (q : Req), q.nat 2 ≤ 1 ∧ Asked s ch 0xC006 radioClearSpec q ∧ q.nat 1 ≤ 3)
    ∧ (∃ (b : CtrBank) (b' : CtrBank), b' ≠ b) :=
  ⟨⟨(asking (calm) 0x6009 [tlvN 1 1 1]), 0, ⟨0, 0x6009, 7, [tlvN 1 1 1]⟩, by decide +kernel, asked_of (by decide +kernel), by decide +kernel⟩,
   ⟨(asking (calm) 0x700A [tlvN 1 1 1]), 0, ⟨0, 0x700A, 7, [tlvN 1 1 1]⟩, by decide +kernel, asked_of (by decide +kernel)⟩,
   ⟨(asking (calm) 0x8002 [tlvN 1 1 1]), 0, ⟨0, 0x8002, 7, [tlvN 1 1 1]⟩, by decide +kernel, asked_of (by decide +kernel)⟩,
   ⟨(asking (calm) 0xB003 [tlvN 1 1 1]), 0, ⟨0, 0xB003, 7, [tlvN 1 1 1]⟩, by decide +kernel, asked_of (by decide +kernel)⟩,
   ⟨(asking (calm) 0xC00A [tlvN 1 1 1]), 0, ⟨0, 0xC00A, 7, [tlvN 1 1 1]⟩, by decide +kernel, asked_of (by decide +kernel)⟩,
   ⟨(asking (calm) 0xD003 [tlvN 1 1 1]), 0, ⟨0, 0xD003, 7, [tlvN 1 1 1]⟩, by decide +kernel, asked_of (by decide +kernel)⟩,
   ⟨(asking (calm) 0xE002 [tlvN 1 1 1]), 0, ⟨0, 0xE002, 7, [tlvN 1 1 1]⟩, by decide +kernel, asked_of (by decide +kernel)⟩,
   ⟨(asking (calm) 0xF009 [tlvN 1 1 1]), 0, ⟨0, 0xF009, 7, [tlvN 1 1 1]⟩, by decide +kernel, asked_of (by decide +kernel)⟩,
   ⟨(asking (calm) 0x300B [tlvN 1 1 1, tlvN 2 1 1]), 0, ⟨0, 0x300B, 7, [tlvN 1 1 1, tlvN 2 1 1]⟩, .mb, by decide +kernel, asked_of (by decide +kernel), by decide +kernel⟩,
   ⟨(asking (spanAs upSpan) 0x4007 [tlvN 1 1 31, tlvN 2 1 1]), 0, ⟨0, 0x4007, 7, [tlvN 1 1 31, tlvN 2 1 1]⟩, by decide +kernel, asked_of (by decide +kernel), by decide +kernel⟩,
   ⟨(asking (calm) 0x5006 [tlvN 1 1 15, tlvN 2 1 1]), 0, ⟨0, 0x5006, 7, [tlvN 1 1 15, tlvN 2 1 1]⟩, by decide +kernel, asked_of (by decide +kernel), by decide +kernel⟩,
   ⟨(asking (calm) 0x9001 [tlvN 1 1 1, tlvN 2 1 1]), 0, ⟨0, 0x9001, 7, [tlvN 1 1 1, tlvN 2 1 1]⟩, .air, by decide +kernel, asked_of (by decide +kernel), by decide +kernel⟩,
   ⟨(asking (calm) 0xA005 [tlvN 1 1 4, tlvN 2 1 1]), 0, ⟨0, 0xA005, 7, [tlvN 1 1 4, tlvN 2 1 1]⟩, by decide +kernel, asked_of (by decide +kernel), by decide +kernel⟩,
   ⟨(asking (calm) 0xC006 [tlvN 1 1 3, tlvN 2 1 1]), 0, ⟨0, 0xC006, 7, [tlvN 1 1 3, tlvN 2 1 1]⟩, by decide +kernel, asked_of (by decide +kernel), by decide +kernel⟩,
   ⟨.flt, .pwr, by decide +kernel⟩⟩

theorem witness_CoincidingCellsFollowTheGcd :
    ∃ (a : Nat) (la : Nat) (b : Nat) (lb : Nat), 0 < la ∧ la ≤ 65535 ∧ 0 < lb ∧ lb ≤ 65535 ∧ a < la ∧ b < lb :=
  ⟨65534, 65535, 65534, 65535, by decide +kernel⟩

end Sys2Proof.Tests
end

section
namespace Sys2Proof.Claims
open Sys2Proof.Machine

/-! ## Every step keeps the form (O60)

One lemma for each operation of the model, in the order of the model's files, under the operation's own name: `Kept.bump` says that `bump`
keeps the form. A proof follows its operation's body: `.bump (.upd hk)` is a `bump` on top of an update of fields that the form does not
speak of, `.ite` a branch, `.foldl` a run of steps, and `split` a match; `.ofSnd h` takes the state out of a pair that was matched. -/

/-- What a command answers keeps the form: the next state, where it answers one. -/
def KeptOut (o : Out) : Prop := ∀ t, o = .next t → Kept t

/-- The state of a write that is accepted keeps the form. -/
def KeptOk {ε : Type} (r : Except ε State) : Prop := ∀ t, r = .ok t → Kept t

/-- The state answered, if any, keeps the form. -/
def KeptSome (r : Option State) : Prop := ∀ t, r = some t → Kept t

/-! ### One rule for each form that the model's operations are written in -/

section
variable {α β ε : Type} {c : Prop} [Decidable c] {s t : State}

theorem Kept.ite (hs : Kept s) (ht : Kept t) : Kept (if c then s else t) := by split <;> assumption

/-- A branch whose sides both go on from a state in the form. -/
theorem Kept.iteOn {u : State} (hu : Kept u) (hs : Kept u → Kept s) (ht : Kept u → Kept t) : Kept (if c then s else t) :=
  .ite (hs hu) (ht hu)

theorem Kept.iteSnd {p q : α × State} (hp : Kept p.2) (hq : Kept q.2) : Kept (if c then p else q).2 := by split <;> assumption

theorem Kept.iteOnSnd {u : State} {p q : α × State} (hu : Kept u) (hp : Kept u → Kept p.2) (hq : Kept u → Kept q.2) :
    Kept (if c then p else q).2 := .iteSnd (hp hu) (hq hu)

theorem Kept.iteThd {p q : α × β × State} (hp : Kept p.2.2) (hq : Kept q.2.2) : Kept (if c then p else q).2.2 := by
  split <;> assumption

theorem Kept.foldl {l : List α} {f : State → α → State} (hs : Kept s) (hf : ∀ s a, Kept s → Kept (f s a)) :
    Kept (l.foldl f s) := by
  induction l generalizing s with
  | nil => exact hs
  | cons a l ih => exact ih (hf s a hs)

theorem Kept.foldlSnd {l : List α} {f : β × State → α → β × State} {p : β × State} (hp : Kept p.2)
    (hf : ∀ p a, Kept p.2 → Kept (f p a).2) : Kept (l.foldl f p).2 := by
  induction l generalizing p with
  | nil => exact hp
  | cons a l ih => exact ih (hf p a hp)

theorem Kept.ofSnd {p : α × State} {a : α} (h : p = (a, t)) (hp : Kept p.2) : Kept t := by subst h; exact hp

theorem KeptOut.next (hs : Kept s) : KeptOut (.next s) := by rintro _ ⟨⟩; exact hs

theorem KeptOk.ok (hs : Kept s) : KeptOk (.ok s : Except ε State) := by rintro _ ⟨⟩; exact hs

theorem KeptOk.error {e : ε} : KeptOk (.error e : Except ε State) := by rintro _ ⟨⟩

theorem KeptOk.ite {r r' : Except ε State} (hr : KeptOk r) (hr' : KeptOk r') : KeptOk (if c then r else r') := by
  split <;> assumption

theorem KeptSome.some (hs : Kept s) : KeptSome (some s) := by rintro _ ⟨⟩; exact hs

theorem KeptSome.none : KeptSome none := by rintro _ ⟨⟩

theorem KeptSome.map {o : Option α} {f : α → State} (hf : ∀ a, Kept (f a)) : KeptSome (o.map f) := by
  cases o with
  | none => exact .none
  | some a => exact .some (hf a)

theorem KeptSome.ite {r r' : Option State} (hr : KeptSome r) (hr' : KeptSome r') : KeptSome (if c then r else r') := by
  split <;> assumption
end

/-- An update of fields other than the two memories, the firmware store and the counters. -/
theorem Kept.upd {s : State} (hk : Kept s) {pending freeCtr sys hif chans evt rings evs params sets setOrder board site nv time}
    {pwr pins ddr cc cipher flt nets spans cells rf bb abl firn spanRx rt serial} :
    Kept ⟨pending, freeCtr, s.mem, s.sram, sys, hif, chans, evt, rings, evs, params, sets, setOrder, board, site, nv, s.ctrs, time,
      pwr, pins, ddr, cc, cipher, s.fw, flt, nets, spans, cells, rf, bb, abl, firn, spanRx, rt, serial⟩ := hk

/-- An update of the firmware store that leaves its staging region as it was, with fields that the form does not speak of. -/
theorem Kept.updFw {s : State} (hk : Kept s) {slots writing activating oldSlots tplWait}
    {pending freeCtr sys hif chans evt rings evs params sets setOrder board site nv time}
    {pwr pins ddr cc cipher flt nets spans cells rf bb abl firn spanRx rt serial} :
    Kept ⟨pending, freeCtr, s.mem, s.sram, sys, hif, chans, evt, rings, evs, params, sets, setOrder, board, site, nv, s.ctrs, time,
      pwr, pins, ddr, cc, cipher, ⟨slots, s.fw.staged, writing, activating, oldSlots, tplWait⟩, flt, nets, spans, cells, rf, bb, abl,
      firn, spanRx, rt, serial⟩ := hk

/-! ### What the form consists of -/

/-- Of a memory in its form any selection of bytes is in it too. -/
theorem filter_wfFrom (p : Host.Cell → Bool) {lo : Nat} {m : List Host.Cell} (hm : wfFrom lo m = true) :
    wfFrom lo (m.filter p) = true := by
  induction m generalizing lo with
  | nil => rfl
  | cons c t ih =>
    obtain ⟨j, v⟩ := c
    simp only [wfFrom, Bool.and_eq_true, decide_eq_true_eq] at hm
    obtain ⟨⟨hlo, hv⟩, ht⟩ := hm
    by_cases hp : p (j, v) = true
    · simp [List.filter_cons_of_pos hp, wfFrom, hlo, hv, ih ht]
    · rw [List.filter_cons_of_neg hp]
      exact wfFrom_weaken (Nat.le_succ_of_le hlo) (ih ht)

theorem filter_wf (p : Host.Cell → Bool) {m : List Host.Cell} (hm : Memory.wf m = true) : Memory.wf (m.filter p) = true :=
  filter_wfFrom p hm

/-- A counter that saturates stays in its range (00 R6). -/
theorem bumpCtr_le {l : List Ctr} {b : CtrBank} {row n : Nat} (hl : ∀ c ∈ l, c.value ≤ 0xFFFFFFFF) :
    ∀ c ∈ bumpCtr l b row n, c.value ≤ 0xFFFFFFFF := by
  have sat : ∀ v, satAdd 0xFFFFFFFF v n ≤ 0xFFFFFFFF := fun v => Nat.min_le_left _ _
  induction l with
  | nil =>
    unfold bumpCtr
    split
    · exact hl
    · exact fun c hc => List.mem_singleton.1 hc ▸ sat 0
  | cons d t ih =>
    obtain ⟨hd, ht⟩ := List.forall_mem_cons.1 hl
    unfold bumpCtr
    split
    · exact List.forall_mem_cons.2 ⟨sat _, ht⟩
    · exact List.forall_mem_cons.2 ⟨hd, ih ht⟩

section
variable {s : State} (hk : Kept s)
include hk

/-! ### Counters, the host line, events and DOZE -/

theorem Kept.bumpBy {b row n} : Kept (s.bumpBy b row n) := by
  obtain ⟨hm, hs, hw, hc⟩ := hk
  exact ⟨hm, hs, hw, bumpCtr_le hc⟩

theorem Kept.bump {b row} : Kept (s.bump b row) := .bumpBy hk

theorem Kept.clearBank {b} : Kept (s.clearBank b) := by
  obtain ⟨hm, hs, hw, hc⟩ := hk
  exact ⟨hm, hs, hw, fun c h => hc c (List.mem_filter.1 h).1⟩

theorem Kept.draw : Kept s.draw.2 := .upd hk

theorem Kept.drawBytes {n} : Kept (s.drawBytes n).2 := .upd hk

theorem Kept.roundOpenInt {a d} : Kept (s.roundOpenInt a d).2 := .iteSnd hk (.upd hk)

theorem Kept.roundOpen {num den} : Kept (s.roundOpen num den).2 := .iteSnd hk (.upd hk)

theorem Kept.fold : Kept s.fold := .upd hk

theorem Kept.notify : Kept s.notify := .ite (.upd hk) hk

theorem Kept.assertLine : Kept s.assertLine := .notify (.bump (.upd hk))

theorem Kept.releaseHost : Kept s.releaseHost := .ite (.assertLine (.upd hk)) (.upd hk)

theorem Kept.hostCause {bit} : Kept (s.hostCause bit) := .ite hk (.ite (.releaseHost (.bump hk)) (.upd hk))

theorem Kept.hostCauseNow {bit} : Kept (s.hostCauseNow bit) := .ite hk (.releaseHost hk)

theorem Kept.hostRecheck : Kept s.hostRecheck := .ite (.upd hk) hk

theorem Kept.setBoot {b} : Kept (s.setBoot b) :=
  .ite (.hostCauseNow (.upd (.upd hk))) (.ite (.hostCauseNow (.hostCauseNow (.upd (.upd hk)))) (.upd hk))

theorem Kept.winWrite {off bs} : Kept (s.winWrite off bs) := by
  obtain ⟨hm, hs, hw, hc⟩ := hk
  exact ⟨writeBytes_wf _ bs hm, hs, hw, hc⟩

theorem Kept.postEvent {code tlvs} : Kept (s.postEvent code tlvs) := .upd (.winWrite hk)

theorem Kept.dropEvent : Kept s.dropEvent := .upd hk

theorem Kept.raiseNow {code tlvs} : Kept (s.raiseNow code tlvs) := .ite (.hostCause (.dropEvent hk)) (.hostCause (.postEvent hk))

theorem Kept.raiseTlvs {code tlvs} : Kept (s.raiseTlvs code tlvs) := .ite (.upd hk) (.raiseNow hk)

theorem Kept.raiseLate : Kept s.raiseLate := .foldl (.upd hk) fun _ _ hk => .raiseNow hk

theorem Kept.raise {code fields} : Kept (s.raise code fields) := .raiseTlvs hk

theorem Kept.reportThaw : Kept s.reportThaw := .ite (.raise (.upd hk)) hk

theorem Kept.ungate : Kept s.ungate := .upd hk

theorem Kept.leaveDoze : Kept s.leaveDoze := .ite (.ungate hk) hk

/-! ### The mailboxes -/

theorem Kept.respond {ch opcode tag status tlvs} : Kept (s.respond ch opcode tag status tlvs) := .hostCause (.upd (.winWrite hk))

theorem Kept.consume {ch} : Kept (s.consume ch) := .upd hk

omit hk in
theorem Kept.deliver {r : Reply × State} (hk : Kept r.2) {ch opcode tag} : Kept (Machine.deliver ch opcode tag r) := by
  unfold Machine.deliver
  split
  · exact .respond hk
  · exact .upd hk

theorem Kept.runRequest {ch opcode p} {body : Body} (hb : ∀ q s, Kept s → Kept (body q s).2) :
    Kept (s.runRequest ch opcode p body) := by
  unfold State.runRequest
  dsimp only
  split
  · exact .respond (.consume (.leaveDoze hk))
  · exact .deliver (hb _ _ (.consume (.leaveDoze hk)))

theorem Kept.refuseUnknown {ch fuel} : Kept (State.refuseUnknown ch fuel s) := by
  induction fuel generalizing s with
  | zero => exact hk
  | succ fuel ih => exact .ite (ih (.respond (.consume (.leaveDoze hk)))) hk

theorem Kept.serve {ch opcode p} {body : Body} (hb : ∀ q s, Kept s → Kept (body q s).2) :
    Kept (s.serve ch opcode p body) := .ite (.refuseUnknown (.runRequest hk hb)) hk

theorem Kept.release {ch status tlvs} : Kept (s.release ch status tlvs) := by
  unfold State.release
  split
  · exact hk
  · exact .refuseUnknown (.respond hk)

theorem Kept.countersReply {b n clear} : Kept (Machine.countersReply s b n clear).2 := .ite (.clearBank hk) hk

/-! ### Records queued for non-volatile memory -/

theorem Kept.pushNv {w} : Kept (s.pushNv w) := .upd hk

theorem Kept.recordFor {id urgent owners} : Kept (s.recordFor id urgent owners) := .pushNv hk

theorem Kept.recordDue {id urgent} : Kept (s.recordDue id urgent) := .recordFor hk

theorem Kept.raiseShort {id size} : Kept (s.raiseShort id size) := by
  refine .raise (.roundOpen ?_)
  split
  · exact .roundOpen hk
  · exact hk

theorem Kept.logFault {kind unit detail} : Kept (s.logFault kind unit detail) := .ite (.bump hk) (.upd hk)

/-! ### Air times and the radios' counters -/

theorem Kept.airtimeBody {q} : Kept (Machine.airtimeBody q s).2 :=
  .iteSnd hk (.iteSnd hk (.iteSnd hk (.iteSnd hk (.iteSnd hk (.iteSnd hk (.iteSnd hk (.iteSnd hk (.roundOpen hk))))))))

theorem Kept.radioCountersBody {bank n q} : Kept (Machine.radioCountersBody bank n q s).2 := by
  unfold Machine.radioCountersBody
  split
  · exact hk
  · exact .iteSnd hk (.countersReply hk)

/-! ### Ablation: verdicts, charges, ageing, profiles and budgets -/

theorem Kept.setSub {i u} : Kept (s.setSub i u) := .upd hk

theorem Kept.refuse {l reason} : Kept (s.refuse l reason) := by
  unfold State.refuse
  dsimp only
  split
  · exact .ite (.setSub (.bump hk)) (.upd (.bump hk))
  · exact .upd (.bump hk)

theorem Kept.raiseRefused {i o} : Kept (s.raiseRefused i o) := by
  unfold State.raiseRefused
  split
  · exact .raise hk
  · exact hk

theorem Kept.reportRefused : Kept s.reportRefused := .foldl (.upd hk) fun _ _ hk => .raiseRefused hk

theorem Kept.ablWatch {l} : Kept (s.ablWatch l) :=
  .ite hk (.iteOn (.iteOn (.ite (.raise (.setSub hk)) (.setSub hk)) (fun hk => .raise hk) id) (fun hk => .raise hk) id)

theorem Kept.watchSubs : Kept s.watchSubs := .foldl hk fun _ _ hk => .ablWatch hk

theorem Kept.takeDwell {l khz} : Kept (s.takeDwell l khz) := .ite hk (.upd hk)

theorem Kept.project {es adm} : Kept (State.project es adm s).2 := by
  induction es generalizing s adm with
  | nil => exact hk
  | cons e es ih =>
    unfold State.project
    split
    · exact ih (.refuse hk)
    · split
      · exact ih (.refuse hk)
      · exact ih (.takeDwell hk)

theorem Kept.chargeSub {g i} : Kept (s.chargeSub g i) := by
  unfold State.chargeSub
  split
  · exact hk
  · exact .iteOn (.bumpBy (.bump (.iteOn (.ite (.setSub hk) hk) (fun hk => .upd hk) id))) (fun hk => .bump hk) id

theorem Kept.chargeGroup {g} : Kept (s.chargeGroup g) := by
  refine .foldl (.foldl hk fun _ _ hk => .chargeSub hk) fun _ _ hk => ?_
  split
  · exact .ablWatch hk
  · exact hk

theorem Kept.ageOne {l} : Kept (s.ageOne l) := .ite hk (.ite hk (.ablWatch (.raiseRefused (.setSub hk))))

theorem Kept.ageSubs : Kept s.ageSubs := .foldl hk fun _ _ hk => .ageOne hk

theorem Kept.ageDwells : Kept s.ageDwells := .upd hk

theorem Kept.endClosures : Kept s.endClosures := .upd hk

theorem Kept.ablCatchUp : Kept s.ablCatchUp := .endClosures (.ageDwells (.ageSubs hk))

theorem Kept.restoreSub {c a b l} : Kept (s.restoreSub c a b l) := .iteOn (.ite (.setSub hk) hk) (fun hk => .upd hk) id

theorem Kept.ablRestore {loss} : Kept (s.ablRestore loss) :=
  .ite hk (.watchSubs (.raise (.foldl (.upd hk) fun _ _ hk => .restoreSub hk)))

theorem Kept.profileWriteBody {q} : Kept (Machine.profileWriteBody q s).2 := by
  refine .iteSnd hk (.iteSnd hk ?_)
  dsimp only
  split
  · exact hk
  · split
    · exact hk
    · exact .pushNv hk

theorem Kept.profileLockBody {q} : Kept (Machine.profileLockBody q s).2 := by
  unfold Machine.profileLockBody
  split
  · exact hk
  · refine .iteSnd hk (.iteSnd hk ?_)
    split
    · exact hk
    · refine .iteSnd hk (.iteSnd hk (.iteSnd hk ?_))
      split
      · exact hk
      · exact .pushNv hk

theorem Kept.profileGetBody {q} : Kept (Machine.profileGetBody q s).2 := by
  unfold Machine.profileGetBody
  dsimp only
  split
  · exact hk
  · exact .iteSnd hk (.winWrite hk)

theorem Kept.budgetBody {q} : Kept (Machine.budgetBody q s).2 := by
  unfold Machine.budgetBody
  split
  · exact hk
  · exact .iteSnd (.roundOpen (.roundOpen hk)) (.draw (.draw (.draw hk)))

theorem Kept.dwellGetBody {q} : Kept (Machine.dwellGetBody q s).2 := by
  unfold Machine.dwellGetBody
  split
  · exact hk
  · exact .iteSnd hk (.roundOpen hk)

theorem Kept.ablCountersBody {q} : Kept (Machine.ablCountersBody q s).2 :=
  .iteSnd hk (.iteSnd (.ite (.clearBank hk) hk) (.iteSnd hk (.countersReply hk)))

/-! ### The descriptor rings -/

theorem Kept.setRing {r x} : Kept (s.setRing r x) := .upd hk

theorem Kept.advanceHead {r} : Kept (s.advanceHead r) :=
  .ite (.hostCause (.upd (.setRing hk))) (.ite (.hostCause (.upd (.setRing hk))) (.setRing hk))

theorem Kept.ringDeliver {r e} : Kept (s.ringDeliver r e) := by
  refine .ite (.bump hk) (.advanceHead (.winWrite (.winWrite ?_)))
  split
  · exact .bump hk
  · exact hk

theorem Kept.txStamp {desc time status} : Kept (s.txStamp desc time status) := by
  unfold State.txStamp
  split
  · exact hk
  · exact .advanceHead (.winWrite hk)

/-! ### The coexistence ports -/

theorem Kept.setRadio {x r} : Kept (s.setRadio x r) := .upd hk

theorem Kept.setCoex {portB p} : Kept (s.setCoex portB p) := .ite (.upd hk) (.upd hk)

theorem Kept.rxRelease {x} : Kept (s.rxRelease x) := .foldl hk fun _ _ hk => .ite (.setCoex hk) hk

/-! ### Keys, the SRAM behind the windows, the DRBG and counters -/

theorem Kept.setKey {slot k} : Kept (s.setKey slot k) := .upd hk

theorem Kept.requestMark {slot m} : Kept (s.requestMark slot m) := by
  unfold State.requestMark
  split
  · exact hk
  · exact .ite hk (.recordDue (.setKey hk))

theorem Kept.takeCounter {again slot use_ k} : Kept (s.takeCounter again slot use_ k).2 :=
  .iteSnd (.raise (.bump hk)) (.iteSnd (.iteOnSnd (.bumpBy (.requestMark hk)) id fun hk => .raise (.setKey hk)) (.iteOn (.ite
    (.raise (.bump (.setKey hk))) (.setKey hk)) (fun hk => .requestMark hk) id))

theorem Kept.useBlocks {n} : Kept (s.useBlocks n) := .upd hk

theorem Kept.countUse {slot} : Kept (s.countUse slot) := by
  unfold State.countUse
  split
  · exact hk
  · exact .setKey hk

theorem Kept.takeAsn {net ahead slot} : Kept (s.takeAsn net ahead slot) := .upd hk

theorem Kept.sealFrame {net ahead slot was aad len} : Kept (s.sealFrame net ahead slot was aad len).2 := by
  unfold State.sealFrame
  dsimp only
  split
  · exact hk
  · refine .iteSnd (.iteSnd (.bumpBy hk) (.useBlocks (.countUse (.bump (.takeAsn hk))))) ?_
    split
    · rename_i h
      exact .useBlocks (.countUse (.bump (.ofSnd h (.takeCounter hk))))
    · rename_i h
      exact .ofSnd h (.takeCounter hk)
    · rename_i h
      exact .ofSnd h (.takeCounter hk)

theorem Kept.sramPut {a b} : Kept (s.sramPut a b) := by
  obtain ⟨hm, hs, hw, hc⟩ := hk
  obtain ⟨-, h⟩ | ⟨-, h⟩ := sramPut_eq s a b <;> rw [h]
  · exact ⟨writeByte_wf _ b hm, hs, hw, hc⟩
  · exact ⟨hm, writeByte_wf _ b hs, hw, hc⟩

theorem Kept.sramWrite {a bs} : Kept (s.sramWrite a bs) := by
  induction bs generalizing s a with
  | nil => exact hk
  | cons b bs ih => exact ih (.sramPut hk)

theorem Kept.drbgSeed : Kept s.drbgSeed := .ite (.bump (.upd hk)) (.upd hk)

theorem Kept.drbgUse : Kept s.drbgUse.2 := .iteSnd hk (.iteSnd hk (.upd (.ite (.drbgSeed hk) hk)))

theorem Kept.randomBytes {n} : Kept (s.randomBytes n).2 := .upd hk

theorem Kept.rimeGrant {inst} : Kept (s.rimeGrant inst) := by
  unfold State.rimeGrant
  split
  · exact hk
  · exact .ite (.upd hk) hk

theorem Kept.rimeShort : Kept s.rimeShort := .ite (.raise (.upd (.bump hk))) (.bump hk)

theorem Kept.rimeHold {r} : Kept (s.rimeHold r) := .ite hk (.rimeShort (.upd hk))

theorem Kept.rimeTake {inst octets prio} : Kept (s.rimeTake inst octets prio) := .ite (.upd hk) (.rimeHold hk)

theorem Kept.rimeFreeFor {inst} : Kept (s.rimeFreeFor inst) := .upd (.foldl hk fun _ _ hk => .sramWrite hk)

theorem Kept.endCheck {id} : Kept (s.endCheck id) := by
  unfold State.endCheck
  dsimp only
  split
  · exact .rimeFreeFor (.rimeFreeFor (.upd hk))
  · exact .rimeFreeFor (.upd hk)

theorem Kept.cipherDone {r status blocks} : Kept (s.cipherDone r status blocks) := .sramWrite (.upd hk)

theorem Kept.pipeOut {r} : Kept (s.pipeOut r) := by
  unfold State.pipeOut
  split
  · exact hk
  · exact .ite (.sramWrite hk) (.ite hk (.sramWrite (.upd hk)))

theorem Kept.placeRequest {seen inst prio r} : Kept (s.placeRequest seen inst prio r).2 := by
  refine .iteSnd (.bumpBy hk) ?_
  split
  · split
    · exact .cipherDone hk
    · exact .iteSnd (.upd hk) (.iteSnd (.upd (.rimeTake hk)) (.rimeTake hk))
  · refine .iteSnd hk ?_
    split
    · exact .cipherDone hk
    · split
      · split
        · rename_i h
          exact .ofSnd h (.takeCounter hk)
        · rename_i h
          exact .ofSnd h (.takeCounter hk)
        · rename_i h
          exact .upd (.ofSnd h (.takeCounter hk))
      · exact .iteSnd (.bumpBy hk) (.upd (.takeAsn hk))
      · exact .upd hk

/-! ### Radio states, groups, pending emissions and calibration -/

theorem Kept.setNet {n v} : Kept (s.setNet n v) := .upd hk

theorem Kept.setLane {l v} : Kept (s.setLane l v) := .upd hk

theorem Kept.setBb {x b} : Kept (s.setBb x b) := .upd hk

theorem Kept.noteBusy {x bins from_ till} : Kept (s.noteBusy x bins from_ till) := .ite hk (.setBb hk)

theorem Kept.vacate {l} : Kept (s.vacate l) := by
  unfold State.vacate
  split
  · split
    · exact .noteBusy hk
    · exact hk
  · exact hk

theorem Kept.noteFrameEnd {l} : Kept (s.noteFrameEnd l) := by
  unfold State.noteFrameEnd
  split
  · exact .ite (.setBb hk) hk
  · exact hk

theorem Kept.dropSoft {l} : Kept (s.dropSoft l) := .upd (.ite hk (.bumpBy hk))

theorem Kept.freeLane {l} : Kept (s.freeLane l) := .rxRelease (.upd (.dropSoft (.noteFrameEnd (.vacate hk))))

theorem Kept.freeLanes {drop} : Kept (s.freeLanes drop) := .foldl hk fun _ _ hk => .freeLane hk

theorem Kept.dropFrame {l} : Kept (s.dropFrame l) := by
  unfold State.dropFrame
  split
  · exact hk
  · exact .ite (.setLane (.dropSoft (.noteFrameEnd hk))) (.freeLane hk)

theorem Kept.blankLanes {x bank row} : Kept (s.blankLanes x bank row) := .foldl hk fun _ _ hk => .dropFrame (.bump hk)

theorem Kept.moveRadio {x st extPa} : Kept (s.moveRadio x st extPa) := by
  refine .ite (.blankLanes (.setRadio hk)) ?_
  split
  · exact .noteBusy (.setRadio hk)
  · exact .setRadio hk

theorem Kept.tune {x khz} : Kept (s.tune x khz) := .ite hk (.ite (.moveRadio (.setRadio hk)) (.setRadio hk))

theorem Kept.latchSched {net} : Kept (s.latchSched net) := .setNet hk

theorem Kept.decidePower {x fuel adm} : Kept (State.decidePower x fuel adm s).2.2.2 := by
  induction fuel generalizing s adm with
  | zero => exact hk
  | succ fuel ih =>
    unfold State.decidePower
    dsimp only
    split
    · exact ih (.refuse hk)
    · exact hk

theorem Kept.addEmission {x e} : Kept (s.addEmission x e) := .upd (.setRadio hk)

theorem Kept.queueCal {x set} : Kept (s.queueCal x set) := .ite hk (.setRadio hk)

theorem Kept.firstUse {x} : Kept (s.firstUse x) := .ite hk (.setRadio hk)

theorem Kept.startCal {x c} : Kept (s.startCal x c) := .moveRadio (.setRadio hk)

theorem Kept.raiseCalFail {x item fails} : Kept (s.raiseCalFail x item fails) := .raise hk

theorem Kept.fgItem {x item failed} : Kept (s.fgItem x item failed) := .ite (.raiseCalFail (.bump (.setRadio hk))) (.setRadio hk)

theorem Kept.bgItem {x i failed} : Kept (s.bgItem x i failed) :=
  .iteOn (.bump (.setRadio hk)) (fun hk => .ite (.queueCal (.raiseCalFail (.bump hk))) (.bump hk)) id

theorem KeptOut.execCalibrationComplete {x failed us} : KeptOut (Machine.execCalibrationComplete x failed us s) := by
  refine .next ?_
  split
  · exact hk
  · exact .ite hk (.raise (.moveRadio (.setRadio (.iteOn (.foldl hk fun _ _ hk => .ite (.ite (.bump hk) (.setRadio (.bump
      hk))) (.ite (.fgItem hk) (.bgItem hk))) (fun hk => .bump (.setRadio hk)) id))))

theorem Kept.tempCheck {x} : Kept (s.tempCheck x) := by
  refine .ite hk ?_
  split
  · exact hk
  · exact .ite (.queueCal hk) hk

theorem Kept.napCheck {x} : Kept (s.napCheck x) := by
  unfold State.napCheck
  split
  · exact .ite (.queueCal hk) hk
  · exact hk

theorem KeptOut.execTransitionDone {x target} : KeptOut (Machine.execTransitionDone x target s) :=
  .next (.ite (.ite (.queueCal (.moveRadio hk)) (.ite (.setRadio (.moveRadio hk)) (.moveRadio hk))) hk)

theorem Kept.cutGroup {x status} : Kept (s.cutGroup x status) := by
  unfold State.cutGroup
  split
  · exact .setRadio hk
  · exact hk

theorem Kept.unlockSynth {x extra} : Kept (s.unlockSynth x extra) := by
  refine .ite hk (.setRadio (.blankLanes ?_))
  split
  · exact .iteOn (.logFault (.bump hk)) (fun hk => .cutGroup (.bump hk)) id
  · exact .logFault (.bump hk)

theorem KeptOut.execSynthRelockDone {x result} : KeptOut (Machine.execSynthRelockDone x result s) := by
  refine .next ?_
  split
  · exact hk
  · exact .raise (.ite (.queueCal (.startCal (.setRadio hk))) (.ite (.bump (.setRadio (.setRadio hk))) (.setRadio hk)))

theorem Kept.latchWake {bit} : Kept (s.latchWake bit) := .ite (.leaveDoze (.bump (.upd hk))) (.upd hk)

theorem Kept.keepThaw : Kept s.keepThaw := .upd hk

theorem KeptOut.execThawFrameRx {sync addr cmd check} : KeptOut (Machine.execThawFrameRx sync addr cmd check s) :=
  .next (.ite hk (.ite (.bump hk) (.ite (.reportThaw (.upd (.latchWake (.bump (.ite (.bump hk) hk))))) (.bump hk))))

theorem Kept.retuneThaw : Kept s.retuneThaw := .upd hk

theorem Kept.rfStatusBody {q} : Kept (Machine.rfStatusBody q s).2 := by
  unfold Machine.rfStatusBody
  split
  · exact hk
  · exact hk

theorem Kept.rfCountersBody {q} : Kept (Machine.rfCountersBody q s).2 := by
  refine .iteSnd hk (.iteSnd (.countersReply hk) ?_)
  split
  · exact hk
  · exact .countersReply hk

theorem Kept.testTxBody {q} : Kept (Machine.testTxBody q s).2 := by
  unfold Machine.testTxBody
  split
  · exact hk
  · refine .iteSnd hk (.iteSnd hk (.iteSnd hk (.iteSnd hk (.iteSnd hk ?_))))
    dsimp only
    split
    · exact .decidePower (.project (.firstUse hk))
    · exact .iteOnSnd (.tune (.decidePower (.project (.firstUse hk)))) (fun hk => .watchSubs (.upd (.setRadio hk))) fun hk =>
        .addEmission hk

/-! ### Contexts, their slots, loads and queues -/

theorem Kept.setFirn {f} : Kept (s.setFirn f) := .upd hk

theorem Kept.modSlot {k f} : Kept (s.modSlot k f) := by
  unfold State.modSlot
  split
  · exact .setFirn hk
  · exact hk

theorem Kept.modCtx {c f} : Kept (s.modCtx c f) := by
  unfold State.modCtx
  split
  · exact hk
  · dsimp only
    split
    · exact .modSlot (.setFirn hk)
    · exact .setFirn hk

theorem Kept.ctxCount {c i n} : Kept (s.ctxCount c i n) := .modCtx hk

theorem KeptSome.revive {c touch} : KeptSome (s.revive c touch) := by
  unfold State.revive
  split
  · exact .some (.modSlot hk)
  · exact .none

theorem Kept.askLoad {c miss held} : Kept (s.askLoad c miss held) := .bump (.setFirn hk)

theorem Kept.modLoad {c f} : Kept (s.modLoad c f) := .setFirn hk

theorem Kept.pinLoad {c chans} : Kept (s.pinLoad c chans) := .ite (.modLoad hk) (.setFirn hk)

theorem Kept.pinResident {c chans} : Kept (s.pinResident c chans).2 := by
  unfold State.pinResident
  split
  · exact hk
  · split
    · rename_i h
      exact KeptSome.revive hk _ h
    · exact .pinLoad hk

theorem Kept.answerPins {chans k} : Kept (s.answerPins chans k) := .foldl hk fun _ _ hk => .release hk

theorem Kept.holdCtx {c asn} : Kept (s.holdCtx c asn) := by
  unfold State.holdCtx
  dsimp only
  split
  · exact .modSlot hk
  · exact .modLoad hk

theorem Kept.sweepHand {fuel} : Kept (State.sweepHand fuel s) := by
  induction fuel generalizing s with
  | zero => exact hk
  | succ fuel ih =>
    unfold State.sweepHand
    dsimp only
    split
    · exact ih (.setFirn hk)
    · exact .ite (ih (.setFirn hk)) (.ite (ih (.modSlot (.setFirn hk))) (.bump (.modSlot (.setFirn hk))))

theorem Kept.evictOne : Kept s.evictOne := .sweepHand hk

theorem Kept.wroteBack {k} : Kept (s.wroteBack k) := by
  unfold State.wroteBack
  split
  · exact .ite (.bump (.modSlot hk)) hk
  · exact hk

theorem Kept.placeCtx {c k held} : Kept (s.placeCtx c k held) := .ctxCount (.setFirn hk)

theorem Kept.voidSummary {owners} : Kept (s.voidSummary owners) := .pushNv hk

theorem Kept.askFinal {owners} : Kept (s.askFinal owners) := .recordFor hk

theorem Kept.askFinalLast {owners} : Kept (s.askFinalLast owners) := .upd hk

theorem Kept.dropCtx {c} : Kept (s.dropCtx c) := .setFirn (.foldl hk fun _ _ hk => .release hk)

theorem Kept.dropWaiting {c} : Kept (s.dropWaiting c) := .foldl (.foldl hk fun _ _ hk => .endCheck hk) fun _ _ hk => .dropFrame hk

theorem Kept.rebuiltKey {c eui} : Kept (s.rebuiltKey c eui).2 := by
  unfold State.rebuiltKey
  split
  · exact hk
  · exact .draw hk

theorem Kept.corruptCtx {c} : Kept (s.corruptCtx c) := by
  unfold State.corruptCtx
  split
  · exact hk
  · exact .raise (.bump (.iteOn (.setFirn (.upd (.dropWaiting (.rebuiltKey hk)))) (fun hk => .pinLoad hk) id))

theorem Kept.missLoad {c} : Kept (s.missLoad c) := .ite (.askLoad hk) (.ite (.bump (.modLoad hk)) hk)

theorem Kept.missFrame {c} : Kept (s.missFrame c) := .missLoad (.setFirn (.ctxCount (.bump hk)))

theorem Kept.releaseWaiting {c} : Kept (s.releaseWaiting c) := .upd hk

theorem Kept.queueRecord {q} : Kept (s.queueRecord q).2 := .iteSnd hk (.iteSnd (.draw hk) (.draw (.draw hk)))

theorem Kept.queueRecords {x} : Kept (s.queueRecords x).2 := .foldlSnd hk fun _ _ hk => .queueRecord hk

theorem Kept.ctxBytes {c x} : Kept (s.ctxBytes c x).2 := by
  unfold State.ctxBytes
  dsimp only
  exact .drawBytes (.queueRecords hk)

theorem Kept.resync {c} : Kept (s.resync c) := by
  unfold State.resync
  split
  · exact hk
  · split
    · exact hk
    · exact .raise (.roundOpen (.modCtx hk))

theorem Kept.syncClient {c} : Kept (s.syncClient c) := .resync (.modCtx hk)

theorem Kept.levelUpdate {c level offset khz} : Kept (s.levelUpdate c level offset khz) := by
  unfold State.levelUpdate
  split
  · exact hk
  · refine .modCtx ?_
    split
    · exact .iteSnd hk (.upd hk)
    · exact hk

/-! ### The levels of partners -/

theorem Kept.codeOf {p} : Kept (s.codeOf p).2 := by
  unfold State.codeOf
  split
  · exact hk
  · exact .iteSnd hk (.upd hk)

/-! ### Staged sets -/

theorem Kept.putSet {h x} : Kept (s.putSet h x) := .upd hk

theorem KeptOk.stage {h classes domain w} : KeptOk (s.stage h classes domain w) := by
  unfold State.stage
  split
  · exact .error
  · refine .ite .error ?_
    split
    · exact .error
    · exact .ok (.putSet hk)

theorem KeptOk.stageAny {h w} : KeptOk (s.stageAny h w) := by
  unfold State.stageAny
  split
  · exact .error
  · exact .stage hk

theorem Kept.raiseCalved {h x applied slips status param} : Kept (s.raiseCalved h x applied slips status param) := .raise hk

theorem Kept.domainStopped {domain} : Kept (s.domainStopped domain) := .foldl hk fun _ _ hk => .raiseCalved (.upd hk)

/-! ### The plan of a timeslot -/

theorem Kept.markOut {net c w} : Kept (s.markOut net c w) := by
  unfold State.markOut
  split
  · exact hk
  · exact .ite hk (.raise (.roundOpen (.modCtx hk)))

theorem Kept.holdFrame {net st c} : Kept (s.holdFrame net st c) := by
  refine .ite ?_ (.ite (.setNet hk) (.setRadio hk))
  split
  · exact .modCtx hk
  · exact hk

theorem Kept.noteWait {net start w} : Kept (s.noteWait net start w) := .setNet hk

theorem Kept.sealCell {net start p slot was aad len} : Kept (s.sealCell net start p slot was aad len).2 := by
  unfold State.sealCell
  split
  · exact hk
  · split
    · rename_i h
      exact .ofSnd h (.sealFrame hk)
    · rename_i h
      have hk' := Kept.ofSnd h (.sealFrame hk)
      exact .ite (.noteWait (.holdFrame hk')) (.holdFrame hk')

theorem Kept.planClient {net start p k cls f} : Kept (s.planClient net start p k cls f) := by
  unfold State.planClient
  dsimp only
  split
  · rename_i h
    exact .ofSnd h (.iteSnd hk (.sealCell hk))
  · rename_i h
    exact .addEmission (.modCtx (.ofSnd h (.iteSnd hk (.sealCell hk))))

theorem Kept.planTx {net start p} : Kept (s.planTx net start p) := by
  refine .ite (.ite hk (.ite (.setNet hk) ?_)) (.ite ?_ (.ite ?_ ?_))
  · split
    · rename_i h
      exact .ofSnd h (.sealCell hk)
    · rename_i h
      exact .addEmission (.ofSnd h (.sealCell hk))
  · split
    · refine .ite (.setNet hk) ?_
      dsimp only
      split
      · rename_i h
        exact .ofSnd h (.iteSnd hk (.sealCell hk))
      · rename_i h
        exact .addEmission (.setNet (.ofSnd h (.iteSnd hk (.sealCell hk))))
    · exact hk
  · split
    · exact .planClient hk
    · exact hk
  · split
    · exact hk
    · exact .ite hk (.ite (.modCtx hk) (.planClient hk))

theorem Kept.retryCells {net start l} : Kept (s.retryCells net start l) := by
  refine .ite (.foldl hk fun _ _ hk => .noteWait hk) (.foldl hk fun _ _ hk => ?_)
  split
  · exact .planTx hk
  · exact hk

theorem Kept.retryWaits {net} : Kept (s.retryWaits net) := .retryCells (.retryCells (.setNet hk))

theorem Kept.checkCell {net asn b p} : Kept (s.checkCell net asn b p).2 :=
  .iteSnd (.bump (.markOut hk)) (.iteSnd (.bump hk) (.ite (.holdCtx hk) hk))

theorem Kept.checkCells {net asn b} : Kept (s.checkCells net asn b).2 := by
  refine .foldlSnd hk fun _ _ hk => ?_
  split
  · rename_i h
    exact .ofSnd h (.checkCell hk)
  · rename_i h
    exact .ofSnd h (.checkCell hk)

theorem Kept.capCountdown {net} : Kept (s.capCountdown net) := .setFirn hk

theorem Kept.planSlot {net asn start} : Kept (s.planSlot net asn start) :=
  .ite (.setNet (.bumpBy (.latchSched hk))) (.iteOn (.setNet (.bumpBy (.iteOn (.bumpBy (.checkCells (.bumpBy (.bumpBy (.upd
    (.latchSched hk)))))) (fun hk => .capCountdown hk) id))) id fun hk => .ite (.foldl hk fun _ _ hk => .holdFrame hk) (.foldl
    hk fun _ _ hk => .planTx hk))

theorem Kept.setFrame {n h len asn} : Kept (s.setFrame n h len asn) := .setNet hk

theorem Kept.previewWrite {n asn w} : Kept (State.previewWrite n asn s w) := by
  unfold State.previewWrite
  split
  · exact .upd hk
  · exact .ite (.setFrame hk) hk
  · exact .upd hk
  · split
    · exact .upd hk
    · exact hk
  · exact hk

theorem Kept.planAhead {net asn start} : Kept (s.planAhead net asn start) :=
  .ite (.planSlot hk) (.setNet (.upd (.planSlot (.foldl hk fun _ _ hk => .previewWrite hk))))

omit hk in
theorem Kept.lookPartner {r : Nat × State} (hk : Kept r.2) {asn c} : Kept (State.lookPartner asn r c).2 := by
  have hold : ∀ {t : State}, Kept t → Kept (match (t.holdCtx c asn).slotOf c with
      | some k => (t.holdCtx c asn).modSlot k (fun v => { v with ref := v.ref || v.held.isSome })
      | none => t.holdCtx c asn) := by
    intro t ht
    split
    · exact .modSlot (.holdCtx ht)
    · exact .holdCtx ht
  refine .iteSnd (hold hk) (.iteSnd (.bump hk) ?_)
  split
  · rename_i h
    exact hold (KeptSome.revive hk _ h)
  · exact .askLoad hk

theorem Kept.lookahead {net} : Kept (s.lookahead net) :=
  .iteOn (.foldlSnd hk fun _ _ hk => .lookPartner hk) (fun hk => .raise (.setNet hk)) id

theorem Kept.endHolds {net} : Kept (s.endHolds net) := .setFirn hk

theorem Kept.adapt {net} : Kept (s.adapt net) := by
  refine .ite hk (.ite hk (.foldl (.upd hk) fun _ _ hk => ?_))
  split
  · exact .ite hk (.upd hk)
  · exact hk

theorem Kept.newFrame {net} : Kept (s.newFrame net) := .ite (.iteOn (.adapt (.setNet hk)) id fun hk => .raise hk) hk

theorem Kept.dropCells {net} : Kept (s.dropCells net) := .upd hk

theorem Kept.installLane {x was p} : Kept (s.installLane x was p) := by
  unfold State.installLane
  dsimp only
  split
  · exact .setLane hk
  · exact .bumpBy hk

theorem Kept.installLanes {x lanes} : Kept (s.installLanes x lanes) := .foldl (.freeLanes hk) fun _ _ hk => .installLane hk

theorem Kept.noteLanes {x} : Kept (s.noteLanes x) := .setBb hk

theorem Kept.setGain {net p} : Kept (s.setGain net p) := .iteOn (.bumpBy (.setBb hk)) (fun hk => .bump hk) id

theorem Kept.resumeRadio {x} : Kept (s.resumeRadio x) :=
  .ite (.ite (.moveRadio (.setRadio hk)) (.setRadio hk)) (.ite (.moveRadio hk) hk)

theorem Kept.loseSlot {net p} : Kept (s.loseSlot net p) := by
  unfold State.loseSlot
  dsimp only
  split
  · exact .setRadio hk
  · exact .ite hk (.bumpBy (.setRadio hk))

theorem Kept.holdNear {x} : Kept (s.holdNear x) := .ite (.freeLanes hk) hk

theorem Kept.enterSlot {net p} : Kept (s.enterSlot net p) :=
  .setRadio (.setGain (.ite (.installLanes (.tune (.ite (.loseSlot hk) (.resumeRadio (.loseSlot hk))))) (.holdNear
    (.installLanes (.tune (.ite (.loseSlot hk) (.resumeRadio (.loseSlot hk))))))))

theorem KeptOut.execTimeslotStart {net} : KeptOut (Machine.execTimeslotStart net s) :=
  .next (.ite hk (.iteOn (.lookahead (.enterSlot (.newFrame (.endHolds (.dropCells (.upd (.setNet hk))))))) (fun hk => .bump hk)
    id))

/-! ### Calibration runs -/

theorem KeptOut.execCalGapStart {x} : KeptOut (Machine.execCalGapStart x s) := by
  refine .next ?_
  split
  · exact .startCal hk
  · exact hk

theorem KeptOut.execCalForced {x} : KeptOut (Machine.execCalForced x s) := by
  refine .next ?_
  split
  · exact hk
  · refine .ite hk ?_
    split
    · exact hk
    · exact .raise (.setRadio hk)

theorem Kept.askCal {x set} : Kept (s.askCal x set) := .setRadio (.queueCal hk)

theorem Kept.calRunBody {q} : Kept (Machine.calRunBody q s).2 := by
  unfold Machine.calRunBody
  split
  · exact hk
  · refine .iteSnd hk (.iteSnd hk (.iteSnd hk (.iteSnd (.startCal hk) (.iteSnd hk ?_))))
    split
    · exact .askCal hk
    · exact .askCal (.draw hk)

/-! ### Network time -/

theorem Kept.setCf {v} : Kept (s.setCf v) := .ite (.upd hk) (.bump (.upd hk))

theorem Kept.setCp {v} : Kept (s.setCp v) := .ite (.upd hk) (.bump (.upd hk))

theorem Kept.setBound {e} : Kept (s.setBound e) := .upd hk

theorem Kept.raiseSource : Kept s.raiseSource := .raise hk

theorem Kept.fireTriggers : Kept s.fireTriggers := .upd hk

theorem Kept.stepClock {d} : Kept (s.stepClock d) := .fireTriggers (.raise (.bump (.upd hk)))

theorem Kept.lockSource : Kept s.lockSource := .ite (.upd hk) (.raiseSource (.upd hk))

theorem Kept.servo {e bound} : Kept (s.servo e bound) :=
  .lockSource (.setBound (.bump (.iteOn (.setCp (.setCf (.fold hk))) (fun hk => .stepClock hk) id)))

theorem Kept.loseSource : Kept s.loseSource := .raise (.raiseSource (.bump (.upd (.fold hk))))

theorem Kept.changeSource {old} : Kept (s.changeSource old) := .ite hk (.ite (.raiseSource (.upd (.fold hk))) (.loseSource hk))

theorem Kept.tick : Kept s.tick := .ite hk (.ite (.upd hk) (.upd hk))

theorem Kept.sleepAdvance {n} : Kept (s.sleepAdvance n) := .fireTriggers (.bump (.upd hk))

theorem Kept.timeGetBody {q} : Kept (Machine.timeGetBody q s).2 := hk

theorem Kept.timeAdjust {stepMode phase freq bound} : Kept (Machine.timeAdjust stepMode phase freq bound s) :=
  .lockSource (.setBound (.iteOn (.ite (.fold hk) (.setCf (.fold hk))) (fun hk => .stepClock hk) fun hk => .setCp hk))

theorem Kept.timeAdjustBody {q} : Kept (Machine.timeAdjustBody q s).2 := .iteSnd hk (.iteSnd hk (.iteSnd hk (.timeAdjust hk)))

theorem Kept.countersBody {b n q} : Kept (Machine.countersBody b n q s).2 := .iteSnd hk (.countersReply hk)

/-! ### Instances, nodes, cores and interrupts -/

theorem Kept.setCore {c v} : Kept (s.setCore c v) := .upd hk

theorem Kept.pressure {kind} : Kept (s.pressure kind) := .ite (.raise (.upd hk)) hk

theorem Kept.storePut {o} : Kept (s.storePut o) := .ite (.bump hk) (.ite (.pressure (.upd (.upd hk))) (.upd (.upd hk)))

theorem Kept.deliverOperand {o} : Kept (s.deliverOperand o) := by
  unfold State.deliverOperand
  split
  · exact .ite hk (.storePut hk)
  · exact hk

theorem Kept.startInst {t} : Kept (s.startInst t) := by
  unfold State.startInst
  split
  · exact .iteOn (.foldl (.upd hk) fun _ _ hk => .storePut hk) (fun hk => .pressure hk) id
  · exact hk

theorem Kept.startWaiting {fuel} : Kept (State.startWaiting fuel s) := by
  induction fuel generalizing s with
  | zero => exact hk
  | succ fuel ih =>
    unfold State.startWaiting
    split
    · exact hk
    · exact .ite (ih (.startInst (.upd hk))) hk

theorem Kept.dispatch {inst node n} : Kept (s.dispatch inst node n).2 := by
  unfold State.dispatch
  dsimp only
  split
  · exact .setCore (.leaveDoze hk)
  · split
    · exact .iteSnd (.bump (.setCore hk)) (.upd hk)
    · exact .upd hk

theorem Kept.setOpCore {inst node c} : Kept (s.setOpCore inst node c) := .upd hk

theorem Kept.takeReady {c} : Kept (s.takeReady c) := by
  unfold State.takeReady
  dsimp only
  split
  · exact hk
  · exact .ite (.setOpCore (.setCore (.upd hk))) hk

theorem Kept.endJob {c j} : Kept (s.endJob c j) := .takeReady (.setCore hk)

theorem Kept.waitNode {inst node req rows} : Kept (s.waitNode inst node req rows) := .ite (.upd hk) (.upd hk)

theorem Kept.unwaitNode {inst node} : Kept (s.unwaitNode inst node) := .upd hk

theorem Kept.holdEntry {inst node req} : Kept (s.holdEntry inst node req) := .ite hk (.waitNode (.bump hk))

theorem Kept.acceptOp {inst node n req} : Kept (s.acceptOp inst node n req) := by
  unfold State.acceptOp
  dsimp only
  split
  · exact .bump (.upd (.unwaitNode (.dispatch hk)))
  · split
    · rename_i h
      exact .waitNode (.ofSnd h (.placeRequest hk))
    · rename_i h
      exact .bump (.upd (.unwaitNode (.ofSnd h (.placeRequest hk))))
  · exact .bump (.upd (.unwaitNode hk))

theorem Kept.fireNode {inst node req} : Kept (s.fireNode inst node req) := by
  unfold State.fireNode
  split
  · exact .ite hk (.ite (.acceptOp hk) (.holdEntry hk))
  · exact hk

theorem Kept.takeDelay {inst node n o} : Kept (s.takeDelay inst node n o) :=
  .iteOn (.bump (.upd (.unwaitNode hk))) (fun hk => .pressure hk) id

theorem Kept.retryNodes : Kept s.retryNodes := by
  refine .foldl hk fun _ _ hk => ?_
  split
  · refine .ite ?_ (.ite (.acceptOp hk) (.holdEntry hk))
    split
    · exact .ite (.takeDelay hk) hk
    · exact .unwaitNode hk
  · exact .unwaitNode hk

theorem Kept.freeInst {inst} : Kept (s.freeInst inst) := .upd hk

theorem Kept.closeInst {inst i} : Kept (s.closeInst inst i) := .ite (.upd hk) (.freeInst hk)

theorem Kept.afterFree : Kept s.afterFree := .retryNodes (.startWaiting hk)

theorem Kept.finishOp {inst node n} : Kept (s.finishOp inst node n) := by
  unfold State.finishOp
  dsimp only
  split
  · exact .afterFree (.upd hk)
  · exact .afterFree (.iteOn (.ite (.upd hk) (.foldl (.upd hk) fun _ _ hk => .deliverOperand hk)) (fun hk => .closeInst
      (.rimeFreeFor hk)) id)

theorem Kept.completeOp {inst node} : Kept (s.completeOp inst node) := by
  unfold State.completeOp
  split
  · refine .finishOp ?_
    split
    · exact .endJob (.upd hk)
    · exact .upd hk
  · exact hk

theorem Kept.cancelInst {inst} : Kept (s.cancelInst inst) := by
  unfold State.cancelInst
  split
  · exact hk
  · exact .afterFree (.closeInst (.rimeFreeFor hk))

theorem Kept.fireDelay {inst node} : Kept (s.fireDelay inst node) := by
  unfold State.fireDelay
  split
  · refine .ite hk ?_
    split
    · exact hk
    · exact .ite (.afterFree (.takeDelay hk)) (.ite hk (.waitNode (.bump hk)))
  · exact hk

theorem Kept.scanDelays : Kept s.scanDelays := .afterFree (.foldl (.upd hk) fun _ _ hk => .ite (.deliverOperand (.upd hk)) hk)

theorem Kept.withdrawOp {inst node kindBits} : Kept (s.withdrawOp inst node kindBits) := by
  unfold State.withdrawOp
  split
  · split
    · exact hk
    · dsimp only
      split
      · rename_i h
        exact .raise (.setOpCore (.ofSnd h (.dispatch (.foldl (.logFault (.bump (.setCore hk))) fun _ _ hk => .setOpCore (.upd
          hk)))))
      · rename_i h
        have hk' := Kept.ofSnd h (.dispatch (.foldl (.logFault (.bump (.setCore hk))) fun _ _ hk => .setOpCore (.upd hk)))
        exact .raise (.setOpCore (.draw (.ite (.hostCauseNow hk') hk')))
  · exact hk

theorem Kept.countOps : Kept s.countOps := .ite hk (.upd hk)

theorem Kept.setIrq {i v} : Kept (s.setIrq i v) := .upd hk

theorem Kept.homeWake {i} : Kept (s.homeWake i) := .ite (.takeReady (.bump (.setCore hk))) hk

theorem Kept.arbitrate : Kept s.arbitrate :=
  .foldl (.iteOn (.bumpBy (.foldl hk fun _ _ hk => .ite hk (.setCore hk))) (fun hk => .leaveDoze hk) id) fun _ _ hk => .homeWake
    hk

theorem Kept.releaseGroup {g ctr} : Kept (s.releaseGroup g ctr) := .bump (.upd (.foldl hk fun _ _ hk => .setIrq hk))

theorem Kept.assertIrq {i} : Kept (s.assertIrq i) := by
  unfold State.assertIrq
  split
  · exact .setIrq hk
  · exact .ite (.releaseGroup (.upd hk)) (.upd hk)

theorem Kept.acknowledge {c} : Kept (s.acknowledge c) := by
  unfold State.acknowledge
  split
  · exact .bump (.setCore hk)
  · exact .bump (.setCore (.setIrq hk))

theorem KeptOut.execOperationComplete {job} : KeptOut (Machine.execOperationComplete job s) := by
  refine .next (.ite hk ?_)
  split
  · exact .completeOp hk
  · split
    · exact .endJob hk
    · exact hk

theorem KeptOut.execIrqSourceMask {source mask} : KeptOut (Machine.execIrqSourceMask source mask s) := by
  refine .next (.ite hk ?_)
  dsimp only
  split
  · exact .ite (.setCore (.setIrq hk)) (.setIrq hk)
  · exact .setIrq hk

theorem Kept.loads : Kept s.loads.2 := .upd hk

theorem Kept.ccStatusBody {q} : Kept (Machine.ccStatusBody q s).2 := .upd (.loads hk)

theorem Kept.templateListBody {q} : Kept (Machine.templateListBody q s).2 := hk

/-! ### DRAM channels and errors in memory -/

theorem Kept.setDdrChan {c v} : Kept (s.setDdrChan c v) := .upd hk

theorem Kept.ddrStatusBody {q} : Kept (Machine.ddrStatusBody q s).2 := .iteSnd hk hk

theorem KeptOut.execMr4Read {chan codes} : KeptOut (Machine.execMr4Read chan codes s) :=
  .next (.ite hk (.ite (.iteOn (.bump (.setDdrChan hk)) (fun hk => .raise (.setDdrChan hk)) id) (.setDdrChan hk)))

theorem Kept.setPanic {p b} : Kept (s.setPanic p b) := by
  unfold State.setPanic
  split
  · exact .upd hk
  · exact .upd hk

theorem Kept.wakeDram : Kept s.wakeDram := .upd hk

theorem Kept.dqsCheck {chan rank drift} : Kept (s.dqsCheck chan rank drift) :=
  .iteOn (.ite (.bump (.setDdrChan hk)) (.setDdrChan hk)) (fun hk => .raise hk) id

theorem Kept.logCe {mem detail extra} : Kept (s.logCe mem detail extra) := .ite (.logFault (.upd hk)) hk

theorem Kept.startTraining {d} : Kept (s.startTraining d) := .upd hk

theorem KeptOut.execTrainingStepDone {pass chan eyes} : KeptOut (Machine.execTrainingStepDone pass chan eyes s) := by
  refine .next ?_
  split
  · exact hk
  · refine .ite hk (.ite (.ite (.upd (.ite hk (.setDdrChan hk))) (.ite (.upd (.ite hk (.setDdrChan hk))) (.ite (.raise
      (.setBoot (.upd (.ite hk (.setDdrChan hk))))) (.upd (.ite hk (.setDdrChan hk)))))) ?_)
    dsimp only
    split
    · exact .upd (.raise hk)
    · exact .upd (.raise hk)

/-! ### Networks, slotframes and cells -/

theorem Kept.withNet {f q} (hf : ∀ n q s, Kept s → Kept (f n q s).2) : Kept (Machine.withNet f q s).2 := by
  unfold Machine.withNet
  split
  · exact hk
  · exact hf _ _ _ hk

theorem Kept.startNet {n start keys} : Kept (s.startNet n start keys) := .firstUse (.latchSched (.upd (.setNet hk)))

theorem Kept.requestAsnMark {n m} : Kept (s.requestAsnMark n m) := .ite hk (.recordDue (.setNet hk))

theorem Kept.netStartBody {q} : Kept (Machine.netStartBody q s).2 := by
  refine .withNet hk fun _ _ _ hk => .iteSnd hk (.iteSnd hk (.iteSnd hk (.iteSnd hk (.iteSnd hk (.iteSnd hk (.iteSnd hk
    (.iteSnd hk (.iteSnd hk ?_))))))))
  split
  · exact hk
  · exact .iteSnd hk (.iteSnd hk (.raise (.ite (.startNet hk) (.requestAsnMark (.setNet (.startNet hk))))))

theorem Kept.stopNet {n} : Kept (s.stopNet n) := .domainStopped (.setFirn (.freeLanes (.upd (.setNet (.setRadio hk)))))

theorem Kept.netStopBody {q} : Kept (Machine.netStopBody q s).2 := .withNet hk fun _ _ _ hk => .iteSnd hk (.stopNet hk)

theorem Kept.frameChange {n h len set} : Kept (Machine.frameChange n h len set s).2 := by
  unfold Machine.frameChange
  split
  · split
    · exact hk
    · rename_i h
      exact KeptOk.stage hk _ h
  · exact .setFrame hk

theorem Kept.frameAddBody {q} : Kept (Machine.frameAddBody q s).2 :=
  .withNet hk fun _ _ _ hk => .iteSnd hk (.iteSnd hk (.iteSnd hk (.frameChange hk)))

theorem Kept.frameDelBody {q} : Kept (Machine.frameDelBody q s).2 :=
  .withNet hk fun _ _ _ hk => .iteSnd hk (.iteSnd hk (.iteSnd hk (.frameChange hk)))

theorem Kept.openView {h} : Kept (s.openView h) := by
  unfold State.openView
  split
  · exact .foldl hk fun _ _ hk => .previewWrite hk
  · exact hk

theorem Kept.cellAddBody {q} : Kept (Machine.cellAddBody q s).2 := by
  unfold Machine.cellAddBody
  split
  · exact hk
  · exact hk
  · dsimp only
    split
    · split
      · exact hk
      · rename_i h
        exact KeptOk.stage hk _ h
    · exact .upd hk

theorem Kept.deleteCell {id asn} : Kept (s.deleteCell id asn) := by
  unfold State.deleteCell
  split
  · exact hk
  · exact .ite (.upd hk) (.upd hk)

theorem Kept.cellDelBody {q} : Kept (Machine.cellDelBody q s).2 := by
  unfold Machine.cellDelBody
  split
  · exact hk
  · dsimp only
    split
    · split
      · exact hk
      · rename_i h
        exact KeptOk.stage hk _ h
    · exact .deleteCell hk

theorem Kept.cellGetBody {q} : Kept (Machine.cellGetBody q s).2 := .iteSnd hk hk

theorem Kept.joinAcceptBody {q} : Kept (Machine.joinAcceptBody q s).2 :=
  .withNet hk fun _ _ _ hk => .iteSnd hk (.iteSnd hk (.iteSnd hk (.iteSnd hk (.iteSnd hk (.iteSnd hk (.ite (.setFirn (.setNet
    hk)) (.modCtx (.setNet hk))))))))

theorem Kept.joinRejectBody {q} : Kept (Machine.joinRejectBody q s).2 := .withNet hk fun _ _ _ hk => .iteSnd hk (.setNet hk)

theorem Kept.joinRequest {n eui payload trailer} : Kept (s.joinRequest n eui payload trailer) :=
  .ite (.bump hk) (.ite (.bump hk) (.ite (.bump (.setNet hk)) (.bump (.setNet hk))))

theorem KeptOut.execJoinRelease {net} : KeptOut (Machine.execJoinRelease net s) := by
  refine .next ?_
  dsimp only
  split
  · exact hk
  · exact .ite hk (.ringDeliver (.bump (.setNet hk)))

theorem KeptOut.execPlacementAudit {net} : KeptOut (Machine.execPlacementAudit net s) := by
  refine .next (.ite hk (.foldl (.setNet hk) fun _ _ hk => ?_))
  split
  · exact hk
  · exact .ite (.raise (.roundOpen hk)) hk

theorem Kept.setParent {domain p} : Kept (s.setParent domain p) := .ite (.setNet hk) (.ite (.setNet hk) (.upd hk))

theorem KeptOut.execTimeParentLost {domain} : KeptOut (Machine.execTimeParentLost domain s) := by
  refine .next ?_
  split
  · exact hk
  · exact .ite hk (.iteOn (.raise (.setParent hk)) (fun hk => .loseSource hk) id)

theorem Kept.schedStatusBody {q} : Kept (Machine.schedStatusBody q s).2 := .withNet hk fun _ _ _ hk => hk

/-! ### The receive array -/

theorem Kept.scanOn {x} : Kept (s.scanOn x) := by
  unfold State.scanOn
  split
  · exact hk
  · exact .noteLanes (.foldl hk fun _ _ hk => .setLane (.tune hk))

theorem KeptOut.execRxWindowOpen {lane} : KeptOut (Machine.execRxWindowOpen lane s) := by
  refine .next ?_
  split
  · exact .ite (.setLane hk) hk
  · exact .ite (.scanOn hk) hk

theorem Kept.narrowMissed {x c} : Kept (s.narrowMissed x c) := by
  unfold State.narrowMissed
  split
  · exact hk
  · exact .ite (.bump (.modCtx hk)) (.modCtx hk)

theorem Kept.narrowHeard {v} : Kept (s.narrowHeard v) := by
  refine .foldl hk fun _ _ hk => ?_
  split
  · exact .ite (.modCtx hk) hk
  · exact hk

theorem KeptOut.execRxWindowClose {lane} : KeptOut (Machine.execRxWindowClose lane s) := by
  refine .next ?_
  split
  · exact hk
  · exact .ite hk (.ite (.setLane hk) (.ite (.freeLane hk) (.iteOn (.setRadio (.bump (.freeLane hk))) id fun hk => .foldl hk
      fun _ _ hk => .narrowMissed hk)))

theorem Kept.hbGain {x} : Kept (s.hbGain x) := .ite (.setBb (.draw hk)) hk

theorem KeptOut.execPreambleDetect {lane seen} : KeptOut (Machine.execPreambleDetect lane seen s) := by
  refine .next ?_
  split
  · exact hk
  · exact .ite hk (.bump (.hbGain (.narrowHeard (.setLane hk))))

theorem KeptOut.execSfdSearchFail {lane} : KeptOut (Machine.execSfdSearchFail lane s) := by
  refine .next ?_
  split
  · exact hk
  · split
    · exact .ite hk (.dropFrame (.bump hk))
    · exact hk

theorem KeptOut.execAfcFreeze {lane offset rssi snr} : KeptOut (Machine.execAfcFreeze lane offset rssi snr s) := by
  refine .next ?_
  split
  · exact hk
  · split
    · exact .ite hk (.setLane hk)
    · exact hk

theorem Kept.orderForks {x} : Kept (s.orderForks x) := .foldl hk fun _ _ hk => .setLane hk

theorem Kept.switchOrStay {lane v f new} : Kept (s.switchOrStay lane v f new) :=
  .ite (.bump (.hbGain (.setLane (.dropSoft hk)))) (.bump hk)

theorem Kept.putFork {k lane v new} : Kept (s.putFork k lane v new) := .setLane hk

theorem KeptOut.execSecondPreamble {lane seen} : KeptOut (Machine.execSecondPreamble lane seen s) := by
  refine .next ?_
  split
  · exact hk
  · split
    · exact hk
    · refine .ite hk (.ite (.switchOrStay (.bump hk)) ?_)
      split
      · exact .bump (.noteLanes (.orderForks (.putFork (.setBb (.bump hk)))))
      · split
        · dsimp only
          split
          · exact .switchOrStay (.putFork (.bump hk))
          · exact .putFork (.bump hk)
        · exact .switchOrStay (.bump hk)

theorem KeptOut.execPhrDecode {lane phr} : KeptOut (Machine.execPhrDecode lane phr s) := by
  refine .next ?_
  split
  · exact hk
  · split
    · exact hk
    · refine .ite hk ?_
      split
      · exact .setLane hk
      · exact .freeLane (.bump hk)

theorem Kept.ctxFrame {net lane v f c} : Kept (s.ctxFrame net lane v f c) := by
  refine .ite (.bump (.setLane ?_)) ?_
  · split
    · exact .modSlot (.ite (.bump hk) hk)
    · exact .ite (.bump hk) hk
  · split
    · rename_i h
      have hk' := KeptSome.revive (.ite (.bump hk) hk) _ h
      refine .bump (.setLane ?_)
      split
      · exact .modSlot hk'
      · exact hk'
    · exact .iteOn (.ite (.bump hk) hk) (fun hk => .freeLane (.bump (.setNet hk))) fun hk => .setLane (.missFrame hk)

theorem Kept.clientHeader {net lane v f h} : Kept (s.clientHeader net lane v f h) := by
  refine .ite (.dropFrame (.bump hk)) (.ite (.setLane hk) ?_)
  split
  · exact .ctxFrame hk
  · dsimp only
    split
    · exact .ctxFrame hk
    · exact .ite (.setLane hk) (.freeLane (.ite hk (.bump hk)))

theorem KeptOut.execHeaderDecode {lane hdr} : KeptOut (Machine.execHeaderDecode lane hdr s) := by
  refine .next ?_
  split
  · split
    · exact .ite hk (.clientHeader hk)
    · exact hk
  · exact hk

theorem Kept.notePool : Kept s.notePool := .setBb (.setBb hk)

theorem Kept.feedDecoders {fuel} : Kept (State.feedDecoders fuel s) := by
  induction fuel generalizing s with
  | zero => exact hk
  | succ fuel ih =>
    unfold State.feedDecoders
    split
    · exact hk
    · exact .ite hk (ih (.notePool (.upd (.ite (.bump hk) hk))))

theorem Kept.softDrop {lane} : Kept (s.softDrop lane) := .freeLane (.bump (.setBb hk))

theorem Kept.makeRoom {lane bytes fuel} : Kept (State.makeRoom lane bytes fuel s).2 := by
  induction fuel generalizing s with
  | zero => exact hk
  | succ fuel ih =>
    refine .iteSnd hk ?_
    split
    · exact hk
    · exact .iteSnd (ih (.softDrop hk)) hk

theorem KeptOut.execSoftBlockPost {lane bytes} : KeptOut (Machine.execSoftBlockPost lane bytes s) := by
  refine .next ?_
  split
  · exact hk
  · refine .ite hk ?_
    split
    · rename_i h
      exact .softDrop (.ofSnd h (.makeRoom hk))
    · rename_i h
      have hk' := Kept.ofSnd h (.makeRoom hk)
      refine .feedDecoders (.notePool ?_)
      split
      · exact .setLane (.upd hk')
      · exact .upd hk'

theorem KeptOut.execDecoderBlockDone {decoder} : KeptOut (Machine.execDecoderBlockDone decoder s) := by
  refine .next ?_
  split
  · exact hk
  · exact .feedDecoders (.upd hk)

theorem Kept.lqi {snr} : Kept (s.lqi snr).2 := .iteSnd (.upd hk) hk

theorem Kept.laneNf {lane v} : Kept (s.laneNf lane v).2 := by
  refine .iteSnd hk ?_
  split
  · exact hk
  · exact .codeOf hk

theorem Kept.trailer {lane v f mode} : Kept (s.trailer lane v f mode).2 := .iteSnd hk (.laneNf (.lqi hk))

theorem Kept.frameUp {net lane v f h payload} : Kept (s.frameUp net lane v f h payload) := by
  refine .ite ?_ (.ite (.trailer hk) (.rimeTake (.upd (.trailer hk))))
  split
  · exact .joinRequest (.trailer hk)
  · exact .trailer hk

theorem Kept.endLane {lane v} : Kept (s.endLane lane v) := .ite (.setLane (.noteFrameEnd hk)) (.freeLane hk)

theorem Kept.keepEnded {lane v f} : Kept (s.keepEnded lane v f) := .ite (.setBb hk) hk

theorem KeptOut.execFrameEnd {lane fcs payload} : KeptOut (Machine.execFrameEnd lane fcs payload s) := by
  refine .next ?_
  split
  · exact hk
  · split
    · exact hk
    · refine .ite (.dropFrame (.bump hk)) (.ite hk ?_)
      dsimp only
      split
      · exact .frameUp (.keepEnded (.endLane (.bump hk)))
      · exact .keepEnded (.endLane (.bump hk))

theorem KeptOut.execCcaMeasure {net khz level} : KeptOut (Machine.execCcaMeasure net khz level s) := by
  refine .next (.ite hk ?_)
  split
  · exact hk
  · dsimp only
    split
    · exact .modCtx (.draw (.bump (.setRadio hk)))
    · exact .setNet (.draw (.bump (.setRadio hk)))
    · exact .setNet (.draw (.bump (.setRadio hk)))
    · exact .draw (.bump (.setRadio hk))

theorem Kept.maskCodes {x codes} : Kept (s.maskCodes x codes).2 := .roundOpenInt hk

theorem Kept.meanCode {l} : Kept (s.meanCode l).2 := .iteSnd hk (.codeOf hk)

theorem Kept.meanCodes {n l} : Kept (s.meanCodes n l).2 := .foldlSnd hk fun _ _ hk => .meanCode hk

theorem Kept.nfArray {mode n l} : Kept (s.nfArray mode n l).2 := .iteSnd hk (.iteSnd (.meanCodes hk) hk)

theorem Kept.nfEntry {x c asn} : Kept (s.nfEntry x c asn) := .setBb (.winWrite (.nfArray (.nfArray hk)))

theorem Kept.nfStep {x asn means peaks} : Kept (s.nfStep x asn means peaks) := by
  unfold State.nfStep
  split
  · exact hk
  · exact .ite (.nfEntry hk) (.setBb hk)

theorem Kept.ackMissed {p} : Kept (s.ackMissed p) := by
  unfold State.ackMissed
  split
  · exact hk
  · split
    · exact hk
    · exact .ite (.txStamp (.ctxCount (.modCtx hk))) (.ctxCount (.modCtx (.draw hk)))

theorem Kept.reportMissq {net} : Kept (s.reportMissq net) := .ite hk (.raise (.setNet hk))

theorem Kept.parentInterval {net} : Kept (s.parentInterval net) := by
  unfold State.parentInterval
  dsimp only
  split
  · exact hk
  · exact .ite hk (.ite (.setNet hk) (.bump (.setNet hk)))

theorem Kept.endNetSlot {net} : Kept (s.endNetSlot net) :=
  .parentInterval (.reportMissq (.bumpBy (.foldl (.setNet hk) fun _ _ hk => .ackMissed hk)))

theorem Kept.nextAntenna {x} : Kept (s.nextAntenna x) := .ite hk (.setRadio hk)

theorem Kept.reportOverflow {x asn} : Kept (s.reportOverflow x asn) := .ite hk (.raise (.setBb hk))

theorem KeptOut.execTimeslotEnd {x means peaks} : KeptOut (Machine.execTimeslotEnd x means peaks s) := by
  refine .next (.ite hk ?_)
  dsimp only
  split
  · exact .endNetSlot (.nextAntenna (.setBb (.reportOverflow (.ite hk (.nfStep (.setBb (.maskCodes (.maskCodes hk))))))))
  · exact .nextAntenna (.setBb (.reportOverflow (.ite hk (.nfStep (.setBb (.maskCodes (.maskCodes hk)))))))

theorem Kept.nfConfigBody {q} : Kept (Machine.nfConfigBody q s).2 := by
  unfold Machine.nfConfigBody
  split
  · exact hk
  · exact hk
  · exact .iteSnd hk (.iteSnd hk (.iteSnd hk (.iteSnd hk (.iteSnd hk (.setBb hk)))))

theorem Kept.nfGetBody {q} : Kept (Machine.nfGetBody q s).2 := by
  unfold Machine.nfGetBody
  split
  · exact hk
  · exact hk
  · exact .meanCodes hk

theorem Kept.slotStat {x} : Kept (s.slotStat x).2 := by
  unfold State.slotStat
  split
  · exact hk
  · exact .upd hk

theorem Kept.slotStatusBody {q} : Kept (Machine.slotStatusBody q s).2 := by
  unfold Machine.slotStatusBody
  split
  · exact hk
  · exact .slotStat hk

/-! ### The state of spans -/

theorem Kept.setSpan {n v} : Kept (s.setSpan n v) := .upd hk

theorem Kept.modSpan {n f} : Kept (s.modSpan n f) := .setSpan hk

theorem Kept.modMember {n band f} : Kept (s.modMember n band f) := by
  unfold State.modMember
  split
  · exact .modSpan hk
  · exact hk

theorem Kept.spanCounter {n again} : Kept (s.spanCounter n again).2 := by
  unfold State.spanCounter
  dsimp only
  split
  · exact hk
  · split
    · exact hk
    · split
      · rename_i h
        exact .countUse (.ofSnd h (.takeCounter hk))
      · rename_i h
        exact .ofSnd h (.takeCounter hk)
      · rename_i h
        exact .ofSnd h (.takeCounter hk)

theorem Kept.sealSpan {key mic h payload} : Kept (s.sealSpan key mic h payload).2 := .useBlocks (.bump hk)

theorem Kept.spanAck {n} : Kept (s.spanAck n).2 := by
  unfold State.spanAck
  dsimp only
  split
  · exact hk
  · exact .upd hk

theorem Kept.spanHeader {n band e ty last} : Kept (s.spanHeader n band e ty last).2 := .spanAck hk

theorem Kept.spanEmit {n band e nominal khz cls ty sync octets desc} : Kept (s.spanEmit n band e nominal khz cls ty sync octets desc) := by
  unfold State.spanEmit
  split
  · exact .addEmission (.modMember (.modSpan hk))
  · exact hk

theorem Kept.spanPlain {n h nominal khz} : Kept (s.spanPlain n h nominal khz).2 := by
  unfold State.spanPlain
  split
  · rename_i h
    exact .ofSnd h (.spanCounter hk)
  · rename_i h
    exact .spanEmit (.sealSpan (.ofSnd h (.spanCounter hk)))

theorem Kept.countSkip {n x row} : Kept (s.countSkip n x row) := .ite (.bump hk) (.bump hk)

theorem Kept.spanResync {n} : Kept (s.spanResync n) := .modSpan hk

theorem Kept.memberUp {n band} : Kept (s.memberUp n band) := by
  unfold State.memberUp
  split
  · exact hk
  · exact .ite hk (.raise (.modMember hk))

theorem Kept.memberMiss {n band} : Kept (s.memberMiss n band) := by
  unfold State.memberMiss
  split
  · exact hk
  · exact .ite (.iteOn (.raise (.bump (.modMember (.modMember hk)))) (fun hk => .spanResync hk) id) (.modMember hk)

theorem Kept.spanDrop {f} : Kept (s.spanDrop f) := .txStamp hk

theorem Kept.spanLose {n f} : Kept (s.spanLose n f) := .ite (.modSpan (.modSpan hk)) (.spanDrop (.bump (.modSpan hk)))

theorem Kept.spanAcked {n h} : Kept (s.spanAcked n h) := .foldl (.modSpan hk) fun _ _ hk => .spanLose hk

theorem Kept.spanJudge {n} : Kept (s.spanJudge n) := .foldl hk fun _ _ hk => .spanLose hk

theorem Kept.spanQueue {n f} : Kept (s.spanQueue n f).2 := .iteSnd (.bump hk) (.iteSnd hk (.modSpan hk))

theorem Kept.spanFlush {n} : Kept (s.spanFlush n).2 := .bumpBy (.foldl (.modSpan hk) fun _ _ hk => .spanDrop hk)

theorem Kept.unsent {x st e} : Kept (s.unsent x st e) := by
  unfold State.unsent
  dsimp only
  split
  · refine .setRadio ?_
    split
    · split
      · exact hk
      · exact .modSpan hk
    · exact .modCtx hk
    · exact .setNet hk
    · exact hk
  · split
    · split
      · exact hk
      · exact .modSpan hk
    · exact .modCtx hk
    · exact .setNet hk
    · exact hk

theorem Kept.dropPending {x st e} : Kept (s.dropPending x st e) := .unsent (.setRadio hk)

theorem Kept.dropMember {n x} : Kept (s.dropMember n x) := .foldl hk fun _ _ hk => .dropPending hk

theorem Kept.spanSilence {n} : Kept (s.spanSilence n) := .foldl hk fun _ _ hk => .setRadio hk

/-! ### Tables of the router -/

theorem Kept.setFdb {p t} : Kept (s.setFdb p t) := .upd hk

theorem Kept.fdbFull {p} : Kept (s.fdbFull p) := .ite (.raise (.upd (.upd (.bump hk)))) (.upd (.bump hk))

theorem Kept.learn {p vid mac port} : Kept (s.learn p vid mac port).2 := by
  unfold State.learn
  dsimp only
  split
  · exact .iteSnd (.iteOnSnd (.ite hk (.bump hk)) (fun hk => .bump hk) id) (.ite (.setFdb hk) (.bump (.setFdb hk)))
  · refine .iteSnd (.fdbFull hk) ?_
    split
    · exact .bump hk
    · exact .bump (.setFdb hk)

theorem Kept.shaperCharge {port queue n} : Kept (s.shaperCharge port queue n) := by
  unfold State.shaperCharge
  split
  · exact .upd hk
  · exact hk

theorem Kept.setQueue {port q l} : Kept (s.setQueue port q l) := .upd hk

theorem Kept.countOffer {port o} : Kept (s.countOffer port o) := by
  unfold State.countOffer
  split
  · exact .bump hk
  · exact .bump hk
  · exact .bump hk
  · exact hk

theorem Kept.offerWired {port q f} : Kept (s.offerWired port q f).2 :=
  .iteSnd (.countOffer hk) (.iteSnd (.countOffer hk) (.countOffer (.setQueue hk)))

theorem Kept.offerSpan {n f} : Kept (s.offerSpan n f).2 := by
  refine .iteSnd (.countOffer hk) ?_
  split
  · rename_i h
    exact .countOffer (.ofSnd h (.spanQueue hk))
  · rename_i h
    exact .ofSnd h (.spanQueue hk)
  · rename_i h
    exact .countOffer (.ofSnd h (.spanQueue hk))

theorem Kept.offerBridged {port q f} : Kept (s.offerBridged port q f).2 := .iteSnd (.offerSpan hk) (.offerWired hk)

theorem Kept.toHost {f} : Kept (s.toHost f) := by
  unfold State.toHost
  split
  · rename_i h
    exact .ofSnd h (.offerWired hk)
  · rename_i h
    exact .txStamp (.ofSnd h (.offerWired hk))

theorem Kept.countSent {port n} : Kept (s.countSent port n) := .bumpBy (.bump hk)

/-! ### Cascade packets -/

theorem Kept.setCasc {c} : Kept (s.setCasc c) := .upd hk

theorem Kept.setLink {p l} : Kept (s.setLink p l) := .setCasc hk

theorem Kept.raiseLink {p} : Kept (s.raiseLink p) := .raise hk

theorem Kept.cascSend {peer ty cls flags payload} : Kept (s.cascSend peer ty cls flags payload) := .setCasc (.setLink hk)

theorem Kept.cascFresh : Kept s.cascFresh := .setCasc hk

theorem Kept.setSerLane {i l} : Kept (s.setSerLane i l) := .upd hk

theorem Kept.sendLink {peer} : Kept (s.sendLink peer) := .cascSend hk

theorem Kept.cascDataTo {peer cls frame} : Kept (s.cascDataTo peer cls frame) := .ite (.bump (.cascSend hk)) (.bump hk)

theorem Kept.cascData {cls vid frame} : Kept (s.cascData cls vid frame) := by
  unfold State.cascData
  dsimp only
  split
  · exact .cascDataTo hk
  · exact .foldl (.bump hk) fun _ _ hk => .cascDataTo hk

theorem Kept.peerLearn {vid mac peer} : Kept (s.peerLearn vid mac peer) := .ite (.setCasc hk) (.ite (.bump hk) (.setCasc hk))

theorem Kept.sendPause {mask} : Kept (s.sendPause mask) := .foldl hk fun _ _ hk => .bump (.cascSend hk)

theorem Kept.pauseCheck : Kept s.pauseCheck := .ite hk (.ite (.sendPause (.setCasc hk)) (.ite (.sendPause (.setCasc hk)) hk))

/-! ### The adaptation layer -/

theorem Kept.offerNet {net ctx cls fs} : Kept (s.offerNet net ctx cls fs).2 :=
  .iteSnd (.iteSnd (.countOffer hk) (.bumpBy (.setNet hk))) (.iteSnd (.countOffer hk) (.iteSnd (.countOffer hk) (.bumpBy
    (.modCtx hk))))

theorem Kept.lowpanSend {pipe net ctx cls f} : Kept (s.lowpanSend pipe net ctx cls f).2 := by
  unfold State.lowpanSend
  dsimp only
  split
  · exact .bump (.bump hk)
  · exact .iteOnSnd (.offerNet (.ite (.upd hk) hk)) id fun hk => .ite (.bump hk) hk

theorem Kept.joinFragment {ctx size tag off b noCheck} : Kept (s.joinFragment ctx size tag off b noCheck).2 := by
  unfold State.joinFragment
  split
  · exact hk
  · refine .iteSnd (.bump hk) ?_
    dsimp only
    split
    · exact .iteSnd (.bump (.modCtx hk)) (.iteSnd (.bump (.modCtx hk)) (.modCtx hk))
    · exact .iteSnd (.bump hk) (.iteSnd (.modCtx hk) (.bump (.modCtx hk)))

theorem Kept.lowpanIn {net k} : Kept (s.lowpanIn net k).2 := by
  have joined : ∀ {size tag off o nc}, Kept (match s.joinFragment k.ctx size tag off o nc with
      | (some p, s) => (LowIn.packet p, s)
      | (none, s) => (LowIn.nothing, s)).2 := by
    intros
    split
    · rename_i h
      exact .ofSnd h (.joinFragment hk)
    · rename_i h
      exact .ofSnd h (.joinFragment hk)
  refine .iteSnd (.iteSnd (.iteSnd (.bump hk) joined) ?_) ?_
  · split
    · exact joined
    · exact joined
    · exact hk
    · exact .bump hk
  · split
    · exact hk
    · exact .iteSnd (.bump hk) hk
    · exact hk
    · exact .bump hk

theorem Kept.lowpanCtxBody {q} : Kept (Machine.lowpanCtxBody q s).2 := by
  unfold Machine.lowpanCtxBody
  split
  · exact hk
  · exact .iteSnd hk (.iteSnd hk (.iteSnd hk (.upd hk)))

/-! ### The pipelines -/

theorem Kept.atMeter {id k} : Kept (s.atMeter id k).2 := by
  unfold State.atMeter
  split
  · exact hk
  · dsimp only
    split
    · exact .bump (.upd hk)
    · exact .ite (.bump (.upd hk)) (.upd hk)

theorem Kept.lostFrame {k status} : Kept (s.lostFrame k status) := .txStamp hk

theorem Kept.toPort {k port own} : Kept (s.toPort k port own) := by
  unfold State.toPort
  split
  · rename_i h
    exact .ofSnd h (.offerBridged hk)
  · rename_i h
    exact .lostFrame (.ofSnd h (.offerBridged hk))

theorem Kept.dropAt {k row} : Kept (s.dropAt k row) := .lostFrame (.bump hk)

theorem Kept.punt {k status} : Kept (s.punt k status) := .toHost (.bump hk)

theorem Kept.flood {k} : Kept (s.flood k) := .foldl (.ite (.lostFrame hk) hk) fun _ _ hk => .toPort (.bump hk)

theorem Kept.bridge {k} : Kept (s.bridge k) := by
  unfold State.bridge
  split
  · refine .ite (.dropAt hk) (.ite (.dropAt hk) (.ite (.dropAt hk) ?_))
    split
    · rename_i h
      exact .lostFrame (.ofSnd h (.atMeter hk))
    · rename_i h
      exact .toPort (.bump (.ofSnd h (.atMeter hk)))
  · exact .ite (.flood hk) (.dropAt hk)

theorem Kept.forward {k h} : Kept (s.forward k h) := by
  refine .ite (.dropAt hk) (.ite (.punt hk) ?_)
  dsimp only
  split
  · rename_i h
    exact .lostFrame (.ofSnd h (.atMeter hk))
  · rename_i h
    have hk' := Kept.ofSnd h (.atMeter hk)
    refine .ite ?_ (.toPort (.bump hk'))
    split
    · rename_i h
      exact .ofSnd h (.lowpanSend (.bump hk'))
    · rename_i h
      exact .lostFrame (.ofSnd h (.lowpanSend (.bump hk')))

theorem Kept.route {k} : Kept (s.route k) := by
  unfold State.route
  dsimp only
  split
  · exact .punt hk
  · exact .ite (.punt hk) (.ite (.dropAt hk) (.ite (.punt hk) (.forward hk)))

theorem Kept.pipeline {k} : Kept (s.pipeline k) := by
  unfold State.pipeline
  dsimp only
  split
  · exact .dropAt (.bump hk)
  · split
    · rename_i h
      exact .lostFrame (.ofSnd h (.atMeter (.bump hk)))
    · rename_i h
      have hk' := Kept.ofSnd h (.atMeter (.bump hk))
      exact .ite (.lostFrame (.iteSnd (.learn hk') hk')) (.ite (.route (.iteSnd (.learn hk') hk')) (.bridge (.iteSnd (.learn
        hk') hk')))

theorem Kept.setEth {p x} : Kept (s.setEth p x) := .upd hk

theorem Kept.pauseFrame {p e} : Kept (s.pauseFrame p e) := .ite (.setEth (.bump hk)) (.bump hk)

theorem Kept.wireFrame {p b time} : Kept (s.wireFrame p b time) :=
  .ite (.ite (.pauseFrame hk) hk) (.ite hk (.ite (.toHost (.bump hk)) (.ite (.toHost (.bump (.bump hk))) (.ite (.pipeline hk)
    (.pipeline hk)))))

theorem Kept.wireIngress {p b ago} : Kept (s.wireIngress p b ago) :=
  .ite hk (.ite (.bump hk) (.ite (.bump hk) (.ite (.bump hk) (.pauseCheck (.wireFrame (.bumpBy (.bump hk)))))))

theorem Kept.airIngress {k} : Kept (s.airIngress k) := by
  refine .ite ?_ (.pipeline hk)
  split
  · rename_i h
    exact .pipeline (.ofSnd h (.lowpanIn hk))
  · rename_i h
    exact .punt (.ofSnd h (.lowpanIn hk))
  · rename_i h
    exact .ofSnd h (.lowpanIn hk)

theorem KeptOut.execFrameIngress {src} : KeptOut (Machine.execFrameIngress src s) := by
  refine .next ?_
  split
  · exact .ite (.wireIngress hk) hk
  · refine .ite hk ?_
    split
    · exact hk
    · exact .pauseCheck (.airIngress (.upd hk))

theorem Kept.hostFrame {port cls ctx b desc} : Kept (s.hostFrame port cls ctx b desc).2 := by
  refine .iteSnd (.iteSnd (.bump hk) (.iteSnd (.punt (.bump hk)) (.lowpanSend (.bump hk)))) (.iteSnd (.bump hk) ?_)
  split
  · exact .bump (.bump hk)
  · exact .iteSnd (.offerSpan (.bump hk)) (.offerWired (.bump hk))

theorem KeptOut.execHostTxRingFrame {ring} : KeptOut (Machine.execHostTxRingFrame ring s) := by
  refine .next (.ite hk (.ite (.txStamp (.leaveDoze hk)) (.ite (.pauseCheck (.iteOn (.pipeline (.setRing (.leaveDoze hk))) id
    fun hk => .advanceHead hk)) ?_)))
  split
  · rename_i h
    have hk' := Kept.ofSnd h (.hostFrame (.setRing (.leaveDoze hk)))
    exact .pauseCheck (.ite hk' (.advanceHead hk'))
  · rename_i h
    exact .pauseCheck (.txStamp (.ofSnd h (.hostFrame (.setRing (.leaveDoze hk)))))

theorem Kept.ageTick : Kept s.ageTick := .setCasc (.bumpBy (.bumpBy (.upd hk)))

theorem Kept.ageTicks {n} : Kept (State.ageTicks n s) := by
  induction n generalizing s with
  | zero => exact hk
  | succ n ih => exact ih (.ageTick hk)

theorem Kept.ageCatchUp : Kept s.ageCatchUp := .upd (.ageTicks hk)

theorem Kept.rtCountersBody {q} : Kept (Machine.rtCountersBody q s).2 := by
  unfold Machine.rtCountersBody
  split
  · exact hk
  · exact .iteSnd hk (.countersReply hk)

/-! ### Egress queues, shapers, meters and gates -/

theorem Kept.dropTooBig {p q} : Kept (s.dropTooBig p q) := by
  unfold State.dropTooBig
  split
  · dsimp only
    split
    · exact .ite (.iteOn (.txStamp (.bump (.setQueue hk))) (fun hk => .raise (.upd hk)) id) hk
    · exact hk
  · exact hk

theorem Kept.dropHeads {p} : Kept (s.dropHeads p) := .foldl hk fun _ _ hk => .foldl hk fun _ _ hk => .dropTooBig hk

theorem Kept.takeFrame {p q f t} : Kept (s.takeFrame p q f t) := .countSent (.shaperCharge (.shaperCharge (.setQueue hk)))

theorem Kept.onLane {m b} : Kept (s.onLane m b).2 := .upd hk

theorem Kept.sendWire {p} : Kept (s.sendWire p) := by
  unfold State.sendWire
  split
  · exact hk
  · dsimp only
    split
    · exact .dropHeads hk
    · exact .ite (.dropHeads hk) (.txStamp (.onLane (.takeFrame (.dropHeads hk))))

theorem Kept.sendCascade : Kept s.sendCascade := by
  unfold State.sendCascade
  split
  · exact hk
  · exact .txStamp (.cascData (.cascFresh (.takeFrame hk)))

theorem Kept.sendHost : Kept s.sendHost := by
  unfold State.sendHost
  split
  · exact hk
  · exact .ite (.txStamp (.ringDeliver (.iteOn (.shaperCharge (.shaperCharge (.setQueue hk))) (fun hk => .countSent hk) id)))
      (.ite hk (.txStamp (.onLane (.takeFrame hk))))

theorem KeptOut.execEgressSend {port} : KeptOut (Machine.execEgressSend port s) :=
  .next (.ite hk (.pauseCheck (.ite (.sendWire hk) (.ite (.sendCascade hk) (.ite (.sendHost hk) hk)))))

theorem Kept.setShaper {id port queue rate burst full} : Kept (s.setShaper id port queue rate burst full) := .upd hk

theorem Kept.stagedReply {r} (hr : KeptOk r) : Kept (Machine.stagedReply s r).2 := by
  cases r with
  | error e => exact hk
  | ok t => exact hr t rfl

theorem Kept.shaperBody {q} : Kept (Machine.shaperBody q s).2 :=
  .iteSnd hk (.iteSnd hk (.iteSnd hk (.iteSnd hk (.iteSnd hk (.iteSnd (.stagedReply hk (.stageAny hk)) (.setShaper hk))))))

theorem Kept.setMeter {id m} : Kept (s.setMeter id m) := .upd hk

theorem Kept.meterBody {q} : Kept (Machine.meterBody q s).2 :=
  .iteSnd hk (.iteSnd hk (.iteSnd hk (.iteSnd hk (.iteSnd hk (.iteSnd (.stagedReply hk (.stageAny hk)) (.setMeter hk))))))

theorem Kept.setGates {p l} : Kept (s.setGates p l) := .upd hk

theorem Kept.gateBody {q} : Kept (Machine.gateBody q s).2 := by
  refine .iteSnd hk (.iteSnd hk (.iteSnd hk ?_))
  split
  · exact hk
  · refine .iteSnd ?_ (.iteSnd hk (.setGates hk))
    split
    · rename_i h
      exact KeptOk.stage hk _ h
    · exact hk

theorem Kept.tmStatusBody {q} : Kept (Machine.tmStatusBody q s).2 := .iteSnd hk hk

theorem Kept.tmCountersBody {q} : Kept (Machine.tmCountersBody q s).2 := .iteSnd hk (.iteSnd hk (.ite (.clearBank hk) hk))

/-! ### The cascade's links, time and token -/

theorem Kept.loseHolder {p} : Kept (s.loseHolder p) := .ite (.loseSource hk) hk

theorem Kept.putLink {p tx rx} : Kept (s.putLink p tx rx) :=
  .ite (.ite (.raiseLink (.setLink hk)) (.setLink hk)) (.iteOn (.raiseLink (.setLink hk)) (fun hk => .loseHolder (.setCasc hk))
    id)

theorem Kept.cascLaneLost {i lost} : Kept (s.cascLaneLost i lost) := by
  unfold State.cascLaneLost
  split
  · exact hk
  · exact .ite hk (.sendLink (.bumpBy (.putLink (.cascFresh hk))))

theorem KeptOut.execCascMarkerRx {lane far} : KeptOut (Machine.execCascMarkerRx lane far s) := by
  refine .next ?_
  dsimp only
  split
  · exact hk
  · exact .ite hk (.ite (.setSerLane hk) (.sendLink (.putLink (.cascFresh (.setSerLane hk)))))

theorem Kept.cascTake {peer ty b} : Kept (s.cascTake peer ty b).2 := by
  refine .iteSnd hk ?_
  split
  · exact .bump hk
  · exact .iteSnd hk (.setCasc hk)

theorem KeptOut.execCascLinkRx {peer packet lost} : KeptOut (Machine.execCascLinkRx peer packet lost s) := by
  refine .next ?_
  split
  · rename_i h
    exact .ofSnd h (.cascTake hk)
  · rename_i h
    have hk' := Kept.ofSnd h (.cascTake hk)
    exact .ite hk' (.bumpBy (.putLink hk'))

theorem KeptOut.execCascDataRx {peer packet} : KeptOut (Machine.execCascDataRx peer packet s) := by
  refine .next ?_
  split
  · rename_i h
    exact .ofSnd h (.cascTake hk)
  · rename_i h
    have hk' := Kept.ofSnd h (.cascTake hk)
    refine .pauseCheck (.pipeline ?_)
    split
    · exact .peerLearn (.bump hk')
    · exact .bump hk'

theorem KeptOut.execCascPauseRx {peer packet} : KeptOut (Machine.execCascPauseRx peer packet s) := by
  refine .next ?_
  split
  · rename_i h
    exact .ofSnd h (.cascTake hk)
  · rename_i h
    exact .setLink (.ofSnd h (.cascTake hk))

theorem KeptOut.execCascPauseTimeout {peer queue} : KeptOut (Machine.execCascPauseTimeout peer queue s) := by
  refine .next ?_
  dsimp only
  split
  · exact .ite (.setLink hk) hk
  · exact hk

theorem KeptOut.execCascTimeSyncSend : KeptOut (Machine.execCascTimeSyncSend s) := by
  refine .next (.ite hk ?_)
  dsimp only
  split
  · exact .ite (.loseSource (.setCasc hk)) (.setCasc hk)
  · exact .iteOn (.ite (.loseSource (.setCasc hk)) (.setCasc hk)) (fun hk => .cascSend (.cascFresh hk)) id

theorem KeptOut.execCascTimeSyncRx {peer packet ago} : KeptOut (Machine.execCascTimeSyncRx peer packet ago s) := by
  refine .next ?_
  split
  · rename_i h
    exact .ofSnd h (.cascTake hk)
  · rename_i h
    have hk' := Kept.ofSnd h (.cascTake hk)
    exact .ite hk' (.cascSend (.cascFresh hk'))

theorem KeptOut.execCascTimeReplyRx {peer packet ago} : KeptOut (Machine.execCascTimeReplyRx peer packet ago s) := by
  refine .next ?_
  split
  · rename_i h
    exact .ofSnd h (.cascTake hk)
  · rename_i h
    have hk' := Kept.ofSnd h (.cascTake hk)
    exact .ite hk' (.ite (.servo (.setCasc (.roundOpenInt hk'))) hk')

theorem Kept.raiseMaster : Kept s.raiseMaster := .raise hk

theorem Kept.yieldToken {target} : Kept (s.yieldToken target) := .changeSource (.raiseMaster (.bump (.setCasc hk)))

theorem Kept.announce : Kept s.announce := .foldl (.setCasc (.cascFresh hk)) fun _ _ hk => .cascSend hk

theorem Kept.enterDispute : Kept s.enterDispute := .bump (.setCasc hk)

theorem Kept.contest {h} : Kept (s.contest h) := by
  refine .ite (.yieldToken (.iteOn (.ite (.enterDispute hk) hk) (fun hk => .raise hk) id)) ?_
  split
  · exact .setCasc (.iteOn (.ite (.enterDispute hk) hk) (fun hk => .raise hk) id)
  · exact .iteOn (.ite (.enterDispute hk) hk) (fun hk => .raise hk) id

theorem Kept.secondHolder {q h tq known} : Kept (s.secondHolder q h tq known) :=
  .iteOn (.setCasc (.loseHolder hk)) id fun hk => .setCasc hk

theorem KeptOut.execCascAnnounceRx {peer packet} : KeptOut (Machine.execCascAnnounceRx peer packet s) := by
  refine .next ?_
  dsimp only
  split
  · rename_i h
    exact .ofSnd h (.cascTake hk)
  · rename_i h
    have hk' := Kept.ofSnd h (.cascTake hk)
    refine .ite (.ite (.contest (.setCasc hk')) ?_) (.ite (.setCasc (.loseHolder hk')) hk')
    split
    · exact .ite (.setCasc hk') (.secondHolder hk')
    · exact .setCasc (.setCasc hk')

theorem KeptOut.execDisputeClear : KeptOut (Machine.execDisputeClear s) := by
  refine .next ?_
  split
  · exact .ite (.setCasc hk) hk
  · exact hk

theorem KeptOut.execCascTakeDrive {high} : KeptOut (Machine.execCascTakeDrive high s) := by
  refine .next ?_
  split
  · exact .ite (.setCasc hk) (.announce (.changeSource (.raiseMaster (.bump (.setCasc (.setCasc hk))))))
  · exact hk

theorem Kept.cascStatusBody {q} : Kept (Machine.cascStatusBody q s).2 := hk

/-! ### The plan of a span's event -/

theorem Kept.dataOctets {n e a echoBand j c key band start last} :
    Kept (s.dataOctets n e a echoBand j c key band start last).2.2 := by
  unfold State.dataOctets
  dsimp only
  split
  · exact hk
  · exact .useBlocks (.bump (.spanAck hk))

theorem Kept.noCounter {n st j spots} : Kept (s.noCounter n st j spots) := by
  unfold State.noCounter
  dsimp only
  split
  · exact .bump (.ite hk (.modSpan hk))
  · exact .ite hk (.modSpan hk)

theorem Kept.sendData {n e a echoBand j spots later} : Kept (s.sendData n e a echoBand j spots later) := by
  unfold State.sendData
  dsimp only
  split
  · refine .noCounter ?_
    split
    · exact hk
    · exact .spanCounter hk
  · refine .modSpan (.iteOn (.foldlSnd ?_ fun _ _ hk => ?_) (fun hk => .bump hk) id)
    · split
      · exact hk
      · exact .spanCounter hk
    · split
      · exact .dataOctets hk
      · exact .spanEmit (.dataOctets hk)

theorem Kept.sendAlive {n e a echoBand band last} : Kept (s.sendAlive n e a echoBand band last) := by
  unfold State.sendAlive
  split
  · exact hk
  · exact .spanPlain (.spanAck hk)

theorem Kept.sendPlaced {n e a echoBand l} : Kept (State.sendPlaced n e a echoBand l s) := by
  induction l generalizing s with
  | nil => exact hk
  | cons p rest ih =>
    refine ih ?_
    split
    · exact .sendData hk
    · exact .foldl hk fun _ _ hk => .sendAlive hk

theorem Kept.watchHeld {n e acc} : Kept (s.watchHeld n e acc) :=
  .ite (.ite (.bump hk) (.raise (.modSpan (.bump hk)))) (.ite (.modSpan hk) hk)

theorem Kept.spanOutOfSync {n} : Kept (s.spanOutOfSync n) :=
  .ite hk (.ite hk (.raise (.draw (.draw (.roundOpen (.spanResync (.modSpan hk)))))))

theorem Kept.planSkips {n e a} : Kept (s.planSkips n e a) := .modSpan hk

theorem Kept.membersAt {n e a} : Kept (s.membersAt n e a) := .modSpan hk

theorem Kept.applyMembers {n} : Kept (s.applyMembers n) := .membersAt hk

theorem Kept.previewSpanWrite {n e w} : Kept (State.previewSpanWrite n e s w) := by
  unfold State.previewSpanWrite
  split
  · exact .ite (.modSpan (.upd hk)) (.upd hk)
  · exact .ite (.modSpan hk) hk
  · exact hk

theorem Kept.switchAt {n e} : Kept (s.switchAt n e) := by
  unfold State.switchAt
  dsimp only
  split
  · exact .ite (.modSpan hk) hk
  · exact hk

theorem Kept.spanAt {n e a} : Kept (s.spanAt n e a) := .switchAt (.membersAt (.foldl hk fun _ _ hk => .previewSpanWrite hk))

theorem Kept.spanBackTo {old n} : Kept (s.spanBackTo old n) := .modSpan (.upd hk)

theorem Kept.planEvent {n e a} : Kept (s.planEvent n e a) :=
  .ite (.planSkips hk) (.modSpan (.foldl (.watchHeld (.sendPlaced (.modSpan (.planSkips hk)))) fun _ _ hk => .ite (.sendAlive
    hk) hk))

theorem Kept.latchSpan {n} : Kept (s.latchSpan n) := .modSpan hk

theorem Kept.burstOn {n e a band m l} : Kept (State.burstOn n e a band m l s) := by
  induction l generalizing s with
  | nil => exact hk
  | cons i is ih =>
    refine ih ?_
    split
    · exact .modSpan (.spanPlain (.spanAck hk))
    · exact .spanPlain (.spanAck hk)

theorem Kept.sendBurst {n e a} : Kept (s.sendBurst n e a) :=
  .iteOn (.foldl (.planSkips hk) fun _ _ hk => .ite hk (.burstOn hk)) id fun hk => .bump hk

/-! ### Span frames received, timers and commands -/

theorem Kept.parentEvent {n} : Kept (s.parentEvent n) := by
  unfold State.parentEvent
  split
  · exact hk
  · exact .setParent hk

theorem Kept.readySub {n x e a} : Kept (s.readySub n x e a) := .noteLanes (.installLanes (.tune (.resumeRadio (.setRadio hk))))

theorem Kept.subLane {p} : Kept (s.subLane p) := by
  unfold State.subLane
  split
  · exact .ite hk (.setLane hk)
  · exact .setLane hk

theorem Kept.turnSub {n x e a} : Kept (s.turnSub n x e a) :=
  .noteLanes (.holdNear (.foldl (.ite (.tune hk) hk) fun _ _ hk => .subLane hk))

theorem Kept.toSub {n x e a} : Kept (s.toSub n x e a) := .ite (.turnSub hk) (.readySub hk)

theorem Kept.startSub {n x} : Kept (s.startSub n x) := by
  refine .toSub ?_
  split
  · exact .setRadio (.modMember hk)
  · exact .modMember hk

theorem KeptOut.execSubeventStart {span radio} : KeptOut (Machine.execSubeventStart span radio s) := by
  refine .next ?_
  dsimp only
  split
  · exact hk
  · refine .ite hk (.ite (.toSub hk) (.ite hk ?_))
    split
    · exact .dropMember (.countSkip (.modMember hk))
    · exact .startSub hk

theorem Kept.closeSub {x} : Kept (s.closeSub x) := .upd (.freeLanes hk)

theorem KeptOut.execSubeventEnd {span radio} : KeptOut (Machine.execSubeventEnd span radio s) := by
  refine .next ?_
  dsimp only
  split
  · exact hk
  · exact .ite hk (.iteOn (.iteOn (.ite (.modMember (.modMember hk)) (.memberMiss (.modMember hk))) id fun hk => .closeSub hk)
      (fun hk => .modSpan (.spanJudge hk)) id)

theorem Kept.spanForeign {n x} : Kept (s.spanForeign n x) := by
  unfold State.spanForeign
  split
  · exact .bump hk
  · exact hk

theorem Kept.spanTrailer {n x meas rssi} : Kept (s.spanTrailer n x meas rssi).2 := by
  unfold State.spanTrailer
  dsimp only
  split
  · exact .trailer (.setBb hk)
  · exact .trailer hk

theorem KeptOut.execSpanFrameReceive {radio octets meas} : KeptOut (Machine.execSpanFrameReceive radio octets meas s) := by
  refine .next (.ite hk ?_)
  dsimp only
  split
  · exact .spanForeign hk
  · exact .ite (.spanForeign hk) (.ite (.bump hk) (.rimeTake (.upd (.spanTrailer hk))))

theorem Kept.spanUp {n band} : Kept (s.spanUp n band) := .raise (.modSpan hk)

theorem Kept.spanBack {n} : Kept (s.spanBack n) := by
  unfold State.spanBack
  dsimp only
  split
  · exact .bump (.modSpan hk)
  · exact .raise (.draw (.draw (.roundOpen (.bump (.modSpan hk)))))

theorem Kept.adoptInterval {n iv} : Kept (s.adoptInterval n iv) := .ite hk (.bump (.modSpan hk))

theorem Kept.parentTime {domain e bound} : Kept (s.parentTime domain e bound) := by
  unfold State.parentTime
  split
  · exact hk
  · exact .iteOn (.ite (.raise (.roundOpen (.setParent hk))) (.setParent hk)) (fun hk => .servo hk) id

theorem Kept.shiftSpan {n d} : Kept (s.shiftSpan n d) := .ite hk (.foldl hk fun _ _ hk => .setRadio hk)

theorem Kept.takeTime {n m h len stamp} : Kept (s.takeTime n m h len stamp) := by
  unfold State.takeTime
  split
  · exact hk
  · exact .ite hk (.parentTime (.adoptInterval (.modSpan (.shiftSpan hk))))

theorem Kept.alignTo {n m h len stamp} : Kept (s.alignTo n m h len stamp) := .modSpan hk

theorem Kept.spanHeard {n} : Kept (s.spanHeard n) := .modSpan (.bump hk)

theorem Kept.spanTake {r h payload} : Kept (s.spanTake r h payload) :=
  .iteOn (.spanAcked (.memberUp (.modMember (.modSpan (.spanHeard hk))))) (fun hk => .upd hk) id

theorem Kept.answerAlive {n band} : Kept (s.answerAlive n band) := by
  unfold State.answerAlive
  dsimp only
  split
  · exact .ite (.sendAlive hk) hk
  · exact hk

theorem Kept.setWindow {n sel w} : Kept (s.setWindow n sel w) := .modSpan hk

theorem Kept.spanWindowed {r h payload} {before after : State → State} (hb : ∀ s, Kept s → Kept (before s))
    (ha : ∀ s, Kept s → Kept (after s)) : Kept (s.spanWindowed r h payload before after) := by
  unfold State.spanWindowed
  dsimp only
  split
  · exact .bump hk
  · exact .bump hk
  · exact ha _ (.spanTake (hb _ (.setWindow hk)))

theorem Kept.answerBurst {r h m} : Kept (s.answerBurst r h m) := by
  refine .ite hk ?_
  split
  · rename_i h
    exact .ofSnd h (.drbgUse hk)
  · rename_i h
    exact .ofSnd h (.drbgUse hk)
  · rename_i h
    have hk' := Kept.ofSnd h (.drbgUse hk)
    exact .ite (.spanPlain (.spanAck (.randomBytes hk'))) (.adoptInterval (.modSpan (.alignTo (.spanPlain (.spanAck
      (.randomBytes hk'))))))

theorem Kept.oweAlive {n} : Kept (s.oweAlive n) := by
  unfold State.oweAlive
  split
  · exact .ite (.sendAlive hk) (.modSpan hk)
  · exact hk

theorem Kept.spanAtR {r h m payload} : Kept (s.spanAtR r h m payload) := by
  unfold State.spanAtR
  dsimp only
  split
  · exact hk
  · refine .ite (.answerBurst (.spanHeard hk)) ?_
    split
    · exact .ite (.answerAlive (.takeTime (.spanTake (.modMember (.spanUp (.alignTo (.setWindow hk))))))) hk
    · exact hk
  · exact .ite (.spanWindowed hk (fun _ hk => .alignTo hk) fun _ hk => .spanBack (.oweAlive (.takeTime hk))) hk
  · exact .spanWindowed hk (fun _ hk => hk) fun _ hk => .answerAlive (.takeTime hk)

theorem Kept.spanAtT {r h payload} : Kept (s.spanAtT r h payload) := by
  unfold State.spanAtT
  dsimp only
  split
  · exact hk
  · refine .ite ?_ hk
    split
    · exact .spanUp (.spanTake (.modSpan (.setWindow hk)))
    · exact hk
  · exact .ite (.spanWindowed hk (fun _ hk => hk) fun _ hk => hk) hk
  · exact .ite (.spanWindowed hk (fun _ hk => hk) fun _ hk => .spanBack hk) hk

theorem Kept.roleConflict {n} : Kept (s.roleConflict n) := .ite hk (.raise (.bump (.modSpan hk)))

theorem Kept.burstAtT {r h m payload} : Kept (s.burstAtT r h m payload) := by
  have again : Kept (s.spanWindowed r h payload id (fun s =>
      let s := s.roleConflict r.span
      if (s.span r.span).isT then s
      else
        let s := (s.alignTo r.span m h r.octets.length r.stamp).takeTime r.span m h r.octets.length r.stamp
        if (s.span r.span).phase = .resync then (s.oweAlive r.span).spanBack r.span else s)) :=
    .spanWindowed hk (fun _ hk => hk) fun _ hk =>
      .ite (.roleConflict hk) (.ite (.spanBack (.oweAlive (.takeTime (.alignTo (.roleConflict hk)))))
        (.takeTime (.alignTo (.roleConflict hk))))
  unfold State.burstAtT
  dsimp only
  split
  · exact hk
  · exact .ite (.spanHeard (.roleConflict hk)) (.spanAtR (.roleConflict hk))
  · exact again
  · exact again

theorem Kept.spanCheck {id} : Kept (s.spanCheck id) := by
  unfold State.spanCheck
  split
  · exact hk
  · dsimp only
    split
    · split
      · exact .rimeFreeFor (.upd hk)
      · split
        · exact .bump (.bump (.useBlocks (.countUse (.rimeFreeFor (.upd hk)))))
        · exact .iteOn (.bump (.useBlocks (.countUse (.rimeFreeFor (.upd hk))))) (fun hk => .spanAtR hk) fun hk => .ite
            (.burstAtT hk) (.spanAtT hk)
    · exact .rimeFreeFor (.upd hk)

theorem KeptOut.execAcquireEchoTimeout {span} : KeptOut (Machine.execAcquireEchoTimeout span s) := by
  refine .next ?_
  split
  · exact .ite (.modSpan hk) hk
  · exact hk

theorem KeptOut.execKeyOverlapEnd {span} : KeptOut (Machine.execKeyOverlapEnd span s) := by
  refine .next ?_
  dsimp only
  split
  · exact .ite (.raise (.modSpan hk)) hk
  · exact hk

theorem Kept.spanOpenBody {q} : Kept (Machine.spanOpenBody q s).2 := by
  unfold Machine.spanOpenBody
  dsimp only
  split
  · exact hk
  · refine .iteSnd hk (.iteSnd hk (.iteSnd hk (.iteSnd hk (.iteSnd hk ?_))))
    split
    · exact hk
    · exact hk
    · refine .iteSnd hk (.foldl (.setSpan (.clearBank hk)) fun _ _ hk => ?_)
      split
      · exact .firstUse hk
      · exact hk

theorem Kept.withSpan {f q} (hf : ∀ n q s, Kept s → Kept (f n q s).2) : Kept (Machine.withSpan f q s).2 :=
  .iteSnd hk (.iteSnd hk (hf _ _ _ hk))

theorem Kept.spanCloseBody {q} : Kept (Machine.spanCloseBody q s).2 :=
  .withSpan hk fun _ _ _ hk => .domainStopped (.upd (.foldl (.spanSilence (.spanFlush hk)) fun _ _ hk => .rimeFreeFor hk))

theorem Kept.memberChange {n band r set} : Kept (Machine.memberChange n band r set s).2 := by
  unfold Machine.memberChange
  split
  · split
    · exact hk
    · rename_i h
      exact KeptOk.stage hk _ h
  · exact .ite (.applyMembers (.modSpan hk)) (.modSpan hk)

theorem Kept.memberSetBody {q} : Kept (Machine.memberSetBody q s).2 := by
  refine .withSpan hk fun _ _ _ hk => ?_
  dsimp only
  split
  · exact hk
  · refine .iteSnd hk (.memberChange ?_)
    split
    · exact .firstUse hk
    · exact hk

theorem Kept.memberDropBody {q} : Kept (Machine.memberDropBody q s).2 :=
  .withSpan hk fun _ _ _ hk => .iteSnd hk (.iteSnd hk (.memberChange hk))

theorem Kept.keyRollBody {q} : Kept (Machine.keyRollBody q s).2 := by
  refine .withSpan hk fun _ _ _ hk => .iteSnd hk (.iteSnd hk (.iteSnd hk ?_))
  split
  · exact hk
  · exact .modSpan hk

theorem Kept.windowHigh {n sel} : Kept (s.windowHigh n sel).2 := by
  unfold State.windowHigh
  split
  · exact hk
  · exact .draw hk

theorem Kept.spanStatusBody {q} : Kept (Machine.spanStatusBody q s).2 :=
  .withSpan hk fun _ _ _ hk => .windowHigh (.windowHigh (.roundOpen hk))

/-! ### Plan locks, ramps and the end of an emission -/

theorem Kept.segmentIe {net} : Kept (s.segmentIe net) := .setNet hk

theorem Kept.putGroup {x g} : Kept (s.putGroup x g) := .setRadio hk

theorem Kept.lockGroup {x g} : Kept (s.lockGroup x g) := by
  unfold State.lockGroup
  dsimp only
  refine .watchSubs (.iteOn (.setRadio (.foldl (.decidePower (.project (.foldl (.foldl hk fun _ _ hk => .dropPending (.bump hk))
    fun _ _ hk => ?_))) fun _ _ hk => .dropPending (.bump hk))) id fun hk => .putGroup hk)
  split
  · exact .segmentIe hk
  · exact hk

theorem KeptOut.execPlanLock {radio late} : KeptOut (Machine.execPlanLock radio late s) := by
  refine .next (.ite hk ?_)
  dsimp only
  split
  · exact .foldl hk fun _ _ hk => .dropPending (.bump hk)
  · exact .lockGroup (.foldl hk fun _ _ hk => .dropPending (.bump hk))

theorem Kept.setGroup {x g} : Kept (s.setGroup x g) := .setRadio hk

theorem KeptOut.execCoexReqLead {portB receive} : KeptOut (Machine.execCoexReqLead portB receive s) := by
  refine .next ?_
  split
  · exact hk
  · refine .ite (.ite (.setCoex hk) hk) ?_
    split
    · exact hk
    · exact .ite hk (.setCoex hk)

theorem KeptOut.execCoexGntSample {portB gnt} : KeptOut (Machine.execCoexGntSample portB gnt s) := by
  refine .next ?_
  split
  · exact hk
  · exact .ite (.setCoex hk) hk

theorem KeptOut.execCoexGntRise {portB} : KeptOut (Machine.execCoexGntRise portB s) := by
  refine .next ?_
  split
  · exact hk
  · exact .ite (.setCoex hk) hk

theorem KeptOut.execCoexGntFall {portB} : KeptOut (Machine.execCoexGntFall portB s) := by
  refine .next ?_
  split
  · exact hk
  · dsimp only
    split
    · exact .setCoex hk
    · exact .ite (.iteOn (.bump (.setCoex hk)) (fun hk => .cutGroup hk) id) (.setCoex hk)

theorem KeptOut.execCoexReqRise {portB pri} : KeptOut (Machine.execCoexReqRise portB pri s) := by
  refine .next ?_
  split
  · exact hk
  · exact .setCoex hk

theorem KeptOut.execCoexReqFall {portB} : KeptOut (Machine.execCoexReqFall portB s) := by
  refine .next ?_
  split
  · exact hk
  · exact .setCoex hk

theorem KeptOut.execCoexMaxGrantExpiry {portB} : KeptOut (Machine.execCoexMaxGrantExpiry portB s) := by
  refine .next ?_
  split
  · exact hk
  · exact .ite (.setCoex hk) hk

theorem Kept.rampPower {x g} : Kept (s.rampPower x g).2 := by
  unfold State.rampPower
  dsimp only
  exact .foldl (.decidePower hk) fun _ _ hk => .unsent (.bump hk)

theorem Kept.takeAir {x g} : Kept (s.takeAir x g) :=
  .iteOn (.iteOn (.setBb (.setRadio (.moveRadio (.setGroup (.iteOn (.bumpBy (.bumpBy (.bump (.bumpBy hk)))) (fun hk => .bumpBy
    hk) id))))) (fun hk => .upd hk) id) (fun hk => .blankLanes hk) id

theorem Kept.dropReqs {x} : Kept (s.dropReqs x) := .foldl hk fun _ _ hk => .ite hk (.setCoex hk)

theorem Kept.endGroup {x} : Kept (s.endGroup x) := by
  unfold State.endGroup
  dsimp only
  split
  · exact .dropReqs (.setGroup hk)
  · exact .dropReqs (.foldl (.setRadio hk) fun _ _ hk => .unsent (.bump hk))

theorem Kept.keyGroup {x g} : Kept (s.keyGroup x g) :=
  .iteOn (.ite (.endGroup (.rampPower hk)) (.takeAir (.rampPower hk))) id fun hk => .watchSubs hk

theorem Kept.skipGroup {x g h} : Kept (s.skipGroup x g h) := .foldl (.endGroup hk) fun _ _ hk => .unsent (.bump hk)

theorem Kept.backToLock {x g} : Kept (s.backToLock x g) := .watchSubs (.setRadio (.endGroup hk))

theorem Kept.startGroup {x g} : Kept (s.startGroup x g) :=
  .ite (.watchSubs (.skipGroup hk)) (.ite (.backToLock hk) (.keyGroup hk))

theorem KeptOut.execEmissionStart {radio} : KeptOut (Machine.execEmissionStart radio s) := by
  refine .next ?_
  split
  · exact hk
  · refine .ite hk ?_
    split
    · exact .setGroup hk
    · exact .startGroup hk

theorem KeptOut.execEmissionDeferredStart {radio} : KeptOut (Machine.execEmissionDeferredStart radio s) := by
  refine .next ?_
  split
  · exact hk
  · exact .ite (.startGroup hk) hk

theorem Kept.skipCarrier {x g c} : Kept (s.skipCarrier x g c) :=
  .watchSubs (.iteOn (.unsent (.bump hk)) (fun hk => .endGroup hk) fun hk => .setGroup hk)

theorem Kept.skipFollower {x e} : Kept (s.skipFollower x e) := .watchSubs (.unsent (.bump (.setRadio hk)))

theorem KeptOut.execEmissionLatestStart {radio emission} : KeptOut (Machine.execEmissionLatestStart radio emission s) := by
  refine .next ?_
  dsimp only
  split
  · exact .ite (.dropPending (.bump hk)) hk
  · split
    · exact .ite (.skipFollower hk) hk
    · split
      · exact hk
      · split
        · exact .ite hk (.skipCarrier hk)
        · exact hk

theorem Kept.freezeLate : Kept s.freezeLate := .foldl hk fun _ _ hk => .setRadio hk

theorem Kept.ackWindow {net cell t} : Kept (s.ackWindow net cell t) := .upd hk

theorem Kept.clientSent {net c k cell stamp air} : Kept (s.clientSent net c k cell stamp air) := by
  unfold State.clientSent
  dsimp only
  split
  · exact hk
  · split
    · exact hk
    · exact .txStamp (.iteOn (.modCtx (.ctxCount hk)) (fun hk => .ackWindow (.setNet hk)) fun hk => .countSent hk)

theorem Kept.ownerSent {x stamp e} : Kept (s.ownerSent x stamp e) := by
  unfold State.ownerSent
  split
  · exact .clientSent hk
  · exact .bump hk
  · split
    · exact .txStamp (.countSent (.setNet hk))
    · exact hk
  · split
    · exact .txStamp (.iteOn (.modSpan (.bump hk)) (fun hk => .countSent (.shaperCharge hk)) id)
    · exact hk
  · exact hk

theorem Kept.rampDown {x g} : Kept (s.rampDown x g) :=
  .endGroup (.iteOn (.noteBusy (.iteOn (.setRadio (.iteOn (.chargeGroup (.setGroup hk)) (fun hk => .moveRadio hk) id)) (fun hk
    => .upd hk) id)) (fun hk => .noteBusy (.setRadio hk)) id)

theorem KeptOut.execEmissionEnd {radio} : KeptOut (Machine.execEmissionEnd radio s) := by
  refine .next ?_
  split
  · exact hk
  · refine .ite hk ?_
    split
    · exact .foldl (.rampDown hk) fun _ _ hk => .unsent hk
    · exact .foldl (.rampDown hk) fun _ _ hk => .ownerSent hk

/-! ### The cipher's requests and commands -/

theorem Kept.modCheck {id f} : Kept (s.modCheck id f) := .upd hk

theorem Kept.answerAck {k x} : Kept (s.answerAck k x) := by
  refine .ite hk (.ite (.ite (.bump hk) hk) (.ite (.setRadio hk) (.ite (.bump hk) (.ite (.bump hk) (.ite hk ?_)))))
  split
  · rename_i h
    exact .setRadio (.ofSnd h (.sealFrame hk))
  · rename_i h
    exact .addEmission (.ofSnd h (.sealFrame hk))

theorem Kept.ackArrived {k} : Kept (s.ackArrived k) := by
  unfold State.ackArrived
  split
  · dsimp only
    split
    · exact .ctxCount (.ctxCount (.modCtx (.countSent (.setNet hk))))
    · exact .setNet hk
  · exact hk

theorem Kept.serveGts {k} : Kept (s.serveGts k) := by
  unfold State.serveGts
  split
  · exact .modCtx (.draw hk)
  · exact hk

theorem Kept.acceptClient {k x} : Kept (s.acceptClient k x) :=
  .iteOn (.modCtx (.levelUpdate (.syncClient (.ctxCount (.ctxCount (.bump (.modCtx (.endCheck hk)))))))) (fun hk => .ackArrived
    hk) fun hk => .ite (.answerAck (.serveGts hk)) (.answerAck (.upd hk))

theorem Kept.clientPassed {k} : Kept (s.clientPassed k) := by
  unfold State.clientPassed
  split
  · exact .endCheck hk
  · split
    · exact .ctxCount (.bump (.endCheck hk))
    · exact .ctxCount (.bump (.endCheck hk))
    · exact .ite (.ite (.raiseShort (.endCheck hk)) (.ite (.modCheck hk) (.voidSummary (.modCheck hk)))) (.acceptClient hk)

theorem Kept.afterVoid : Kept s.afterVoid := .foldl hk fun _ _ hk => .clientPassed hk

theorem Kept.beaconPassed {k e bound} : Kept (s.beaconPassed k e bound) := .parentTime (.endCheck hk)

theorem KeptOut.execTagCheckDone {check} : KeptOut (Machine.execTagCheckDone check s) := by
  refine .next (.ite hk ?_)
  split
  · exact .ite (.rimeFreeFor (.spanCheck hk)) hk
  · split
    · exact hk
    · refine .ite hk (.ite (.iteOn (.bump (.endCheck (.modCheck hk))) id fun hk => .ctxCount hk) ?_)
      split
      · exact .beaconPassed (.bump (.modCheck hk))
      · exact .clientPassed (.modCheck hk)

theorem KeptOut.execKeyShareRefresh {slot} : KeptOut (Machine.execKeyShareRefresh slot s) := by
  refine .next ?_
  split
  · refine .ite hk ?_
    split
    · rename_i h
      exact .setKey (.ofSnd h (.drbgUse hk))
    · rename_i h
      exact .ofSnd h (.drbgUse hk)
  · exact hk

theorem KeptOut.execKeyEraseDone {slot} : KeptOut (Machine.execKeyEraseDone slot s) := by
  refine .next ?_
  split
  · split
    · exact .ite hk (.release (.upd hk))
    · exact hk
  · exact hk

theorem Kept.withSlot {f q} (hf : ∀ n q s, Kept s → Kept (f n q s).2) : Kept (Machine.withSlot f q s).2 :=
  .iteSnd hk (hf _ _ _ hk)

theorem Kept.awaitSeed {q} : Kept (s.awaitSeed q) := .upd hk

theorem Kept.startLoad {ch slot usage key least} : Kept (s.startLoad ch slot usage key least).2 := by
  unfold State.startLoad
  split
  · exact .setKey hk
  · dsimp only
    split
    · exact hk
    · exact .recordFor (.upd hk)

theorem Kept.awaitHost {q} : Kept (s.awaitHost q) := .upd hk

theorem Kept.onHostQueue {f slot q} (hf : ∀ n q s, Kept s → Kept (f n q s).2) : Kept (Machine.onHostQueue f slot q s).2 :=
  .iteSnd (.awaitHost (.bumpBy hk)) (hf _ _ _ hk)

theorem Kept.unwrapUse {q} : Kept (s.unwrapUse q) := .ite hk (.useBlocks (.countUse hk))

theorem Kept.keyLoadBody {q} : Kept (Machine.keyLoadBody q s).2 := by
  refine .withSlot hk fun _ _ _ hk => .onHostQueue hk fun _ _ _ hk => .iteSnd hk (.iteSnd hk ?_)
  split
  · exact .ite (.bump (.unwrapUse hk)) hk
  · split
    · rename_i h
      exact .ofSnd h (.drbgUse (.unwrapUse hk))
    · rename_i h
      exact .awaitSeed (.ofSnd h (.drbgUse (.unwrapUse hk)))
    · rename_i h
      exact .startLoad (.useBlocks (.ofSnd h (.drbgUse (.unwrapUse hk))))

theorem Kept.keyEraseBody {q} : Kept (Machine.keyEraseBody q s).2 := by
  refine .withSlot hk fun _ _ _ hk => ?_
  split
  · exact hk
  · exact .iteSnd hk (.iteSnd hk (.setKey hk))

theorem Kept.keyInfoBody {q} : Kept (Machine.keyInfoBody q s).2 := by
  refine .withSlot hk fun _ _ _ hk => ?_
  dsimp only
  split
  · exact .draw hk
  · exact hk

theorem Kept.hostUse {slot n} : Kept (s.hostUse slot n) := .useBlocks (.countUse (.bump hk))

theorem Kept.rawBody {q} : Kept (Machine.rawBody q s).2 := by
  refine .withSlot hk fun _ _ _ hk => .onHostQueue hk fun _ _ _ hk => .iteSnd hk (.iteSnd hk (.iteSnd hk ?_))
  split
  · exact hk
  · exact .hostUse (.winWrite hk)

theorem Kept.ctrBody {q} : Kept (Machine.ctrBody q s).2 := by
  refine .withSlot hk fun _ _ _ hk => .onHostQueue hk fun _ _ _ hk => .iteSnd hk (.iteSnd hk ?_)
  split
  · exact hk
  · exact .hostUse (.winWrite hk)

theorem Kept.cmacBody {q} : Kept (Machine.cmacBody q s).2 := by
  refine .withSlot hk fun _ _ _ hk => .onHostQueue hk fun _ _ _ hk => .iteSnd hk (.iteSnd hk ?_)
  split
  · exact hk
  · exact .hostUse hk

theorem Kept.sealOut {slot key nonce q} : Kept (s.sealOut slot key nonce q).2 := .hostUse (.bump (.winWrite hk))

theorem Kept.sealBody {q} : Kept (Machine.sealBody q s).2 := by
  refine .withSlot hk fun _ _ _ hk => .onHostQueue hk fun _ _ _ hk => ?_
  dsimp only
  split
  · exact hk
  · split
    · exact hk
    · refine .iteSnd (.sealOut hk) ?_
      split
      · rename_i h
        exact .ofSnd h (.takeCounter hk)
      · rename_i h
        exact .ofSnd h (.takeCounter hk)
      · rename_i h
        exact .sealOut (.ofSnd h (.takeCounter hk))

theorem Kept.openBody {q} : Kept (Machine.openBody q s).2 := by
  refine .withSlot hk fun _ _ _ hk => .onHostQueue hk fun _ _ _ hk => ?_
  dsimp only
  split
  · exact .rimeFreeFor hk
  · split
    · exact .rimeFreeFor hk
    · refine .iteSnd (.awaitHost (.rimeHold hk)) ?_
      split
      · exact .bump (.winWrite (.hostUse (.rimeFreeFor hk)))
      · exact .bump (.hostUse (.rimeFreeFor hk))

theorem Kept.randomBody {q} : Kept (Machine.randomBody q s).2 := by
  refine .iteSnd hk ?_
  split
  · rename_i h
    exact .ofSnd h (.drbgUse hk)
  · rename_i h
    exact .awaitSeed (.ofSnd h (.drbgUse hk))
  · rename_i h
    exact .randomBytes (.ofSnd h (.drbgUse hk))

theorem Kept.rerun {q} {body : Body} (hb : ∀ q s, Kept s → Kept (body q s).2) : Kept (s.rerun q body) := by
  unfold State.rerun
  split
  · rename_i h
    exact .release (.ofSnd h (hb _ _ hk))
  · rename_i h
    have hk' := Kept.ofSnd h (hb _ _ hk)
    split
    · exact .upd hk'
    · exact hk'

theorem Kept.hostBody {opcode q} : Kept (Machine.hostBody opcode q s).2 := by
  unfold Machine.hostBody
  split
  · exact .keyLoadBody hk
  split
  · exact .rawBody hk
  split
  · exact .ctrBody hk
  split
  · exact .cmacBody hk
  split
  · exact .sealBody hk
  · exact .openBody hk

theorem Kept.serveHost : Kept s.serveHost := .foldl (.upd hk) fun _ _ hk => .rerun hk fun _ _ hk => .hostBody hk

theorem Kept.serveDrbg : Kept s.serveDrbg := by
  refine .foldl (.upd hk) fun _ _ hk => .rerun hk fun _ _ hk => ?_
  split
  · exact .keyLoadBody hk
  · exact .randomBody hk

theorem KeptOut.execCipherRequestComplete {queue} : KeptOut (Machine.execCipherRequestComplete queue s) := by
  refine .next ?_
  split
  · exact hk
  · refine .serveHost (.retryNodes ?_)
    split
    · exact .bump (.useBlocks (.countUse (.cipherDone (.pipeOut (.upd hk)))))
    · exact .bump (.useBlocks (.countUse (.cipherDone (.pipeOut (.upd hk)))))
    · exact .useBlocks (.countUse (.cipherDone (.pipeOut (.upd hk))))

theorem KeptOut.execEntropyTestFail {test} : KeptOut (Machine.execEntropyTestFail test s) := by
  refine .next (.ite hk (.ite (.upd ?_) (.raise (.serveDrbg (.upd (.upd ?_))))))
  · split
    · exact .bump hk
    · exact .bump hk
    · exact hk
  · split
    · exact .bump hk
    · exact .bump hk
    · exact hk

/-! ### Serial lanes and ports -/

theorem Kept.portDown {p fault} : Kept (s.portDown p fault) := by
  refine .ite hk (.ite (.raise (.setEth hk)) ?_)
  dsimp only
  split
  · exact .logFault (.raise (.iteOn (.raise (.setEth hk)) (fun hk => .bump hk) id))
  · exact .raise (.iteOn (.raise (.setEth hk)) (fun hk => .bump hk) id)

theorem Kept.laneGone {i lost fault} : Kept (s.laneGone i lost fault) := by
  refine .ite (.portDown hk) (.cascLaneLost ?_)
  split
  · exact .logFault hk
  · exact hk

theorem Kept.laneDrop {i target cause lost fault} : Kept (s.laneDrop i target cause lost fault) :=
  .ite (.laneGone (.raise (.setSerLane hk))) (.setSerLane hk)

theorem Kept.laneLoss {i lockLost lost extra} : Kept (s.laneLoss i lockLost lost extra) :=
  .laneDrop (.ite (.bump (.ite hk (.setSerLane hk))) (.bump (.ite hk (.setSerLane hk))))

theorem Kept.retrain {i} : Kept (s.retrain i) := .ite (.laneDrop hk) (.raise (.laneDrop hk))

theorem Kept.laneDeclared {i changed} : Kept (s.laneDeclared i changed) :=
  .ite (.setSerLane (.laneDrop hk)) (.ite (.setSerLane hk) (.ite (.retrain hk) hk))

theorem Kept.withLane {f q} (hf : ∀ n q s, Kept s → Kept (f n q s).2) : Kept (Machine.withLane f q s).2 :=
  .iteSnd hk (.iteSnd hk (.iteSnd hk (hf _ _ _ hk)))

theorem Kept.laneTestBody {q} : Kept (Machine.laneTestBody q s).2 :=
  .withLane hk fun _ _ _ hk => .iteSnd hk (.iteSnd hk (.iteSnd (.ite (.setSerLane hk) hk) (.setSerLane (.laneDrop hk))))

theorem Kept.lanePrbsBody {bits errors q} : Kept (Machine.lanePrbsBody bits errors q s).2 :=
  .iteSnd hk (.iteSnd hk (.setSerLane hk))

theorem Kept.laneStatusBody {invalid q} : Kept (Machine.laneStatusBody invalid q s).2 := .iteSnd hk (.setSerLane hk)

theorem KeptOut.execEthLinkChange {port up speed abilities anFail} : KeptOut (Machine.execEthLinkChange port up speed abilities anFail s) :=
  .next (.ite hk (.ite (.bump (.portDown (.setEth hk))) (.ite (.portDown (.setEth hk)) (.ite hk (.raise (.setEth hk))))))

theorem Kept.ethStatusBody {q} : Kept (Machine.ethStatusBody q s).2 := .iteSnd hk hk

theorem Kept.ethCountersBody {q} : Kept (Machine.ethCountersBody q s).2 := .iteSnd hk (.iteSnd hk (.countersReply hk))

theorem Kept.mdioBody {act q} (hf : ∀ q s, Kept s → Kept (act q s).2) : Kept (Machine.mdioBody act q s).2 := by
  unfold Machine.mdioBody
  split
  · exact hk
  · exact .iteSnd hk (.iteSnd hk (.iteSnd hk (.iteSnd hk (.iteSnd hk (hf _ _ (.upd hk))))))

theorem Kept.noteMdio {q v} : Kept (s.noteMdio q v) := .upd hk

/-! ### Parameters -/

theorem Kept.putParam {id v} : Kept (s.putParam id v) := .upd hk

theorem Kept.setXo {v} : Kept (s.setXo v) := .putParam (.upd (.fold hk))

theorem Kept.setAonTimer {v} : Kept (s.setAonTimer v) := .ite hk (.putParam (.upd hk))

theorem Kept.followParent {n} : Kept (s.followParent n) := .ite hk (.setNet hk)

theorem Kept.setParam {id v} : Kept (s.setParam id v) :=
  .ite (.followParent (.followParent (.changeSource (.putParam hk)))) (.ite (.setXo hk) (.ite (.setAonTimer hk) (.ite (.putParam
    (.retuneThaw hk)) (.ite (.putParam (.keepThaw hk)) (.ite (.putParam (.freezeLate hk)) (.ite (.ite (.domainStopped (.putParam
    hk)) (.putParam hk)) (.ite (.ite (.retrain (.putParam hk)) (.putParam hk)) (.ite (.ite (.retrain (.putParam hk)) (.putParam
    hk)) (.ite (.ite (.modSpan (.putParam hk)) (.putParam hk)) (.ite (.watchSubs (.putParam hk)) (.putParam hk)))))))))))

theorem Kept.setParams {l} : Kept (s.setParams l) := .foldl hk fun _ _ hk => .setParam hk

/-! ### The table block -/

theorem Kept.fdbPut {p i e} : Kept (s.fdbPut p i e) := .setFdb hk

theorem Kept.fdbRead {t} : Kept (s.fdbRead t).2 := by
  unfold State.fdbRead
  split
  · exact hk
  · exact hk

theorem Kept.fdbWrite {t} : Kept (s.fdbWrite t).2 := by
  unfold State.fdbWrite
  dsimp only
  split
  · exact hk
  · refine .iteSnd hk ?_
    split
    · exact .iteSnd (.fdbPut hk) hk
    · exact .fdbPut hk

theorem Kept.fdbInsert {t} : Kept (s.fdbInsert t).2 := by
  unfold State.fdbInsert
  dsimp only
  split
  · exact hk
  · refine .iteSnd hk ?_
    split
    · exact hk
    · exact .fdbPut hk

theorem Kept.fdbDelete {t} : Kept (s.fdbDelete t).2 := by
  unfold State.fdbDelete
  dsimp only
  split
  · exact .setFdb hk
  · exact hk

theorem Kept.fdbScan {t} : Kept (s.fdbScan t).2 := by
  unfold State.fdbScan
  dsimp only
  split
  · exact .ite (.bump (.setFdb hk)) hk
  · exact hk

theorem Kept.routeOp {t} : Kept (s.routeOp t).2 :=
  .iteSnd hk (.iteSnd (.iteSnd hk (.upd hk)) (.iteSnd (.iteSnd hk (.iteSnd hk (.upd hk))) (.iteSnd (.iteSnd hk (.upd hk)) hk)))

theorem Kept.hopOp {t} : Kept (s.hopOp t).2 := .iteSnd hk (.iteSnd hk (.upd hk))

theorem Kept.vlanOp {t} : Kept (s.vlanOp t).2 := .iteSnd hk (.upd hk)

theorem Kept.portOp {t} : Kept (s.portOp t).2 := .iteSnd hk (.upd hk)

theorem Kept.tblDo {t} : Kept (s.tblDo t).2 :=
  .iteSnd hk (.iteSnd (.iteSnd (.fdbRead hk) (.iteSnd (.fdbWrite hk) (.iteSnd (.fdbInsert hk) (.iteSnd (.fdbDelete hk) (.iteSnd
    (.fdbRead hk) (.fdbScan hk)))))) (.iteSnd (.routeOp hk) (.iteSnd (.hopOp hk) (.iteSnd (.vlanOp hk) (.portOp hk)))))

theorem Kept.tblStage {t handle} : Kept (s.tblStage t handle).2 := by
  refine .iteSnd hk (.iteSnd hk ?_)
  split
  · rename_i h
    exact KeptOk.stageAny hk _ h
  · exact hk

theorem Kept.setBlk {b} : Kept (s.setBlk b) := .upd hk

theorem Kept.blkStart {b} : Kept (s.blkStart b) := .setBlk hk

theorem Kept.blkWrite {w v} : Kept (s.blkWrite w v) :=
  .ite hk (.ite (.setBlk hk) (.ite (.ite (.blkStart hk) (.setBlk hk)) (.ite (.setBlk hk) (.ite (.setBlk hk) (.setBlk hk)))))

theorem Kept.tblAct {op} : Kept (s.tblAct op) := by
  unfold State.tblAct
  dsimp only
  split
  · refine .ite (.setBlk ?_) hk
    split
    · exact .tblStage hk
    · exact .tblDo hk
  · exact hk

theorem KeptOut.execTblCmdCompletion : KeptOut (Machine.execTblCmdCompletion s) := by
  refine .next ?_
  dsimp only
  split
  · exact hk
  · exact .setBlk hk

/-! ### Staged sets at their boundary -/

theorem KeptOk.memberWrite {at_ n band r} : KeptOk (s.memberWrite at_ n band r) := by
  refine .ite .error ?_
  split
  · split
    · exact .error
    · exact .ok (.modSpan hk)
  · exact .ite .error (.ok (.modSpan hk))

theorem KeptOk.otherWrite {atBoundary at_ w} : KeptOk (State.otherWrite atBoundary at_ s w) := by
  unfold State.otherWrite
  split
  · exact .ok hk
  · exact .ok (.setFrame hk)
  · split
    · exact .error
    · exact .ok (.upd hk)
  · exact .ok (.deleteCell hk)
  · exact .memberWrite hk
  · exact .ite (.ok hk) (.ite (.ok (.tblDo hk)) .error)
  · exact .ite .error (.ok (.setShaper hk))
  · exact .ok (.setMeter hk)
  · exact .ok (.setGates hk)

theorem KeptOk.otherWrites {atBoundary at_ ws} : KeptOk (State.otherWrites atBoundary at_ ws s) := by
  induction ws generalizing s with
  | nil => exact .ok hk
  | cons w ws ih =>
    unfold State.otherWrites
    split
    · exact .error
    · rename_i h
      exact ih (KeptOk.otherWrite hk _ h)

theorem Kept.overlayRecord {x} : Kept (s.overlayRecord x) := by
  unfold State.overlayRecord
  split
  · exact hk
  · exact .recordFor hk

theorem KeptOk.runSet {x at_} : KeptOk (s.runSet x at_) := by
  unfold State.runSet
  dsimp only
  split
  · exact .error
  · exact .error
  · split
    · exact .error
    · rename_i h
      have hk' := KeptOk.otherWrites (.setParams hk) _ h
      exact .ok (.overlayRecord (.ite (.applyMembers hk') hk'))

theorem Kept.calve {h x at_} : Kept (s.calve h x at_) := by
  unfold State.calve
  dsimp only
  split
  · rename_i h
    exact .raiseCalved (KeptOk.runSet (.upd hk) _ h)
  · exact .raiseCalved (.upd hk)

/-! ### Writes to non-volatile memory -/

theorem Kept.dropUnwritten {id} : Kept (s.dropUnwritten id) := .ite (.upd hk) hk

theorem Kept.dropLoads {l} : Kept (s.dropLoads l) := by
  refine .foldl hk fun _ _ hk => ?_
  split
  · exact .upd hk
  · exact hk

theorem Kept.failCommand {ch} : Kept (s.failCommand ch) :=
  .release (.foldl (.dropLoads (.upd hk)) fun _ _ hk => .dropUnwritten hk)

theorem Kept.dropVoidWaits : Kept s.dropVoidWaits := .foldl hk fun _ _ hk => .raiseShort (.endCheck hk)

theorem Kept.noteHeld {w} : Kept (s.noteHeld w) :=
  .iteOn (.ite (.dropVoidWaits hk) hk) id fun hk => .iteOn (.ite (.bump (.upd hk)) (.upd hk)) id fun hk => .ite (.raiseShort
    (.draw hk)) (.raiseShort hk)

theorem Kept.holdWrite {w} : Kept (s.holdWrite w) := by
  unfold State.holdWrite
  dsimp only
  split
  · exact .noteHeld (.foldl hk fun _ _ hk => .failCommand hk)
  · exact .foldl hk fun _ _ hk => .failCommand hk

theorem Kept.holdHeads {fuel} : Kept (State.holdHeads fuel s) := by
  induction fuel generalizing s with
  | zero => exact hk
  | succ fuel ih =>
    unfold State.holdHeads
    split
    · exact hk
    · exact ih (.holdWrite hk)

theorem Kept.beginWrite {w} : Kept (s.beginWrite w) := .upd hk

theorem Kept.beginFlushed {w} : Kept (s.beginFlushed w) := .upd (.beginWrite hk)

theorem Kept.startAny : Kept s.startAny := by
  unfold State.startAny
  dsimp only
  split
  · exact .beginWrite (.holdHeads hk)
  · exact .holdHeads hk

theorem Kept.endFlush {written left} : Kept (s.endFlush written left) := .raise (.upd hk)

theorem Kept.startWrite : Kept s.startWrite := by
  refine .ite hk ?_
  dsimp only
  split
  · split
    · exact .ite (.beginFlushed (.upd hk)) (.endFlush (.holdWrite (.upd hk)))
    · exact .endFlush (.upd hk)
  · exact .endFlush (.upd hk)
  · exact .startAny (.upd hk)

theorem Kept.marksWritten {l} : Kept (s.marksWritten l) := .bump (.upd hk)

theorem Kept.asnWritten {n mark} : Kept (s.asnWritten n mark) := .setNet hk

theorem Kept.voidWritten : Kept s.voidWritten := by
  unfold State.voidWritten
  dsimp only
  split
  · exact .raise (.upd (.afterVoid (.bump hk)))
  · exact .afterVoid (.bump hk)

theorem Kept.finalWritten : Kept s.finalWritten := .ite (.voidSummary hk) hk

theorem Kept.faultsWritten {l} : Kept (s.faultsWritten l) := .bumpBy (.upd hk)

theorem Kept.contentWritten {id d} : Kept (s.contentWritten id d) := by
  unfold State.contentWritten
  split
  · exact .marksWritten hk
  · exact .asnWritten hk
  · exact .bump hk
  · exact .voidWritten hk
  · exact .finalWritten hk
  · split
    · exact .ite (.setCasc hk) hk
    · exact hk
  · exact .faultsWritten hk
  · exact hk
  · exact .ite (.bump (.upd hk)) hk

theorem Kept.fwWritten {f} : Kept (s.fwWritten f) := .release (.raise (.bump (.updFw hk)))

theorem Kept.fwPieceWritten : Kept s.fwPieceWritten := by
  unfold State.fwPieceWritten
  split
  · exact hk
  · exact .ite (.fwWritten hk) (.pushNv (.updFw hk))

theorem Kept.copyDropped {id o} : Kept (s.copyDropped id o) := .ite (.dropUnwritten (.upd hk)) (.upd (.upd hk))

theorem Kept.keyLoaded {slot} : Kept (s.keyLoaded slot) := by
  unfold State.keyLoaded
  split
  · exact .setKey (.upd hk)
  · exact hk

theorem Kept.ownerWritten {w o} : Kept (s.ownerWritten w o) := by
  unfold State.ownerWritten
  split
  · exact hk
  · exact .setParams hk
  · exact hk
  · exact .raise hk
  · exact .copyDropped hk
  · exact .fwPieceWritten hk
  · exact .watchSubs (.raise hk)
  · exact .keyLoaded hk

theorem Kept.releaseDone {w tlvs} : Kept (s.releaseDone w tlvs) := .foldl hk fun _ _ hk => .ite hk (.release hk)

theorem Kept.flushStep {id} : Kept (s.flushStep id) := by
  unfold State.flushStep
  split
  · exact .ite hk (.ite (.endFlush hk) (.upd hk))
  · exact hk

theorem Kept.writeDone {w} : Kept (s.writeDone w) :=
  .iteOn (.iteOn (.releaseDone (.iteOn (.foldl (.ite (.upd (.bump (.upd hk))) (.bump (.upd hk))) fun _ _ hk => .ownerWritten hk)
    (fun hk => .contentWritten hk) id)) (fun hk => .flushStep hk) id) (fun hk => .retryWaits (.retryWaits (.retryNodes hk))) id

theorem KeptOut.execNvWriteComplete : KeptOut (Machine.execNvWriteComplete s) := by
  refine .next ?_
  split
  · exact .ite (.writeDone hk) hk
  · exact hk

theorem KeptOut.execMainsFall : KeptOut (Machine.execMainsFall s) :=
  .next (.ite hk (.iteOn (.raise (.latchWake (.upd hk))) id fun hk => .iteOn (.foldl hk fun _ _ hk => .recordDue hk) (fun hk =>
    .endFlush hk) fun hk => .upd hk))

theorem Kept.raiseWarning {below} : Kept (s.raiseWarning below) := .raise hk

theorem Kept.holdupFell : Kept s.holdupFell := .askFinal (.raiseWarning (.latchWake (.upd hk)))

theorem Kept.startStore {ch id place len b} : Kept (s.startStore ch id place len b).2 := by
  unfold State.startStore
  split
  · exact hk
  · exact .pushNv (.upd hk)

theorem Kept.nvStoreBody {q} : Kept (Machine.nvStoreBody q s).2 := by
  refine .iteSnd hk (.iteSnd hk (.iteSnd hk (.iteSnd hk ?_)))
  dsimp only
  split
  · exact .iteSnd hk (.startStore hk)
  · split
    · exact hk
    · exact .startStore hk

theorem Kept.nvReadBody {q} : Kept (Machine.nvReadBody q s).2 := by
  refine .iteSnd hk ?_
  split
  · exact .iteSnd hk (.winWrite hk)
  · exact hk

theorem Kept.nvDeleteBody {q} : Kept (Machine.nvDeleteBody q s).2 := by
  refine .iteSnd hk (.iteSnd hk ?_)
  split
  · exact hk
  · exact .pushNv hk

theorem Kept.nvStatusBody {q} : Kept (Machine.nvStatusBody q s).2 := hk

/-! ### Reset -/

theorem Kept.settleNv {cause} : Kept (s.settleNv cause) := by
  unfold State.settleNv
  split
  · exact hk
  · exact .ite (.writeDone hk) (.ite (.upd hk) (.upd hk))

omit hk in
/-- A reset empties the memories and the counters, whatever they held. -/
theorem Kept.deviceReset {cause} : Kept (s.deviceReset cause) := ⟨rfl, rfl, rfl, fun _ h => absurd h List.not_mem_nil⟩

theorem Kept.writeFaults : Kept s.writeFaults := .ite hk (.contentWritten (.bump (.upd hk)))

omit hk in
theorem Kept.faultReset {cause} : Kept (s.faultReset cause) := .deviceReset

theorem KeptOut.execBootImageCheckDone {okA okB} : KeptOut (Machine.execBootImageCheckDone okA okB s) := by
  refine .next (.ite hk ?_)
  dsimp only
  split
  · exact .setBoot hk
  · exact .upd hk

theorem KeptOut.execEotreReady {image} : KeptOut (Machine.execEotreReady image s) := by
  refine .next (.ite hk (.foldl (.reportThaw (.ite ?_ (.recordDue ?_))) fun _ _ hk => .refuseUnknown hk))
  · split
    · exact .iteOn (.iteOn (.raise (.setBoot (.upd hk))) (fun hk => .raise hk) id) (fun hk => .raise hk) id
    · exact .iteOn (.raise (.setBoot (.upd hk))) (fun hk => .raise hk) id
  · split
    · exact .iteOn (.iteOn (.raise (.setBoot (.upd hk))) (fun hk => .raise hk) id) (fun hk => .raise hk) id
    · exact .iteOn (.raise (.setBoot (.upd hk))) (fun hk => .raise hk) id

/-! ### Sleep and waking -/

theorem Kept.watchIdle : Kept s.watchIdle := .upd hk

theorem Kept.pass : Kept s.pass := .reportThaw (.watchIdle (.countOps (.tick hk)))

theorem Kept.latchAll {l} : Kept (s.latchAll l) := .foldl hk fun _ _ hk => .latchWake hk

theorem Kept.dramSleep {b} : Kept (s.dramSleep b) :=
  .ite hk (.foldl hk fun _ _ hk => .ite (.bump (.setDdrChan hk)) (.setDdrChan hk))

theorem Kept.serdesDown : Kept s.serdesDown := .ite hk (.upd hk)

theorem Kept.radiosOff : Kept s.radiosOff := .foldl hk fun _ _ hk => .ite hk (.moveRadio hk)

theorem Kept.measureRatio : Kept s.measureRatio := .upd (.draw hk)

theorem Kept.sleep {p} : Kept (s.sleep p) := .upd (.measureRatio (.serdesDown (.radiosOff (.dramSleep hk))))

theorem Kept.awaken : Kept s.awaken := .raiseLate (.dramSleep (.upd (.ageCatchUp (.ablCatchUp (.sleepAdvance (.ungate hk))))))

theorem Kept.noteExit : Kept s.noteExit := .upd (.draw hk)

theorem Kept.endNap {src} : Kept (s.endNap src) :=
  .reportThaw (.iteOn (.noteExit (.bump (.bumpBy (.awaken hk)))) id fun hk => .raise hk)

theorem KeptOut.execNapEntry {during} : KeptOut (Machine.execNapEntry during s) := by
  refine .next (.ite hk ?_)
  dsimp only
  split
  · exact .bump (.endNap (.latchAll (.bump (.sleep hk))))
  · exact .latchAll (.bump (.sleep hk))

theorem Kept.prepRecord {id} : Kept (s.prepRecord id).2 := by
  unfold State.prepRecord
  dsimp only
  split
  · exact .recordDue hk
  · refine .iteSnd (.noteHeld (.recordDue hk)) ?_
    split
    · exact .writeDone (.beginWrite (.recordDue hk))
    · exact .beginWrite (.recordDue hk)

theorem Kept.prepRecords {ids} : Kept (State.prepRecords ids s).2 := by
  induction ids generalizing s with
  | nil => exact hk
  | cons id ids ih =>
    unfold State.prepRecords
    split
    · rename_i h
      exact ih (.ofSnd h (.prepRecord hk))
    · exact .prepRecord hk

theorem Kept.lanesSilent : Kept s.lanesSilent := .upd hk

theorem Kept.enterHibernate : Kept s.enterHibernate :=
  .bump (.upd (.lanesSilent (.sleep (.upd (.foldl hk fun _ _ hk => .cancelInst hk)))))

theorem Kept.afterHibernate : Kept s.afterHibernate := by
  obtain ⟨hm, hs, hw, hc⟩ := hk
  exact ⟨filter_wf _ hm, filter_wf _ hs, hw, hc⟩

theorem Kept.lanesWake : Kept s.lanesWake := .foldl hk fun _ _ hk => .ite (.setSerLane hk) hk

theorem Kept.restoreAll : Kept s.restoreAll := .voidSummary (.upd hk)

theorem Kept.dramLost : Kept s.dramLost := by
  obtain ⟨hm, hs, -, hc⟩ := hk
  have lost : ∀ {rt nets cells fw ddr sys}, fw.staged = [] →
      Kept { s with rt := rt, nets := nets, cells := cells, fw := fw, ddr := ddr, sys := sys } :=
    fun hf => ⟨hm, hs, hf ▸ rfl, hc⟩
  refine .bump (.restoreAll ?_)
  split
  · exact .startTraining (lost rfl)
  · exact lost rfl

omit hk in
theorem Kept.coldExit : Kept s.coldExit := .deviceReset

theorem Kept.endHibernate {src} : Kept (s.endHibernate src) :=
  .ite .coldExit (.reportThaw (.raise (.noteExit (.bump (.bumpBy (.iteOn (.lanesWake (.awaken (.afterHibernate hk))) id fun hk
    => .dramLost hk))))))

theorem KeptOut.execHibernatePrepare {during} : KeptOut (Machine.execHibernatePrepare during s) := by
  refine .next (.ite hk ?_)
  split
  · rename_i h
    exact .bump (.upd (.ofSnd h (.prepRecords hk)))
  · rename_i h
    have hk' := Kept.ofSnd h (.prepRecords hk)
    dsimp only
    split
    · exact .endHibernate (.bump (.latchAll (.enterHibernate hk')))
    · exact .latchAll (.enterHibernate hk')

theorem KeptOut.execAonTimerFire : KeptOut (Machine.execAonTimerFire s) := by
  refine .next (.ite hk ?_)
  split
  · exact hk
  · exact .ite hk (.latchWake (.upd hk))

theorem Kept.reportedEvent : Kept s.reportedEvent.2 := by
  unfold State.reportedEvent
  split
  · exact hk
  · exact .draw hk

theorem Kept.pwrStatusBody {q} : Kept (Machine.pwrStatusBody q s).2 :=
  .iteSnd hk (.iteOn (.reportedEvent hk) (fun hk => .upd hk) id)

/-! ### System commands -/

theorem Kept.sysInfoBody {q} : Kept (Machine.sysInfoBody q s).2 := hk

theorem Kept.factoryBody {q} : Kept (Machine.factoryBody q s).2 := by
  unfold Machine.factoryBody
  split
  · exact hk
  · exact hk

theorem Kept.memStatusBody {q} : Kept (Machine.memStatusBody q s).2 := hk

theorem Kept.paramGetBody {gpio q} : Kept (Machine.paramGetBody gpio q s).2 := by
  refine .iteSnd hk ?_
  split
  · exact hk
  · exact hk

theorem Kept.paramSetBody {q} : Kept (Machine.paramSetBody q s).2 := by
  unfold Machine.paramSetBody
  split
  · exact hk
  · split
    · exact .setParams hk
    · split
      · exact hk
      · exact .foldl hk fun _ _ hk => .recordFor hk

theorem Kept.paramDescribeBody {q} : Kept (Machine.paramDescribeBody q s).2 := by
  unfold Machine.paramDescribeBody
  split
  · split
    · exact hk
    · exact .iteSnd hk hk
  · exact hk
  · exact hk

/-! ### Commands on parameters and sets -/

theorem Kept.stageOpenBody {q} : Kept (Machine.stageOpenBody q s).2 := by
  unfold Machine.stageOpenBody
  split
  · exact hk
  · exact hk
  · refine .iteSnd hk ?_
    split
    · exact hk
    · exact .putSet hk

theorem Kept.withSet {f q} (hf : ∀ h x q s, Kept s → Kept (f h x q s).2) : Kept (Machine.withSet f q s).2 := by
  unfold Machine.withSet
  split
  · exact hk
  · exact hf _ _ _ _ hk

theorem Kept.withOpenSet {f q} (hf : ∀ h x q s, Kept s → Kept (f h x q s).2) : Kept (Machine.withOpenSet f q s).2 :=
  .withSet hk fun _ _ _ _ hk => .iteSnd hk (hf _ _ _ _ hk)

theorem Kept.stageWriteBody {q} : Kept (Machine.stageWriteBody q s).2 := by
  refine .withOpenSet hk fun _ _ _ _ hk => ?_
  split
  · exact hk
  · split
    · exact hk
    · exact .putSet hk

theorem Kept.stageAbortBody {q} : Kept (Machine.stageAbortBody q s).2 := .withSet hk fun _ _ _ _ hk => .iteSnd hk (.upd hk)

theorem Kept.stageStatusBody {q} : Kept (Machine.stageStatusBody q s).2 := .withSet hk fun _ _ _ _ hk => hk

theorem Kept.commitSet {h x target next} : Kept (s.commitSet h x target next).2 := by
  refine .iteSnd ?_ ?_
  · split
    · exact hk
    · exact .iteSnd hk (.calve hk)
  · split
    · exact hk
    · split
      · exact hk
      · exact .upd (.putSet hk)

theorem Kept.commitBody {q} : Kept (Machine.commitBody q s).2 :=
  .withOpenSet hk fun _ _ _ _ hk => .iteSnd hk (.iteSnd hk (.iteSnd hk (.iteSnd hk (.commitSet hk))))

theorem KeptOut.execCommitBoundary {handle} : KeptOut (Machine.execCommitBoundary handle s) := by
  refine .next ?_
  split
  · exact hk
  · exact .ite hk (.foldl hk fun _ _ hk => .ite (.calve hk) hk)

/-! ### The declared board and site -/

theorem Kept.takeBoard {b} : Kept (s.takeBoard b) :=
  .foldl (.upd (.foldl hk fun _ _ hk => .ite hk (.ite (.laneDrop hk) (.retrain hk)))) fun _ _ hk => .laneDeclared hk

theorem Kept.settleCascade : Kept s.settleCascade := .ite (.setCasc hk) (.changeSource (.setCasc hk))

theorem Kept.acceptBoard {b} : Kept (s.acceptBoard b) := by
  refine .ite (.holdupFell ?_) ?_
  · split
    · exact .startTraining (.upd (.settleCascade (.takeBoard hk)))
    · exact .iteOn (.upd (.settleCascade (.takeBoard hk))) id fun hk => .startTraining hk
  · split
    · exact .startTraining (.upd (.settleCascade (.takeBoard hk)))
    · exact .iteOn (.upd (.settleCascade (.takeBoard hk))) id fun hk => .startTraining hk

theorem Kept.boardBody {sense q} : Kept (Machine.boardBody sense q s).2 := by
  unfold Machine.boardBody
  split
  · exact hk
  · split
    · exact hk
    · exact .acceptBoard (.upd hk)

theorem Kept.pinListed {r} : Kept (s.pinListed r) := by
  unfold State.pinListed
  split
  · exact hk
  · exact .ite hk (.ite (.bump hk) (.pinResident (.modCtx hk)))

theorem Kept.assignClient {r} : Kept (s.assignClient r) := .ite (.bump hk) (.pinListed (.ite hk (.setFirn hk)))

theorem Kept.restoreClients : Kept s.restoreClients := .voidSummary (.setFirn hk)

theorem Kept.setWall {wall us} : Kept (s.setWall wall us) := .fireTriggers (.setBound (.upd (.fold hk)))

theorem Kept.firstSite {q} : Kept (s.firstSite q) := .restoreClients (.ablRestore (.ite (.setWall hk) hk))

theorem Kept.siteBody {q} : Kept (Machine.siteBody q s).2 := by
  refine .iteSnd hk ?_
  split
  · exact hk
  · exact hk
  · exact hk
  · exact .iteSnd hk (.iteSnd hk (.watchSubs (.iteOn (.foldl (.upd hk) fun _ _ hk => .assignClient hk) (fun hk => .firstSite
      hk) id)))

/-! ### Commands of the pager -/

theorem Kept.withCtx {f q} (hf : ∀ c x q s, Kept s → Kept (f c x q s).2) : Kept (Machine.withCtx f q s).2 := by
  refine .iteSnd hk ?_
  split
  · exact hk
  · exact hf _ _ _ _ hk

theorem Kept.ctxReadBody {q} : Kept (Machine.ctxReadBody q s).2 :=
  .withCtx hk fun _ _ _ _ hk => .iteSnd hk (.winWrite (.ctxBytes hk))

theorem Kept.ctxWriteBody {q} : Kept (Machine.ctxWriteBody q s).2 :=
  .withCtx hk fun _ _ _ _ hk => .iteSnd hk (.iteSnd hk (.iteSnd (.iteSnd hk (.iteSnd hk (.modCtx hk))) (.iteSnd hk (.iteSnd
    (.modCtx hk) (.iteSnd (.modCtx hk) (.iteSnd (.modCtx hk) (.modCtx hk)))))))

theorem Kept.pinBody {q} : Kept (Machine.pinBody q s).2 := by
  refine .withCtx hk fun _ _ _ _ hk => .iteSnd hk ?_
  split
  · rename_i h
    exact .ofSnd h (.pinResident (.modCtx hk))
  · rename_i h
    exact .ofSnd h (.pinResident (.modCtx hk))

theorem Kept.unpinBody {q} : Kept (Machine.unpinBody q s).2 := .withCtx hk fun _ _ _ _ hk => .modCtx hk

theorem Kept.releaseBody {q} : Kept (Machine.releaseBody q s).2 :=
  .withCtx hk fun _ _ _ _ hk => .iteSnd hk (.dropCtx (.dropWaiting (.bumpBy (.bumpBy hk))))

theorem Kept.firnSyncBody {q} : Kept (Machine.firnSyncBody q s).2 := by
  refine .iteSnd hk (.iteSnd hk ?_)
  dsimp only
  split
  · exact hk
  · exact .askFinalLast (.foldl hk fun _ _ hk => .recordFor hk)

theorem Kept.firnLookupBody {q} : Kept (Machine.firnLookupBody q s).2 := by
  refine .iteSnd hk (.iteSnd hk (.iteSnd hk (.iteSnd hk (.iteSnd hk ?_))))
  split
  · exact hk
  · exact hk

theorem Kept.firnStatusBody {q} : Kept (Machine.firnStatusBody q s).2 := .iteSnd hk (.setFirn hk)

theorem KeptOut.execFirnLoadStart : KeptOut (Machine.execFirnLoadStart s) := by
  refine .next ?_
  split
  · exact hk
  · refine .ite hk ?_
    split
    · exact .ite hk (.bump (.modLoad hk))
    · exact .modLoad (.setFirn hk)

theorem KeptOut.execFirnLoadComplete {ctx sre bad} : KeptOut (Machine.execFirnLoadComplete ctx sre bad s) := by
  refine .next ?_
  split
  · exact hk
  · refine .ite (.corruptCtx (.ite (.bump hk) hk)) ?_
    split
    · exact .ite (.bump hk) hk
    · exact .answerPins (.releaseWaiting (.placeCtx (.ite (.bump hk) hk)))

/-! ### Faults and their injection -/

theorem Kept.eccCorrected {e} : Kept (s.eccCorrected e) := by
  unfold State.eccCorrected
  split
  · exact .logCe (.bump hk)
  · exact .logCe (.bump hk)
  · exact .bump hk

theorem Kept.restartOp {inst node} : Kept (s.restartOp inst node) := by
  unfold State.restartOp
  split
  · split
    · exact hk
    · exact .setOpCore (.dispatch (.endJob hk))
  · exact hk

theorem Kept.dropBadFrame {inst} : Kept (s.dropBadFrame inst) := .cancelInst hk

theorem Kept.raiseFault {mem bank} : Kept (s.raiseFault mem bank) := .logFault (.bump (.raise hk))

theorem Kept.spoilCopy {id copyB} : Kept (s.spoilCopy id copyB) := .upd hk

theorem Kept.eccLost {e} : Kept (s.eccLost e) := by
  unfold State.eccLost
  dsimp only
  split
  · exact .cancelInst hk
  · exact .dropBadFrame hk
  · exact .corruptCtx hk
  · exact .restartOp (.raiseFault hk)
  · exact .cancelInst (.raiseFault hk)
  · exact .faultReset
  · exact .faultReset
  · exact .logFault (.spoilCopy hk)

theorem Kept.eccUncorrected {e} : Kept (s.eccUncorrected e) := .eccLost (.raise (.bump hk))

theorem Kept.fltLogBody {q} : Kept (Machine.fltLogBody q s).2 := .iteSnd hk (.winWrite hk)

theorem Kept.inject {k unit t} (h : s.inject k unit = some (some t)) : Kept t := by
  have within : ∀ {n : Nat} {r : Option State}, KeptSome r → (if unit < n then some r else none) = some (some t) → Kept t := by
    intro n r hr h
    split at h
    · exact hr t (Option.some.inj h)
    · cases h
  unfold State.inject at h
  dsimp only at h
  split at h
  · exact within (.map fun _ => .withdrawOp hk) h
  split at h
  · exact within (.some (.logCe (.bump hk))) h
  split at h
  · exact within (.ite (.some (.logCe (.bump hk))) .none) h
  split at h
  · split at h
    · cases h
    · exact within (.ite (.some (.laneLoss hk)) .none) h
  split at h
  · exact within (.ite (.some (.portDown hk)) .none) h
  · refine within ?_ h
    split
    · exact .ite (.some (.unlockSynth hk)) .none
    · exact .none

theorem Kept.fltInjectBody {q} : Kept (Machine.fltInjectBody q s).2 := by
  refine .iteSnd hk (.iteSnd hk ?_)
  split
  · exact hk
  · exact hk
  · rename_i h
    exact .bump (.inject hk h)

/-! ### Firmware -/

theorem Kept.fwStageBody {q} : Kept (Machine.fwStageBody q s).2 := by
  obtain ⟨hm, hs, hw, hc⟩ := id hk
  exact .iteSnd hk (.iteSnd hk (.iteSnd hk (.iteSnd hk ⟨hm, hs, writeBytes_wf _ _ hw, hc⟩)))

theorem Kept.fwCommitBody {q} : Kept (Machine.fwCommitBody q s).2 :=
  .iteSnd hk (.iteSnd hk (.iteSnd (.bump hk) (.iteSnd (.bump hk) (.pushNv (.updFw hk)))))

theorem Kept.fwActivateBody {q} : Kept (Machine.fwActivateBody q s).2 := .iteSnd hk (.iteSnd hk (.updFw hk))

theorem Kept.installTemplate {old t} : Kept (s.installTemplate old t) := by
  unfold State.installTemplate
  split
  · exact .updFw hk
  · exact .updFw hk

theorem Kept.installAll {l} : Kept (s.installAll l) := .foldl hk fun _ _ hk => .installTemplate hk

theorem Kept.fwConfirmBody {q} : Kept (Machine.fwConfirmBody q s).2 := .iteSnd hk (.updFw hk)

theorem Kept.fwStatusBody {q} : Kept (Machine.fwStatusBody q s).2 := hk

/-! ### The host buses -/

theorem Kept.setHif {h} : Kept (s.setHif h) := .upd hk

theorem Kept.countUnmapped : Kept s.countUnmapped := .setHif hk

theorem Kept.countOverrun : Kept s.countOverrun := .setHif hk

theorem Kept.clearHif : Kept s.clearHif := .ite (.setHif hk) (.setHif hk)

theorem Kept.readDone {a} : Kept (s.readDone a) := .ite (.countUnmapped hk) (.ite (.clearHif hk) (.ite (.upd hk) hk))

theorem Kept.writeReqPi {ch v} : Kept (s.writeReqPi ch v) := .ite hk (.ite (.countOverrun hk) (.refuseUnknown (.upd hk)))

theorem Kept.writeRspCi {ch v} : Kept (s.writeRspCi ch v) := .ite hk (.ite (.countOverrun hk) (.refuseUnknown (.upd hk)))

theorem Kept.tellLost : Kept s.tellLost := .ite hk (.raise (.upd hk))

theorem Kept.writeEvtCi {v} : Kept (s.writeEvtCi v) := .ite (.countOverrun hk) (.tellLost (.upd hk))

theorem Kept.writeRingBase {r v} : Kept (s.writeRingBase r v) := .ite hk (.setRing hk)

theorem Kept.writeRingCfg {r v} : Kept (s.writeRingCfg r v) :=
  .ite hk (.ite (.ite hk (.setRing hk)) (.ite (.countOverrun hk) (.ite (.setRing hk) (.ite (.setRing hk) (.countOverrun
    (.setRing hk))))))

theorem Kept.writeRingTail {r v} : Kept (s.writeRingTail r v) := .ite hk (.ite (.countOverrun hk) (.setRing hk))

theorem Kept.setEvs {e} : Kept (s.setEvs e) := .upd hk

theorem Kept.clearRingRx {v} : Kept (s.clearRingRx v) := .setEvs hk

theorem Kept.clearRingTx {v} : Kept (s.clearRingTx v) := .setEvs hk

theorem Kept.clearBoot : Kept s.clearBoot := .setEvs hk

theorem Kept.writeEnable {v} : Kept (s.writeEnable v) := .setEvs hk

theorem Kept.writeEvs {off v} : Kept (s.writeEvs off v) := by
  unfold State.writeEvs
  split
  · exact .ite (.clearBoot hk) hk
  · exact .writeEnable hk
  · exact .clearRingRx hk
  · exact .clearRingTx hk
  · exact .setEvs hk
  · exact .setEvs hk
  · exact hk

theorem Kept.writeIndex {off v} : Kept (s.writeIndex off v) :=
  .ite (.writeReqPi hk) (.ite (.writeRspCi hk) (.ite (.writeEvtCi hk) hk))

theorem Kept.writeRing {off v} : Kept (s.writeRing off v) := by
  unfold State.writeRing
  split
  · exact .writeRingBase hk
  · exact .writeRingCfg hk
  · exact .writeRingTail hk
  · exact hk

theorem Kept.writeWord {a v} : Kept (s.writeWord a v) :=
  .ite (.countUnmapped hk) (.ite (.ite (.upd hk) hk) (.ite (.writeIndex hk) (.ite (.writeRing hk) (.ite (.blkWrite hk) (.ite
    (.writeEvs hk) (.winWrite hk))))))

theorem Kept.access {f : State → State} (hf : ∀ s, Kept s → Kept (f s)) : Kept (s.access f) :=
  .ite (.hostRecheck (hf _ (.leaveDoze hk))) hk

theorem Kept.align {a} : Kept (s.align a) := .ite hk (.countUnmapped hk)

theorem Kept.hspiRead {a clocked} : Kept (s.hspiRead a clocked) := .ite (.setHif hk) (.readDone (.setHif hk))

theorem KeptOut.execUnmappedAccess {write addr} : KeptOut (Machine.execUnmappedAccess write addr s) := by
  refine .next (.ite hk (.access hk fun _ hk => ?_))
  split
  · exact .writeWord (.align hk)
  · exact .hspiRead (.align hk)

theorem Kept.setPtr {p} : Kept (s.setPtr p) := .setHif hk

theorem Kept.mserWord {b} : Kept (s.mserWord b) := .ite (.upd (.setPtr hk)) (.ite (.latchWake (.setPtr hk)) (.setPtr hk))

theorem Kept.mserWords {n b} : Kept (State.mserWords n b s) := by
  induction n generalizing s b with
  | zero => exact hk
  | succ n ih => exact ih (.mserWord hk)

theorem Kept.mserSend {fuel n} : Kept (State.mserSend fuel n s) := by
  induction fuel generalizing s n with
  | zero => exact hk
  | succ fuel ih => exact .ite hk (.ite (.setHif hk) (ih (.setPtr (.ite (.clearHif (.setHif hk)) (.setHif hk)))))

theorem KeptOut.execMserRead {dev pointer sent} : KeptOut (Machine.execMserRead dev pointer sent s) := by
  refine .next (.ite hk ?_)
  dsimp only
  split
  · exact .ite (.setHif hk) (.mserSend (.setPtr (.setHif hk)))
  · exact .mserSend (.setHif hk)

theorem Kept.inbandWords {n a} : Kept (State.inbandWords n a s).2 := by
  induction n generalizing s a with
  | zero => exact hk
  | succ n ih => exact ih (.readDone hk)

theorem Kept.inbandStore {n a b} : Kept (State.inbandStore n a b s) := by
  induction n generalizing s a b with
  | zero => exact hk
  | succ n ih => exact ih (.writeWord hk)

theorem Kept.inbandDo {write q} : Kept (s.inbandDo write q).2.2 :=
  .iteThd hk (.iteThd (.inbandStore (.align hk)) (.inbandWords (.align hk)))

theorem Kept.inbandServe {write q} : Kept (s.inbandServe write q) := by
  unfold State.inbandServe
  split
  · exact .setHif hk
  · exact .setHif (.inbandDo hk)

theorem Kept.inband {write q} : Kept (s.inband write q) := .ite hk (.ite (.setHif hk) (.access hk fun _ hk => .inbandServe hk))

/-! ### Every command, and every step -/

/-- Whatever the command is, what it answers keeps the form. -/
theorem KeptOut.exec : ∀ {i : Instr}, KeptOut (Machine.exec i s)
  | .hspiBadOpcode .. => .next (.ite hk (.setHif hk))
  | .hifErrRead .. => .next (.access hk fun _ hk => .hspiRead hk)
  | .unmappedAccess .. => .execUnmappedAccess hk
  | .registerWrite .. => .next (.access hk fun _ hk => .writeWord (.align hk))
  | .wakeWrite => .next (.ite (.latchWake hk) hk)
  | .mserWrite .. => .next (.ite hk (.ite (.setHif hk) (.mserWords (.setPtr (.setHif hk)))))
  | .mserRead .. => .execMserRead hk
  | .mserAddressMatch .. => .next (.ite (.setHif hk) hk)
  | .inbandRead .. => .next (.inband hk)
  | .inbandWrite .. => .next (.inband hk)
  | .mbxReqPiWrite .. => .next (.access hk fun _ hk => .writeReqPi hk)
  | .mbxRspCiWrite .. => .next (.access hk fun _ hk => .writeRspCi hk)
  | .evtCiWrite .. => .next (.access hk fun _ hk => .writeEvtCi hk)
  | .evtLostRead .. => .next (.access hk fun _ hk => .hspiRead hk)
  | .ringBaseWrite .. => .next (.access hk fun _ hk => .writeRingBase hk)
  | .ringCfgWrite .. => .next (.access hk fun _ hk => .writeRingCfg hk)
  | .ringTailWrite .. => .next (.access hk fun _ hk => .writeRingTail hk)
  | .hostTxRingFrame .. => .execHostTxRingFrame hk
  | .evsRingRxWrite .. => .next (.access hk fun _ hk => .clearRingRx hk)
  | .evsRingTxWrite .. => .next (.access hk fun _ hk => .clearRingTx hk)
  | .evsBootClear => .next (.access hk fun _ hk => .clearBoot hk)
  | .evsEnableWrite .. => .next (.access hk fun _ hk => .writeEnable hk)
  | .tblRead => .next (.ite (.tblAct hk) hk)
  | .tblWrite => .next (.ite (.tblAct hk) hk)
  | .tblInsert => .next (.ite (.tblAct hk) hk)
  | .tblDelete => .next (.ite (.tblAct hk) hk)
  | .tblSearch => .next (.ite (.tblAct hk) hk)
  | .tblAgeScan => .next (.ite (.tblAct hk) hk)
  | .tblOverrun => .next (.ite (.setBlk hk) hk)
  | .sysPing .. => .next (.serve hk fun _ _ hk => hk)
  | .sysInfoGet .. => .next (.serve hk fun _ _ hk => .sysInfoBody hk)
  | .paramGet .. => .next (.serve hk fun _ _ hk => .paramGetBody hk)
  | .paramSet .. => .next (.serve hk fun _ _ hk => .paramSetBody hk)
  | .paramDescribe .. => .next (.serve hk fun _ _ hk => .paramDescribeBody hk)
  | .stageOpen .. => .next (.serve hk fun _ _ hk => .stageOpenBody hk)
  | .stageWrite .. => .next (.serve hk fun _ _ hk => .stageWriteBody hk)
  | .stageAbort .. => .next (.serve hk fun _ _ hk => .stageAbortBody hk)
  | .commitAt .. => .next (.serve hk fun _ _ hk => .commitBody hk)
  | .stageStatus .. => .next (.serve hk fun _ _ hk => .stageStatusBody hk)
  | .commitBoundary .. => .execCommitBoundary hk
  | .boardDeclare .. => .next (.serve hk fun _ _ hk => .boardBody hk)
  | .siteDeclare .. => .next (.serve hk fun _ _ hk => .siteBody hk)
  | .nvStore .. => .next (.serve hk fun _ _ hk => .nvStoreBody hk)
  | .nvRead .. => .next (.serve hk fun _ _ hk => .nvReadBody hk)
  | .nvDelete .. => .next (.serve hk fun _ _ hk => .nvDeleteBody hk)
  | .nvStatusGet .. => .next (.serve hk fun _ _ hk => .nvStatusBody hk)
  | .factoryRead .. => .next (.serve hk fun _ _ hk => .factoryBody hk)
  | .nvWriteStart .. => .next (.ite (.startWrite (.upd hk)) hk)
  | .nvWriteComplete => .execNvWriteComplete hk
  | .mainsFall => .execMainsFall hk
  | .mainsRise => .next (.ite hk (.raise (.latchWake (.upd hk))))
  | .holdupWarningFall .. => .next (.ite hk (.holdupFell (.upd hk)))
  | .holdupWarningRise .. => .next (.ite hk (.raiseWarning (.upd hk)))
  | .rfCalRun .. => .next (.serve hk fun _ _ hk => .calRunBody hk)
  | .rfStatusGet .. => .next (.serve hk fun _ _ hk => .rfStatusBody hk)
  | .rfCountersGet .. => .next (.serve hk fun _ _ hk => .rfCountersBody hk)
  | .rfTestTx .. => .next (.serve hk fun _ _ hk => .testTxBody hk)
  | .dieTempSample .. => .next (.ite (.upd (.foldl (.upd hk) fun _ _ hk => .napCheck (.tempCheck hk))) hk)
  | .paSupplySample .. => .next (.ite (.setRadio (.setRadio (.setRadio hk))) hk)
  | .calGapStart .. => .execCalGapStart hk
  | .calForced .. => .execCalForced hk
  | .calibrationComplete .. => .execCalibrationComplete hk
  | .bgCalItem .. => .next (.ite (.bgItem (.moveRadio hk)) hk)
  | .transitionDone .. => .execTransitionDone hk
  | .synthLockVerified .. => .next (.ite (.setRadio hk) hk)
  | .synthUnlock .. => .next (.unlockSynth hk)
  | .synthRelockDone .. => .execSynthRelockDone hk
  | .emissionDeferredStart .. => .execEmissionDeferredStart hk
  | .emissionLatestStart .. => .execEmissionLatestStart hk
  | .coexReqLead .. => .execCoexReqLead hk
  | .coexGntSample .. => .execCoexGntSample hk
  | .coexGntRise .. => .execCoexGntRise hk
  | .coexGntFall .. => .execCoexGntFall hk
  | .coexReqRise .. => .execCoexReqRise hk
  | .coexReqFall .. => .execCoexReqFall hk
  | .coexMaxGrantExpiry .. => .execCoexMaxGrantExpiry hk
  | .thawFrameRx .. => .execThawFrameRx hk
  | .thawRetune => .next (.ite (.retuneThaw hk) hk)
  | .timeslotPlan .. => .next (.ite hk (.planAhead hk))
  | .timeslotStart .. => .execTimeslotStart hk
  | .ccaMeasure .. => .execCcaMeasure hk
  | .rxWindowOpen .. => .execRxWindowOpen hk
  | .rxWindowClose .. => .execRxWindowClose hk
  | .preambleDetect .. => .execPreambleDetect hk
  | .sfdSearchFail .. => .execSfdSearchFail hk
  | .afcFreeze .. => .execAfcFreeze hk
  | .secondPreamble .. => .execSecondPreamble hk
  | .phrDecode .. => .execPhrDecode hk
  | .headerDecode .. => .execHeaderDecode hk
  | .softBlockPost .. => .execSoftBlockPost hk
  | .decoderBlockDone .. => .execDecoderBlockDone hk
  | .frameEnd .. => .execFrameEnd hk
  | .clipLimitExceeded .. => .next (.ite hk (.ite (.setBb hk) (.bump (.setBb hk))))
  | .timeslotEnd .. => .execTimeslotEnd hk
  | .bbCountersGet .. => .next (.serve hk fun _ _ hk => .radioCountersBody hk)
  | .bbNfConfig .. => .next (.serve hk fun _ _ hk => .nfConfigBody hk)
  | .bbNfGet .. => .next (.serve hk fun _ _ hk => .nfGetBody hk)
  | .bbSlotStatusGet .. => .next (.serve hk fun _ _ hk => .slotStatusBody hk)
  | .bbTxCountersGet .. => .next (.serve hk fun _ _ hk => .radioCountersBody hk)
  | .phyAirtimeGet .. => .next (.serve hk fun _ _ hk => .airtimeBody hk)
  | .planLock .. => .execPlanLock hk
  | .emissionStart .. => .execEmissionStart hk
  | .emissionEnd .. => .execEmissionEnd hk
  | .bucketBoundary => .next (.ite (.ageSubs hk) hk)
  | .dwellBucketBoundary => .next (.ite (.ageDwells hk) hk)
  | .dwellClosureEnd => .next (.ite (.endClosures hk) hk)
  | .ablationSnapshotDue => .next (.ite (.recordDue (.reportRefused (.upd hk))) hk)
  | .ablProfileWrite .. => .next (.serve hk fun _ _ hk => .profileWriteBody hk)
  | .ablProfileLock .. => .next (.serve hk fun _ _ hk => .profileLockBody hk)
  | .ablProfileGet .. => .next (.serve hk fun _ _ hk => .profileGetBody hk)
  | .ablBudgetGet .. => .next (.serve hk fun _ _ hk => .budgetBody hk)
  | .ablDwellGet .. => .next (.serve hk fun _ _ hk => .dwellGetBody hk)
  | .ablCountersGet .. => .next (.serve hk fun _ _ hk => .ablCountersBody hk)
  | .schedNetStart .. => .next (.serve hk fun _ _ hk => .netStartBody hk)
  | .schedNetStop .. => .next (.serve hk fun _ _ hk => .netStopBody hk)
  | .schedSlotframeAdd .. => .next (.serve hk fun _ _ hk => .frameAddBody hk)
  | .schedSlotframeDel .. => .next (.serve hk fun _ _ hk => .frameDelBody hk)
  | .schedCellAdd .. => .next (.serve hk fun _ _ hk => .cellAddBody hk)
  | .schedCellDel .. => .next (.serve hk fun _ _ hk => .cellDelBody hk)
  | .schedCellGet .. => .next (.serve hk fun _ _ hk => .cellGetBody hk)
  | .schedJoinAccept .. => .next (.serve hk fun _ _ hk => .joinAcceptBody hk)
  | .schedJoinReject .. => .next (.serve hk fun _ _ hk => .joinRejectBody hk)
  | .schedStatusGet .. => .next (.serve hk fun _ _ hk => .schedStatusBody hk)
  | .schedCountersGet .. => .next (.serve hk fun _ _ hk => .withNet hk fun _ _ _ hk => .iteSnd hk (.countersReply hk))
  | .joinRelease .. => .execJoinRelease hk
  | .joinTimeout .. => .next (.ite hk (.bumpBy (.setNet hk)))
  | .asnMarkCross .. => .next (.ite (.requestAsnMark hk) hk)
  | .asnMarkHold .. => .next (.ite (.raise (.setNet hk)) hk)
  | .placementAudit .. => .execPlacementAudit hk
  | .timeParentLost .. => .execTimeParentLost hk
  | .spanOpen .. => .next (.serve hk fun _ _ hk => .spanOpenBody hk)
  | .spanClose .. => .next (.serve hk fun _ _ hk => .spanCloseBody hk)
  | .spanMemberSet .. => .next (.serve hk fun _ _ hk => .memberSetBody hk)
  | .spanMemberDrop .. => .next (.serve hk fun _ _ hk => .memberDropBody hk)
  | .spanKeyRoll .. => .next (.serve hk fun _ _ hk => .keyRollBody hk)
  | .spanStatusGet .. => .next (.serve hk fun _ _ hk => .spanStatusBody hk)
  | .spanCountersGet .. => .next (.serve hk fun _ _ hk => .withSpan hk fun _ _ _ hk => .iteSnd hk (.countersReply hk))
  | .spanEventPlan .. => .next (.ite hk (.spanBackTo (.planEvent (.spanAt (.modSpan (.spanOutOfSync (.latchSpan hk)))))))
  | .spanAnchor .. => .next (.ite hk (.switchAt (.applyMembers (.modSpan (.ite (.parentEvent hk) hk)))))
  | .subeventStart .. => .execSubeventStart hk
  | .subeventEnd .. => .execSubeventEnd hk
  | .spanFrameReceive .. => .execSpanFrameReceive hk
  | .resyncBurstSend .. => .next (.ite hk (.spanBackTo (.sendBurst (.spanAt hk))))
  | .acquireEchoTimeout .. => .execAcquireEchoTimeout hk
  | .supervisionExpiry .. => .next (.ite hk (.raise (.modSpan (.spanResync (.spanFlush hk)))))
  | .keyOverlapEnd .. => .execKeyOverlapEnd hk
  | .firnCtxRead .. => .next (.serve hk fun _ _ hk => .ctxReadBody hk)
  | .firnCtxWrite .. => .next (.serve hk fun _ _ hk => .ctxWriteBody hk)
  | .firnPin .. => .next (.serve hk fun _ _ hk => .pinBody hk)
  | .firnUnpin .. => .next (.serve hk fun _ _ hk => .unpinBody hk)
  | .firnRelease .. => .next (.serve hk fun _ _ hk => .releaseBody hk)
  | .firnSync .. => .next (.serve hk fun _ _ hk => .firnSyncBody hk)
  | .firnLookup .. => .next (.serve hk fun _ _ hk => .firnLookupBody hk)
  | .firnStatusGet .. => .next (.serve hk fun _ _ hk => .firnStatusBody hk)
  | .firnCountersGet .. => .next (.serve hk fun _ _ hk => .iteSnd hk (.countersBody hk))
  | .firnLoadStart => .execFirnLoadStart hk
  | .firnLoadComplete .. => .execFirnLoadComplete hk
  | .firnEvict => .next (.ite (.evictOne hk) hk)
  | .writebackComplete .. => .next (.ite (.wroteBack hk) hk)
  | .firnImageSweep => .next (.ite hk (.foldl (.setFirn hk) fun _ _ hk => .recordDue hk))
  | .firnImageUrgent => .next (.ite hk (.foldl hk fun _ _ hk => .recordDue hk))
  | .cipherKeyLoad .. => .next (.serve hk fun _ _ hk => .keyLoadBody hk)
  | .cipherKeyErase .. => .next (.serve hk fun _ _ hk => .keyEraseBody hk)
  | .keyEraseDone .. => .execKeyEraseDone hk
  | .cipherKeyInfo .. => .next (.serve hk fun _ _ hk => .keyInfoBody hk)
  | .cipherRaw .. => .next (.serve hk fun _ _ hk => .rawBody hk)
  | .cipherCtr .. => .next (.serve hk fun _ _ hk => .ctrBody hk)
  | .cipherCmac .. => .next (.serve hk fun _ _ hk => .cmacBody hk)
  | .cipherSeal .. => .next (.serve hk fun _ _ hk => .sealBody hk)
  | .cipherOpen .. => .next (.serve hk fun _ _ hk => .openBody hk)
  | .cipherRandom .. => .next (.serve hk fun _ _ hk => .randomBody hk)
  | .cipherCountersGet .. => .next (.serve hk fun _ _ hk => .countersBody hk)
  | .cipherRequestComplete .. => .execCipherRequestComplete hk
  | .rimeUnitsReserved .. => .next (.ite (.serveHost (.retryNodes (.rimeGrant hk))) hk)
  | .tagCheckDone .. => .execTagCheckDone hk
  | .maskReseed => .next (.ite hk (.ite (.upd hk) (.bump (.upd (.upd hk)))))
  | .keyShareRefresh .. => .execKeyShareRefresh hk
  | .entropyStartupPass => .next (.ite hk (.serveDrbg (.upd hk)))
  | .entropyTestFail .. => .execEntropyTestFail hk
  | .drbgReseed => .next (.ite (.serveDrbg (.drbgSeed hk)) hk)
  | .drbgReseedWaitExpiry => .next (.ite hk (.foldl (.upd hk) fun _ _ hk => .release hk))
  | .ccStatusGet .. => .next (.serve hk fun _ _ hk => .ccStatusBody hk)
  | .ccCountersGet .. => .next (.serve hk fun _ _ hk => .countersBody hk)
  | .dfsTemplateList .. => .next (.serve hk fun _ _ hk => .templateListBody hk)
  | .triggerStart .. => .next (.ite hk (.iteOn (.startWaiting (.upd hk)) (fun hk => .bump hk) id))
  | .nodeFire .. => .next (.ite (.fireNode hk) hk)
  | .operationComplete .. => .execOperationComplete hk
  | .instanceCancel .. => .next (.ite (.cancelInst hk) hk)
  | .delayNodeFire .. => .next (.ite (.fireDelay hk) hk)
  | .delayEntryDue => .next (.ite (.scanDelays hk) hk)
  | .opWatchdogExpiry .. => .next (.ite (.withdrawOp hk) hk)
  | .coreResetEnd .. => .next (.ite (.takeReady (.setCore hk)) hk)
  | .corePark .. => .next (.ite hk (.ite (.ite (.setCore hk) hk) (.ite (.takeReady (.setCore hk)) hk)))
  | .irqSourceAssert .. => .next (.ite (.assertIrq hk) hk)
  | .coalesceTimerExpiry .. => .next (.ite hk (.ite (.releaseHost (.bump hk)) (.releaseGroup hk)))
  | .irqArbitrate => .next (.ite (.arbitrate hk) hk)
  | .irqAcknowledge .. => .next (.ite (.acknowledge hk) hk)
  | .irqSourceMask .. => .execIrqSourceMask hk
  | .frameIngress .. => .execFrameIngress hk
  | .reasmTimeout => .next (.ite hk (.bumpBy (.setFirn hk)))
  | .egressSend .. => .execEgressSend hk
  | .gateEntry .. => .next (.ite (.dropHeads hk) hk)
  | .ageTick => .next (.ite (.upd (.ageTick hk)) hk)
  | .rtCountersGet .. => .next (.serve hk fun _ _ hk => .rtCountersBody hk)
  | .lowpanCtxSet .. => .next (.serve hk fun _ _ hk => .lowpanCtxBody hk)
  | .tmShaperSet .. => .next (.serve hk fun _ _ hk => .shaperBody hk)
  | .tmMeterSet .. => .next (.serve hk fun _ _ hk => .meterBody hk)
  | .gateListSet .. => .next (.serve hk fun _ _ hk => .gateBody hk)
  | .tmStatusGet .. => .next (.serve hk fun _ _ hk => .tmStatusBody hk)
  | .tmCountersGet .. => .next (.serve hk fun _ _ hk => .tmCountersBody hk)
  | .timeGet .. => .next (.serve hk fun _ _ hk => .timeGetBody hk)
  | .timeAdjust .. => .next (.serve hk fun _ _ hk => .timeAdjustBody hk)
  | .timeCountersGet .. => .next (.serve hk fun _ _ hk => .countersBody hk)
  | .rawRefFold => .next (.ite (.fold hk) hk)
  | .triggerCompareFire => .next (.ite (.fireTriggers hk) hk)
  | .timeSourceLoss => .next (.ite (.loseSource hk) hk)
  | .timeBoundAlarm => .next (.ite hk (.raise (.upd hk)))
  | .ppsInEdge => .next (.ite hk (.ite (.ite (.servo (.bump hk)) (.bump hk)) (.bump hk)))
  | .ppsOutEdge => .next (.ite hk (.ite (.ite (.upd hk) hk) (.ite (.bump (.upd hk)) hk)))
  | .laneStatusGet .. => .next (.serve hk fun _ _ hk => .laneStatusBody hk)
  | .laneTest .. => .next (.serve hk fun _ _ hk => .laneTestBody hk)
  | .lanePrbsGet .. => .next (.serve hk fun _ _ hk => .lanePrbsBody hk)
  | .laneRetrain .. => .next (.serve hk fun _ _ hk => .withLane hk fun _ _ _ hk => .retrain hk)
  | .ethStatusGet .. => .next (.serve hk fun _ _ hk => .ethStatusBody hk)
  | .ethCountersGet .. => .next (.serve hk fun _ _ hk => .ethCountersBody hk)
  | .mdioRead .. => .next (.serve hk fun _ _ hk => .mdioBody hk fun _ _ hk => .noteMdio hk)
  | .mdioWrite .. => .next (.serve hk fun _ _ hk => .mdioBody hk fun _ _ hk => .noteMdio hk)
  | .cascStatusGet .. => .next (.serve hk fun _ _ hk => .cascStatusBody hk)
  | .cascCountersGet .. => .next (.serve hk fun _ _ hk => .countersBody hk)
  | .cascRelease .. => .next (.serve hk fun _ _ hk => .iteSnd (.yieldToken hk) hk)
  | .laneCdrLock .. => .next (.ite (.setSerLane hk) hk)
  | .laneCommaFound .. => .next (.ite (.setSerLane hk) hk)
  | .laneSyncDone .. => .next (.ite (.raise (.setSerLane hk)) hk)
  | .laneSyncLoss .. => .next (.ite (.laneLoss hk) hk)
  | .laneTestEnd .. => .next (.ite (.setSerLane hk) hk)
  | .prbsLock .. => .next (.ite (.setSerLane hk) hk)
  | .prbsLockLoss .. => .next (.ite (.setSerLane hk) hk)
  | .ethLinkChange .. => .execEthLinkChange hk
  | .cascMarkerRx .. => .execCascMarkerRx hk
  | .cascDataRx .. => .execCascDataRx hk
  | .cascAnnounceRx .. => .execCascAnnounceRx hk
  | .cascTimeSyncRx .. => .execCascTimeSyncRx hk
  | .cascTimeReplyRx .. => .execCascTimeReplyRx hk
  | .cascPauseRx .. => .execCascPauseRx hk
  | .cascLinkRx .. => .execCascLinkRx hk
  | .cascPauseTimeout .. => .execCascPauseTimeout hk
  | .cascTimeSyncSend => .execCascTimeSyncSend hk
  | .cascAnnounceSend => .next (.ite (.announce hk) hk)
  | .cascHoldSample .. => .next (.ite hk (.ite (.setCasc hk) (.yieldToken (.setCasc hk))))
  | .cascTakeWaitMet => .next (.ite hk (.recordDue (.setCasc hk)))
  | .cascTakeDrive .. => .execCascTakeDrive hk
  | .disputeClear => .execDisputeClear hk
  | .memStatusGet .. => .next (.serve hk fun _ _ hk => .memStatusBody hk)
  | .ddrStatusGet .. => .next (.serve hk fun _ _ hk => .ddrStatusBody hk)
  | .memCountersGet .. => .next (.serve hk fun _ _ hk => .countersBody hk)
  | .dramRefresh .. => .next (.ite hk (.ite (.bump (.setDdrChan hk)) (.setDdrChan hk)))
  | .mr4Read .. => .execMr4Read hk
  | .rhThresholdRefresh .. => .next (.ite hk (.ite (.bump (.setDdrChan hk)) (.setDdrChan hk)))
  | .rhTableClear .. => .next (.ite (.setDdrChan hk) hk)
  | .panicEntry .. => .next (.ite (.bump (.setPanic (.wakeDram hk))) hk)
  | .selfRefreshEntry .. => .next (.ite (.bump (.setDdrChan hk)) hk)
  | .selfRefreshExit .. => .next (.ite hk (.bump (.setDdrChan hk)))
  | .dqsOscCheck .. => .next (.ite (.dqsCheck hk) hk)
  | .scrubPass => .next (.ite (.bump (.upd hk)) hk)
  | .sramScrub .. => .next (.ite hk (.ite (.upd hk) (.logCe (.bumpBy (.upd hk)))))
  | .eccErrorDetected .. => .next (.ite hk (.ite (.eccUncorrected hk) (.eccCorrected hk)))
  | .trainingStepDone .. => .execTrainingStepDone hk
  | .dozeEntry => .next (.ite (.bump (.upd hk)) hk)
  | .napEntry .. => .execNapEntry hk
  | .napExit .. => .next (.ite hk (.endNap (.ite (.latchWake hk) hk)))
  | .hibernatePrepare .. => .execHibernatePrepare hk
  | .hibernateExit .. => .next (.ite hk (.endHibernate hk))
  | .aonTimerFire => .execAonTimerFire hk
  | .pwrStatusGet .. => .next (.serve hk fun _ _ hk => .pwrStatusBody hk)
  | .pwrCountersGet .. => .next (.serve hk fun _ _ hk => .countersBody hk)
  | .powerOnReset => .next (.ite hk .deviceReset)
  | .brownoutReset => .next (.ite hk (.upd .deviceReset))
  | .vddAonLoss => .next (.ite hk (.upd .deviceReset))
  | .resetPin .. => .next (.ite hk (.ite .deviceReset (.ite (.draw hk) .deviceReset)))
  | .resetRelease .. => .next (.ite hk (.ite (.setBoot (.upd hk)) (.upd hk)))
  | .bootImageCheckDone .. => .execBootImageCheckDone hk
  | .eotreReady .. => .execEotreReady hk
  | .sysReset .. => .next (.serve hk fun _ _ hk => .upd hk)
  | .sysResetTakesEffect => .next (.ite .deviceReset hk)
  | .sysWatchdogExpiry => .next (.ite .faultReset hk)
  | .faultLogEntry => .next (.ite (.recordDue hk) hk)
  | .fwStage .. => .next (.serve hk fun _ _ hk => .fwStageBody hk)
  | .fwCommit .. => .next (.serve hk fun _ _ hk => .fwCommitBody hk)
  | .fwActivate .. => .next (.serve hk fun _ _ hk => .fwActivateBody hk)
  | .fwOldImageRelease => .next (.ite hk (.installAll (.updFw hk)))
  | .fwConfirm .. => .next (.serve hk fun _ _ hk => .fwConfirmBody hk)
  | .fwStatusGet .. => .next (.serve hk fun _ _ hk => .fwStatusBody hk)
  | .fltLogGet .. => .next (.serve hk fun _ _ hk => .fltLogBody hk)
  | .fltInject .. => .next (.serve hk fun _ _ hk => .fltInjectBody hk)
  | .fltCountersGet .. => .next (.serve hk fun _ _ hk => .countersBody hk)
  | .jtagReset => .next (.ite .deviceReset hk)
  | .vddIo18BelowThreshold => .next (.ite hk (.upd (.draw .deviceReset)))
  | .tblCmdCompletion => .execTblCmdCompletion hk
  | .activationCompleted .. => .next (.ite hk (.raise (.bump (.updFw (.installAll hk)))))
  | .panicExit .. => .next (.ite (.ite (.setPanic hk) (.upd (.setPanic hk))) hk)

/-- A step runs the command in front, or lets one tick of the clock pass. -/
theorem KeptOut.step : KeptOut (Machine.step s) := by
  unfold Machine.step
  split
  · exact .next (.pass hk)
  · exact .exec (.upd hk)

end

/-- Settles O60: every operation that the model's commands are built from keeps the form. Only `bumpBy`, `clearBank`, `winWrite`, `sramPut`,
`fwStageBody`, `deviceReset`, `afterHibernate` and `dramLost` touch what it speaks of. -/
theorem stepKeepsTheForm : Obligations.StepKeepsTheForm := fun _ _ hk h => KeptOut.step hk _ h

/-! ## What the counter commands answer and clear (O54) -/

section
variable {s : State} {ch op n c : Nat} {p : TlvSpec} {q : Req} {b : CtrBank} {body : Body}

/-! ### A group read and cleared (00 R6) -/

theorem ctr_clearBank_same (s : State) (b : CtrBank) (i : Nat) : (s.clearBank b).ctr b i = 0 := by
  have h : (s.clearBank b).ctrs.find? (fun c => c.bank == b && c.row == i) = none := by
    refine List.find?_eq_none.2 fun c hc hm => ?_
    obtain ⟨hb, -⟩ := Bool.and_eq_true_iff.1 hm
    exact bne_iff_ne.1 (List.mem_filter.1 hc).2 (eq_of_beq hb)
  unfold State.ctr
  rw [h]

theorem ctr_clearBank_other (s : State) {b b' : CtrBank} (h : b' ≠ b) (i : Nat) : (s.clearBank b).ctr b' i = s.ctr b' i := by
  have key : (fun c : Ctr => decide ((c.bank != b) = true ∧ (c.bank == b' && c.row == i) = true))
      = fun c => c.bank == b' && c.row == i := by
    funext c
    refine Bool.eq_iff_iff.2 ⟨fun hc => (of_decide_eq_true hc).2, fun hc => decide_eq_true ⟨?_, hc⟩⟩
    obtain ⟨hb, -⟩ := Bool.and_eq_true_iff.1 hc
    simpa [eq_of_beq hb] using h
  unfold State.ctr State.clearBank
  rw [List.find?_filter, key]

/-! ### A counter command served -/

/-- A counter command answers the group that its body names, and clears it where its request asks for that. -/
theorem serve_counters (h : Asked s ch op p q) (hb : body q (begun s ch) = countersReply (begun s ch) b n (c == 1)) :
    (.next (s.serve ch op p body) : Out)
      = .next (answered s ch op stOk (ctrTlvs (s.bankValues b n)) (if c = 1 then (begun s ch).clearBank b else begun s ch)) := by
  refine congrArg _ (serve_now h (hb.trans ?_))
  simp [countersReply, okReply]

theorem countersBody_eq (h : q.nat 1 ≤ 1) : countersBody b n q s = countersReply s b n (q.nat 1 == 1) := if_neg (by omega)

theorem withNet_eq {f} {x : Net} (h : Net.ofNat? (q.nat 1) = some x) : withNet f q s = f x q s := by simp [withNet, h]

theorem withSpan_eq {f} (h : q.nat 1 ≤ 31) (ho : (s.span (q.nat 1)).isOpen = true) : withSpan f q s = f (q.nat 1) q s := by
  simp [withSpan, ho, show ¬ 31 < q.nat 1 by omega]

theorem ablCountersBody_eq (h : q.nat 2 ≤ 1) (hi : q.nat 1 < 16) :
    ablCountersBody q s = countersReply s (.ablSub (q.nat 1)) 6 (q.nat 2 == 1) := by
  simp [ablCountersBody, show ¬ 1 < q.nat 2 by omega, show q.nat 1 ≠ 255 by omega, show ¬ 16 ≤ q.nat 1 by omega]

theorem rtCountersBody_eq (h : q.nat 2 ≤ 1) {x : Pipe} (hx : Pipe.ofNat? (q.nat 1) = some x) :
    rtCountersBody q s = countersReply s (.rt x) 21 (q.nat 2 == 1) := by
  simp [rtCountersBody, hx, show ¬ 1 < q.nat 2 by omega]

/-- The ports below 5 have no counters besides the eight of each port (12 R373). -/
theorem tmCountersBody_eq (h : q.nat 2 ≤ 1) (hp : q.nat 1 < 5) :
    tmCountersBody q s = countersReply s (.tm (q.nat 1)) 8 (q.nat 2 == 1) := by
  have hport : isPort (q.nat 1) = true :=
    Bool.or_eq_true_iff.2 (.inl (Bool.or_eq_true_iff.2 (.inl (decide_eq_true (by omega)))))
  simp [tmCountersBody, countersReply, hport, show ¬ 1 < q.nat 2 by omega, show q.nat 1 ≠ 5 by omega]

theorem ethCountersBody_eq (h : q.nat 2 ≤ 1) (hp : q.nat 1 ≤ 3) :
    ethCountersBody q s = countersReply s (.eth (q.nat 1)) 9 (q.nat 2 == 1) := by
  simp [ethCountersBody, show ¬ 1 < q.nat 2 by omega, show ¬ 3 < q.nat 1 by omega]

end

/-- Settles O54: each command's body comes down to the shared reply, which reads its group and clears that group's bank alone. -/
theorem counterCommandsAnswerAndClear : Obligations.CounterCommandsAnswerAndClear := by
  refine ⟨fun s ch q h => ?_, fun s ch q h => ?_,
    fun s b b' i => ⟨ctr_clearBank_same s b i, fun hb => ctr_clearBank_other s hb i, rfl⟩⟩
  · have firn : (begun s ch).ddrReady = true →
        (if !(begun s ch).ddrReady then (plain stState, begun s ch) else countersBody .firn 17 q (begun s ch))
          = countersReply (begun s ch) .firn 17 (q.nat 1 == 1) := fun hd => by simp [hd, countersBody_eq h]
    exact ⟨fun a hd => serve_counters a (firn hd), fun a => serve_counters a (countersBody_eq h),
      fun a => serve_counters a (countersBody_eq h), fun a => serve_counters a (countersBody_eq h),
      fun a => serve_counters a (countersBody_eq h), fun a => serve_counters a (countersBody_eq h),
      fun a => serve_counters a (countersBody_eq h), fun a => serve_counters a (countersBody_eq h)⟩
  · have few : ¬ 1 < q.nat 2 := by omega
    refine ⟨fun n a hn => serve_counters a ((withNet_eq hn).trans (if_neg few)), fun a hn ho => ?_,
      fun a hi => serve_counters a (ablCountersBody_eq h hi), fun x a hx => serve_counters a (rtCountersBody_eq h hx),
      fun a hp => serve_counters a (tmCountersBody_eq h hp), fun a hp => serve_counters a (ethCountersBody_eq h hp)⟩
    have hopen : ((begun s ch).span (q.nat 1)).isOpen = true := by simpa [State.span] using ho
    exact serve_counters a ((withSpan_eq hn hopen).trans (if_neg few))

end Sys2Proof.Claims
end

section
namespace Sys2Proof.Claims
open Sys2Proof.Machine

/-! ## Bytes and messages read back (O58) -/

@[simp] theorem leBytes_length (n v : Nat) : (leBytes n v).length = n := by
  induction n generalizing v with
  | zero => rfl
  | succ n ih => simp [leBytes, ih]

theorem leNat_leBytes {n v : Nat} (h : v < 256 ^ n) : leNat (leBytes n v) = v := by
  induction n generalizing v with
  | zero => simp [leBytes, leNat]; omega
  | succ n ih =>
    have hv : v / 256 < 256 ^ n := Nat.div_lt_of_lt_mul (by rwa [← Nat.pow_succ'])
    rw [leBytes, leNat, ih hv, BitVec.toNat_ofNat]
    omega

@[simp] theorem u16_length (v : Nat) : (u16 v).length = 2 := leBytes_length 2 v

theorem leNat_u16 {v : Nat} (h : v < 65536) : leNat (u16 v) = v := leNat_leBytes h

theorem le_alignUp_four (n : Nat) : n ≤ alignUp 4 n := by unfold alignUp; omega

theorem padTo_length {n : Nat} {b : Bytes} (h : b.length ≤ n) : (padTo n b).length = n := by simp [padTo]; omega

theorem take_padTo {n : Nat} {b : Bytes} (h : b.length ≤ n) : (padTo n b).take b.length = b := by
  simp [padTo, List.take_of_length_le h]

/-! ### A TLV at the front of an area (02 R36) -/

/-- The value of a TLV as it lies in an area: padded to whole words, except at the area's end. -/
def tlvBody (v : Bytes) (rest : List Tlv) : Bytes := if rest = [] then v else padTo (alignUp 4 v.length) v

theorem encodeTlvs_cons (t : Tlv) (ts : List Tlv) :
    encodeTlvs (t :: ts) = u16 t.ty ++ (u16 t.val.length ++ (tlvBody t.val ts ++ encodeTlvs ts)) := by
  cases ts <;> simp [encodeTlvs, tlvBody]

theorem tlvBody_take (v : Bytes) (rest : List Tlv) (l : Bytes) : (tlvBody v rest ++ l).take v.length = v := by
  unfold tlvBody
  split
  · simp
  · rw [List.take_append_of_le_length (by rw [padTo_length (le_alignUp_four _)]; exact le_alignUp_four _),
      take_padTo (le_alignUp_four _)]

theorem tlvBody_drop (v : Bytes) (rest : List Tlv) : (tlvBody v rest ++ encodeTlvs rest).drop (alignUp 4 v.length) = encodeTlvs rest := by
  unfold tlvBody
  split
  · subst rest; simp [encodeTlvs, le_alignUp_four]
  · exact List.drop_left' (padTo_length (le_alignUp_four _))

theorem tlvBody_length (v : Bytes) (rest : List Tlv) : v.length ≤ (tlvBody v rest).length := by
  unfold tlvBody
  split
  · exact Nat.le_refl _
  · rw [padTo_length (le_alignUp_four _)]; exact le_alignUp_four _

/-- A TLV in front of an area is read as it was written, if the command takes it, and the rest of the area follows. -/
theorem parseTlvs_cons {p : TlvSpec} {fuel : Nat} {t : Tlv} {ts seen : List Tlv} (ht : t.ty < 65536) (hl : t.val.length < 65536)
    (hf : tlvFault p seen t = none) :
    parseTlvs p (fuel + 1) (encodeTlvs (t :: ts)) seen = parseTlvs p fuel (encodeTlvs ts) (seen ++ [t]) := by
  have hb := tlvBody_length t.val ts
  have hd4 : (encodeTlvs (t :: ts)).drop 4 = tlvBody t.val ts ++ encodeTlvs ts := by
    rw [encodeTlvs_cons, ← List.append_assoc]
    exact List.drop_left' rfl
  have hty : leNat ((encodeTlvs (t :: ts)).take 2) = t.ty := by
    rw [encodeTlvs_cons, List.take_left' (u16_length _), leNat_u16 ht]
  have hn : leNat (((encodeTlvs (t :: ts)).drop 2).take 2) = t.val.length := by
    rw [encodeTlvs_cons, List.drop_left' (u16_length _), List.take_left' (u16_length _), leNat_u16 hl]
  have hlen : 4 + t.val.length ≤ (encodeTlvs (t :: ts)).length := by rw [encodeTlvs_cons]; simp; omega
  have hne : encodeTlvs (t :: ts) ≠ [] := List.ne_nil_of_length_pos (by omega)
  rw [parseTlvs, if_neg hne]
  simp only [hty, hn, if_neg (show ¬ (encodeTlvs (t :: ts)).length < 4 by omega), if_neg (Nat.not_lt.2 hlen), hd4, ← List.drop_drop,
    tlvBody_take, tlvBody_drop, hf]

/-- Every TLV takes four bytes at least. -/
theorem four_mul_length_le_encodeTlvs (ts : List Tlv) : 4 * ts.length ≤ (encodeTlvs ts).length := by
  induction ts with
  | nil => simp
  | cons t ts ih => rw [encodeTlvs_cons]; simp; omega

/-- An area read from its start, behind the TLVs already seen: with fuel for each of its TLVs, they read back in order. -/
theorem parseTlvs_encodeTlvs {p : TlvSpec} {fuel : Nat} {ts seen : List Tlv} (hfuel : ts.length ≤ fuel) (hty : ∀ t ∈ ts, t.ty < 65536)
    (hlen : (encodeTlvs ts).length ≤ 504) (hf : ∀ (k : Nat) (h : k < ts.length), tlvFault p (seen ++ ts.take k) ts[k] = none) :
    parseTlvs p fuel (encodeTlvs ts) seen = .ok (seen ++ ts) := by
  induction ts generalizing fuel seen with
  | nil => cases fuel <;> simp [parseTlvs, encodeTlvs]
  | cons t ts ih =>
    obtain ⟨fuel, rfl⟩ : ∃ n, fuel = n + 1 := ⟨fuel - 1, by simp at hfuel; omega⟩
    have hsum := congrArg List.length (encodeTlvs_cons t ts)
    have hbody := tlvBody_length t.val ts
    simp only [List.length_append, u16_length] at hsum
    have hhead : tlvFault p (seen ++ []) t = none := hf 0 (Nat.succ_pos _)
    rw [List.append_nil] at hhead
    have htail : ∀ (k : Nat) (h : k < ts.length), tlvFault p (seen ++ [t] ++ ts.take k) ts[k] = none := fun k h => by
      have hk : tlvFault p (seen ++ t :: ts.take k) ts[k] = none := hf (k + 1) (Nat.succ_lt_succ h)
      rwa [List.append_assoc, List.singleton_append]
    rw [parseTlvs_cons (hty t (by simp)) (by omega) hhead,
      ih (by simpa using hfuel) (fun u hu => hty u (by simp [hu])) (by omega) htail, List.append_assoc, List.singleton_append]

/-! ### A message in a window slot (02 R33, R34) -/

theorem readBytes_add (m : List Host.Cell) (a n k : Nat) : readBytes m a (n + k) = readBytes m a n ++ readBytes m (a + n) k := by
  induction n generalizing a with
  | zero => simp
  | succ n ih => rw [Nat.add_right_comm, readBytes, ih (a + 1), readBytes, List.cons_append, Nat.add_right_comm a 1 n, Nat.add_assoc a n 1]

/-- What is written at a window offset in two parts reads back in both. -/
theorem winRead_winWrite_append {s : State} (hm : Memory.wf s.mem = true) (off : Nat) (x y : Bytes) :
    (s.winWrite off (x ++ y)).winRead off x.length = x ∧ (s.winWrite off (x ++ y)).winRead (off + x.length) y.length = y := by
  have h := readBytes_writeBytes (winBase + off) (x ++ y) hm
  rw [List.length_append, readBytes_add] at h
  rw [Nat.add_assoc] at h
  exact List.append_inj h (readBytes_length ..)

@[simp] theorem winWrite_chan (s : State) (off : Nat) (bs : Bytes) (ch : Nat) : (s.winWrite off bs).chan ch = s.chan ch := rfl

/-- The header of a message reads as its three fields. -/
theorem header_fields {opcode tag len : Nat} (ho : opcode < 65536) (ht : tag < 65536) (hl : len < 65536) :
    leNat ((u16 opcode ++ u16 tag ++ u16 len ++ u16 0).take 2) = opcode
    ∧ leNat (((u16 opcode ++ u16 tag ++ u16 len ++ u16 0).drop 2).take 2) = tag
    ∧ leNat (((u16 opcode ++ u16 tag ++ u16 len ++ u16 0).drop 4).take 2) = len := by
  refine ⟨(?_ : leNat (u16 opcode) = opcode), (?_ : leNat (u16 tag) = tag), (?_ : leNat (u16 len) = len)⟩
  · exact leNat_u16 ho
  · exact leNat_u16 ht
  · exact leNat_u16 hl

/-- Settles O58, by induction on the TLVs for every list of them already seen; a slot then reads as its header and its area. -/
theorem requestsArriveAsWritten : Obligations.RequestsArriveAsWritten := by
  have area : ∀ (p : TlvSpec) (tlvs : List Tlv), (encodeTlvs tlvs).length ≤ 504 → (∀ t ∈ tlvs, t.ty < 65536) →
      (∀ (k : Nat) (h : k < tlvs.length), tlvFault p (tlvs.take k) tlvs[k] = none) →
      parseTlvs p 504 (encodeTlvs tlvs) [] = .ok tlvs := fun p tlvs hl hty hf => by
    have hn := four_mul_length_le_encodeTlvs tlvs
    simpa using parseTlvs_encodeTlvs (fuel := 504) (seen := []) (by omega) hty hl (by simpa using hf)
  refine ⟨area, fun s ch opcode tag p tlvs hm ho ht hl hty hf hmiss => ?_⟩
  intro t
  obtain ⟨hhead, harea⟩ := winRead_winWrite_append hm (reqSlot ch (s.chan ch).reqCi)
    (u16 opcode ++ u16 tag ++ u16 (encodeTlvs tlvs).length ++ u16 0) (encodeTlvs tlvs)
  obtain ⟨hop, htag, hlen⟩ := header_fields ho ht (show (encodeTlvs tlvs).length < 65536 by omega)
  have hhead' : t.reqHeader ch = u16 opcode ++ u16 tag ++ u16 (encodeTlvs tlvs).length ++ u16 0 := hhead
  have hop' : t.reqOpcode ch = opcode := by rw [State.reqOpcode, hhead', hop]
  have htag' : t.reqTag ch = tag := by rw [State.reqTag, hhead', htag]
  have hlen' : t.reqLength ch = (encodeTlvs tlvs).length := by rw [State.reqLength, hhead', hlen]
  have harea' : t.winRead (reqSlot ch (t.chan ch).reqCi + 8) (encodeTlvs tlvs).length = encodeTlvs tlvs := harea
  refine ⟨hop', htag', ?_⟩
  rw [State.checkedReq, hlen', if_neg (Nat.not_lt.2 hl), harea', area p tlvs hl hty hf]
  simp only [hmiss, hop', htag']

end Sys2Proof.Claims
end

section
namespace Sys2Proof.Claims
open Sys2Proof.Machine

/-! ## Responses and events in their slots (O12, O13) -/

theorem respond_mem (s : State) (ch opcode tag st : Nat) (tlvs : List Tlv) : (s.respond ch opcode tag st tlvs).mem
    = writeBytes s.mem (winBase + rspSlot ch (s.chan ch).rspPi) (responseBytes opcode tag st tlvs) := by
  simp only [State.respond, hostCause_mem, State.winWrite]

theorem respond_chans (s : State) (ch opcode tag st : Nat) (tlvs : List Tlv) : (s.respond ch opcode tag st tlvs).chans
    = tset s.chans ch { s.chan ch with rspPi := ((s.chan ch).rspPi + 1) % 65536, held := none } := by
  simp only [State.respond, hostCause_chans, winWrite_chans]

/-- Settles O12: the response's slot by reading after writing, its channel by the channel table, and the frame of posting. -/
theorem responseFillsTheNextSlot : Obligations.ResponseFillsTheNextSlot := by
  intro s ch opcode tag st tlvs hm
  have hch : (s.respond ch opcode tag st tlvs).chan ch
      = { s.chan ch with rspPi := ((s.chan ch).rspPi + 1) % 65536, held := none } := by
    rw [State.chan, respond_chans, tget_tset_same]
  refine ⟨?_, fun x hx => ?_, ?_, ?_, ?_, ?_, fun k hk => ?_, respond_frame s ch opcode tag st tlvs⟩
  · rw [respond_mem]; exact readBytes_writeBytes _ _ hm
  · rw [respond_mem]; exact readByte_writeBytes_other _ _ hx
  · rw [hch]
  · rw [hch]
  · rw [hch]
  · rw [hch]
  · rw [State.chan, respond_chans, tget_tset_other _ _ _ hk]; rfl

/-! ### Events -/

/-- Asleep, an event waits for ACTIVE (log entry 159). -/
theorem raiseTlvs_asleep {s : State} (h : s.asleep = true) (code : Nat) (tlvs : List Tlv) :
    s.raiseTlvs code tlvs = { s with evt := { s.evt with late := s.evt.late ++ [(code, tlvs)] } } := if_pos h

theorem raiseNow_room {s : State} (h : s.evtUsed < 256) (code : Nat) (tlvs : List Tlv) :
    s.raiseNow code tlvs = (s.postEvent code tlvs).hostCause 8 := if_neg (Nat.not_le.2 h)

theorem raiseNow_full {s : State} (h : 256 ≤ s.evtUsed) (code : Nat) (tlvs : List Tlv) :
    s.raiseNow code tlvs = s.dropEvent.hostCause 9 := if_pos h

@[simp] theorem postEvent_evt (s : State) (code : Nat) (tlvs : List Tlv) :
    (s.postEvent code tlvs).evt = { s.evt with pi := (s.evt.pi + 1) % 65536, seq := (s.evt.seq + 1) % 65536 } := rfl

@[simp] theorem postEvent_chans (s : State) (code : Nat) (tlvs : List Tlv) : (s.postEvent code tlvs).chans = s.chans := rfl

theorem postEvent_mem (s : State) (code : Nat) (tlvs : List Tlv) : (s.postEvent code tlvs).mem
    = writeBytes s.mem (winBase + (0x20000 + 0x80 * (s.evt.pi % 256))) (s.eventBytes code s.evt.seq tlvs) := by
  simp only [State.postEvent, State.winWrite]

/-- An event's slot begins with its code and its sequence number. -/
theorem eventBytes_start (s : State) (code seq : Nat) (tlvs : List Tlv) :
    ∃ rest, s.eventBytes code seq tlvs = u16 code ++ u16 seq ++ rest := by
  simp only [State.eventBytes, List.append_assoc]
  exact ⟨_, rfl⟩

/-- The first bytes of what was written read back. -/
theorem readBytes_writeBytes_left {m : List Host.Cell} (a : Nat) (x y : Bytes) (hm : Memory.wf m = true) :
    readBytes (writeBytes m a (x ++ y)) a x.length = x := by
  have h := readBytes_writeBytes a (x ++ y) hm
  rw [← readBytes_take (n := (x ++ y).length) (by simp), h, List.take_left]

/-- The slot of a posted event begins with its code and its sequence number. -/
theorem postEvent_reads {s : State} (hm : Memory.wf s.mem = true) (code : Nat) (tlvs : List Tlv) :
    readBytes (s.postEvent code tlvs).mem (winBase + (0x20000 + 0x80 * (s.evt.pi % 256))) 4 = u16 code ++ u16 s.evt.seq := by
  obtain ⟨rest, h⟩ := eventBytes_start s code s.evt.seq tlvs
  rw [postEvent_mem, h]
  exact readBytes_writeBytes_left _ (u16 code ++ u16 s.evt.seq) rest hm

/-- Settles O13: a sleeping device keeps the event back; an awake one posts it or drops it, by the room in its ring. -/
theorem eventFillsTheNextSlotOrIsCounted : Obligations.EventFillsTheNextSlotOrIsCounted := by
  refine ⟨fun s code fields hp => raiseTlvs_asleep ?_ code _, fun s code fields hm ha => ⟨fun h => ?_, fun h => ?_, raise_frame s code fields⟩⟩
  · obtain hp | hp := hp <;> simp [State.asleep, hp]
  · rw [State.raise, raiseTlvs_awake s code _ ha, raiseNow_room h]
    refine ⟨by rw [hostCause_evt, postEvent_evt], ?_, fun x hx => ?_⟩
    · rw [hostCause_mem]; exact postEvent_reads hm code _
    · rw [hostCause_mem, postEvent_mem]; exact readByte_writeBytes_other _ _ (.inl hx)
  · rw [State.raise, raiseTlvs_awake s code _ ha, raiseNow_full h, hostCause_evt, hostCause_mem]
    exact ⟨rfl, rfl, rfl, rfl, rfl⟩

/-! ## Parameters read as written (O17) -/

theorem pval_putParam_same (s : State) (id : Nat) (v : PVal) : (s.putParam id v).pval id = v := by
  simp [State.pval, State.putParam]

theorem pval_putParam_other (s : State) {id j : Nat} (v : PVal) (h : j ≠ id) : (s.putParam id v).pval j = s.pval j := by
  simp only [State.pval, State.putParam, tfind_tset_other _ _ h]; rfl

/-- A parameter without a further effect is only put into the table. -/
theorem setParam_plain (s : State) {id : Nat} (v : PVal) (h : id < 0xA010) (hspan : ¬ (0x4100 ≤ id ∧ id < 0x4500))
    (hsub : ¬ (0x5001 ≤ id ∧ id < 0x5200)) (hl : id ≠ 0x1011) (hm : id ≠ 0x1012) (hthaw : ¬ (0x1050 ≤ id ∧ id < 0x1055)) :
    s.setParam id v = s.putParam id v := by
  unfold State.setParam
  iterate 11 rw [if_neg (by omega)]

/-- Settles O17: such a parameter takes its place in the table, and nothing else happens. -/
theorem parameterReadsAsWritten : Obligations.ParameterReadsAsWritten := by
  intro s id v h hspan hsub hl hm hthaw
  rw [setParam_plain s v h hspan hsub hl hm hthaw]
  exact ⟨pval_putParam_same s id v, fun j hj => pval_putParam_other s v hj, rfl⟩

/-! ## The two copies of a record (O21) -/

/-- The sequence after another is the greater of the two, also where it wraps. -/
theorem seqGreater_succ (x : Nat) : seqGreater ((x + 1) % 2 ^ 32) x = true ∧ seqGreater x ((x + 1) % 2 ^ 32) = false := by
  simp only [seqGreater, Machine.sdiff, signed, Nat.reducePow, Nat.reduceSub, decide_eq_true_eq, decide_eq_false_iff_not]
  constructor <;> split <;> omega

theorem write_empty {r : NvRec} (d : NvData) (ha : r.a = none) (hb : r.b = none) : r.write d = { r with a := some ⟨1, d⟩ } := by
  simp [NvRec.write, ha, hb]

theorem write_onlyA {r : NvRec} {x : NvCopy} (d : NvData) (ha : r.a = some x) (hb : r.b = none) :
    r.write d = { r with b := some ⟨(x.seq + 1) % 2 ^ 32, d⟩ } := by simp [NvRec.write, ha, hb]

/-- Over two valid copies the write goes to the lower one, and is then in force. -/
theorem write_aNewer {r : NvRec} {x y : NvCopy} (d : NvData) (ha : r.a = some x) (hb : r.b = some y) (hg : seqGreater x.seq y.seq = true) :
    r.write d = { r with b := some ⟨(x.seq + 1) % 2 ^ 32, d⟩ } := by simp [NvRec.write, ha, hb, hg]

theorem write_bNewer {r : NvRec} {x y : NvCopy} (d : NvData) (ha : r.a = some x) (hb : r.b = some y) (hg : seqGreater x.seq y.seq = false) :
    r.write d = { r with a := some ⟨(y.seq + 1) % 2 ^ 32, d⟩ } := by simp [NvRec.write, ha, hb, hg]

theorem newest_both {x y : NvCopy} (p l : Nat) : NvRec.newest ⟨some x, some y, p, l⟩ = if seqGreater x.seq y.seq then some x else some y := rfl

/-- Settles O21: by which of the copies are valid and which is the newer; a sequence one ahead counts as greater. -/
theorem recordWriteTakesTheOlderCopy : Obligations.RecordWriteTakesTheOlderCopy := by
  refine ⟨fun r d ha hb => ?_, fun r x d ha hb => ?_, fun r x y d ha hb _ _ hs => ?_, fun r x y d ha hb _ _ hs => ?_⟩
  · rw [write_empty d ha hb]; exact ⟨rfl, hb⟩
  · rw [write_onlyA d ha hb]; exact ⟨ha, rfl⟩
  · rw [write_aNewer d ha hb (hs ▸ (seqGreater_succ _).1)]
    refine ⟨ha, rfl, ?_⟩
    rw [ha, newest_both, (seqGreater_succ _).2]; rfl
  · rw [write_bNewer d ha hb (hs ▸ (seqGreater_succ _).2)]
    refine ⟨hb, rfl, ?_⟩
    rw [hb, newest_both, (seqGreater_succ _).1]; rfl

end Sys2Proof.Claims
end

section
namespace Sys2Proof.Claims
open Sys2Proof.Machine

/-! ## Host accesses (O3, O5, O6) -/

/-! ### What an access leaves alone -/

theorem SameBut.trans {s t u : State} (h : SameBut s t) (h' : SameBut t u) : SameBut s u := by
  unfold SameBut at *
  exact (congrArg (fun x : State => { x with sys := s.sys, hif := s.hif, evs := s.evs, cc := s.cc }) h').trans h

theorem sameBut_leaveDoze (s : State) : SameBut s s.leaveDoze := by
  unfold SameBut
  exact congrArg (fun x : State => { x with hif := s.hif, evs := s.evs }) (leaveDoze_frame s)

theorem sameBut_hostRecheck (s : State) : SameBut s s.hostRecheck := by
  unfold SameBut
  exact congrArg (fun x : State => { x with sys := s.sys, hif := s.hif, cc := s.cc }) (hostRecheck_frame s)

theorem sameBut_setHif (s : State) (h : Hif) : SameBut s (s.setHif h) := by unfold SameBut; rfl

/-- What an access leaves alone is what its effect leaves alone. -/
theorem sameBut_access {s u : State} (h : SameBut s.leaveDoze u) : SameBut s u.hostRecheck :=
  ((sameBut_leaveDoze s).trans h).trans (sameBut_hostRecheck u)

@[simp] theorem leaveDoze_hifErr (s : State) : s.leaveDoze.hifErr = s.hifErr := by simp [State.hifErr]

@[simp] theorem setHif_mapped (s : State) (h : Hif) (a : Nat) : (s.setHif h).mapped a = s.mapped a := mapped_congr a rfl rfl

@[simp] theorem countUnmapped_mapped (s : State) (a : Nat) : s.countUnmapped.mapped a = s.mapped a := mapped_congr a rfl rfl

@[simp] theorem setHif_awake (s : State) (h : Hif) : (s.setHif h).awake = s.awake := rfl

/-! ### Words read (02 R24, R32) -/

theorem readWord_unmapped {s : State} {a : Nat} (h : s.mapped a = false) : s.readWord a = 0#32 := by simp [State.readWord, h]

theorem hspiRead_partial (s : State) (a : Nat) {n : Nat} (h : n < 4) :
    s.hspiRead a n = s.setHif { s.hif with hspiOut := some (s.readWord a) } := if_pos h

theorem hspiRead_complete (s : State) (a : Nat) {n : Nat} (h : 4 ≤ n) :
    s.hspiRead a n = (s.setHif { s.hif with hspiOut := some (s.readWord a) }).readDone a := if_neg (Nat.not_lt.2 h)

theorem readDone_unmapped {s : State} {a : Nat} (h : s.mapped a = false) : s.readDone a = s.countUnmapped := by simp [State.readDone, h]

/-- A mapped word that is neither HIF_ERR nor EVT_LOST is read without an effect. -/
theorem readDone_plain {s : State} {a : Nat} (h : s.mapped a = true) (he : a ≠ 0x10) (hl : a ≠ 0x10108) : s.readDone a = s := by
  simp [State.readDone, h, he, hl]

theorem mapped_hifErr (s : State) : s.mapped 0x10 = true := by simp [State.mapped]

theorem mapped_evtLost (s : State) : s.mapped 0x10108 = true := by simp [State.mapped]

/-- The identification and status block. -/
theorem readWord_low (s : State) {a : Nat} (h : a < 0x20) : s.readWord a = BitVec.ofNat 32 (s.idReg (a / 4)) := by
  simp [State.readWord, State.mapped, h]

/-- The mailbox index block. -/
theorem readWord_index (s : State) {off : Nat} (h : off < 0x110) : s.readWord (0x10000 + off) = BitVec.ofNat 32 (s.indexReg off) := by
  have hm : s.mapped (0x10000 + off) = true := by
    simp only [State.mapped, Bool.or_eq_true, Bool.and_eq_true, decide_eq_true_eq]; omega
  simp [State.readWord, hm, show ¬ 0x10000 + off < 0x20 by omega, show 0x10000 + off < 0x20000 by omega]

theorem readWord_hifErr (s : State) : s.readWord 0x10 = BitVec.ofNat 32 s.hifErr := readWord_low s (by omega)

theorem readWord_evtLost (s : State) : s.readWord 0x10108 = BitVec.ofNat 32 s.evt.lost := readWord_index s (off := 0x108) (by omega)

theorem readWord_scratch (s : State) : s.readWord 0x14 = s.sys.scratch := (readWord_low s (by omega)).trans (BitVec.ofNat_toNat ..)

theorem readDone_hifErr {s : State} (h : s.awake = true) :
    s.readDone 0x10 = s.setHif { s.hif with badOp := 0, unmapped := 0, mbxOverrun := 0, inbandReject := 0 } := by
  simp [State.readDone, mapped_hifErr, State.clearHif, h]

theorem readDone_evtLost (s : State) : s.readDone 0x10108 = { s with evt := { s.evt with lost := 0 } } := by
  simp [State.readDone, mapped_evtLost]

theorem align_aligned (s : State) {a : Nat} (h : a % 4 = 0) : s.align a = s := if_pos h

theorem align_unaligned (s : State) {a : Nat} (h : a % 4 ≠ 0) : s.align a = s.countUnmapped := if_neg h

theorem word_of_aligned {a : Nat} (h : a % 4 = 0) : a / 4 * 4 = a := Nat.div_mul_cancel (Nat.dvd_of_mod_eq_zero h)

/-! ### Words written -/

theorem exec_unmappedRead {s : State} (h : s.awake = true) {a : Nat} (ha : a % 4 ≠ 0 ∨ s.mapped a = false) :
    exec (.unmappedAccess none a) s = .next ((s.leaveDoze.align a).hspiRead (a / 4 * 4) 4).hostRecheck := by
  show Host.Outcome.next (if _ then s else s.access _) = _
  rw [if_neg (by obtain ha | ha := ha <;> simp [ha]), access_awake s _ h]

theorem exec_unmappedWrite {s : State} (h : s.awake = true) {a : Nat} (ha : a % 4 ≠ 0 ∨ s.mapped a = false) (v : Word) :
    exec (.unmappedAccess (some v) a) s = .next ((s.leaveDoze.align a).writeWord (a / 4 * 4) v).hostRecheck := by
  show Host.Outcome.next (if _ then s else s.access _) = _
  rw [if_neg (by obtain ha | ha := ha <;> simp [ha]), access_awake s _ h]

theorem exec_hifErrRead {s : State} (h : s.awake = true) (n : Nat) :
    exec (.hifErrRead n) s = .next (s.leaveDoze.hspiRead 0x10 n).hostRecheck := congrArg _ (access_awake s _ h)

theorem exec_evtLostRead {s : State} (h : s.awake = true) (n : Nat) :
    exec (.evtLostRead n) s = .next (s.leaveDoze.hspiRead 0x10108 n).hostRecheck := congrArg _ (access_awake s _ h)

theorem writeWord_unmapped {s : State} {a : Nat} (h : s.mapped a = false) (v : Word) : s.writeWord a v = s.countUnmapped := by
  simp [State.writeWord, h]

theorem exec_registerWrite {s : State} (h : s.awake = true) {a : Nat} (ha : a % 4 = 0) (v : Word) :
    exec (.registerWrite a v) s = .next (s.leaveDoze.writeWord a v).hostRecheck := by
  show Host.Outcome.next (s.access _) = _
  rw [access_awake s _ h, align_aligned _ ha, word_of_aligned ha]

theorem mapped_low (s : State) {a : Nat} (h : a < 0x20) : s.mapped a = true := by simp [State.mapped, h]

/-- In its own block a write reaches SYS_SCRATCH alone. -/
theorem writeWord_low (s : State) {a : Nat} (h : a < 0x20) (v : Word) :
    s.writeWord a v = if a = 0x14 then { s with sys := { s.sys with scratch := v } } else s := by
  simp [State.writeWord, mapped_low s h, h]

/-- An address within the host windows. -/
theorem mapped_window {s : State} {a : Nat} (h : winBase ≤ a) (h' : a < winBase + s.winSize) : s.mapped a = true := by
  simp [State.mapped, h, h']

/-- The blocks below the windows end before them. -/
theorem winBase_above {a : Nat} (h : winBase ≤ a) :
    ¬ a < 0x20 ∧ ¬ a < 0x20000 ∧ ¬ a < 0x30000 ∧ ¬ a < 0x40000 ∧ ¬ a < winBase := by
  unfold winBase at *; omega

theorem writeWord_window {s : State} {a : Nat} (h : winBase ≤ a) (hm : s.mapped a = true) (v : Word) :
    s.writeWord a v = { s with mem := writeBytes s.mem a (leBytes 4 v.toNat) } := by
  obtain ⟨h₁, h₂, h₃, h₄, h₅⟩ := winBase_above h
  simp [State.writeWord, hm, h₁, h₂, h₃, h₄, h₅, State.winWrite, Nat.add_sub_of_le h]

theorem readWord_window {s : State} {a : Nat} (h : winBase ≤ a) (hm : s.mapped a = true) :
    s.readWord a = BitVec.ofNat 32 (leNat (readBytes s.mem a 4)) := by
  obtain ⟨h₁, h₂, h₃, h₄, h₅⟩ := winBase_above h
  simp [State.readWord, hm, h₁, h₂, h₃, h₄, h₅, State.winRead, Nat.add_sub_of_le h]

/-- Settles O3: each access comes down to the word it reaches, between the end of DOZE and the host line's recheck. -/
theorem hostWordsReachTheirRegisters : Obligations.HostWordsReachTheirRegisters := by
  refine ⟨fun op s ha h₁ h₂ => ?_, fun a s ha h4 hm => ?_, fun a v s ha h4 hm => ?_, fun a s ha h4 he hl hm => ?_,
    fun n s ha hn => ?_, fun n s ha hn => ?_, fun n s ha hn => ?_, fun n s ha hn => ?_, fun v s ha => ?_,
    fun a v s ha hlow h4 h14 => ?_, fun a v s ha hw hlo hhi h4 => ?_⟩
  · show Host.Outcome.next (if _ then s else _) = _
    rw [if_neg (by simp [ha, h₁, h₂])]; rfl
  · refine ⟨_, exec_unmappedRead ha (.inr hm), ?_⟩
    have hu : s.leaveDoze.mapped a = false := by rw [leaveDoze_mapped, hm]
    rw [align_aligned _ h4, word_of_aligned h4, hspiRead_complete _ _ (Nat.le_refl 4), readWord_unmapped hu,
      readDone_unmapped (by rw [setHif_mapped, hu])]
    exact ⟨by simp [State.countUnmapped, satAdd], by simp [State.countUnmapped],
      sameBut_access ((sameBut_setHif _ _).trans (sameBut_setHif _ _))⟩
  · refine ⟨_, exec_unmappedWrite ha (.inr hm) v, ?_⟩
    rw [align_aligned _ h4, word_of_aligned h4, writeWord_unmapped (by rw [leaveDoze_mapped, hm])]
    exact ⟨by simp [State.countUnmapped, satAdd], sameBut_access (sameBut_setHif _ _)⟩
  · refine ⟨_, exec_unmappedRead ha (.inl h4), ?_⟩
    rw [align_unaligned _ h4, hspiRead_complete _ _ (Nat.le_refl 4), readDone_plain (by simp [hm]) he hl]
    exact ⟨by simp [State.countUnmapped, satAdd], sameBut_access ((sameBut_setHif _ _).trans (sameBut_setHif _ _))⟩
  · refine ⟨_, exec_hifErrRead ha n, ?_⟩
    rw [hspiRead_complete _ _ hn, readWord_hifErr, readDone_hifErr (by rw [setHif_awake, leaveDoze_awake, ha])]
    exact ⟨by simp, by simp, by simp, by simp, by simp, sameBut_access ((sameBut_setHif _ _).trans (sameBut_setHif _ _))⟩
  · refine ⟨_, exec_hifErrRead ha n, ?_⟩
    rw [hspiRead_partial _ _ hn, readWord_hifErr]
    exact ⟨by simp, sameBut_access (sameBut_setHif _ _)⟩
  · refine ⟨_, exec_evtLostRead ha n, ?_⟩
    rw [hspiRead_complete _ _ hn, readWord_evtLost, readDone_evtLost]
    exact ⟨by simp, by simp, by simp, by simp, by simp⟩
  · refine ⟨_, exec_evtLostRead ha n, ?_⟩
    rw [hspiRead_partial _ _ hn, readWord_evtLost]
    exact ⟨by simp, sameBut_access (sameBut_setHif _ _)⟩
  · refine ⟨_, exec_registerWrite ha (by omega) v, ?_⟩
    rw [writeWord_low _ (by omega), if_pos rfl]
    exact ⟨by simp, by rw [readWord_scratch, hostRecheck_sys], by simp, sameBut_access (by unfold SameBut; rfl)⟩
  · refine ⟨_, exec_registerWrite ha h4 v, ?_⟩
    rw [writeWord_low _ hlow, if_neg h14]
    exact ⟨by simp [leaveDoze_sys], by simp, (sameBut_leaveDoze s).trans (sameBut_hostRecheck _)⟩
  · refine ⟨_, exec_registerWrite ha h4 v, ?_⟩
    have hmap : s.leaveDoze.mapped a = true := by rw [leaveDoze_mapped, mapped_window hlo hhi]
    rw [writeWord_window hlo hmap]
    refine ⟨?_, fun b hb => ?_, by simp, by simp, by simp, by simp, by simp⟩
    · rw [readWord_window hlo (by rw [hostRecheck_mapped, ← hmap]; exact mapped_congr a rfl rfl), hostRecheck_mem]
      have hr := readBytes_writeBytes a (leBytes 4 v.toNat) (leaveDoze_mem s ▸ hw)
      rw [leBytes_length] at hr
      rw [hr, leNat_leBytes v.isLt, BitVec.ofNat_toNat, BitVec.setWidth_eq]
    · rw [hostRecheck_mem, ← leaveDoze_mem s]
      exact readByte_writeBytes_other _ _ (by rwa [leBytes_length])

end Sys2Proof.Claims
end

section
namespace Sys2Proof.Claims
open Sys2Proof.Machine

/-! ## Index and ring registers (O5, O6) -/

/-- The low half of a word that carries an index. -/
theorem word_low_half {v : Nat} (h : v < 65536) : (BitVec.ofNat 32 v).toNat % 65536 = v := by
  rw [BitVec.toNat_ofNat]; omega

/-! ### Event slots freed (02 R38) -/

theorem exec_evtCiWrite {s : State} (h : s.awake = true) {v : Nat} (hv : v < 65536) :
    exec (.evtCiWrite (BitVec.ofNat 32 v)) s = .next (s.leaveDoze.writeEvtCi v).hostRecheck := by
  show Host.Outcome.next (s.access _) = _
  rw [access_awake s _ h, word_low_half hv]

theorem writeEvtCi_taken {s : State} {v : Nat} (h : indexAdvance s.evt.ci v ≤ s.evtUsed) :
    s.writeEvtCi v = ({ s with evt := { s.evt with ci := v } } : State).tellLost := if_neg (Nat.not_lt.2 h)

/-- An advance of the index frees that many slots. -/
theorem evtUsed_freed {s : State} {v : Nat} (hv : v < 65536) (hpi : s.evt.pi < 65536) (hci : s.evt.ci < 65536)
    (h : indexAdvance s.evt.ci v ≤ s.evtUsed) :
    ({ s with evt := { s.evt with ci := v } } : State).evtUsed = s.evtUsed - indexAdvance s.evt.ci v := by
  simp only [State.evtUsed, indexAdvance] at h ⊢
  omega

/-- With events dropped and room again, EV_EVENTS_LOST is posted. -/
theorem tellLost_posts {s : State} (ha : s.awake = true) (hd : s.evt.dropped ≠ 0) (hu : s.evtUsed < 256) :
    s.tellLost = (({ s with evt := { s.evt with dropped := 0 } } : State).postEvent 0x0001
      (fieldTlvs [u16 s.evt.dropped, u16 s.evt.lastDropped])).hostCause 8 := by
  have ha' : ({ s with evt := { s.evt with dropped := 0 } } : State).awake = true := by simpa [State.awake] using ha
  have hu' : ({ s with evt := { s.evt with dropped := 0 } } : State).evtUsed < 256 := by simpa [State.evtUsed] using hu
  rw [State.tellLost, if_neg (by omega)]
  simp only
  rw [State.raise, raiseTlvs_awake _ _ _ ha', raiseNow_room hu']

/-- Settles O5: the write frees a slot, and EV_EVENTS_LOST takes the next one. -/
theorem freedSlotTellsLostEvents : Obligations.FreedSlotTellsLostEvents := by
  intro v s ha hm hv hpi hci hd hadv hle hused
  have huse : s.leaveDoze.evtUsed = s.evtUsed := by simp [State.evtUsed]
  have htake : indexAdvance s.leaveDoze.evt.ci v ≤ s.leaveDoze.evtUsed := by rw [huse, leaveDoze_evt]; exact hle
  have hroom := evtUsed_freed (s := s.leaveDoze) hv (by simpa using hpi) (by simpa using hci) htake
  have hpos : 0 < indexAdvance s.leaveDoze.evt.ci v := by rw [leaveDoze_evt]; exact hadv
  refine ⟨_, exec_evtCiWrite ha hv, ?_⟩
  rw [writeEvtCi_taken htake, tellLost_posts (by rw [← ha, ← leaveDoze_awake s]; rfl) (by simp; omega) (by rw [hroom]; omega)]
  refine ⟨by simp, by simp, by simp, by simp, by simp, ?_, ?_⟩
  · have hread := postEvent_reads (s := { s.leaveDoze with evt := { s.leaveDoze.evt with ci := v, dropped := 0 } }) (by simpa using hm) 0x0001
      (fieldTlvs [u16 s.leaveDoze.evt.dropped, u16 s.leaveDoze.evt.lastDropped])
    rw [hostRecheck_mem, hostCause_mem, ← leaveDoze_evt s, ← readBytes_take (show 2 ≤ 4 by omega)]
    exact (congrArg (List.take 2) hread).trans (List.take_left' rfl)
  · simp

/-! ### Rings (02 R39-R41) -/

@[simp] theorem leaveDoze_ringOk (s : State) (x : Ring) (log2 : Nat) : s.leaveDoze.ringOk x log2 = s.ringOk x log2 := by simp [State.ringOk]

theorem exec_ringBaseWrite {s : State} (h : s.awake = true) (r : Nat) (v : Word) :
    exec (.ringBaseWrite r v) s = .next (s.leaveDoze.writeRingBase r v.toNat).hostRecheck :=
  congrArg Host.Outcome.next (access_awake s _ h)

theorem exec_ringCfgWrite {s : State} (h : s.awake = true) (r : Nat) (v : Word) :
    exec (.ringCfgWrite r v) s = .next (s.leaveDoze.writeRingCfg r v.toNat).hostRecheck :=
  congrArg Host.Outcome.next (access_awake s _ h)

theorem exec_ringTailWrite {s : State} (h : s.awake = true) {v : Nat} (hv : v < 65536) (r : Nat) :
    exec (.ringTailWrite r (BitVec.ofNat 32 v)) s = .next (s.leaveDoze.writeRingTail r v).hostRecheck := by
  show Host.Outcome.next (s.access _) = _
  rw [access_awake s _ h, word_low_half hv]

theorem writeRingBase_off {s : State} {r : Nat} (hr : r < 32) (h : (s.ring r).enable = false) (v : Nat) :
    s.writeRingBase r v = s.setRing r { s.ring r with base := v } := if_neg (by simp [h, Nat.not_le.2 hr])

theorem writeRingBase_on {s : State} {r : Nat} (h : (s.ring r).enable = true) (v : Nat) : s.writeRingBase r v = s := by
  simp [State.writeRingBase, h]

theorem cfg_word {log2 : Nat} (h : log2 ≤ 16) : (BitVec.ofNat 32 (256 + log2)).toNat = 256 + log2 := by
  rw [BitVec.toNat_ofNat]; omega

/-- A configuration word that asks for ENABLE, with its size. -/
theorem enable_word {log2 : Nat} (h : log2 ≤ 16) : (256 + log2) % 32 = log2 ∧ (256 + log2).testBit 8 = true := by
  refine ⟨by omega, ?_⟩
  rw [Nat.testBit_eq_decide_div_mod_eq]
  exact decide_eq_true (by omega)

theorem writeRingCfg_ok {s : State} {r log2 : Nat} (hr : r < 32) (h : (s.ring r).enable = false) (hlo : 6 ≤ log2) (hhi : log2 ≤ 16)
    (hok : s.ringOk (s.ring r) log2 = true) :
    s.writeRingCfg r (256 + log2) = s.setRing r { s.ring r with log2 := log2, enable := true } := by
  obtain ⟨hmod, hbit⟩ := enable_word hhi
  simp [State.writeRingCfg, hmod, hbit, hok, h, show ¬ 32 ≤ r by omega, show ¬ (log2 < 6 ∨ 16 < log2) by omega]

theorem writeRingCfg_bad {s : State} {r log2 : Nat} (hr : r < 32) (h : (s.ring r).enable = false) (hlo : 6 ≤ log2) (hhi : log2 ≤ 16)
    (hok : s.ringOk (s.ring r) log2 = false) :
    s.writeRingCfg r (256 + log2) = (s.setRing r { s.ring r with log2 := log2 }).countOverrun := by
  obtain ⟨hmod, hbit⟩ := enable_word hhi
  simp [State.writeRingCfg, hmod, hbit, hok, h, show ¬ 32 ≤ r by omega, show ¬ (log2 < 6 ∨ 16 < log2) by omega]

theorem writeRingCfg_off {s : State} {r : Nat} (hr : r < 32) (h : (s.ring r).enable = true) (hw : (s.ring r).waiting = false) :
    s.writeRingCfg r 0 = s.setRing r { s.ring r with enable := false, head := 0, tail := 0 } := by
  simp [State.writeRingCfg, h, hw, show ¬ 32 ≤ r by omega]

/-- The bound of an advance of RING_TAIL, as it is computed and as it is meant: the entries that are not posted, less the one that stays free. -/
theorem ring_room {n head tail : Nat} (hh : head < n) (ht : tail < n) :
    (head + 2 * n - tail % n - 1) % n = n - 1 - (tail + n - head) % n := by
  rw [Nat.mod_eq_of_lt ht]
  by_cases h : head ≤ tail
  · rw [show tail + n - head = (tail - head) + n by omega, Nat.add_mod_right, Nat.mod_eq_of_lt (show tail - head < n by omega),
      show head + 2 * n - tail - 1 = (n - 1 - (tail - head)) + n by omega, Nat.add_mod_right, Nat.mod_eq_of_lt (by omega)]
  · rw [Nat.mod_eq_of_lt (show tail + n - head < n by omega),
      show head + 2 * n - tail - 1 = (n - 1 - (tail + n - head)) + 2 * n by omega, Nat.add_mul_mod_self_right, Nat.mod_eq_of_lt (by omega)]

theorem writeRingTail_beyond {s : State} {r v : Nat} (hr : r < 32) (h : (s.ring r).size ≤ v) : s.writeRingTail r v = s.countOverrun := by
  rw [State.writeRingTail, if_neg (Nat.not_le.2 hr), if_pos (.inl h)]

theorem writeRingTail_taken {s : State} {r v : Nat} (hr : r < 32) (hv : v < (s.ring r).size) (hh : (s.ring r).head < (s.ring r).size)
    (ht : (s.ring r).tail < (s.ring r).size)
    (hb : (v + (s.ring r).size - (s.ring r).tail) % (s.ring r).size ≤ (s.ring r).size - 1 - (s.ring r).posted) :
    s.writeRingTail r v = s.setRing r { s.ring r with tail := v } := by
  have hroom := ring_room hh ht
  rw [Nat.mod_eq_of_lt ht] at hroom
  rw [Ring.posted] at hb
  simp only [State.writeRingTail, Nat.mod_eq_of_lt ht, hroom]
  rw [if_neg (by omega), if_neg (not_or.2 ⟨by omega, Nat.not_lt.2 hb⟩)]

/-- Settles O6: each register by the case of its rule. -/
theorem ringRegistersFollowTheirRules : Obligations.RingRegistersFollowTheirRules := by
  refine ⟨fun r v s ha hr he => ?_, fun r v s ha he => ?_, fun r log2 s ha hr he hlo hhi hok => ?_,
    fun r log2 s ha hr he hlo hhi hok => ?_, fun r s ha hr he hw => ?_, fun r v s ha hr hv hh ht hl hb h16 => ?_,
    fun r v s ha hr hv h16 => ?_⟩
  · rw [exec_ringBaseWrite ha, writeRingBase_off hr (by simpa using he), leaveDoze_ring]
  · rw [exec_ringBaseWrite ha, writeRingBase_on (by simpa using he)]
  · rw [exec_ringCfgWrite ha, cfg_word hhi, writeRingCfg_ok hr (by simpa using he) hlo hhi (by simpa using hok), leaveDoze_ring]
  · refine ⟨_, exec_ringCfgWrite ha r _, ?_⟩
    rw [cfg_word hhi, writeRingCfg_bad hr (by simpa using he) hlo hhi (by simpa using hok), leaveDoze_ring]
    exact ⟨by simp [State.ring, State.countOverrun, State.setRing], by simp [State.countOverrun, satAdd]⟩
  · rw [exec_ringCfgWrite ha, show (0#32).toNat = 0 from rfl, writeRingCfg_off hr (by simpa using he) (by simpa using hw), leaveDoze_ring]
  · rw [exec_ringTailWrite ha h16, writeRingTail_taken hr (by simpa using hv) (by simpa using hh) (by simpa using ht)
      (by simpa using hb), leaveDoze_ring]
  · refine ⟨_, exec_ringTailWrite ha h16 r, ?_⟩
    rw [writeRingTail_beyond hr (by simpa using hv)]
    exact ⟨by simp [State.countOverrun, satAdd], sameBut_access (sameBut_setHif _ _)⟩

/-! ## A host transmit ring (O7) -/

/-- Settles O7: the row with its guard open, by where the buffer lies. -/
theorem transmitRingEntryIsConsumed : Obligations.TransmitRingEntryIsConsumed := by
  intro r s hr hlive hen hpost hwait
  have hguard : ¬ (16 ≤ r ∨ (!s.live) = true ∨ (!(s.ring r).enable) = true ∨ (s.ring r).posted = 0 ∨ (s.ring r).waiting = true) := by
    simp [hlive, hen, hpost, hwait, hr]
  refine ⟨fun harea => (?_ : execHostTxRingFrame r s = _), fun harea hport hstamp => (?_ : execHostTxRingFrame r s = _)⟩
  · simp only [execHostTxRingFrame, if_neg hguard, harea, Bool.not_false, if_true]
  · simp only [execHostTxRingFrame, if_neg hguard, harea, hport, hstamp, Bool.not_true, Bool.false_eq_true, if_false, if_true]

/-! ## Requests that fail their checks (O14) -/

/-- In the words of the statements: a faulty request is answered and has no effect, whatever its command's body is. -/
theorem serve_faulty {s : State} {ch opcode st : Nat} {ty : Option Nat} {p : TlvSpec} (body : Body) (h₁ : s.canServe ch = true)
    (h₂ : s.reqOpcode ch = opcode) (h₃ : s.checkedReq ch p = .error (st, ty)) :
    s.serve ch opcode p body = answered s ch opcode st (ty.elim [] (fun t => [⟨0xFFFF, u16 t⟩])) (begun s ch) := serve_refuses h₁ h₂ h₃

/-- Settles O14: the checks come before the command's body. -/
theorem faultyRequestsHaveNoEffect : Obligations.FaultyRequestsHaveNoEffect := fun _ _ _ _ =>
  ⟨fun h₁ h₂ h₃ => congrArg _ (serve_faulty paramSetBody h₁ h₂ h₃), fun h₁ h₂ h₃ => congrArg _ (serve_faulty nvStoreBody h₁ h₂ h₃),
    fun h₁ h₂ h₃ => congrArg _ (serve_faulty fwStageBody h₁ h₂ h₃)⟩

end Sys2Proof.Claims
end

section
namespace Sys2Proof.Claims
open Sys2Proof.Machine

/-! ## Commands that answer, read and write (O15, O16, O18, O20) -/

section
variable {s t : State} {ch op st : Nat} {p : TlvSpec} {q : Req} {body : Body} {tl : List Tlv} {i : Instr}

/-- A mailbox command whose body answers at once. -/
theorem exec_answers (hx : exec i s = .next (s.serve ch op p body)) (h : Asked s ch op p q) (hb : body q (begun s ch) = (.now st tl, t)) :
    exec i s = .next (answered s ch op st tl t) := hx.trans (congrArg _ (serve_now h hb))

/-- A mailbox command whose body waits for record writes. -/
theorem exec_keeps (hx : exec i s = .next (s.serve ch op p body)) (h : Asked s ch op p q) (hb : body q (begun s ch) = (.wait tl, t)) :
    exec i s = .next (keptBack s ch op tl t) := hx.trans (congrArg _ (serve_wait h hb))

end

/-! ### Identification and status -/

theorem factoryBody_oui {q : Req} (h : q.nat 1 = 0x0031) (s : State) : factoryBody q s = (okReply [⟨2, beBytes 3 Config.oui⟩], s) := by
  simp [factoryBody, h]

theorem factoryBody_item {q : Req} (h : q.nat 1 ≠ 0x0031) {b : Bytes} (hb : Config.factoryItem (q.nat 1) = some b) (s : State) :
    factoryBody q s = (okReply [⟨2, b⟩], s) := by simp [factoryBody, h, hb]

theorem factoryBody_unknown {q : Req} (h : q.nat 1 ≠ 0x0031) (hb : Config.factoryItem (q.nat 1) = none) (s : State) :
    factoryBody q s = (naming stRange 1, s) := by simp [factoryBody, h, hb]

theorem sysInfoBody_begun (q : Req) (s : State) (ch : Nat) : sysInfoBody q (begun s ch) = (okReply
    [tlvN 1 2 (if Config.isZk4832 then 0x4832 else 0x4816), tlvN 2 1 0xB0, tlvN 3 4 s.sys.fwVersion, tlvN 4 4 Config.serial,
      tlvN 5 1 s.sys.fwSlot, ⟨6, beBytes 6 Config.macBase⟩], begun s ch) := by
  simp only [sysInfoBody, begun_sys]

/-- Settles O15: each body answers from the state it is given, which it leaves as it was. -/
theorem identificationCommandsAnswer : Obligations.IdentificationCommandsAnswer := by
  refine ⟨fun s ch q a => exec_answers rfl a rfl, fun s ch q a => exec_answers rfl a (sysInfoBody_begun q s ch),
    fun s ch q a h => exec_answers rfl a (factoryBody_oui h _), fun s ch q a h => ?_, fun s ch q a => exec_answers rfl a rfl⟩
  cases hb : Config.factoryItem (q.nat 1) with
  | some b => exact exec_answers rfl a (factoryBody_item h hb _)
  | none => exact exec_answers rfl a (factoryBody_unknown h hb _)

/-! ### Parameters -/

/-- A TLV type that no TLV of the request has reads as 0. -/
theorem nat_absent {q : Req} {ty : Nat} (h : ∀ t ∈ q.tlvs, t.ty ≠ ty) : q.nat ty = 0 := by
  have hf : q.tlvs.find? (fun t => t.ty == ty) = none := List.find?_eq_none.2 fun t ht => by simpa using h t ht
  simp [Req.nat, Req.bytes, Req.val?, hf, leNat]

/-- The value in force of a readable parameter, asked for by an empty TLV. -/
theorem getParam_now {s : State} {gpio id k : Nat} {r : ParamRow} (h : id ≠ 0x0033) (hr : paramRow? id = some (r, k)) (ha : r.access ≠ .wo) :
    s.getParam false gpio ⟨id, []⟩ = .ok ⟨id, encodeVal r.ty (s.pval id)⟩ := by
  simp [State.getParam, hr, ha, h]

theorem paramGetBody_one {s : State} {q : Req} {gpio id k : Nat} {r : ParamRow} (hq : q.tlvs = [⟨id, []⟩]) (h : id ≠ 0xFFFE) (h33 : id ≠ 0x0033)
    (hr : paramRow? id = some (r, k)) (ha : r.access ≠ .wo) :
    paramGetBody gpio q s = (okReply [⟨id, encodeVal r.ty (s.pval id)⟩], s) := by
  have h0 : q.nat 0xFFFE = 0 := nat_absent (by simp [hq, h])
  simp [paramGetBody, h0, hq, h, mapTlvs, getParam_now h33 hr ha]

/-- Values of no record bring no record write. -/
theorem paramWrites_plain {l : List (Nat × PVal)} (h : l.all (fun p => !isOverlay p.1 && !isResetClass p.1) = true) : paramWrites l = [] := by
  have ho : l.filter (fun p => isOverlay p.1) = [] := List.filter_eq_nil_iff.2 fun p hp => by
    have := List.all_eq_true.1 h p hp; simp_all
  have hc : l.filter (fun p => isResetClass p.1) = [] := List.filter_eq_nil_iff.2 fun p hp => by
    have := List.all_eq_true.1 h p hp; simp_all
  simp [paramWrites, ho, hc]

theorem paramWrites_overlay {id : Nat} {v : PVal} (ho : isOverlay id = true) (hc : isResetClass id = false) :
    paramWrites [(id, v)] = [(0x0010, [(id, v)])] := by simp [paramWrites, ho, hc]

theorem paramSetBody_plain {s : State} {q : Req} {l : List (Nat × PVal)} (hv : s.setValues q.tlvs = .ok l) (hw : paramWrites l = []) :
    paramSetBody q s = (okReply [], s.setParams l) := by simp [paramSetBody, hv, hw]

/-- One record to write, which the hold-up check lets through. -/
theorem paramSetBody_record {s : State} {q : Req} {l l' : List (Nat × PVal)} {id : Nat} (hv : s.setValues q.tlvs = .ok l)
    (hw : paramWrites l = [(id, l')]) (hc : s.writeRefused (writeCost (recSize id)) = none) :
    paramSetBody q s = (.wait [], s.recordFor id false [⟨some q.ch, .params l' false⟩]) := by simp [paramSetBody, hv, hw, hc]

theorem paramDescribeBody_one {s : State} {q : Req} {id k : Nat} {r : ParamRow} (hq : q.tlvs = [⟨id, []⟩]) (hr : paramRow? id = some (r, k)) :
    paramDescribeBody q s = (okReply (describe s id r k), s) := by simp [paramDescribeBody, hq, hr]

/-- Settles O16: each body in the case that the statement describes. -/
theorem parameterCommandsReadAndWrite : Obligations.ParameterCommandsReadAndWrite := by
  refine ⟨fun s ch gpio id k q r a hq h h33 hr hacc => exec_answers rfl a (paramGetBody_one hq h h33 hr hacc),
    fun s ch q l a hv hl => exec_answers rfl a (paramSetBody_plain hv (paramWrites_plain hl)), fun s ch id q v a hv ho hc hw => ?_,
    fun s ch id k q r a hq hr => exec_answers rfl a (paramDescribeBody_one hq hr)⟩
  obtain rfl : q.ch = ch := checkedReq_ch a.2.2
  exact exec_keeps rfl a (paramSetBody_record hv (paramWrites_overlay ho hc) hw)

/-! ### Staged sets (02 R45-R50) -/

theorem begun_set? (s : State) (ch h : Nat) : (begun s ch).set? h = s.set? h := by simp [State.set?]

theorem stageOpenBody_opens {s : State} {q : Req} {c : CommitClass} {h : Nat} (hc : CommitClass.ofCode? (q.nat 1) = some c) (hr : c ≠ .reset)
    (ht : c.takes (q.nat 2) = true) (hf : tfree s.sets 4 = some h) :
    stageOpenBody q s = (okReply [tlvN 3 1 h], s.putSet h { cls := c, domain := q.nat 2 }) := by
  cases c <;> simp_all [stageOpenBody]

theorem withSet_some {f : Nat → StageSet → Req → State → Reply × State} {s : State} {q : Req} {x : StageSet} (h : s.set? (q.nat 3) = some x) :
    withSet f q s = f (q.nat 3) x q s := by simp [withSet, h]

theorem withOpenSet_some {f : Nat → StageSet → Req → State → Reply × State} {s : State} {q : Req} {x : StageSet}
    (h : s.set? (q.nat 3) = some x) (hx : x.committed = false) : withOpenSet f q s = f (q.nat 3) x q s := by
  simp [withOpenSet, withSet_some h, hx]

theorem stageWriteBody_stages {s : State} {q : Req} {x : StageSet} {l : List (Nat × PVal)} {ws : List Staged} (h : s.set? (q.nat 3) = some x)
    (hx : x.committed = false) (hl : s.stageValues x (q.tlvs.filter (fun t => t.ty != 3)) = .ok l)
    (hw : addWrites x.writes (l.map (fun p => .param p.1 p.2)) = some ws) :
    stageWriteBody q s = (okReply [tlvN 4 2 ws.length], s.putSet (q.nat 3) { x with writes := ws }) := by
  simp [stageWriteBody, withOpenSet_some h hx, hl, hw]

theorem stageAbortBody_open {s : State} {q : Req} {x : StageSet} (h : s.set? (q.nat 3) = some x) (hx : x.committed = false) :
    stageAbortBody q s = (okReply [], { s with sets := tdel s.sets (q.nat 3) }) := by simp [stageAbortBody, withSet_some h, hx]

/-- An IMMEDIATE set without a fault applies when it is committed. -/
theorem commitBody_immediate {s : State} {q : Req} {x : StageSet} (h : s.set? (q.nat 3) = some x) (hx : x.committed = false)
    (hi : x.cls = .immediate) (hf : s.setFault x (q.nat 5) = none) (hb : s.board.isSome = true) :
    commitBody q s = (okReply [tlvN 7 8 (q.nat 5)], s.calve (q.nat 3) { x with target := q.nat 5 } (q.nat 5)) := by
  have hn : s.board.isNone = false := Option.isNone_eq_false_iff.2 hb
  simp [commitBody, withOpenSet_some h hx, hi, State.targetFar, State.commitSet, State.atOnce, hf, hn]

/-- A set that stands alone at its boundary applies there. -/
theorem exec_commitBoundary_alone {s : State} {h : Nat} {x : StageSet} (hs : s.set? h = some x) (hx : x.committed = true) (ha : s.awake = true)
    (hd : s.boundaryDue x = true) (hg : s.boundaryGroup x = [(h, x)]) : exec (.commitBoundary h) s = .next (s.calve h x x.boundary) := by
  have hin : thas s.sets h = true := by rw [thas_eq]; exact Option.isSome_of_eq_some hs
  show execCommitBoundary h s = _
  simp [execCommitBoundary, hs, hx, ha, hd, hg, hin]

/-- Settles O18: each body in the case that the statement describes; the request changes no set before its body runs. -/
theorem stagingCommandsHoldAndApplySets : Obligations.StagingCommandsHoldAndApplySets := by
  refine ⟨fun s ch h q c a hc hr ht hf => exec_answers rfl a (stageOpenBody_opens hc hr ht (by rwa [begun_sets])),
    fun s ch q x l ws a hs hx hl hw => exec_answers rfl a (stageWriteBody_stages (by rwa [begun_set?]) hx hl hw),
    fun s ch q x a hs hx => exec_answers rfl a (stageAbortBody_open (by rwa [begun_set?]) hx),
    fun s ch q x a hs => exec_answers rfl a (withSet_some (by rwa [begun_set?])),
    fun s ch q x a hs hx hi hf hb => exec_answers rfl a (commitBody_immediate (by rwa [begun_set?]) hx hi hf (by rwa [begun_board])),
    fun s h x hs hx ha hd hg => exec_commitBoundary_alone hs hx ha hd hg⟩

/-! ### Declarations (02 R51, R52) -/

theorem boardBody_accepts {s : State} {q : Req} (sense : Nat) (hf : s.boardFault q = none) (hr : s.repeatFault (readBoard q) = none) :
    boardBody sense q s = (okReply [], ({ s with pins := { s.pins with holdup := sense } } : State).acceptBoard (readBoard q)) := by
  simp [boardBody, hf, hr]

theorem fieldAt_nil (off n : Nat) : fieldAt [] off n = 0 := by simp [fieldAt, leNat]

/-- A list that the request does not carry is empty. -/
theorem readList_absent {s : State} {q : Req} {ty : Nat} (h : q.has ty = false) (size limit : Nat) : s.readList q ty size limit = .ok [] := by
  have hv : q.tlvs.find? (fun t => t.ty == ty) = none := List.find?_eq_none.2 fun t ht => by
    have := List.any_eq_false.1 h t ht; simpa using this
  simp [State.readList, Req.bytes, Req.val?, hv, fieldAt_nil]

/-- A repeated declaration without lists keeps its class and nothing else. -/
theorem siteBody_repeat {s : State} {q : Req} (hd : s.ddrReady = true) (hc : s.classFault (q.nat 0x0201) = none) (hcl : q.has 0x0204 = false)
    (hn : q.has 0x0205 = false) (hs : s.sys.siteOk = true) :
    siteBody q s = (okReply [], ({ s with
      site := { s.site with cls := q.nat 0x0201 }, sys := { s.sys with siteOk := true } } : State).watchSubs) := by
  simp [siteBody, hd, hc, readList_absent hcl, readList_absent hn, hcl, hn, hs]

/-- Settles O20: a board without a fault, and a repeated site without lists. -/
theorem declarationsAreAccepted : Obligations.DeclarationsAreAccepted := by
  refine ⟨fun s ch sense q a hf hr => exec_answers rfl a ((boardBody_accepts sense hf hr).trans (by rw [begun_pins]; rfl)),
    fun s ch q a hd hc hcl hn hs => exec_answers rfl a ((siteBody_repeat hd hc hcl hn (by rw [begun_sys]; exact hs)).trans (by rw [begun_site]; rfl))⟩

end Sys2Proof.Claims
end

section
namespace Sys2Proof.Claims
open Sys2Proof.Machine

/-! ## The write engine and the supply inputs (O23) -/

/-! ### A write starts (02 R55) -/

/-- With a write in front that passes, none is held. -/
theorem holdHeads_front {s : State} {w : NvWrite} {l : List NvWrite} (hq : s.nv.queue = w :: l) (hw : s.mayWrite w = true) (fuel : Nat) :
    State.holdHeads fuel s = s := by
  cases fuel with
  | zero => rfl
  | succ n => simp [State.holdHeads, hq, hw]

theorem startAny_front {s : State} {w : NvWrite} {l : List NvWrite} (hq : s.nv.queue = w :: l) (hw : s.mayWrite w = true) :
    s.startAny = s.beginWrite w := by
  simp [State.startAny, holdHeads_front hq hw, hq, hw]

/-- Outside a flush, the write in front starts where its check passes. -/
theorem startWrite_front {s : State} {w : NvWrite} {l : List NvWrite} (hbusy : s.nv.busy = none) (hb : s.board.isSome = true)
    (hf : s.nv.flush = none) (hq : s.nv.queue = w :: l) (hw : s.mayWrite w = true) : s.startWrite = s.beginWrite w := by
  have hnow : s.flushNow = none := by simp [State.flushNow, hf]
  have hsame : ({ s with nv := { s.nv with flush := none } } : State) = s := by rw [← hf]
  have hn : s.board.isNone = false := Option.isNone_eq_false_iff.2 hb
  unfold State.startWrite
  rw [if_neg (by simp [hbusy, hn])]
  simp only [hnow, hsame, startAny_front hq hw]

/-! ### A write completes (02 R54) -/

theorem ctr_bumpCtr_same (s : State) (l : List Ctr) (b : CtrBank) (row n : Nat) :
    ({ s with ctrs := bumpCtr l b row n } : State).ctr b row = min 0xFFFFFFFF (({ s with ctrs := l } : State).ctr b row + n) := by
  induction l with
  | nil => by_cases h : n = 0 <;> simp [bumpCtr, h, State.ctr, satAdd]
  | cons c l ih =>
    by_cases h : c.bank = b ∧ c.row = row
    · simp [bumpCtr, h, State.ctr, satAdd]
    · have hp : (c.bank == b && c.row == row) = false := by simpa using h
      simpa [bumpCtr, h, hp, State.ctr] using ih

/-- A counter bumped counts one more, up to its largest value (00 R6). -/
theorem ctr_bump_same (s : State) (b : CtrBank) (row : Nat) : (s.bump b row).ctr b row = min 0xFFFFFFFF (s.ctr b row + 1) :=
  ctr_bumpCtr_same s s.ctrs b row 1

/-- The device's own write of a parameter record. -/
def deviceParams (id : Nat) (l : List (Nat × PVal)) : NvWrite :=
  { id := id, data := some (.params l), size := 256, urgent := false, owners := [⟨none, .none⟩] }

/-- Nobody waits for such a write: its content enters the record, and NV_WRITES counts it. -/
theorem writeDone_deviceParams (s : State) {id : Nat} (l : List (Nat × PVal)) (h0 : id ≠ 0) (hm : isMarkRecord id = false) :
    s.writeDone (deviceParams id l) = ({ s with nv := { s.nv with
      busy := none, recs := tset s.nv.recs id ((s.nvRec id).write (.params l)) } } : State).bump .mem 17 := by
  have hrec : (deviceParams id l).isRecord = true := by simp [NvWrite.isRecord, deviceParams, h0]
  have howner : ∀ t : State, (deviceParams id l).owners.foldl (fun (s : State) o => s.ownerWritten (deviceParams id l) o) t = t := fun t => rfl
  have hcont : ∀ t : State, t.contentWritten (deviceParams id l).id (.params l) = t := fun t => rfl
  have hrel : ∀ (t : State) (tl : List Tlv), t.releaseDone (deviceParams id l) tl = t := fun t tl => rfl
  have hd : (deviceParams id l).data.getD (.bytes []) = .params l := rfl
  have hflush : (deviceParams id l).ofFlush = false := rfl
  have hmark : isMarkRecord (deviceParams id l).id = false := hm
  simp only [State.writeDone, hrec, hd, howner, hcont, hrel, hflush, hmark, if_true, Bool.false_eq_true, if_false]
  rfl

theorem nvRec_tset_same (s : State) (id : Nat) (r : NvRec) :
    ({ s with nv := { s.nv with recs := tset s.nv.recs id r } } : State).nvRec id = r := by
  simp only [State.nvRec, tget_tset_same]

/-! ### Supply inputs (02 R56, 16 R454) -/

@[simp] theorem recordDue_board (s : State) (id : Nat) (u : Bool) : (s.recordDue id u).board = s.board := rfl

theorem recordsDue_board (l : List Nat) (s : State) : (l.foldl (fun (s : State) id => s.recordDue id true) s).board = s.board := by
  induction l generalizing s with
  | nil => rfl
  | cons id l ih => rw [List.foldl_cons, ih, recordDue_board]

/-- A source without a mask bit is latched, and ends nothing. -/
theorem latchWake_outside (s : State) {bit : Nat} (h : 5 ≤ bit) : ∃ p, s.latchWake bit = { s with pwr := p } :=
  ⟨_, if_neg fun hd => Nat.not_lt.2 h hd.2.1⟩

theorem exec_nvWriteStart {s : State} (h : s.awake = true) (code : Nat) :
    exec (.nvWriteStart code) s = .next ({ s with pins := { s.pins with holdup := code } } : State).startWrite :=
  congrArg Host.Outcome.next (if_pos h)

theorem exec_nvWriteComplete {s : State} {w : NvWrite} (h : s.awake = true) (hw : s.nv.busy = some w) :
    exec .nvWriteComplete s = .next (s.writeDone w) := by
  show execNvWriteComplete s = _
  simp [execNvWriteComplete, hw, h]

/-- The fall of mains on a declared board, outside HIBERNATE: EV_MAINS, and the flush of the critical records. -/
theorem exec_mainsFall {s : State} (hh : s.sys.hold.held = false) (hoff : s.sys.pstate ≠ .off) (hhib : s.sys.pstate ≠ .hibernate)
    (hm : s.pins.mains = true) (hb : s.board.isSome = true) {u : State}
    (hu : u = (({ s with pins := { s.pins with mains := false } } : State).latchWake 6).raise 0xE003 [boolByte false]) :
    exec .mainsFall s = .next { u.flushIds.foldl (fun (s : State) id => s.recordDue id true) u with
      nv := { (u.flushIds.foldl (fun (s : State) id => s.recordDue id true) u).nv with flush := some (0, u.flushIds) } } := by
  obtain ⟨p, hp⟩ := latchWake_outside { s with pins := { s.pins with mains := false } } (bit := 6) (by omega)
  have hstate : u.sys.pstate ≠ .hibernate := by rw [hu, hp, raise_sys]; exact hhib
  have hboard : (u.flushIds.foldl (fun (s : State) id => s.recordDue id true) u).board.isNone = false := by
    rw [recordsDue_board, hu, hp, raise_board]; exact Option.isNone_eq_false_iff.2 hb
  show execMainsFall s = _
  unfold execMainsFall
  rw [if_neg (by simp [hh, hoff, hm])]
  simp only [← hu]
  rw [if_neg hstate, if_neg (by simp [hboard])]

/-- Settles O23: the engine's write in front, the device's own record, and each supply input past its guard. -/
theorem writesCompleteAndSupplyEventsAct : Obligations.WritesCompleteAndSupplyEventsAct := by
  refine ⟨fun s code w l ha hbusy hb hf hq hw => ?_, fun s id l ha h0 hm hf hbusy => ?_, fun s hh hoff hhib hmains hb => ?_,
    fun s hh hoff hmains => ?_, fun s code hh hoff hb hbelow hsense => ?_, fun s code hh hoff hb hbelow hsense => ?_⟩
  · exact (exec_nvWriteStart ha code).trans (congrArg _ (startWrite_front (s := { s with pins := { s.pins with holdup := code } })
      hbusy hb hf hq hw))
  · refine ⟨_, (exec_nvWriteComplete ha hbusy).trans (congrArg _ (writeDone_deviceParams s l h0 hm)), ?_⟩
    exact ⟨rfl, nvRec_tset_same _ _ _, fun k hk => tget_tset_other _ _ _ hk, rfl, ctr_bump_same _ _ _, rfl, rfl⟩
  · exact exec_mainsFall hh hoff hhib hmains hb rfl
  · show Host.Outcome.next (if _ then s else _) = _
    rw [if_neg (by simp [hh, hoff, hmains])]
  · show Host.Outcome.next (if _ then s else _) = _
    rw [if_neg (by simp [hh, hoff, hbelow, hsense])]
    rfl
  · show Host.Outcome.next (if _ then s else _) = _
    have hn : s.board.isNone = false := Option.isNone_eq_false_iff.2 hb
    rw [if_neg (by simp [hh, hoff, hbelow, hn, hsense])]

end Sys2Proof.Claims
end

section
namespace Sys2Proof.Claims
open Sys2Proof.Machine

/-! ## Radio commands and samples (O24) -/

/-- Five minutes after the start, the host writes thaw.wake_addr, and then the shortest thaw.retune_s. -/
def thawRewritten : State := (({ time := { aon := 32768 * 300 } } : State).setParam 0x1053 (.num 5)).setParam 0x1055 (.num 60)

/-- The frame that ends now began before the first of the two writes, and is matched by the parameters of its start: a retune every 600 s
(03 R97). -/
theorem thawRewritten_retune : thawRewritten.thawFrame.2.retune = 600 ∧ thawRewritten.pnat 0x1055 = 60 := by decide +kernel

theorem thawRewritten_notDue : thawRewritten.retuneDue = false := by
  have hdie : thawRewritten.rf.dieTemp - thawRewritten.rf.thaw.retunedTemp = 0 := rfl
  have haon : thawRewritten.rf.thaw.retunedAon = 0 ∧ thawRewritten.time.aon = 9830400 := ⟨rfl, rfl⟩
  simp [State.retuneDue, thawRewritten_retune, hdie, haon]

/-- Refutes O24 in its last clause: the period by which THAW_RETUNE goes is that of the frame's start (03 R97), not that of the parameter as
it stands now. In `thawRewritten` 300 s have passed, more than the parameter's 60 s and less than the frame's 600 s: nothing is retuned. -/
theorem not_radioCommandsAndSamplesAct : ¬ Obligations.RadioCommandsAndSamplesAct := by
  unfold Obligations.RadioCommandsAndSamplesAct
  rintro ⟨-, -, -, -, -, -, -, -, -, -, -, hthaw⟩
  have hperiod : thawRewritten.rf.thaw.retunedAon + 32768 * thawRewritten.pnat 0x1055 ≤ thawRewritten.time.aon := by
    rw [thawRewritten_retune.2]; decide
  obtain ⟨t, hexec, hretuned, -⟩ := (hthaw thawRewritten).1 (.inl hperiod)
  have hkept : exec .thawRetune thawRewritten = .next thawRewritten :=
    congrArg Host.Outcome.next (if_neg (by simp [thawRewritten_notDue]))
  obtain rfl : thawRewritten = t := Host.Outcome.next.inj (hkept.symm.trans hexec)
  exact absurd hretuned (by decide)

end Sys2Proof.Claims
end

section
namespace Sys2Proof.Claims
open Sys2Proof.Machine

/-! ## The coexistence ports (O28) -/

@[simp] theorem setCoex_radio (s : State) (b : Bool) (p : CoexPort) (x : Radio) : (s.setCoex b p).radio x = s.radio x :=
  congrArg (Tri.get · x) (setCoex_radios s b p)

section
variable {s : State} {b : Bool} {x : Radio} {g : EmGroup}

theorem exec_coexReqLead_send (ha : s.awake = true) (hx : s.coexRadio b false = some x) (hg : (s.radio x).nextGroup = some g)
    (hlead : g.start - (1000 * s.coexParam b 0x1030 : Nat) ≤ s.now) :
    exec (.coexReqLead b false) s = .next (s.setCoex b { s.coexPort b with
      req := true, pri := g.inMask (s.coexParam b 0x1032), gnt := (s.coexPort b).req && (s.coexPort b).gnt, gntAt := none
      sample := s.coexParam b 0x1031
      revoke := if (s.coexPort b).req then (s.coexPort b).revoke else s.coexParam b 0x1034 == 1 }) := by
  show execCoexReqLead b false s = _
  simp only [execCoexReqLead, ha, hx, hg, if_true, Bool.false_eq_true, if_false, if_neg (Int.not_lt.2 hlead)]

theorem exec_coexReqLead_receive (ha : s.awake = true) (hx : s.coexRadio b false = some x) (hrx : s.coexParam b 0x1033 = 1) :
    exec (.coexReqLead b true) s = .next (s.setCoex b { s.coexPort b with rx := true }) := by
  show execCoexReqLead b true s = _
  simp [execCoexReqLead, ha, hx, hrx]

theorem exec_coexGntSample_due (ha : s.awake = true) (hx : s.coexRadio b false = some x) (hg : (s.radio x).nextGroup = some g)
    (hreq : (s.coexPort b).req = true) (hlead : g.start - (1000 * (s.coexPort b).sample : Nat) ≤ s.now) (hstart : s.now ≤ g.start)
    (level : Bool) : exec (.coexGntSample b level) s = .next (s.setCoex b { s.coexPort b with gnt := s.coexRead b 3 level }) := by
  show execCoexGntSample b level s = _
  simp only [execCoexGntSample, ha, hx, hg, hreq, hlead, hstart, if_true, decide_true, Bool.and_self]

theorem exec_coexGntRise_wanted (ha : s.awake = true) (hx : s.coexRadio b false = some x) (hreq : (s.coexPort b).req = true)
    (hgnt : (s.coexPort b).gnt = false) :
    exec (.coexGntRise b) s = .next (s.setCoex b { s.coexPort b with gnt := true, gntAt := some s.now }) := by
  show execCoexGntRise b s = _
  simp [execCoexGntRise, ha, hx, hreq, hgnt]

theorem exec_coexGntFall_revokes (ha : s.awake = true) (hx : s.coexRadio b false = some x) (hg : (s.radio x).group = some g)
    (hair : g.onAir = true) (hrev : (s.coexPort b).revoke = true) :
    exec (.coexGntFall b) s
      = .next (((s.setCoex b { s.coexPort b with gnt := false }).bump (.radio x) 13).cutGroup x stCoexRevoked) := by
  show execCoexGntFall b s = _
  simp [execCoexGntFall, ha, hx, hg, hair, hrev]

/-- A request on a granting port: by its priority the guarded emissions that stand against the grant are all of them, or those of the
classes in the mask. -/
theorem exec_coexReqRise_grants (ha : s.awake = true) (hx : s.coexRadio b true = some x) (pri : Bool) :
    exec (.coexReqRise b pri) s = .next (s.setCoex b { s.coexPort b with
      req := true, pri := s.coexRead b 2 pri
      gnt := (if s.coexRead b 2 pri then !(s.guarded x b).any (fun e => (s.coexParam b 0x1032).testBit e.cls) else (s.guarded x b).isEmpty)
        && !(s.coexPort b).spent
      rose := s.time.raw, limit := s.coexParam b 0x1036 }) := by
  show execCoexReqRise b pri s = _
  simp only [execCoexReqRise, ha, hx, if_true]

theorem exec_coexReqFall_released (ha : s.awake = true) (hx : s.coexRadio b true = some x) :
    exec (.coexReqFall b) s = .next (s.setCoex b {}) := by
  show execCoexReqFall b s = _
  simp [execCoexReqFall, ha, hx]

theorem exec_coexMaxGrantExpiry_ends (ha : s.awake = true) (hx : s.coexRadio b true = some x) (hgnt : (s.coexPort b).gnt = true)
    (hran : s.ranUs (some (s.coexPort b).rose) (s.coexPort b).limit = true) :
    exec (.coexMaxGrantExpiry b) s = .next (s.setCoex b { s.coexPort b with gnt := false, spent := true }) := by
  show execCoexMaxGrantExpiry b s = _
  simp [execCoexMaxGrantExpiry, ha, hx, hgnt, hran]

end

/-- Settles O28: each row of a port on its radio, past its guard. -/
theorem coexistencePortsFollowTheirLines : Obligations.CoexistencePortsFollowTheirLines := by
  refine ⟨fun s b x g ha hx hg hlead => exec_coexReqLead_send ha hx hg hlead, fun s b x ha hx hrx => exec_coexReqLead_receive ha hx hrx,
    fun s b level x g ha hx hg hreq hlead hstart => exec_coexGntSample_due ha hx hg hreq hlead hstart level,
    fun s b x ha hx hreq hgnt => exec_coexGntRise_wanted ha hx hreq hgnt,
    fun s b x g ha hx hg hair hrev => exec_coexGntFall_revokes ha hx hg hair hrev, fun s b pri x ha hx hnear hspent => ?_,
    fun s b pri x e l ha hx hnear hpri => ?_, fun s b x ha hx => exec_coexReqFall_released ha hx,
    fun s b x ha hx hgnt hran => exec_coexMaxGrantExpiry_ends ha hx hgnt hran⟩
  · rw [exec_coexReqRise_grants ha hx, hnear, hspent]
    cases s.coexRead b 2 pri <;> rfl
  · rw [exec_coexReqRise_grants ha hx, hnear, hpri]
    rfl

end Sys2Proof.Claims
end

section
namespace Sys2Proof.Claims
open Sys2Proof.Machine

/-! ## Emissions locked, started, skipped and ended (O26) -/

/-! ### The plan lock (05 R153-R156) -/

/-- The beacons of a group with the segment IE of their plan lock (06 R186). -/
def segmented (g : List Emission) (s : State) : State :=
  g.foldl (fun (s : State) e => match e.owner with | .beacon net _ => s.segmentIe net | _ => s) s

/-- A group that can start in time decided as one, and the state in which its radio holds what ablation and the power decision left of it:
the rest of a plan lock, with first symbol `t`. -/
def lockDecided (x : Radio) (g : List Emission) (t : Int) (s : State) : State :=
  let a := State.project g [] s
  let d := State.decidePower x (g.length + 1) a.1 a.2
  let v := (g.filter (fun e => !d.1.any (fun c => c.em.id == e.id))).foldl
    (fun (s : State) e => (s.bump (.bbtx x) txRefused).dropPending x (some stAblated) e) d.2.2.2
  let w := v.setRadio x { v.radio x with pend := (v.radio x).pend.filter (fun e => !g.any (fun y => y.id == e.id)) }
  (if d.1.isEmpty then w else w.putGroup x { carriers := d.1, start := t, due := t, extPa := d.2.1 }).watchSubs

section
variable {s : State} {x : Radio} {l : List Emission}

/-- A group of which every emission can start in time is decided whole. -/
theorem lockGroup_inTime (h : ∀ e ∈ l, e.owner = .test ∨ s.firstSymbol l ≤ s.latestStart e) :
    s.lockGroup x l = lockDecided x l (s.firstSymbol l) (segmented l s) := by
  have hbusy : l.filter (fun e => s.tooLate e (s.firstSymbol l)) = [] := List.filter_eq_nil_iff.2 fun e he => by
    obtain ht | ht := h e he
    · simp [State.tooLate, ht]
    · simp [State.tooLate, Int.not_lt.2 ht]
  have hall : l.filter (fun _ => true) = l := List.filter_eq_self.2 fun _ _ => rfl
  simp only [State.lockGroup, hbusy, List.any_nil, Bool.not_false, hall, List.foldl_nil]
  rfl

theorem segmented_noBeacon (h : l.all (fun e => match e.owner with | .beacon _ _ => false | _ => true) = true) : segmented l s = s := by
  have hstep : ∀ e ∈ l, (match e.owner with | .beacon net _ => s.segmentIe net | _ => s) = s := fun e he => by
    have := List.all_eq_true.1 h e he
    cases ho : e.owner <;> simp_all
  exact List.foldlRecOn (motive := (· = s)) l _ rfl fun t ht e he => by subst ht; exact hstep e he

theorem exec_planLock_due (ha : s.awake = true) (hd : s.dueGroup x = l) (hl : l ≠ []) :
    exec (.planLock x []) s = .next (s.lockGroup x l) := by
  have hmiss : (s.dueGroup x).filter (fun e => ([] : List Nat).contains e.id) = [] := List.filter_eq_nil_iff.2 fun e _ => by simp
  show execPlanLock x [] s = _
  simp only [execPlanLock, ha, Bool.not_true, Bool.false_eq_true, if_false, hmiss, List.foldl_nil]
  cases l with
  | nil => exact absurd rfl hl
  | cons e l => rw [hd]

end

/-! ### A group's start (03 R63, R83, R85, 05 R156, R157) -/

section
variable {s : State} {x : Radio} {g : EmGroup}

theorem exec_emissionStart_held (hg : (s.radio x).group = some g) (hm : s.mayStart g g.start = true) (hh : g.hold = none)
    (hy : s.yields x = false) {c : HoldCause} (hc : s.heldBy x g = some c) :
    exec (.emissionStart x) s = .next (s.setGroup x (some { g with hold := some c })) := by
  show execEmissionStart x s = _
  simp [execEmissionStart, hg, hm, hh, hy, hc]

/-- A group that yields, or that nothing holds, is held no longer. -/
theorem exec_emissionStart_goes (hg : (s.radio x).group = some g) (hm : s.mayStart g g.start = true) (hh : g.hold = none)
    (hfree : s.yields x = true ∨ s.heldBy x g = none) : exec (.emissionStart x) s = .next (s.startGroup x g) := by
  have hcause : (if s.yields x then none else s.heldBy x g) = none := by obtain h | h := hfree <;> simp [h]
  show execEmissionStart x s = _
  simp [execEmissionStart, hg, hm, hh, hcause]

theorem exec_emissionDeferredStart_due (hg : (s.radio x).group = some g) (hm : s.mayStart g (s.firstAt x g) = true)
    (hh : g.hold.isSome = true) (hb : s.blockedBy x g = none) : exec (.emissionDeferredStart x) s = .next (s.startGroup x g) := by
  show execEmissionDeferredStart x s = _
  simp [execEmissionDeferredStart, hg, hm, hh, hb]

theorem startGroup_yields (hy : s.yields x = true) : s.startGroup x g = (s.skipGroup x g .yielded).watchSubs := if_pos hy

theorem startGroup_beyond (hy : s.yields x = false) (hb : s.beyondProjection g = true) : s.startGroup x g = s.backToLock x g := by
  simp [State.startGroup, hy, hb]

theorem startGroup_keys (hy : s.yields x = false) (hb : s.beyondProjection g = false) : s.startGroup x g = s.keyGroup x g := by
  simp [State.startGroup, hy, hb]

/-! ### An emission skipped, and a group's end (03 R63, 08 R239) -/

theorem exec_emissionLatestStart_pending {id : Nat} {e : Emission} (hp : (s.radio x).pend.find? (fun e => e.id == id) = some e)
    (ho : e.owner ≠ .test) (hl : s.latestStart e ≤ s.now) :
    exec (.emissionLatestStart x id) s = .next ((s.bump (.bbtx x) txSkipBusy).dropPending x (some stCarrierBusy) e) := by
  show execEmissionLatestStart x id s = _
  simp [execEmissionLatestStart, hp, ho, hl]

theorem exec_emissionLatestStart_locked {id : Nat} {c : Carrier} (hp : (s.radio x).pend.find? (fun e => e.id == id) = none)
    (hf : (s.radio x).follow = []) (hg : (s.radio x).group = some g) (ha : g.onAir = false)
    (hc : g.carriers.find? (fun c => c.em.id == id) = some c) (ho : c.em.owner ≠ .test) (hl : s.latestStart c.em ≤ s.now)
    (hs : s.stillStarts x g c.em = false) : exec (.emissionLatestStart x id) s = .next (s.skipCarrier x g c) := by
  show execEmissionLatestStart x id s = _
  simp [execEmissionLatestStart, hp, hf, hg, ha, hc, ho, hl, hs]

/-- With the last of its emissions skipped, a group ends. -/
theorem skipCarrier_last {c : Carrier} (hc : g.carriers = [c]) : s.skipCarrier x g c
    = (((s.bump (.radio x) (((s.blockedBy x g).orElse (fun _ => g.hold)).getD .synth).row).unsent x
      (some (((s.blockedBy x g).orElse (fun _ => g.hold)).getD .synth).status) c.em).endGroup x).watchSubs := by
  simp [State.skipCarrier, hc]

theorem exec_emissionEnd_whole (hg : (s.radio x).group = some g) (ha : g.onAir = true) (hc : g.cut = none) :
    exec (.emissionEnd x) s
      = .next (g.carriers.foldl (fun (s : State) c => s.ownerSent x (unsigned 64 g.stamped) c.em) (s.rampDown x g)) := by
  show execEmissionEnd x s = _
  simp [execEmissionEnd, hg, ha, hc]

theorem exec_emissionEnd_cut (hg : (s.radio x).group = some g) (ha : g.onAir = true) {v : Nat} (hc : g.cut = some v) :
    exec (.emissionEnd x) s = .next (g.carriers.foldl (fun (s : State) c => s.unsent x (some v) c.em) (s.rampDown x g)) := by
  show execEmissionEnd x s = _
  simp [execEmissionEnd, hg, ha, hc]

end

/-- Settles O26: each row past its guard, by the case that its premises name. -/
theorem emissionsAreLockedStartedAndEnded : Obligations.EmissionsAreLockedStartedAndEnded := by
  refine ⟨fun s x g ha hd hne hb ht => ?_, fun s x g hg hm hh => ⟨fun hy => ?_, fun c hy hc => exec_emissionStart_held hg hm hh hy hc,
      fun _ hc => exec_emissionStart_goes hg hm hh (.inr hc), fun hy hc hp => ?_, fun hy hc hp => ?_⟩,
    fun s x g hg hm hh hb => exec_emissionDeferredStart_due hg hm hh hb, fun s x id e hp ho hl => exec_emissionLatestStart_pending hp ho hl,
    fun s x id g c hp hf hg ha hc hid ho hl hs => ?_, fun s x g hg ha => ⟨fun hc => exec_emissionEnd_whole hg ha hc,
      fun v hc => exec_emissionEnd_cut hg ha hc⟩⟩
  · rw [exec_planLock_due ha hd hne, lockGroup_inTime ht, segmented_noBeacon hb]
    rfl
  · rw [exec_emissionStart_goes hg hm hh (.inl hy), startGroup_yields hy]
  · rw [exec_emissionStart_goes hg hm hh (.inr hc), startGroup_beyond hy hp]
  · rw [exec_emissionStart_goes hg hm hh (.inr hc), startGroup_keys hy hp]
  · have hfind : g.carriers.find? (fun c => c.em.id == id) = some c := by simp [hc, hid]
    exact (exec_emissionLatestStart_locked hp hf hg ha hfind ho hl hs).trans (congrArg _ (skipCarrier_last hc))

end Sys2Proof.Claims
end

section
namespace Sys2Proof.Claims
open Sys2Proof.Machine

/-! ## What the receive array does when a radio is blanked (O25, O27) -/

/-- A counter keeps its value while another one is counted. -/
theorem ctr_bumpBy_other (s : State) {b b' : CtrBank} {row row' : Nat} (h : b' ≠ b ∨ row' ≠ row) (n : Nat) :
    (s.bumpBy b row n).ctr b' row' = s.ctr b' row' := by
  have key : ∀ l : List Ctr, (bumpCtr l b row n).find? (fun c => c.bank == b' && c.row == row')
      = l.find? (fun c => c.bank == b' && c.row == row') := fun l => by
    induction l with
    | nil =>
      have hne : ¬ (b = b' ∧ row = row') := by rintro ⟨rfl, rfl⟩; simp at h
      by_cases hn : n = 0 <;> simp_all [bumpCtr]
    | cons c l ih =>
      by_cases hc : c.bank = b ∧ c.row = row
      · obtain ⟨rfl, rfl⟩ := hc
        have hne : ¬ (c.bank = b' ∧ c.row = row') := by rintro ⟨rfl, rfl⟩; simp at h
        simp_all [bumpCtr]
      · simp only [bumpCtr, if_neg hc, List.find?_cons, ih]
  simp only [State.ctr, State.bumpBy, key]

/-- `t` differs from `s` in the receive array, the wires of the coexistence ports and counters other than the transmitters' alone. -/
structure LaneWork (s t : State) : Prop where
  frame : { t with bb := s.bb, rf := { t.rf with coexA := s.rf.coexA, coexB := s.rf.coexB }, ctrs := s.ctrs } = s
  sends : ∀ (x : Radio) (row : Nat), t.ctr (.bbtx x) row = s.ctr (.bbtx x) row

namespace LaneWork
variable {s t u : State}

theorem refl (s : State) : LaneWork s s := ⟨rfl, fun _ _ => rfl⟩

theorem trans (h : LaneWork s t) (h' : LaneWork t u) : LaneWork s u :=
  ⟨(congrArg (fun v : State => { v with
      bb := s.bb, rf := { v.rf with coexA := s.rf.coexA, coexB := s.rf.coexB }, ctrs := s.ctrs }) h'.frame).trans h.frame,
    fun x row => (h'.sends x row).trans (h.sends x row)⟩

theorem ite {c : Prop} [Decidable c] (ht : LaneWork s t) (hu : LaneWork s u) : LaneWork s (if c then t else u) := by
  split <;> assumption

theorem foldl {α : Type} {f : State → α → State} (h : ∀ s a, LaneWork s (f s a)) (l : List α) (s : State) : LaneWork s (l.foldl f s) :=
  List.foldlRecOn (motive := LaneWork s) l f (refl s) fun _ ht a _ => ht.trans (h _ a)

/-- A change of the receive array. -/
theorem bb (s : State) (b : Bb) : LaneWork s { s with bb := b } := ⟨rfl, fun _ _ => rfl⟩

theorem setCoex (s : State) (b : Bool) (p : CoexPort) : LaneWork s (s.setCoex b p) := by cases b <;> exact ⟨rfl, fun _ _ => rfl⟩

/-- A counter that is not one of a transmitter. -/
theorem bumpBy (s : State) {b : CtrBank} (h : ∀ x, CtrBank.bbtx x ≠ b) (row n : Nat) : LaneWork s (s.bumpBy b row n) :=
  ⟨rfl, fun x _ => ctr_bumpBy_other s (.inl (h x)) n⟩

theorem mem_eq (h : LaneWork s t) : t.mem = s.mem := (congrArg State.mem h.frame :)

theorem time_eq (h : LaneWork s t) : t.time = s.time := (congrArg State.time h.frame :)

theorem radios_eq (h : LaneWork s t) : t.rf.radios = s.rf.radios := (congrArg (fun v : State => v.rf.radios) h.frame :)

theorem noteBusy (s : State) (x : Radio) (bins : Nat × Nat) (a b : Int) : LaneWork s (s.noteBusy x bins a b) := .ite (refl s) (.bb s _)

theorem vacate (s : State) (l : Nat) : LaneWork s (s.vacate l) := by
  unfold State.vacate
  split
  · split
    · exact noteBusy ..
    · exact refl s
  · exact refl s

theorem noteFrameEnd (s : State) (l : Nat) : LaneWork s (s.noteFrameEnd l) := by
  unfold State.noteFrameEnd
  split
  · exact .ite (.bb s _) (refl s)
  · exact refl s

theorem dropSoft (s : State) (l : Nat) : LaneWork s (s.dropSoft l) :=
  .trans (.ite (refl s) (.bumpBy s (by simp) 19 _)) (.bb _ _)

theorem rxRelease (s : State) (x : Radio) : LaneWork s (s.rxRelease x) := foldl (fun s _ => .ite (.setCoex s _ _) (refl s)) _ s

theorem freeLane (s : State) (l : Nat) : LaneWork s (s.freeLane l) :=
  (((vacate s l).trans (noteFrameEnd _ l)).trans (dropSoft _ l)).trans ((LaneWork.bb _ _).trans (rxRelease _ _))

theorem dropFrame (s : State) (l : Nat) : LaneWork s (s.dropFrame l) := by
  unfold State.dropFrame
  split
  · exact refl s
  · exact .ite (((noteFrameEnd s l).trans (dropSoft _ l)).trans (.bb _ _)) (freeLane s l)

theorem blankLanes (s : State) (x : Radio) {b : CtrBank} (h : ∀ x, CtrBank.bbtx x ≠ b) (row : Nat) : LaneWork s (s.blankLanes x b row) :=
  foldl (fun s l => (LaneWork.bumpBy s h row 1).trans (dropFrame _ l)) _ s

theorem dropReqs (s : State) (x : Radio) : LaneWork s (s.dropReqs x) := foldl (fun s _ => .ite (refl s) (.setCoex s _ _)) _ s

end LaneWork

/-- A fault that is logged waits, or is counted. -/
theorem logFault_mem (s : State) (kind unit detail : Nat) : (s.logFault kind unit detail).mem = s.mem := by
  unfold State.logFault
  split <;> rfl

/-! ## Calibrations and Thaw frames (O25) -/

section
variable {s : State} {x : Radio} {c : CalDue}

theorem exec_calGapStart_fits (hc : (s.radio x).cals.find? (fun c => s.calMayStart x c) = some c) :
    exec (.calGapStart x) s = .next (s.startCal x c) := by
  show execCalGapStart x s = _
  simp [execCalGapStart, hc]

theorem exec_calForced_gap (ha : s.awake = true) (hg : (s.radio x).gap = none)
    (hc : (s.radio x).cals.find? (fun c => decide (c.since + 32768 * s.pnat 0x1016 ≤ s.time.aon)) = some c) {t : Int} {n : Nat}
    (hb : bestGap (s.activities x) s.now (s.calWindow c.set) = some (t, n)) :
    exec (.calForced x) s
      = .next ((s.setRadio x { s.radio x with gap := some (t, t + s.calWindow c.set) }).raise 0x1004 [u8 x.ix, u8 c.set, u16 n]) := by
  show execCalForced x s = _
  simp only [execCalForced, hc, hg, ha, hb, Bool.not_true, Bool.or_self, Bool.false_eq_true, if_false]

/-- A synthesiser calibration that passes: its result is kept, the radio goes to STANDBY, and the one item passed is reported. -/
theorem exec_calibrationComplete_synth (ha : s.awake = true) (hr : (s.radio x).calRun = some c) (hc : c.set = 0) (us : Nat) :
    (let u := ((s.bump (.radio x) 6).setRadio x { (s.radio x).synthDone s.rf.dieTemp with failed := false })
     let v := (u.setRadio x { u.radio x with calRun := none }).moveRadio x .standby false
     exec (.calibrationComplete x 0 us) s = .next (v.raise 0x1001 [u8 x.ix, u8 0, u8 1, u32 us])) := by
  show execCalibrationComplete x 0 us s = _
  simp only [execCalibrationComplete, ha, if_true, hr, hc]
  rfl

theorem bgMayRun_iff {item : Nat} : s.bgMayRun x item = true ↔ s.awake = true ∧ item < 3 ∧ (s.radio x).st ≠ .off ∧ s.bgDue x item = true
    ∧ (∀ j < item, s.bgDue x j = false) ∧ s.radioIdle x = true
    ∧ gapAt (s.activities x) s.now (1000 * max (s.pnat 0x1013) (bgMaxUs item + 30)) = true := by
  simp [State.bgMayRun, and_assoc]

theorem exec_bgCalItem_runs {item : Nat} (h : s.bgMayRun x item = true) (pass : Bool) :
    exec (.bgCalItem x item pass) s = .next ((s.moveRadio x .calBg false).bgItem x item (!pass)) :=
  congrArg Host.Outcome.next (if_pos h)

/-! ### A synthesiser out of lock (03 R61, R67) -/

/-- On a radio without a group the unlock is logged, blanks the lanes and starts the re-lock. -/
theorem unlockSynth_noGroup (ha : s.awake = true) (hl : (s.radio x).locked = true) (hr : (s.radio x).relock = none)
    (hg : (s.radio x).group = none) (extra : Nat) :
    s.unlockSynth x extra
      = (let u := (s.bump (.radio x) 5).logFault (6 + extra) x.ix 0
         (u.blankLanes x (.bb x) 10).setRadio x { (u.blankLanes x (.bb x) 10).radio x with
           locked := false, verified := false, relock := some ((s.radio x).st, u.cellsInProgress x), blanked := true
           blankAt := if (s.radio x).blanked then (s.radio x).blankAt else some (u.blankLanes x (.bb x) 10).now, st := .settle
           fem := femStandby
           femTail := if (s.radio x).st == .tx then
               ((u.blankLanes x (.bb x) 10).femOf x).map (fun f => ((s.radio x).fem, (u.blankLanes x (.bb x) 10).now + (500 * f.lag : Nat)))
             else (s.radio x).femTail }) := by
  simp only [State.unlockSynth, ha, hl, hr, hg, Option.isSome_none, Bool.not_true, Bool.or_self, Bool.false_eq_true, if_false]

theorem unlockSynth_mem (ha : s.awake = true) (hl : (s.radio x).locked = true) (hr : (s.radio x).relock = none)
    (hg : (s.radio x).group = none) (extra : Nat) : (s.unlockSynth x extra).mem = s.mem := by
  rw [unlockSynth_noGroup ha hl hr hg]
  exact (LaneWork.blankLanes _ x (by simp) 10).mem_eq.trans (logFault_mem ..)

theorem exec_synthRelockDone_relocked (ha : s.awake = true) {was : RState} {lost : Nat} (hr : (s.radio x).relock = some (was, lost)) :
    exec (.synthRelockDone x 0) s = .next ((s.setRadio x { s.radio x with
      relock := none, locked := true, verified := true, resume := true }).raise 0x1003 [u8 x.ix, u8 was.code, u8 0, u16 lost]) := by
  show execSynthRelockDone x 0 s = _
  simp only [execSynthRelockDone, ha, hr, if_true]
  rfl

end

/-! ### Thaw frames (03 R91, R92) -/

section
variable {s : State} {sync addr cmd check : Nat}

theorem exec_thawFrameRx_deaf (h : s.thawDeaf s.thawFrame.1 s.thawFrame.2 = true) :
    exec (.thawFrameRx sync addr cmd check) s = .next s := congrArg Host.Outcome.next (if_pos (by simp [h]))

theorem exec_thawFrameRx_otherSync (h : sync ≠ 0x6E29) : exec (.thawFrameRx sync addr cmd check) s = .next s :=
  congrArg Host.Outcome.next (if_pos (by simp [h]))

/-- A frame with the sync word that the stage hears, by its check and its address. -/
theorem exec_thawFrameRx_heard (h : s.thawDeaf s.thawFrame.1 s.thawFrame.2 = false) :
    exec (.thawFrameRx 0x6E29 addr cmd check) s = .next (
      if crc8 0 (beBytes 2 addr ++ u8 cmd) ≠ check then s.bump .thaw 2
      else if s.thawFrame.2.matches addr then
        let u := ((if s.pwr.thawPending then s.bump .thaw 4 else s).bump .thaw 1).latchWake 2
        ({ u with pwr := { u.pwr with
          thawAddr := addr, thawCmd := cmd, thawRate := s.thawFrame.2.rate, thawPending := true } } : State).reportThaw
      else s.bump .thaw 3) := by
  show execThawFrameRx 0x6E29 addr cmd check s = _
  simp only [execThawFrameRx, h, bne_self_eq_false, Bool.or_self, Bool.false_eq_true, if_false]

end

/-- Settles O25: each row past its guard; an unlock's blanking changes the receive array alone. -/
theorem calibrationsRunAndThawFramesMatch : Obligations.CalibrationsRunAndThawFramesMatch := by
  refine ⟨fun s x c _ hc => exec_calGapStart_fits hc, fun s x c t n ha hg hc hb => exec_calForced_gap ha hg hc hb,
    fun s x c us ha hr hc => exec_calibrationComplete_synth ha hr hc us,
    fun s x item pass ha hi hoff hd hj hidle hgap => exec_bgCalItem_runs (bgMayRun_iff.2 ⟨ha, hi, hoff, hd, hj, hidle, hgap⟩) pass,
    fun s x ha hl hr hg => ⟨_, rfl, ?_⟩, fun s x was lost ha hr => exec_synthRelockDone_relocked ha hr,
    fun s addr cmd check hd => ⟨fun hcrc => ?_, fun hcrc hm => ?_, fun hcrc hm hp => ?_, fun sync hs => exec_thawFrameRx_otherSync hs⟩,
    fun s sync addr cmd check hd => exec_thawFrameRx_deaf hd⟩
  · have hmem := unlockSynth_mem ha hl hr hg 0
    rw [unlockSynth_noGroup ha hl hr hg] at hmem ⊢
    simp only [setRadio_radio]
    exact ⟨trivial, trivial, trivial, trivial, trivial, rfl, hmem⟩
  · rw [exec_thawFrameRx_heard hd, if_pos hcrc]
  · rw [exec_thawFrameRx_heard hd, if_neg (fun hne => hne hcrc), hm]; rfl
  · rw [exec_thawFrameRx_heard hd, if_neg (fun hne => hne hcrc), hm, hp]; rfl

end Sys2Proof.Claims
end

section
namespace Sys2Proof.Claims
open Sys2Proof.Machine

/-! ## Each row of an emission (O27) -/

/-! ### What the radios do not see of an operation

`AirKept s t` says that `t` has the radios, the time and the transmitters' counters of `s`. One lemma for each operation that leaves them so:
`AirKept.raise` says that a `raise` on top of `t` does. A proof follows the operation's body from the outside in. -/

theorem ctr_congr {s t : State} (h : t.ctrs = s.ctrs) (b : CtrBank) (row : Nat) : t.ctr b row = s.ctr b row := by simp only [State.ctr, h]

theorem now_congr {s t : State} (h : t.time = s.time) : t.now = s.now := by simp only [State.now, State.rawDelta, h]

/-- `t` has the radios, the time and the transmitters' counters of `s`. -/
structure AirKept (s t : State) : Prop where
  radios : t.rf.radios = s.rf.radios
  time : t.time = s.time
  sends : ∀ (x : Radio) (row : Nat), t.ctr (.bbtx x) row = s.ctr (.bbtx x) row

theorem LaneWork.airKept {s t : State} (h : LaneWork s t) : AirKept s t := ⟨h.radios_eq, h.time_eq, h.sends⟩

namespace AirKept

theorem refl (s : State) : AirKept s s := ⟨rfl, rfl, fun _ _ => rfl⟩

section
variable {s t u : State} (h : AirKept s t)
include h

theorem trans (h' : AirKept t u) : AirKept s u :=
  ⟨h'.radios.trans h.radios, h'.time.trans h.time, fun x row => (h'.sends x row).trans (h.sends x row)⟩

theorem radio_eq (x : Radio) : t.radio x = s.radio x := congrArg (Tri.get · x) h.radios

/-- A branch of which both sides go on from the same state. -/
theorem iteOn {v : State} {c : Prop} [Decidable c] (ht : AirKept s t → AirKept s u) (hu : AirKept s t → AirKept s v) :
    AirKept s (if c then u else v) := by
      split
      · exact ht h
      · exact hu h

theorem foldl {α : Type} {f : State → α → State} {l : List α} (hf : ∀ t a, AirKept s t → AirKept s (f t a)) : AirKept s (l.foldl f t) :=
  List.foldlRecOn (motive := AirKept s) l f h fun t ht a _ => hf t a ht

/-- An update of fields other than the radios, the time and the counters. -/
theorem upd {pending freeCtr mem sram sys hif chans evt rings evs params sets setOrder board site nv pwr pins ddr cc cipher fw flt nets}
    {spans cells bb abl firn spanRx rt serial} :
    AirKept s ⟨pending, freeCtr, mem, sram, sys, hif, chans, evt, rings, evs, params, sets, setOrder, board, site, nv, t.ctrs, t.time,
      pwr, pins, ddr, cc, cipher, fw, flt, nets, spans, cells, t.rf, bb, abl, firn, spanRx, rt, serial⟩ :=
  ⟨h.radios, h.time, fun x row => (ctr_congr rfl (.bbtx x) row).trans (h.sends x row)⟩

theorem updThaw {v : Thaw} : AirKept s { t with rf := { t.rf with thaw := v } } := h.trans ⟨rfl, rfl, fun _ _ => rfl⟩

theorem lanes (hl : LaneWork t u) : AirKept s u := h.trans hl.airKept

theorem bumpBy {b : CtrBank} {row n : Nat} (hb : ∀ x, CtrBank.bbtx x ≠ b) : AirKept s (t.bumpBy b row n) := h.lanes (.bumpBy t hb row n)

theorem bump {b : CtrBank} {row : Nat} (hb : ∀ x, CtrBank.bbtx x ≠ b) : AirKept s (t.bump b row) := h.bumpBy hb

/-! ### Events (11 R333, 02 R38) -/

theorem notify : AirKept s t.notify := h.iteOn (fun h => .upd h) id

theorem assertLine : AirKept s t.assertLine := notify (.bump (.upd h) (by simp))

theorem releaseHost : AirKept s t.releaseHost := iteOn (.upd h) (fun h => .assertLine h) id

theorem hostCause {bit : Nat} : AirKept s (t.hostCause bit) := h.iteOn id fun h => h.iteOn (fun h => .releaseHost (.bump h (by simp))) fun h => .upd h

theorem raise {code : Nat} {fields : List Bytes} : AirKept s (t.raise code fields) :=
  h.iteOn (fun h => .upd h) fun h => h.iteOn (fun h => .hostCause (.upd h)) fun h => .hostCause (.upd h)

theorem raiseIf {c : Prop} [Decidable c] {code : Nat} {fields : List Bytes} : AirKept s (if c then t.raise code fields else t) :=
  h.iteOn (fun h => .raise h) id

/-! ### Ablation (08 R236-R243) -/

theorem setSub {i : Nat} {v : SubUse} : AirKept s (t.setSub i v) := .upd h

theorem ablWatch {l : SubLimit} : AirKept s (t.ablWatch l) := h.iteOn id fun h => .raiseIf (.raiseIf (.raiseIf (.setSub h)))

theorem watchSubs : AirKept s t.watchSubs := .foldl h fun _ _ h => .ablWatch h

/-- A refusal is counted under ablation's own counters. -/
theorem refuse {l : Option SubLimit} {reason : Nat} : AirKept s (t.refuse l reason) := by
  have hbank : ∀ (i : Nat) (x : Radio), CtrBank.bbtx x ≠ (refusalCtr i reason).1 := fun i x => by
    unfold refusalCtr
    repeat' split
    all_goals simp
  cases l with
  | none => exact .upd (.bump h (hbank _))
  | some l => exact iteOn (.bump h (hbank _)) (fun h => .setSub h) fun h => .upd h

theorem takeDwell {l : SubLimit} {khz : Nat} : AirKept s (t.takeDwell l khz) := h.iteOn id fun h => .upd h

theorem project {es : List Emission} {adm : List (Emission × SubLimit)} : AirKept s (State.project es adm t).2 := by
  induction es generalizing adm t with
  | nil => exact h
  | cons e es ih =>
    unfold State.project
    split
    · exact ih (.refuse h)
    · split
      · exact ih (.refuse h)
      · exact ih (.takeDwell h)

theorem decidePower {x : Radio} {fuel : Nat} {adm : List (Emission × SubLimit)} :
    AirKept s (State.decidePower x fuel adm t).2.2.2 := by
  induction fuel generalizing adm t with
  | zero => exact h
  | succ fuel ih =>
    unfold State.decidePower
    dsimp only
    split
    · exact ih (.refuse h)
    · exact h

theorem segmented {g : List Emission} : AirKept s (Claims.segmented g t) :=
  h.foldl fun _ e h => by
    split
    · exact .upd h
    · exact h

theorem chargeSub {g : EmGroup} {i : Nat} : AirKept s (t.chargeSub g i) := by
  unfold State.chargeSub
  split
  · exact h
  · exact iteOn (.bumpBy (.bump (iteOn (h.iteOn (fun h => .setSub h) id) (fun h => .upd h) id) (by simp)) (by simp)) (fun h => .bump h (by simp)) id

theorem chargeGroup {g : EmGroup} : AirKept s (t.chargeGroup g) :=
  .foldl (.foldl h fun _ _ h => .chargeSub h) fun _ _ h => by
    split
    · exact .ablWatch h
    · exact h

/-! ### What follows a frame that has left (06 R163, 07 R214, 13 R388) -/

theorem modCtx {c : Nat} {f : Ctx → Ctx} : AirKept s (t.modCtx c f) :=
  have hf := modCtx_frame t c f
  have hc : (t.modCtx c f).ctrs = t.ctrs := (congrArg State.ctrs hf :)
  h.trans ⟨(congrArg (fun v : State => v.rf.radios) hf :), (congrArg State.time hf :), fun x row => ctr_congr hc (.bbtx x) row⟩

theorem advanceHead {r : Nat} : AirKept s (t.advanceHead r) :=
  iteOn (.upd h) (fun h => .hostCause (.upd h)) fun h => h.iteOn (fun h => .hostCause (.upd h)) id

theorem txStamp {desc : Option (Nat × Nat)} {time : Option Nat} {status : Nat} : AirKept s (t.txStamp desc time status) := by
  cases desc with
  | none => exact h
  | some d => exact .advanceHead (.upd h)

theorem countSent {port n : Nat} : AirKept s (t.countSent port n) := .bumpBy (.bump h (by simp)) (by simp)

theorem shaperCharge {port queue n : Nat} : AirKept s (t.shaperCharge port queue n) := by
  unfold State.shaperCharge
  split
  · exact .upd h
  · exact h

theorem clientSent {net : Net} {c k cell stamp air : Nat} : AirKept s (t.clientSent net c k cell stamp air) := by
  unfold State.clientSent
  dsimp only
  split
  · exact h
  · split
    · exact h
    · exact .txStamp (iteOn (.modCtx (.modCtx h)) (fun h => .upd (.upd h)) fun h => .countSent h)

theorem ownerSent {x : Radio} {stamp : Nat} {e : Emission} : AirKept s (t.ownerSent x stamp e) := by
  unfold State.ownerSent
  split
  · exact .clientSent h
  · exact .bump h (by simp)
  · split
    · exact .txStamp (.countSent (.upd h))
    · exact h
  · split
    · exact .txStamp (iteOn (.upd (.bump h (by simp))) (fun h => .countSent (.shaperCharge h)) id)
    · exact h
  · exact h

end
end AirKept
end Sys2Proof.Claims
end

section
namespace Sys2Proof.Claims
open Sys2Proof.Machine

section
variable {s t u : State} {x : Radio} {g h : EmGroup}

/-! ### An emission that is not sent -/

/-- An emission that is not sent changes its owner's queue, and gives its radio its status. -/
theorem unsent_some (s : State) (x : Radio) (v : Nat) (e : Emission) :
    ∃ u : State, { u with spans := s.spans, firn := s.firn, nets := s.nets } = s
      ∧ s.unsent x (some v) e = u.setRadio x { u.radio x with txStatus := v } := by
  cases ho : e.owner with
  | span n b id =>
    simp only [State.unsent, ho]
    split
    · exact ⟨s, rfl, rfl⟩
    · exact ⟨_, by rfl, rfl⟩
  | client c k cell =>
    simp only [State.unsent, ho]
    refine ⟨_, ?_, rfl⟩
    exact (congrArg (fun v : State => { v with spans := s.spans, nets := s.nets }) (modCtx_frame s c _) :)
  | broadcast net k =>
    simp only [State.unsent, ho]
    exact ⟨_, by rfl, rfl⟩
  | _ =>
    simp only [State.unsent, ho]
    exact ⟨s, rfl, rfl⟩

theorem unsent_radio (s : State) (x : Radio) (v : Nat) (e : Emission) :
    (s.unsent x (some v) e).radio x = { s.radio x with txStatus := v } := by
  obtain ⟨u, hu, h⟩ := unsent_some s x v e
  have hrf : u.rf = s.rf := (congrArg State.rf hu :)
  rw [h, setRadio_radio, State.radio, hrf]
  rfl

theorem unsent_mem (s : State) (x : Radio) (v : Nat) (e : Emission) : (s.unsent x (some v) e).mem = s.mem := by
  obtain ⟨u, hu, h⟩ := unsent_some s x v e
  rw [h]
  exact (congrArg State.mem hu :)

theorem unsent_ctrs (s : State) (x : Radio) (v : Nat) (e : Emission) : (s.unsent x (some v) e).ctrs = s.ctrs := by
  obtain ⟨u, hu, h⟩ := unsent_some s x v e
  rw [h]
  exact (congrArg State.ctrs hu :)

theorem dropPending_radio (s : State) (x : Radio) (v : Nat) (e : Emission) : (s.dropPending x (some v) e).radio x
    = { s.radio x with pend := (s.radio x).pend.filter (fun y => y.id != e.id), txStatus := v } := by
  rw [State.dropPending, unsent_radio, setRadio_radio]

/-- A run of emissions dropped leaves the radio's group as it was. -/
theorem dropRefused_group (s : State) (x : Radio) (l : List Emission) :
    ((l.foldl (fun (s : State) e => (s.bump (.bbtx x) txRefused).dropPending x (some stAblated) e) s).radio x).group = (s.radio x).group :=
  List.foldlRecOn (motive := fun t : State => (t.radio x).group = (s.radio x).group) l _ rfl fun t ht e _ => by
    rw [dropPending_radio, bump_radio]; exact ht

/-! ### PLAN_LOCK (05 R153-R156) -/

/-- A radio without a group takes what the decision left of the one locked; none of the emissions decided on stays pending. -/
theorem lockDecided_radio {l : List Emission} {first : Int} (hg : (s.radio x).group = none) :
    (∀ e ∈ ((lockDecided x l first s).radio x).pend, ∀ y ∈ l, e.id ≠ y.id)
    ∧ ((lockDecided x l first s).radio x).group
      = (let a := State.project l [] s
         let d := State.decidePower x (l.length + 1) a.1 a.2
         if d.1.isEmpty then none else some { carriers := d.1, start := first, due := first, extPa := d.2.1 }) := by
  unfold lockDecided
  extract_lets a d v r w
  have hv : (v.radio x).group = none :=
    (dropRefused_group ..).trans ((congrArg RadioState.group (AirKept.decidePower (.project (.refl s)) |>.radio_eq x)).trans hg)
  have hw : w.radio x = { v.radio x with pend := (v.radio x).pend.filter (fun e => !l.any (fun y => y.id == e.id)) } := setRadio_radio ..
  have hpend : ∀ e ∈ (w.radio x).pend, ∀ y ∈ l, e.id ≠ y.id := fun e he y hy heq => by
    rw [hw] at he
    have := (List.mem_filter.1 he).2
    simp only [Bool.not_eq_true', List.any_eq_false, beq_iff_eq] at this
    exact this y hy heq.symm
  have hgroup : (w.radio x).group = none := by rw [hw]; exact hv
  rw [AirKept.radio_eq (.watchSubs (.refl _)) x]
  by_cases hd : d.1.isEmpty = true
  · rw [if_pos hd, if_pos hd]
    exact ⟨hpend, hgroup⟩
  · rw [if_neg hd, if_neg hd]
    obtain ⟨-, hput⟩ | ⟨hsome, -⟩ := putGroup_cases w x { carriers := d.1, start := first, due := first, extPa := d.2.1 }
    · rw [hput, setRadio_radio]
      exact ⟨hpend, rfl⟩
    · rw [hgroup] at hsome
      cases hsome

/-! ### A group on the air (03 R60, R63, R68, 05 R157) -/

/-- A move gives its radio the state named, blanked as that state blanks, with its groups as they were; the rest of it is the receive
array's. -/
theorem moveRadio_lanes (s : State) (x : Radio) (st : RState) (ext : Bool) :
    ∃ r : RadioState, r.st = st ∧ r.blanked = st.blanks ∧ r.group = (s.radio x).group ∧ r.follow = (s.radio x).follow
      ∧ LaneWork (s.setRadio x r) (s.moveRadio x st ext) := by
  unfold State.moveRadio
  extract_lets r t
  have hr : t.radio x = _ := setRadio_radio s x _
  have ht : s.setRadio x (t.radio x) = t := congrArg (s.setRadio x) hr
  refine ⟨t.radio x, (congrArg RadioState.st hr :), (congrArg RadioState.blanked hr :), (congrArg RadioState.group hr :),
    (congrArg RadioState.follow hr :), ht.symm ▸ ?_⟩
  split
  · exact .blankLanes t x (by simp) 10
  · split
    · exact .noteBusy ..
    · exact .refl t

/-- Radio `x` sends carriers `cs`, its first symbol stamped `now`, as its `n`th emission. -/
def Sends (x : Radio) (cs : List Carrier) (now : Int) (n : Nat) (t : State) : Prop :=
  ∃ v, (t.radio x).group = some v ∧ v.onAir = true ∧ v.carriers = cs ∧ v.stamped = now
    ∧ (t.radio x).st = .tx ∧ (t.radio x).blanked = true ∧ t.ctr (.bbtx x) 1 = n

theorem Sends.kept {cs : List Carrier} {now : Int} {n : Nat} (h : Sends x cs now n s) (hk : AirKept s t) : Sends x cs now n t := by
  unfold Sends at *
  rwa [hk.radio_eq, hk.sends]

theorem takeAir_sends (s : State) (x : Radio) (g : EmGroup) :
    Sends x g.carriers s.now (min 0xFFFFFFFF (s.ctr (.bbtx x) 1 + 1)) (s.takeAir x g) := by
  unfold State.takeAir
  extract_lets n early blocks s₁ s₂ s₃ s₄ s₅ r₅ s₆ b₆ s₇ rf₇ thaw₇ s₈
  have h₃ : AirKept s₂ s₃ := (AirKept.refl s₂).iteOn (fun h => .bumpBy h (by simp)) id
  have hcount : s₃.ctr (.bbtx x) 1 = min 0xFFFFFFFF (s.ctr (.bbtx x) 1 + 1) := by
    rw [h₃.sends, ctr_bumpBy_other _ (.inr (by decide)), ctr_bumpBy_other _ (.inr (by decide)), ctr_bump_same,
      ctr_bumpBy_other _ (.inl (by simp))]
  have hnow : s₃.now = s.now := now_congr h₃.time
  obtain ⟨r, hst, hblanked, hgroup, -, hlanes⟩ := moveRadio_lanes s₄ x .tx g.extPa
  have h₅ : AirKept (s₄.setRadio x r) s₅ := hlanes.airKept
  have hr : r₅ = r := (h₅.radio_eq x).trans (setRadio_radio ..)
  have h₆ : Sends x g.carriers s.now (min 0xFFFFFFFF (s.ctr (.bbtx x) 1 + 1)) s₆ := by
    refine ⟨{ g with onAir := true, hold := none, stamped := s₃.now, blanksMb := blocks }, ?_, rfl, rfl, hnow, ?_, ?_,
      (h₅.sends x 1).trans hcount⟩
    · rw [setRadio_radio]
      exact (congrArg RadioState.group hr).trans (hgroup.trans (setGroup_group ..))
    · rw [setRadio_radio]
      exact (congrArg RadioState.st hr).trans hst
    · rw [setRadio_radio]
      exact (congrArg RadioState.blanked hr).trans hblanked
  have h₈ : AirKept s₆ s₈ := AirKept.iteOn (.upd (.refl s₆)) (fun h => .updThaw h) id
  exact h₆.kept (h₈.iteOn (fun h => .lanes h (.blankLanes _ _ (by simp) 15)) id)

/-- With no group locked behind it, a radio whose group has ended holds none, and is as it was else. -/
theorem endGroup_last_radio (hf : (s.radio x).follow = []) : (s.endGroup x).radio x = { s.radio x with group := none } := by
  have hreqs : AirKept (s.setGroup x none) ((s.setGroup x none).dropReqs x) := (LaneWork.dropReqs ..).airKept
  rw [endGroup_last s x hf, hreqs.radio_eq]
  exact setRadio_radio ..

/-- What is left of a group that is keyed goes on the air; with nothing left the group ends. -/
theorem keyGroup_tookAir (hp : s.rampPower x g = (h, u)) : TookAir u x h (s.keyGroup x g) := by
  have hwatch : ∀ t : State, AirKept t (if h.carriers.length = g.carriers.length then t else t.watchSubs) := fun t =>
    (AirKept.refl t).iteOn id fun h => .watchSubs h
  unfold State.keyGroup
  simp only [hp]
  refine ⟨fun hnone hlast => ?_, fun hsome => ?_⟩
  · rw [(hwatch _).radio_eq, hnone, List.isEmpty_nil, if_pos rfl, endGroup_last_radio hlast]
  · have hne : ¬ h.carriers.isEmpty = true := fun he => hsome (List.isEmpty_iff.1 he)
    rw [if_neg hne]
    exact (takeAir_sends u x h).kept (hwatch _)

/-! ### EMISSION_END (03 R78, 04 R106) -/

/-- Radio `x` has no group and is not in TX, and stays blanked until `till`. -/
def OffAir (x : Radio) (till : Int) (t : State) : Prop :=
  (t.radio x).group = none ∧ (t.radio x).st ≠ .tx ∧ (t.radio x).blankTill = till

theorem OffAir.kept {till : Int} (h : OffAir x till s) (hk : AirKept s t) : OffAir x till t := by
  unfold OffAir at *
  rwa [hk.radio_eq]

/-- A radio in TX goes back to RX; its groups and the time stay. -/
theorem leaveTx {t : State} (h : t = if (s.radio x).st = .tx then s.moveRadio x .rx false else s) :
    (t.radio x).st ≠ .tx ∧ (t.radio x).group = (s.radio x).group ∧ (t.radio x).follow = (s.radio x).follow ∧ t.time = s.time := by
  subst h
  split
  · obtain ⟨r, hst, -, hgroup, hfollow, hlanes⟩ := moveRadio_lanes s x .rx false
    have hmove : AirKept (s.setRadio x r) (s.moveRadio x .rx false) := hlanes.airKept
    rw [hmove.radio_eq, setRadio_radio, hst]
    exact ⟨by decide, hgroup, hfollow, hmove.time⟩
  · next h => exact ⟨h, rfl, rfl, rfl⟩

/-- Blanking radio `y` until a time leaves a radio that is blanked until then as it is. -/
theorem setBlankTill_radio {till : Int} (y : Radio) (h : (s.radio x).blankTill = till) :
    (s.setRadio y { s.radio y with blankTill := till }).radio x = s.radio x := by
  subst h
  by_cases hx : x = y
  · subst hx; exact setRadio_radio ..
  · exact setRadio_radio_other _ _ hx

theorem rampDown_offAir (hf : (s.radio x).follow = []) (g : EmGroup) : OffAir x (s.now + 20000) (s.rampDown x g) := by
  unfold State.rampDown
  extract_lets s₁ s₂ r₂ s₃ rf₃ thaw₃ s₄ s₅ r₅ s₆
  have h₁ : AirKept (s.setGroup x none) s₁ := .chargeGroup (.refl _)
  have hfollow₁ : (s₁.radio x).follow = [] := by rw [h₁.radio_eq, State.setGroup, setRadio_radio]; exact hf
  obtain ⟨hst₂, -, hfollow₂, htime₂⟩ := leaveTx (s := s₁) (x := x) (t := s₂) rfl
  have hnow₂ : s₂.now = s.now := now_congr (htime₂.trans h₁.time)
  have h₃ : s₃.radio x = { s₂.radio x with blankTill := s₂.now + 20000, txStatus := g.cut.getD 0 } := setRadio_radio ..
  have h₅ : AirKept s₃ s₅ := .lanes (.iteOn (.refl s₃) (fun h => .updThaw h) id) (.noteBusy ..)
  have htill₅ : (s₅.radio x).blankTill = s₅.now + 20000 := by
    rw [h₅.radio_eq, h₃, now_congr h₅.time]; rfl
  have h₆ : s₆.radio x = s₅.radio x := by
    show State.radio (if _ then _ else _) x = _
    split
    · rw [(LaneWork.noteBusy ..).airKept.radio_eq, setBlankTill_radio .mb htill₅]
    · rfl
  have hend : (s₆.endGroup x).radio x = { s₃.radio x with group := none } := by
    rw [endGroup_last_radio, h₆, h₅.radio_eq]
    rw [h₆, h₅.radio_eq, h₃]
    exact hfollow₂.trans hfollow₁
  unfold OffAir
  rw [hend, h₃, ← hnow₂]
  exact ⟨rfl, hst₂, rfl⟩

/-- A run of emissions that are not sent leaves their radio off the air. -/
theorem OffAir.unsent {till : Int} (h : OffAir x till s) (v : Nat) (l : List Carrier) :
    OffAir x till (l.foldl (fun (s : State) c => s.unsent x (some v) c.em) s) :=
  List.foldlRecOn (motive := OffAir x till) l _ h fun t ht c _ => by
    unfold OffAir at *
    rwa [unsent_radio]

end

/-- Settles O27: what the plan lock, the ramp, the skip and the ramp-down leave on the radio, which ablation, the receive array and the owners
of the frames do not touch. -/
theorem emissionRowsComplete : Obligations.EmissionRowsComplete := by
  refine ⟨fun s x g ha hg hd hne ht => ?_, fun s u x g h hg hy hb hp => ⟨fun hh hm hfree => ?_, fun hh hm hfree => ?_⟩,
    fun s x id e hp ho hl => ?_, fun s x g hg ha hf => ?_⟩
  · have hseg : ((segmented g s).radio x).group = none := by rw [AirKept.radio_eq (.segmented (.refl s)), hg]
    refine ⟨_, exec_planLock_due ha hd hne, ?_⟩
    rw [lockGroup_inTime ht]
    exact lockDecided_radio hseg
  · refine ⟨_, exec_emissionStart_goes hg hm hh (.inr hfree), ?_⟩
    rw [startGroup_keys hy hb]
    exact keyGroup_tookAir hp
  · refine ⟨_, exec_emissionDeferredStart_due hg hm hh hfree, ?_⟩
    rw [startGroup_keys hy hb]
    exact keyGroup_tookAir hp
  · have hid : e.id = id := by simpa using List.find?_some hp
    refine ⟨_, exec_emissionLatestStart_pending hp ho hl, ?_⟩
    rw [dropPending_radio, hid]
    exact ⟨rfl, rfl, (ctr_congr (unsent_ctrs ..) _ _).trans (ctr_bump_same s _ _), unsent_mem ..⟩
  · have hoff := rampDown_offAir hf g
    cases hc : g.cut with
    | none => exact ⟨_, exec_emissionEnd_whole hg ha hc, hoff.kept (.foldl (.refl _) fun _ _ h => .ownerSent h)⟩
    | some v => exact ⟨_, exec_emissionEnd_cut hg ha hc, hoff.unsent v g.carriers⟩

end Sys2Proof.Claims
end

section
namespace Sys2Proof.Claims
open Sys2Proof.Machine

/-! ## A lane follows a frame (O29) -/

section
variable {s : State} {l : Nat} {v : Lane} {f : RxFrame}

/-! ### Windows (04 R105, R127) -/

theorem exec_rxWindowOpen_inside (ha : s.awake = true) (hl : s.lane? l = some v) {a b : Int} (hw : v.window = some (a, b)) (hab : a ≤ s.now)
    (hb : s.now < b) : exec (.rxWindowOpen l) s = .next (s.setLane l { v with open_ := true, detected := v.detected && v.open_ }) := by
  show execRxWindowOpen l s = _
  simp [execRxWindowOpen, hl, ha, hw, hab, hb]

theorem exec_rxWindowOpen_scans (hl : s.lane? l = none) (h : l = 0 ∨ l = 48 ∨ l = 49) :
    exec (.rxWindowOpen l) s = .next (s.scanOn (laneRadio l)) := by
  show execRxWindowOpen l s = _
  simp only [execRxWindowOpen, hl, if_pos h]

/-- A wide-mode window without a detection counts a miss, and no client's row of misses. -/
theorem exec_rxWindowClose_missed (hl : s.lane? l = some v) (ho : v.open_ = true) (hw : s.windowOver v = true) (hf : v.frame = none)
    (hd : v.detected = false) (hs : v.scan = false) (hv : v.wide = true) :
    exec (.rxWindowClose l) s = .next (((s.freeLane l).bump (.bb (laneRadio l)) 11).setRadio (laneRadio l)
      { (s.freeLane l).radio (laneRadio l) with missed := true }) := by
  show execRxWindowClose l s = _
  simp [execRxWindowClose, hl, ho, hw, hf, hd, hs, hv]

theorem exec_rxWindowClose_receiving (hl : s.lane? l = some v) (ho : v.open_ = true) (hw : s.windowOver v = true)
    (hf : v.frame.isSome = true) : exec (.rxWindowClose l) s = .next (s.setLane l { v with open_ := false }) := by
  show execRxWindowClose l s = _
  simp [execRxWindowClose, hl, ho, hw, hf]

theorem exec_rxWindowClose_early (hl : s.lane? l = some v) (hw : s.windowOver v = false) : exec (.rxWindowClose l) s = .next s := by
  show execRxWindowClose l s = _
  simp [execRxWindowClose, hl, hw]

/-! ### Preamble, search and AFC freeze (04 R112-R115) -/

theorem exec_preambleDetect_fires (ha : s.awake = true) (hl : s.lane? l = some v) (ho : v.open_ = true) (hf : v.frame = none)
    (hb : s.isBlanked (laneRadio l) = false) {rho : Nat} (hr : s.fires l v rho = true) (level : Int) :
    exec (.preambleDetect l ⟨level, rho⟩) s
      = .next ((((s.setLane l { v with
          detected := true
          frame := some { level := level + s.levelOffset (laneRadio l), at_ := s.now, wide := v.wide } }).narrowHeard v).hbGain
            (laneRadio l)).bump (.bb (laneRadio l)) 1) := by
  show execPreambleDetect l ⟨level, rho⟩ s = _
  simp [execPreambleDetect, hl, ha, ho, hf, hb, hr]

theorem exec_preambleDetect_silent (hl : s.lane? l = some v) {rho : Nat} (h : s.fires l v rho = false ∨ s.isBlanked (laneRadio l) = true)
    (level : Int) : exec (.preambleDetect l ⟨level, rho⟩) s = .next s := by
  show execPreambleDetect l ⟨level, rho⟩ s = _
  obtain h | h := h <;> simp [execPreambleDetect, hl, h]

theorem exec_sfdSearchFail_over (hl : s.lane? l = some v) (hf : v.frame = some f) (hs : f.sfd = false) (ho : s.searchOver l v f = true) :
    exec (.sfdSearchFail l) s = .next ((s.bump (.bb (laneRadio l)) 2).dropFrame l) := by
  show execSfdSearchFail l s = _
  simp [execSfdSearchFail, hl, hf, hs, ho]

theorem exec_afcFreeze_inTime (hl : s.lane? l = some v) (hf : v.frame = some f) (hs : f.sfd = false)
    (ht : s.now ≤ f.at_ + (s.searchNs (s.laneMode l v) : Int)) (o r n : Int) :
    exec (.afcFreeze l o r n) s = .next (s.setLane l { v with nco := v.nco + s.searched l v f o, frame := some { f with
      sfd := true, rssi := r + s.levelOffset (laneRadio l), snr := n, offset := s.searched l v f o, stamp := s.now } }) := by
  show execAfcFreeze l o r n s = _
  simp [execAfcFreeze, hl, hf, hs, Int.not_lt.2 ht]

/-! ### Headers (05 R139, R145, 04 R117, 09 R261) -/

theorem exec_phrDecode_accepted (hl : s.lane? l = some v) (hf : v.frame = some f) (hs : f.sfd = true) (hn : f.len = none) {p : Phr} {n m : Nat}
    (hp : s.phrLen l v p = some (n, m)) :
    exec (.phrDecode l p) s = .next (s.setLane l { v with frame := some { f with len := some n, mode := some m, sig := p.sig } }) := by
  show execPhrDecode l p s = _
  simp [execPhrDecode, hl, hf, hs, hn, hp]

theorem exec_phrDecode_invalid (hl : s.lane? l = some v) (hf : v.frame = some f) (hs : f.sfd = true) (hn : f.len = none) {p : Phr}
    (hp : s.phrLen l v p = none) : exec (.phrDecode l p) s = .next ((s.bump (.bb (laneRadio l)) 5).freeLane l) := by
  show execPhrDecode l p s = _
  simp [execPhrDecode, hl, hf, hs, hn, hp]

variable {net : Net} {h : RxHdr}

/-- The first header of a frame with a length, on a lane of client cells, is that of a client's frame. -/
theorem exec_headerDecode_client (hl : s.lane? l = some v) (hn : (laneRadio l).net? = some net) (hf : v.frame = some f)
    (hlen : f.len.isSome = true) (hh : f.hdr = none) (hc : v.cells ≠ []) :
    exec (.headerDecode l h) s = .next (s.clientHeader net l v f h) := by
  have hsome : f.len.isNone = false := by simpa using hlen
  show execHeaderDecode l h s = _
  simp [execHeaderDecode, hl, hn, hf, hsome, hh, hc]

theorem clientHeader_foreign (hh : h.unsupported = true ∨ h.level = 4 ∨ h.dstOk = false ∨ h.pan ≠ s.netParam net 0x3002) :
    s.clientHeader net l v f h = (s.bump (.bb (laneRadio l)) 6).dropFrame l := by
  have hforeign : (h.unsupported || h.level == 4 || !h.dstOk || h.pan != s.netParam net 0x3002) = true := by
    simpa [or_assoc] using hh
  simp only [State.clientHeader, hforeign, Bool.true_or, if_true]

/-- A frame for the network, outside its join cells, from a sender that no context names. -/
theorem clientHeader_unknown (hu : h.unsupported = false) (hv : h.level ≠ 4) (hd : h.dstOk = true) (hp : h.pan = s.netParam net 0x3002)
    (hb : h.beacon = none) (ha : s.ackCtx net v = none) (hj : (s.laneCells net v).any (fun c => c.kind == 2) = false)
    (hs : h.srcExt.elim (s.ctxOfShort net.ix h.srcShort) s.ctxOfEui = none) :
    s.clientHeader net l v f h = (s.bump .firn 11).freeLane l := by
  cases he : h.srcExt <;> rw [he, Option.elim] at hs <;> simp [State.clientHeader, hu, hv, hd, hp, hb, ha, hj, he, hs]

/-! ### Soft bits (04 R118, R119) -/

theorem makeRoom_fits {bytes : Nat} (h : s.softUsed + bytes ≤ 65536) (fuel : Nat) : State.makeRoom l bytes (fuel + 1) s = (true, s) :=
  if_pos h

/-- What waits for a decoder does not change which lanes are in use. -/
theorem lane?_soft (s : State) (l : Nat) (q : List SoftBlock) (n : Nat) :
    ({ s with bb := { s.bb with soft := q, softSeq := n } } : State).lane? l = s.lane? l := rfl

theorem exec_softBlockPost_fits (hl : s.lane? l = some v) (hf : v.frame = some f) (hb : l ≠ 49) {bytes : Nat} (hn : bytes ≤ 64)
    (hroom : s.softUsed + bytes ≤ 65536) :
    (let u : State := { s with bb := { s.bb with
       soft := s.bb.soft ++ [⟨s.bb.softSeq, l, bytes, s.now⟩], softSeq := s.bb.softSeq + 1 } }
     exec (.softBlockPost l bytes) s
      = .next (State.feedDecoders 8 (u.setLane l { v with frame := some { f with lastPost := some s.now } }).notePool)) := by
  have hguard : ((some f).isNone || l == 49 || decide (64 < bytes)) = false := by simp [hb, hn]
  show execSoftBlockPost l bytes s = _
  simp only [execSoftBlockPost, hl, hf, hguard, Bool.false_eq_true, if_false, makeRoom_fits hroom 63, lane?_soft, Option.map_some]
  rfl

theorem exec_decoderBlockDone_running {k : Nat} {b : SoftBlock} (hb : tfind s.bb.running k = some b) :
    exec (.decoderBlockDone k) s
      = .next (State.feedDecoders 8 { s with bb := { s.bb with running := s.bb.running.filter (fun p => p.2.id != b.id) } }) := by
  show execDecoderBlockDone k s = _
  simp only [execDecoderBlockDone, hb]

/-! ### The end of a frame (04 R105, R118) -/

theorem exec_frameEnd_bad (hl : s.lane? l = some v) (hf : v.frame = some f) (hs : f.sfd = true) (hd : s.decoding l = false)
    (hb : s.isBlanked (laneRadio l) = false) (p : Bytes) :
    exec (.frameEnd l false p) s = .next (((s.bump (.bb (laneRadio l)) 4).endLane l v).keepEnded l v f) := by
  show execFrameEnd l false p s = _
  simp [execFrameEnd, hl, hf, hs, hd, hb]

theorem exec_frameEnd_good (hl : s.lane? l = some v) (hf : v.frame = some f) (hs : f.sfd = true) (hh : f.hdr = some h)
    (hn : (laneRadio l).net? = some net) (hd : s.decoding l = false) (hb : s.isBlanked (laneRadio l) = false) (p : Bytes) :
    exec (.frameEnd l true p) s
      = .next ((((s.bump (.bb (laneRadio l)) 3).endLane l v).keepEnded l v f).frameUp net l v f h p) := by
  show execFrameEnd l true p s = _
  simp [execFrameEnd, hl, hf, hs, hh, hn, hd, hb]

end

/-- Settles O29: each row of a lane, past its guard, in the case that its premises name. -/
theorem framesAreFollowedDecodedAndEnded : Obligations.FramesAreFollowedDecodedAndEnded := by
  refine ⟨fun s l v a b ha hl hw hab hb => exec_rxWindowOpen_inside ha hl hw hab hb, fun s l hl h => exec_rxWindowOpen_scans hl h,
    fun s l v hl ho hw hf hd hs hv => exec_rxWindowClose_missed hl ho hw hf hd hs hv,
    fun s l v hl ho hw hf => exec_rxWindowClose_receiving hl ho hw hf, fun s l v hl hw => exec_rxWindowClose_early hl hw,
    fun s l rho v level ha hl ho hf hb hr => exec_preambleDetect_fires ha hl ho hf hb hr level,
    fun s l rho v level hl h => exec_preambleDetect_silent hl h level, fun s l v f hl hf hs ho => exec_sfdSearchFail_over hl hf hs ho,
    fun s l v f o r n hl hf hs ht => exec_afcFreeze_inTime hl hf hs ht o r n,
    fun s l n m v f p hl hf hs hn hp => exec_phrDecode_accepted hl hf hs hn hp, fun s l v f p hl hf hs hn hp => exec_phrDecode_invalid hl hf hs hn hp,
    fun s l net v f h hl hn hf hlen hh hc => ⟨fun hforeign => ?_, fun hu hv hd hp hb ha hj hs => ?_⟩,
    fun s l bytes v f hl hf hb hn hroom => exec_softBlockPost_fits hl hf hb hn hroom, fun s k b hb => exec_decoderBlockDone_running hb,
    fun s l v f p hl hf hs hd hb => exec_frameEnd_bad hl hf hs hd hb p,
    fun s l net v f h p hl hf hs hh hn hd hb => exec_frameEnd_good hl hf hs hh hn hd hb p⟩
  · rw [exec_headerDecode_client hl hn hf hlen hh hc, clientHeader_foreign hforeign]
  · have hsender : h.srcExt.elim (s.ctxOfShort net.ix h.srcShort) s.ctxOfEui = none := by
      cases he : h.srcExt <;> simpa [he] using hs
    rw [exec_headerDecode_client hl hn hf hlen hh hc, clientHeader_unknown hu hv hd hp hb ha hj hsender]

end Sys2Proof.Claims
end

section
namespace Sys2Proof.Claims
open Sys2Proof.Machine

/-! ## A second preamble on a lane in a frame (O30) -/

/-! ### Lanes and tables -/

theorem mem_tset {α : Type} {t : Tab α} {k : Nat} {v : α} {p : Nat × α} (h : p ∈ tset t k v) : p = (k, v) ∨ p ∈ t := by
  induction t with
  | nil => exact .inl (List.mem_singleton.1 h)
  | cons q t ih =>
    unfold tset at h
    split at h
    · exact (List.mem_cons.1 h).imp_right (List.mem_cons_of_mem q)
    · split at h
      · exact List.mem_cons.1 h
      · obtain rfl | h := List.mem_cons.1 h
        · exact .inr List.mem_cons_self
        · exact (ih h).imp_right (List.mem_cons_of_mem q)

theorem setLane_lane?_same (s : State) (l : Nat) (v : Lane) : (s.setLane l v).lane? l = some v := tfind_tset_same ..

theorem setLane_lane?_other (s : State) {l k : Nat} (v : Lane) (h : l ≠ k) : (s.setLane k v).lane? l = s.lane? l := tfind_tset_other _ _ h

section
variable {s : State} {x : Radio} {l k rho : Nat} {v : Lane} {f new : RxFrame} {raw : Int}

theorem ctr_bump_other (s : State) {b b' : CtrBank} {row row' : Nat} (h : b' ≠ b ∨ row' ≠ row) :
    (s.bump b row).ctr b' row' = s.ctr b' row' := ctr_bumpBy_other s h 1

/-! ### What the parts of a fork and of a switch change -/

theorem orderForks_frame (s : State) (x : Radio) : { s.orderForks x with bb := s.bb } = s := by
  unfold State.orderForks
  exact List.foldlRecOn (motive := fun t : State => { t with bb := s.bb } = s) _ _ rfl fun _ ht _ _ => ht

theorem orderForks_ctr (s : State) (x : Radio) (b : CtrBank) (row : Nat) : (s.orderForks x).ctr b row = s.ctr b row :=
  ctr_congr (congrArg State.ctrs (orderForks_frame s x) :) b row

theorem orderForks_mem (s : State) (x : Radio) : (s.orderForks x).mem = s.mem := (congrArg State.mem (orderForks_frame s x) :)

theorem noteLanes_ctr (s : State) (x : Radio) (b : CtrBank) (row : Nat) : (s.noteLanes x).ctr b row = s.ctr b row := rfl

/-- Where lane `k` holds the only fork of a radio, the choice among its forks leaves every lane as it is. -/
theorem orderForks_lane? {w : Lane} (hk : s.lane? k = some w)
    (honly : ∀ p ∈ s.bb.lanes, laneRadio p.1 = x → p.2.forked = true → p = (k, w)) (j : Nat) : (s.orderForks x).lane? j = s.lane? j := by
  unfold State.orderForks
  extract_lets fresh level best
  have hfresh : ∀ p ∈ fresh, p = (k, w) := fun p hp => by
    obtain ⟨hmem, hsel⟩ := List.mem_filter.1 hp
    simp only [Bool.and_eq_true, beq_iff_eq] at hsel
    exact honly p hmem hsel.1.1 hsel.1.2
  have hpair : ∀ p ∈ (fresh.map (fun p => p.1)).zip best, p = (k, w) := fun p hp => by
    obtain ⟨hfst, hsnd⟩ := List.of_mem_zip hp
    obtain ⟨a, ha, hak⟩ := List.mem_map.1 hfst
    obtain ⟨b, hb, hbw⟩ := List.mem_map.1 (List.mem_mergeSort.1 hsnd)
    exact Prod.ext (hak ▸ congrArg Prod.fst (hfresh a ha)) (hbw ▸ congrArg Prod.snd (hfresh b hb))
  refine List.foldlRecOn (motive := fun t : State => t.lane? j = s.lane? j) _ _ rfl fun t ht p hp => ?_
  obtain rfl := hpair p hp
  by_cases hj : j = k
  · subst hj
    exact (setLane_lane?_same ..).trans hk.symm
  · exact (setLane_lane?_other _ _ hj).trans ht

theorem hbGain_frame (s : State) (x : Radio) :
    { s.hbGain x with freeCtr := s.freeCtr, bb := { (s.hbGain x).bb with radios := s.bb.radios } } = s := by
  unfold State.hbGain
  split <;> rfl

theorem hbGain_lane? (s : State) (x : Radio) (l : Nat) : (s.hbGain x).lane? l = s.lane? l :=
  (congrArg (fun t : State => t.lane? l) (hbGain_frame s x) :)

theorem hbGain_ctr (s : State) (x : Radio) (b : CtrBank) (row : Nat) : (s.hbGain x).ctr b row = s.ctr b row :=
  ctr_congr (congrArg State.ctrs (hbGain_frame s x) :) b row

theorem hbGain_mem (s : State) (x : Radio) : (s.hbGain x).mem = s.mem := (congrArg State.mem (hbGain_frame s x) :)

theorem setLane_ctr (s : State) (l : Nat) (v : Lane) (b : CtrBank) (row : Nat) : (s.setLane l v).ctr b row = s.ctr b row := rfl

/-- A frame's soft bits given up are counted in row 19 alone. -/
theorem dropSoft_ctr (s : State) (l : Nat) {b : CtrBank} {row : Nat} (h : row ≠ 19) : (s.dropSoft l).ctr b row = s.ctr b row := by
  unfold State.dropSoft
  extract_lets waited t
  have ht : t.ctr b row = s.ctr b row := by
    show State.ctr (if _ then _ else _) b row = _
    split
    · rfl
    · exact ctr_bumpBy_other s (.inr h) _
  exact ht

/-! ### A switch or a stay (04 R116) -/

/-- A switch puts the new preamble's frame on the lane, and counts once. -/
theorem switchOrStay_switches (hlevel : f.level + 4 * (s.bbParam (laneRadio l) 0x2001 : Int) ≤ new.level) (hm : f.matched = false) :
    (∃ w, (s.switchOrStay l v f new).lane? l = some w ∧ w.frame.map (fun g => g.level) = some new.level)
      ∧ (s.switchOrStay l v f new).ctr (.bb (laneRadio l)) 7 = min 0xFFFFFFFF (s.ctr (.bb (laneRadio l)) 7 + 1)
      ∧ (s.switchOrStay l v f new).mem = s.mem := by
  have hswitch : (decide (f.level + 4 * (s.bbParam (laneRadio l) 0x2001 : Int) ≤ new.level) && !f.matched) = true := by simp [hlevel, hm]
  simp only [State.switchOrStay, hswitch, if_true]
  refine ⟨⟨_, (hbGain_lane? ..).trans (setLane_lane?_same ..), rfl⟩, ?_, (hbGain_mem ..).trans (LaneWork.dropSoft s l).mem_eq⟩
  rw [ctr_bump_same, hbGain_ctr, setLane_ctr, dropSoft_ctr s l (by decide)]

theorem switchOrStay_stays (h : f.matched = true ∨ new.level < f.level + 4 * (s.bbParam (laneRadio l) 0x2001 : Int)) :
    s.switchOrStay l v f new = s.bump (.bb (laneRadio l)) 9 := by
  refine if_neg fun hswitch => ?_
  simp only [Bool.and_eq_true, decide_eq_true_eq, Bool.not_eq_true'] at hswitch
  obtain hm | hlow := h
  · exact Bool.noConfusion (hm.symm.trans hswitch.2)
  · exact Int.not_lt.2 hswitch.1 hlow

/-! ### What a second preamble leads to (04 R113, R116) -/

/-- The frame of a preamble that is detected beside another, to be acquired in wide mode. -/
def secondFrame (s : State) (l : Nat) (raw : Int) : RxFrame := { level := raw + s.levelOffset (laneRadio l), at_ := s.now, wide := true }

/-- A fork noted for the radio's timeslot. -/
def forkNoted (s : State) (x : Radio) : State :=
  s.setBb x { s.bbRadio x with cur := { (s.bbRadio x).cur with forks := (s.bbRadio x).cur.forks + 1 } }

theorem forkNoted_ctr (s : State) (x : Radio) (b : CtrBank) (row : Nat) : (forkNoted s x).ctr b row = s.ctr b row := rfl

theorem bump_bbParam (s : State) (b : CtrBank) (row : Nat) (x : Radio) (id : Nat) : (s.bump b row).bbParam x id = s.bbParam x id := rfl

theorem bump_forkLane (s : State) (b : CtrBank) (row l : Nat) : (s.bump b row).forkLane l = s.forkLane l := rfl

theorem bump_weakFork (s : State) (b : CtrBank) (row : Nat) (x : Radio) (level : Int) :
    (s.bump b row).weakFork x level = s.weakFork x level := rfl

theorem exec_secondPreamble_silent (hl : s.lane? l = some v) (hf : v.frame = some f) (hr : s.fires l v rho = false) :
    exec (.secondPreamble l ⟨raw, rho⟩) s = .next s := by
  show execSecondPreamble l ⟨raw, rho⟩ s = _
  simp [execSecondPreamble, hl, hf, hr]

/-- Above the fork margin with a lane free, the new preamble is put on that lane. -/
theorem exec_secondPreamble_forks (hl : s.lane? l = some v) (hf : v.frame = some f) (hr : s.fires l v rho = true)
    (hp : s.bbParam (laneRadio l) 0x2002 = 1)
    (hm : f.level + 4 * (s.bbParam (laneRadio l) 0x2003 : Int) ≤ raw + s.levelOffset (laneRadio l)) (hk : s.forkLane l = some k) :
    exec (.secondPreamble l ⟨raw, rho⟩) s = .next ((((((forkNoted (s.bump (.bb (laneRadio l)) 1) (laneRadio l)).putFork k l v
      (secondFrame s l raw)).orderForks (laneRadio l)).noteLanes (laneRadio l)).bump (.bb (laneRadio l)) 8)) := by
  show execSecondPreamble l ⟨raw, rho⟩ s = _
  simp only [execSecondPreamble, hl, hf, hr, bump_bbParam, bump_forkLane, hp, hm, hk, Bool.not_true, Bool.false_eq_true, if_false,
    beq_self_eq_true, decide_true, Bool.and_self]
  rfl

/-- Below the fork margin, with forks turned off, or with no lane to be had, the preamble is a switch or a stay. -/
theorem exec_secondPreamble_noFork (hl : s.lane? l = some v) (hf : v.frame = some f) (hr : s.fires l v rho = true)
    (h : s.bbParam (laneRadio l) 0x2002 ≠ 1 ∨ raw + s.levelOffset (laneRadio l) < f.level + 4 * (s.bbParam (laneRadio l) 0x2003 : Int)
      ∨ (s.forkLane l = none ∧ s.weakFork (laneRadio l) (raw + s.levelOffset (laneRadio l)) = none)) :
    exec (.secondPreamble l ⟨raw, rho⟩) s
      = .next ((s.bump (.bb (laneRadio l)) 1).switchOrStay l v f (secondFrame s l raw)) := by
  show execSecondPreamble l ⟨raw, rho⟩ s = _
  simp only [execSecondPreamble, hl, hf, hr, bump_bbParam, bump_forkLane, bump_weakFork, Bool.not_true, Bool.false_eq_true, if_false]
  cases hfork : s.bbParam (laneRadio l) 0x2002 == 1
      && decide (f.level + 4 * (s.bbParam (laneRadio l) 0x2003 : Int) ≤ raw + s.levelOffset (laneRadio l)) with
  | false => exact congrArg Host.Outcome.next (if_pos (congrArg not hfork))
  | true =>
    simp only [Bool.and_eq_true, beq_iff_eq, decide_eq_true_eq] at hfork
    obtain ⟨hp, hm⟩ := hfork
    obtain ⟨hnone, hweak⟩ := (h.resolve_left (fun hne => hne hp)).resolve_left (Int.not_lt.2 hm)
    simp only [hnone, hweak, ite_self]
    rfl

/-- The choice among the forks of a radio that has one, and the notes that follow, count the fork and leave every lane as it is. -/
theorem oneFork_counted {w : Lane} (hk : s.lane? k = some w)
    (honly : ∀ p ∈ s.bb.lanes, laneRadio p.1 = x → p.2.forked = true → p = (k, w)) :
    (∀ j, (((s.orderForks x).noteLanes x).bump (.bb x) 8).lane? j = s.lane? j)
      ∧ (((s.orderForks x).noteLanes x).bump (.bb x) 8).ctr (.bb x) 8 = min 0xFFFFFFFF (s.ctr (.bb x) 8 + 1)
      ∧ (((s.orderForks x).noteLanes x).bump (.bb x) 8).mem = s.mem := by
  refine ⟨orderForks_lane? hk honly, ?_, orderForks_mem s x⟩
  rw [ctr_bump_same, noteLanes_ctr, orderForks_ctr]

/-- A fork on a radio without another leaves the first frame on its lane, holds the new one on the free lane, and counts once. -/
theorem putFork_counted (hl : s.lane? l = some v) (hkl : k ≠ l)
    (honly : s.bb.lanes.all (fun p => laneRadio p.1 != x || !p.2.forked) = true) :
    let t := (((s.putFork k l v new).orderForks x).noteLanes x).bump (.bb x) 8
    t.lane? l = some v ∧ (∃ w, t.lane? k = some w ∧ w.forked = true ∧ w.frame.map (fun g => g.level) = some new.level)
      ∧ t.ctr (.bb x) 8 = min 0xFFFFFFFF (s.ctr (.bb x) 8 + 1) ∧ t.mem = s.mem := by
  have hk : (s.putFork k l v new).lane? k = some _ := setLane_lane?_same ..
  obtain ⟨hlane, hctr, hmem⟩ := oneFork_counted (x := x) hk fun p hp hx hforked => (mem_tset hp).resolve_right fun hold => by
    have := List.all_eq_true.1 honly p hold
    simp [hx, hforked] at this
  exact ⟨(hlane l).trans ((setLane_lane?_other _ _ hkl.symm).trans hl), ⟨_, (hlane k).trans hk, rfl, rfl⟩, hctr, hmem⟩

end

/-- Settles O30: a fork on the free lane, or the switch or stay that is left without one. -/
theorem secondPreambleForksSwitchesOrStays : Obligations.SecondPreambleForksSwitchesOrStays := by
  intro s l rho v f raw hl hf x level
  refine ⟨exec_secondPreamble_silent hl hf, fun k hr hp hm hk honly hkl => ?_, fun hr hno => ⟨fun hlevel hm => ?_, fun hstay => ?_⟩⟩
  · obtain ⟨hlane, hfork, hctr, hmem⟩ := putFork_counted (s := forkNoted (s.bump (.bb x) 1) x) (new := secondFrame s l raw) hl hkl honly
    refine ⟨_, exec_secondPreamble_forks hl hf hr hp hm hk, hlane, hfork, ?_, hmem⟩
    rw [hctr, forkNoted_ctr, ctr_bump_other s (.inr (by decide))]
  · obtain ⟨hlane, hctr, hmem⟩ := switchOrStay_switches (s := s.bump (.bb x) 1) (v := v) (new := secondFrame s l raw) hlevel hm
    refine ⟨_, exec_secondPreamble_noFork hl hf hr hno, hlane, ?_, hmem⟩
    rw [hctr, ctr_bump_other s (.inr (by decide))]
  · rw [exec_secondPreamble_noFork hl hf hr hno, switchOrStay_stays hstay]

end Sys2Proof.Claims
end

section
namespace Sys2Proof.Claims
open Sys2Proof.Machine

/-! ## The baseband commands (O32) -/

theorem begun_bbRadio (s : State) (ch : Nat) (x : Radio) : (begun s ch).bbRadio x = s.bbRadio x := by simp [State.bbRadio]

section
variable {s : State} {q : Req} {x : Radio}

theorem radioCountersBody_eq {bank : Radio → CtrBank} {n : Nat} (hx : Radio.ofNat? (q.nat 1) = some x) (h : q.nat 2 ≤ 1) :
    radioCountersBody bank n q s = countersReply s (bank x) n (q.nat 2 == 1) := by
  simp [radioCountersBody, hx, Nat.not_lt.2 h]

/-- Entries turned on, in a window area that holds them. -/
theorem nfConfigBody_on (hx : Radio.ofNat? (q.nat 1) = some x) (hb : x ≠ .hb) (h2 : 2 ≤ q.nat 3) (h3 : q.nat 3 ≤ 1024) (h4 : 0 < q.nat 4)
    (h4' : q.nat 4 ≤ 1000) (h5 : q.nat 5 ≤ 2) (h6 : q.nat 6 = 1) (ha : s.areaOk (q.nat 2) (q.nat 3 * (32 + 2 * nfCount x)) = true) :
    nfConfigBody q s = (okReply [], s.setBb x { s.bbRadio x with
      nfCfg := some { off := q.nat 2, entries := q.nat 3, dec := q.nat 4, mode := q.nat 5 } }) := by
  have hentries : ¬ (q.nat 3 < 2 ∨ 1024 < q.nat 3) := by omega
  have hdec : ¬ (q.nat 4 = 0 ∨ 1000 < q.nat 4) := by omega
  simp only [nfConfigBody, hx, if_neg hentries, if_neg hdec, Nat.not_lt.2 h5, h6, ha, Nat.lt_irrefl, if_false, if_true,
    Bool.not_true, Bool.false_eq_true]

/-- The means over the newest periods measured. -/
theorem nfGetBody_means (hx : Radio.ofNat? (q.nat 1) = some x) (hb : x ≠ .hb) :
    (let l := (s.bbRadio x).nf.take (s.bbParam x 0x2030)
     nfGetBody q s = (okReply [tlvN 2 2 l.length, ⟨3, (s.meanCodes (nfCount x) l).1⟩], (s.meanCodes (nfCount x) l).2)) := by
  cases x <;> simp_all [nfGetBody]

/-- The statistics of a timeslot that has been completed. -/
theorem slotStatusBody_last {v : SlotStat} (hx : Radio.ofNat? (q.nat 1) = some x) (hv : (s.bbRadio x).last = some v) :
    slotStatusBody q s = (okReply [tlvN 2 8 v.asn, ⟨3, leInt 1 v.fs⟩, tlvN 4 1 v.lanes, tlvN 5 1 (min 255 v.forks), ⟨6, boolByte v.clipped⟩,
      tlvN 7 4 v.softPeak, tlvN 8 1 v.decPeak], s) := by
  simp [slotStatusBody, State.slotStat, hx, hv]

theorem airtimeBody_fsk (hs : phySupported (q.nat 1) = true) (hn : q.nat 2 ≤ psduMax (q.nat 1)) (hf : phyFamily (q.nat 1) = .fsk)
    (h3 : q.has 3 = true) (h4 : 4 ≤ q.nat 3) (h5 : q.nat 3 ≤ 1000) :
    (let r := s.roundOpen (airThirds (q.nat 1) (q.nat 2) (q.nat 3) (q.nat 4) (q.nat 5)) 3
     airtimeBody q s = (okReply [tlvN 6 4 r.1], r.2)) := by
  have hpre : ¬ (q.nat 3 < 4 ∨ 1000 < q.nat 3) := by omega
  simp [airtimeBody, hs, Nat.not_lt.2 hn, hf, h3, hpre]

end

/-- Settles O32: each body in the case that the statement describes; the receive array is as it was when the body runs. -/
theorem basebandCommandsAnswer : Obligations.BasebandCommandsAnswer := by
  refine ⟨fun s ch x q a hx h => serve_counters a (radioCountersBody_eq hx h), fun s ch x q a hx h => serve_counters a (radioCountersBody_eq hx h),
    fun s ch x q a hx hb h2 h3 h4 h4' h5 h6 ha => ?_, fun s ch x q a hx hb => ?_,
    fun s ch x v q a hx hv => exec_answers rfl a (slotStatusBody_last hx (by rwa [begun_bbRadio])),
    fun s ch q a hs hn hf h3 h4 h5 => exec_answers rfl a (airtimeBody_fsk hs hn hf h3 h4 h5)⟩
  · rw [← begun_bbRadio s ch]
    exact exec_answers rfl a (nfConfigBody_on hx hb h2 h3 h4 h4' h5 h6 ha)
  · rw [← begun_bbRadio s ch]
    exact exec_answers rfl a (nfGetBody_means hx hb)

end Sys2Proof.Claims
end

section
namespace Sys2Proof.Claims
open Sys2Proof.Machine

/-! ## Signal headers (O57)

A step of the CRC is injective in its register and in its input bit, so one wrong bit among the 40 that it covers leaves another
register, whatever follows; a wrong bit of the CRC itself leaves those 40 as they were. -/

/-! ### A step of the CRC (05 R144) -/

theorem sigStep_lt (r : Nat) (b : Bool) : sigStep r b < 256 := by
  have hshift : r * 2 % 256 < 2 ^ 8 := Nat.mod_lt _ (by decide)
  unfold sigStep
  dsimp only
  split
  · exact Nat.xor_lt_two_pow hshift (by decide)
  · exact hshift

/-- The shift clears bit 0 and 0x07 has it set, so bit 0 tells whether 0x07 was added. -/
theorem sigStep_testBit_zero (r : Nat) (b : Bool) : (sigStep r b).testBit 0 = (r.testBit 7 != b) := by
  have heven : (r * 2 % 256).testBit 0 = false := by
    simp only [Nat.testBit_zero, decide_eq_false_iff_not]
    omega
  unfold sigStep
  dsimp only
  split
  next hf => rw [Nat.testBit_xor, heven, hf]; rfl
  next hf => rw [heven, Bool.eq_false_iff.2 hf]

theorem xor_const_inj {a b c : Nat} (h : a ^^^ c = b ^^^ c) : a = b :=
  calc
    a = a ^^^ c ^^^ c := by rw [Nat.xor_assoc, Nat.xor_self, Nat.xor_zero]
    _ = b ^^^ c ^^^ c := by rw [h]
    _ = b := by rw [Nat.xor_assoc, Nat.xor_self, Nat.xor_zero]

theorem sigStep_inj {r r' : Nat} {b b' : Bool} (h : sigStep r b = sigStep r' b') :
    (r.testBit 7 != b) = (r'.testBit 7 != b') ∧ r % 128 = r' % 128 := by
  have hf : (r.testBit 7 != b) = (r'.testBit 7 != b') := by rw [← sigStep_testBit_zero, ← sigStep_testBit_zero, h]
  have hshift : r * 2 % 256 = r' * 2 % 256 := by
    simp only [sigStep, hf] at h
    split at h
    · exact xor_const_inj h
    · exact h
  exact ⟨hf, by omega⟩

theorem sigStep_bit_inj {r : Nat} {b b' : Bool} (h : sigStep r b = sigStep r b') : b = b' := by
  simpa using (sigStep_inj h).1

theorem sigStep_reg_inj {r r' : Nat} {b : Bool} (hr : r < 256) (hr' : r' < 256) (h : sigStep r b = sigStep r' b) : r = r' := by
  obtain ⟨hf, hlow⟩ := sigStep_inj h
  have htop : r.testBit 7 = r'.testBit 7 := by simpa using hf
  simp only [Nat.testBit_eq_decide_div_mod_eq, decide_eq_decide] at htop
  omega

/-! ### The register after some bits of a header -/

/-- The register of the CRC after the first `n` bits of a header. -/
def sigReg (bits n : Nat) : Nat := (List.range n).foldl (fun r i => sigStep r (bits.testBit i)) 0xFF

theorem sigReg_succ (bits n : Nat) : sigReg bits (n + 1) = sigStep (sigReg bits n) (bits.testBit n) := by
  simp [sigReg, List.range_succ]

theorem sigReg_lt (bits : Nat) : ∀ n : Nat, sigReg bits n < 256
  | 0 => show 0xFF < 256 by decide
  | n + 1 => sigReg_succ bits n ▸ sigStep_lt _ _

theorem sigReg_congr {a b n : Nat} (h : ∀ j < n, a.testBit j = b.testBit j) : sigReg a n = sigReg b n := by
  induction n with
  | zero => rfl
  | succ n ih => rw [sigReg_succ, sigReg_succ, ih fun j hj => h j (by omega), h n (by omega)]

theorem testBit_flip_ne (bits : Nat) {i j : Nat} (h : j ≠ i) : (bits ^^^ 2 ^ i).testBit j = bits.testBit j := by
  simp [Nat.testBit_two_pow_of_ne h.symm]

theorem testBit_flip_self (bits i : Nat) : (bits ^^^ 2 ^ i).testBit i = !bits.testBit i := by simp

theorem sigReg_flip_ne (bits : Nat) {i n : Nat} (h : i < n) : sigReg (bits ^^^ 2 ^ i) n ≠ sigReg bits n := by
  induction n with
  | zero => omega
  | succ n ih =>
    rw [sigReg_succ, sigReg_succ]
    intro heq
    obtain rfl | hlt : i = n ∨ i < n := by omega
    · rw [sigReg_congr fun j hj => testBit_flip_ne bits (Nat.ne_of_lt hj), testBit_flip_self] at heq
      simpa using sigStep_bit_inj heq
    · rw [testBit_flip_ne bits (Nat.ne_of_gt hlt)] at heq
      exact ih hlt (sigStep_reg_inj (sigReg_lt _ n) (sigReg_lt _ n) heq)

/-! ### The CRC field -/

/-- A register as it stands in the CRC field, its most significant bit first. -/
def sigReverse (r : Nat) : Nat := (List.range 8).foldl (fun v i => v + flag (r.testBit (7 - i)) i) 0

theorem sigCrc_eq_reverse (bits : Nat) : sigCrc bits = sigReverse (sigReg bits 40) := rfl

theorem sigReverse_reverse : ∀ r < 256, sigReverse (sigReverse r) = r := by decide +kernel

theorem sigReverse_lt : ∀ r < 256, sigReverse r < 256 := by decide +kernel

theorem sigReverse_inj {r r' : Nat} (hr : r < 256) (hr' : r' < 256) (h : sigReverse r = sigReverse r') : r = r' := by
  rw [← sigReverse_reverse r hr, h, sigReverse_reverse r' hr']

theorem sigCrc_lt (bits : Nat) : sigCrc bits < 256 := sigReverse_lt _ (sigReg_lt bits 40)

theorem sigCrc_congr {a b : Nat} (h : ∀ j < 40, a.testBit j = b.testBit j) : sigCrc a = sigCrc b :=
  congrArg sigReverse (sigReg_congr h)

theorem sigCrc_flip_ne (bits : Nat) {i : Nat} (h : i < 40) : sigCrc (bits ^^^ 2 ^ i) ≠ sigCrc bits := fun heq =>
  sigReg_flip_ne bits h (sigReverse_inj (sigReg_lt _ 40) (sigReg_lt _ 40) heq)

theorem crcField_flip_below (bits : Nat) {i : Nat} (h : i < 40) : (bits ^^^ 2 ^ i) / 2 ^ 40 % 256 = bits / 2 ^ 40 % 256 := by
  rw [Nat.xor_div_two_pow, Nat.div_eq_of_lt (Nat.pow_lt_pow_right (by decide) h), Nat.xor_zero]

theorem crcField_flip_ne (bits : Nat) {i : Nat} (h : 40 ≤ i) (h' : i < 48) :
    (bits ^^^ 2 ^ i) / 2 ^ 40 % 2 ^ 8 ≠ bits / 2 ^ 40 % 2 ^ 8 := fun heq => by
  have hbit := congrArg (Nat.testBit · (i - 40)) heq
  simp only [Nat.testBit_mod_two_pow, Nat.testBit_div_two_pow, Nat.sub_add_cancel h, testBit_flip_self] at hbit
  simp [show i - 40 < 8 by omega] at hbit

/-- A header whose CRC passes fails it with any one of its 48 bits wrong. -/
theorem crcField_ne_sigCrc_flip {bits i : Nat} (hcrc : bits / 2 ^ 40 % 256 = sigCrc bits) (hi : i < 48) :
    (bits ^^^ 2 ^ i) / 2 ^ 40 % 256 ≠ sigCrc (bits ^^^ 2 ^ i) := by
  obtain h | h := Nat.lt_or_ge i 40
  · rw [crcField_flip_below bits h, hcrc]
    exact (sigCrc_flip_ne bits h).symm
  · rw [sigCrc_congr fun j hj => testBit_flip_ne bits (by omega), ← hcrc]
    exact crcField_flip_ne bits h hi

/-! ### Headers accepted and refused (05 R145) -/

theorem sigOk_iff {x : Radio} {bw bits : Nat} :
    sigOk x bw bits = true ↔ bits / 2 ^ 40 % 256 = sigCrc bits ∧ bits / 2 ^ 31 % 2 ^ 9 = 0 ∧ bits % 16 ≤ 9 ∧ bits / 64 % 4 = bw
      ∧ bits / 64 % 4 ≤ 2 ∧ bits / 2 ^ 24 % 128 ≠ 0 ∧ bits / 2 ^ 22 % 4 = (if x = .mb then 1 else 2) ∧ 8 ≤ bits / 256 % 2 ^ 14 := by
  simp only [sigOk, Bool.and_eq_true, beq_iff_eq, bne_iff_ne, decide_eq_true_eq, and_assoc]

theorem sigOk_flip {x : Radio} {bw bits i : Nat} (h : sigOk x bw bits = true) (hi : i < 48) : sigOk x bw (bits ^^^ 2 ^ i) = false :=
  Bool.eq_false_iff.2 fun hflip => crcField_ne_sigCrc_flip (sigOk_iff.1 h).1 hi (sigOk_iff.1 hflip).1

theorem sigBase_lt (h : SigFields) : sigBase h < 2 ^ 31 := by
  unfold sigBase
  omega

theorem sigCrc_sigWord (h : SigFields) : sigCrc (sigWord h) = sigCrc (sigBase h) := by
  have hbase : sigBase h < 2 ^ 40 := Nat.lt_trans (sigBase_lt h) (by decide)
  refine sigCrc_congr fun j hj => ?_
  rw [sigWord, Nat.add_comm, Nat.testBit_two_pow_mul_add _ hbase, if_pos hj]

theorem crcField_sigWord (h : SigFields) : sigWord h / 2 ^ 40 % 256 = sigCrc (sigWord h) := by
  have hbase := sigBase_lt h
  have hcrc := sigCrc_lt (sigBase h)
  rw [sigCrc_sigWord, sigWord]
  omega

/-- Every field of a header stands where PHR_DECODE reads it. -/
theorem sigWord_fields (h : SigFields) :
    sigWord h / 2 ^ 31 % 2 ^ 9 = 0 ∧ sigWord h % 16 = h.mcs % 16 ∧ sigWord h / 64 % 4 = h.bw % 4 ∧ sigWord h / 2 ^ 24 % 128 = h.seed % 128
      ∧ sigWord h / 2 ^ 22 % 4 = h.member % 4 ∧ sigWord h / 256 % 2 ^ 14 = h.len % 2 ^ 14 := by
  simp only [sigWord, sigBase]
  omega

/-- Settles O57: the header built has its fields and its CRC in place, and one wrong bit fails the CRC. -/
theorem signalHeaderReadsAsBuilt : Obligations.SignalHeaderReadsAsBuilt := by
  intro h x _ hmcs _ _ _ hbw hlen hlen' hmember hseed hseed'
  obtain ⟨hres, fmcs, fbw, fseed, fmember, flen⟩ := sigWord_fields h
  have hnamed : h.member % 4 = if x = .mb then 1 else 2 := by
    rw [hmember]
    split <;> rfl
  have hok : sigOk x h.bw (sigWord h) = true :=
    sigOk_iff.2 ⟨crcField_sigWord h, hres, by omega, by omega, by omega, by omega, fmember.trans hnamed, by omega⟩
  exact ⟨hok, by omega, fun i hi => sigOk_flip hok hi⟩

end Sys2Proof.Claims
end

section
namespace Sys2Proof.Claims
open Sys2Proof.Machine

/-! ## Cells that coincide (O55) -/

theorem coincide_iff {a la b lb : Nat} : coincide a la b lb = true ↔ a % Nat.gcd la lb = b % Nat.gcd la lb := decide_eq_true_iff

/-- Bézout's identity: the gcd is an integer combination of the two numbers. -/
theorem exists_gcd_combination (m n : Nat) : ∃ x y : Int, (m : Int) * x + n * y = Nat.gcd m n := by
  induction m, n using Nat.gcd.induction with
  | H0 n => exact ⟨0, 1, by simp⟩
  | H1 m n hm ih =>
    obtain ⟨x, y, hxy⟩ := ih
    have hdiv : (m : Int) * (n / m : Nat) + (n % m : Nat) = n := mod_cast Nat.div_add_mod n m
    refine ⟨y - (n / m : Nat) * x, x, ?_⟩
    rw [Nat.gcd_rec, ← hxy, ← hdiv]
    grind

/-- Numbers that agree modulo `g` differ by a multiple of it. -/
theorem exists_add_mul_of_mod_eq {a b g : Nat} (h : a % g = b % g) : ∃ k : Int, (b : Int) = a + g * k := by
  have ha : (g : Int) * (a / g : Nat) + (a % g : Nat) = a := mod_cast Nat.div_add_mod a g
  have hb : (g : Int) * (b / g : Nat) + (b % g : Nat) = b := mod_cast Nat.div_add_mod b g
  refine ⟨(b / g : Nat) - (a / g : Nat), ?_⟩
  rw [← ha, ← hb, h]
  grind

/-- A remainder modulo a product, taken of an integer that leaves `a` modulo one factor, leaves `a` modulo it as well. -/
theorem toNat_emod_mod_of_dvd {z k : Int} {a l p : Nat} (hp : 0 < p) (hl : l ∣ p) (ha : a < l) (hz : z = a + l * k) :
    (z % p).toNat % l = a := by
  have hnonneg : 0 ≤ z % (p : Int) := Int.emod_nonneg z (by omega)
  have hmod : z % (p : Int) % l = a := by
    rw [Int.emod_emod_of_dvd z (Int.natCast_dvd_natCast.2 hl), hz, Int.add_mul_emod_self_left]
    exact Int.emod_eq_of_lt (by omega) (by omega)
  have hcast : (((z % (p : Int)).toNat % l : Nat) : Int) = a := by rw [Int.natCast_emod, Int.toNat_of_nonneg hnonneg, hmod]
  exact Int.ofNat.inj hcast

/-- The Chinese remainder theorem: offsets that agree modulo the gcd of two lengths meet before the lengths' product. -/
theorem exists_asn_of_coincide {a la b lb : Nat} (ha : a < la) (hb : b < lb) (h : coincide a la b lb = true) :
    ∃ asn : Nat, asn < la * lb ∧ asn % la = a ∧ asn % lb = b := by
  obtain ⟨x, y, hxy⟩ := exists_gcd_combination la lb
  obtain ⟨k, hk⟩ := exists_add_mul_of_mod_eq (coincide_iff.1 h)
  have hpos : 0 < la * lb := Nat.mul_pos (by omega) (by omega)
  have hmeet : (a : Int) + la * (x * k) = b + lb * -(y * k) := by
    rw [hk, ← hxy]
    grind
  refine ⟨(((a : Int) + la * (x * k)) % (la * lb : Nat)).toNat, ?_, toNat_emod_mod_of_dvd hpos (Nat.dvd_mul_right la lb) ha rfl,
    toNat_emod_mod_of_dvd hpos (Nat.dvd_mul_left lb la) hb hmeet⟩
  have hlt := Int.emod_lt_of_pos ((a : Int) + la * (x * k)) (Int.natCast_pos.2 hpos)
  omega

/-- The offsets of one ASN agree modulo every divisor of both lengths. -/
theorem coincide_of_asn (asn la lb : Nat) : coincide (asn % la) la (asn % lb) lb = true := by
  rw [coincide_iff, Nat.mod_mod_of_dvd asn (Nat.gcd_dvd_left la lb), Nat.mod_mod_of_dvd asn (Nat.gcd_dvd_right la lb)]

/-- Lengths of 16 bits have their product within the ASN's 40 bits. -/
theorem mul_lt_asn {la lb : Nat} (hla : la ≤ 65535) (hlb : lb ≤ 65535) : la * lb < 2 ^ 40 :=
  Nat.lt_of_le_of_lt (Nat.mul_le_mul hla hlb) (by decide)

theorem mem_coinciding {s : State} {n : Net} {slot len id : Nat} {c : Cell} :
    (id, c) ∈ s.coinciding n slot len ↔ (id, c) ∈ s.cells ∧ c.net = n.ix ∧ c.until_ = none
      ∧ ∃ l : Nat, s.newLen n c.handle = some l ∧ 0 < l ∧ coincide slot len c.slot l = true := by
  cases h : s.newLen n c.handle <;> simp [State.coinciding, h, and_assoc]

/-- Only the cells of a cell's own direction bear on the limits of its timeslot. -/
theorem slotFull_sameDirection (s : State) (n : Net) (c : Cell) (l : List (Nat × Cell)) :
    s.slotFull n c l = s.slotFull n c (l.filter (fun p => p.2.isTx == c.isTx && p.2.isRx == c.isRx)) := by
  simp only [State.slotFull, List.filter_filter, Bool.and_self]

/-- Settles O55: the Chinese remainder theorem on lengths of 16 bits, and the list and the count read off the model's check. -/
theorem coincidingCellsFollowTheGcd : Obligations.CoincidingCellsFollowTheGcd := by
  refine ⟨fun a la b lb _ hla' _ hlb' ha hb => ⟨coincide_iff, fun h => ?_, ?_⟩, fun s n slot len id c => mem_coinciding,
    slotFull_sameDirection⟩
  · obtain ⟨asn, hasn, hmeet⟩ := exists_asn_of_coincide ha hb h
    exact ⟨asn, Nat.lt_trans hasn (mul_lt_asn hla' hlb'), hmeet⟩
  · rintro ⟨asn, -, rfl, rfl⟩
    exact coincide_of_asn asn la lb

end Sys2Proof.Claims
end

section
namespace Sys2Proof.Claims
open Sys2Proof.Machine

/-! ## Joins, marks, audits and parents (O35) -/

section
variable {s : State} {n : Net} {q : Req}

theorem begun_net (s : State) (ch : Nat) (n : Net) : (begun s ch).net n = s.net n := by simp [State.net]

/-! ### Join requests (06 R184, R185) -/

theorem exec_joinRelease_due {r : JoinReq} {rest : List JoinReq} (ha : s.awake = true) (hb : (s.net n).backlog = r :: rest)
    (hd : ∀ t : Int, (s.net n).lastRelease = some t → 1000000000 ≤ (s.now - t) * s.schedParam n 0x3020) :
    (let u := (s.setNet n { s.net n with
        backlog := rest, released := (s.net n).released ++ [{ r with at_ := s.now }], lastRelease := some s.now }).bump (.sched n) 13
     exec (.joinRelease n) s = .next (u.ringDeliver (u.schedParam n 0x3022)
       { octets := r.payload, port := 0x10 + n.ix, cls := 0, time := some (unsigned 64 r.at_)
         trailer := if r.trailer = [] then none else some (n.radio, r.trailer) })) := by
  intro u
  change execJoinRelease n s = _
  cases hl : (s.net n).lastRelease with
  | none => simp [execJoinRelease, u, ha, hb, hl]
  | some t => simp [execJoinRelease, u, ha, hb, hl, hd t hl]

theorem bumpBy_net (s : State) (b : CtrBank) (row k : Nat) (n : Net) : (s.bumpBy b row k).net n = s.net n := rfl

/-- The requests that a timeout leaves are those not yet due to be forgotten. -/
theorem mem_released_after_timeout {l : List JoinReq} {r : JoinReq} {old : JoinReq → Bool} :
    r ∈ l.filter (fun r => !(l.filter old).contains r) ↔ r ∈ l ∧ old r = false := by
  simp only [List.mem_filter, Bool.not_eq_true', List.contains_eq_mem, decide_eq_false_iff_not, List.mem_filter, not_and]
  exact and_congr_right fun hr => by simp [hr]

theorem joinTimeout_forgets (ha : s.awake = true) : ∃ t, exec (.joinTimeout n) s = .next t
    ∧ (∀ r : JoinReq, r ∈ (t.net n).released ↔ r ∈ (s.net n).released ∧ s.now < r.at_ + 1000000000 * s.schedParam n 0x3023)
    ∧ (t.net n).backlog = (s.net n).backlog ∧ t.firn = s.firn ∧ t.mem = s.mem := by
  have hawake : ¬ (!s.awake) = true := by simp [ha]
  refine ⟨_, congrArg Host.Outcome.next (if_neg hawake), fun r => ?_, ?_, rfl, rfl⟩
  · rw [bumpBy_net, setNet_net, mem_released_after_timeout, decide_eq_false_iff_not, Int.not_le]
  · rw [bumpBy_net, setNet_net]

theorem joinAcceptBody_binds (hn : Net.ofNat? (q.nat 1) = some n) (hc : q.nat 3 ≤ 4095) (hk : q.nat 4 ≤ 8191) (hf : q.nat 5 = 1)
    (hr : (s.net n).released.any (fun r => r.eui == q.nat 2) = true) (hb : s.bindConflict (q.nat 2) n.ix 0xFFFE (q.nat 3) = false)
    (hx : s.ctx? (q.nat 3) = none) :
    joinAcceptBody q s = (okReply [], (s.setNet n { s.net n with released := (s.net n).released.filter (fun r => r.eui != q.nat 2) }).setFirn
      { s.firn with ctxs := tset s.firn.ctxs (q.nat 3) {
          newCtx (q.nat 2) 0xFFFE n.ix (q.nat 4) false with joined := true, fresh := true, corrupt := false } }) := by
  rw [joinAcceptBody, withNet_eq hn]
  simp [show ¬ 4095 < q.nat 3 by omega, show ¬ 8191 < q.nat 4 by omega, hf, hr, hb, hx]

theorem joinRejectBody_forgets (hn : Net.ofNat? (q.nat 1) = some n) (hr : (s.net n).released.any (fun r => r.eui == q.nat 2) = true) :
    joinRejectBody q s
      = (okReply [], s.setNet n { s.net n with released := (s.net n).released.filter (fun r => r.eui != q.nat 2) }) := by
  rw [joinRejectBody, withNet_eq hn]
  simp [hr]

/-! ### ASN marks (06 R190, R191) -/

theorem exec_asnMarkCross_newer (ha : s.awake = true) (hr : (s.net n).running = true) (hb : (s.net n).begun = true) (hd : s.isDsme n = false)
    (hm : ∀ k : Nat, s.asnMark n = some k → 0 < sdiff 40 ((s.net n).asn / 2 ^ 19 * 2 ^ 19) k) :
    exec (.asnMarkCross n) s = .next (s.requestAsnMark n ((s.net n).asn / 2 ^ 19 * 2 ^ 19)) := by
  refine congrArg Host.Outcome.next (if_pos ?_)
  cases hk : s.asnMark n with
  | none => simp [ha, hr, hb, hd]
  | some k =>
    have hnewer := hm k hk
    simpa [ha, hr, hb, hd] using hnewer

theorem exec_asnMarkHold_first (ha : s.awake = true) (hr : (s.net n).running = true) (hb : (s.net n).begun = true)
    (hh : s.asnHeld n (s.net n).asn = true) (hf : (s.net n).holdRaised = false) :
    exec (.asnMarkHold n) s = .next ((s.setNet n { s.net n with holdRaised := true }).raise 0x3007 [u8 n.ix, u64 (s.net n).asn]) :=
  congrArg Host.Outcome.next (if_pos (by simp [ha, hr, hb, hh, hf]))

/-! ### The placement audit (06 R182) -/

theorem exec_placementAudit_off (h : s.schedParam n 0x302B = 0 ∨ (s.net n).audited = true) : exec (.placementAudit n) s = .next s :=
  congrArg Host.Outcome.next (if_pos (by rcases h with h | h <;> simp [h]))

/-- The state in which the offsets of a slotframe are audited. -/
def auditing (s : State) (n : Net) : State := s.setNet n { s.net n with audited := true }

theorem auditing_schedInt (s : State) (n : Net) (id : Nat) : (auditing s n).schedInt n id = s.schedInt n id := by
  simp only [auditing, State.schedInt, setNet_net]
  rfl

theorem auditing_newLen (s : State) (n : Net) (h : Nat) : (auditing s n).newLen n h = s.newLen n h := by cases n <;> rfl

theorem auditing_coinciding (s : State) (n : Net) (slot len : Nat) : (auditing s n).coinciding n slot len = s.coinciding n slot len := by
  cases n <;> rfl

theorem auditing_levelSet (s : State) (n : Net) (l : List (Nat × Cell)) : (auditing s n).levelSet n l = s.levelSet n l := by cases n <;> rfl

theorem exec_placementAudit_apart {h slot len : Nat} (ha : s.awake = true) (hp : s.schedParam n 0x302B ≠ 0) (hr : (s.net n).running = true)
    (hd : (s.net n).audited = false)
    (ho : ((s.cells.filter (fun p => p.2.net == n.ix)).map (fun p => (p.2.handle, p.2.slot))).eraseDups = [(h, slot)])
    (hl : s.newLen n h = some len) (hw : 4 * s.schedParam n 0x3029 < spreadOf (s.levelSet n (s.coinciding n slot len))) :
    (let d := (auditing s n).roundOpen (spreadOf (s.levelSet n (s.coinciding n slot len))) 4
     exec (.placementAudit n) s = .next (d.2.raise 0x3008 [u8 n.ix, u16 slot, u8 d.1])) := by
  have hcells : (auditing s n).cells = s.cells := rfl
  have hrun : ¬ (s.schedParam n 0x302B = 0 || !(s.net n).running || (s.net n).audited || !s.awake) = true := by simp [ha, hp, hr, hd]
  refine congrArg Host.Outcome.next ((if_neg hrun).trans ?_)
  change List.foldl _ (auditing s n) (List.mergeSort (List.eraseDups (List.map _ (List.filter _ (auditing s n).cells))) _) = _
  rw [hcells, ho]
  simp only [List.mergeSort_singleton, List.foldl_cons, List.foldl_nil, auditing_newLen, hl, State.schedParam, auditing_schedInt,
    auditing_coinciding, auditing_levelSet]
  exact if_pos hw

/-! ### Time parents (06 R193, 13 R382) -/

theorem exec_timeParentLost_over {domain : Nat} {p : Parent} (ha : s.awake = true) (hp : s.parentOf domain = some p) (hl : p.lost = false)
    (hm : s.schedParam (if domain = 0x0101 then .mb else .lb) 0x3038 ≤ p.misses) :
    (let u := (s.setParent domain { p with lost := true, lostAt := s.now }).raise 0x3005 [u16 domain, u8 (min 255 p.misses)]
     exec (.timeParentLost domain) s = .next (if u.isSource domain && u.time.state == .locked then u.loseSource else u)) := by
  have hdue : ¬ (!s.awake || p.lost || decide (p.misses < s.schedParam (if domain = 0x0101 then .mb else .lb) 0x3038)) = true := by
    simp [ha, hl, hm]
  intro u
  change execTimeParentLost domain s = _
  simp only [execTimeParentLost, hp, if_neg hdue, u]

end

/-- Settles O35: each event by its rule, the two commands by what their bodies answer. -/
theorem joinsMarksAndParentsAreFollowed : Obligations.JoinsMarksAndParentsAreFollowed := by
  refine ⟨fun s n r rest => exec_joinRelease_due, fun s n => joinTimeout_forgets, fun s ch n q h hn hc hk hf hr hb hx => ?_,
    fun s ch n q h hn hr => ?_, fun s n => exec_asnMarkCross_newer, fun s n => exec_asnMarkHold_first, fun s n => exec_placementAudit_off,
    fun s n slotframe slot len => exec_placementAudit_apart, fun s domain p => exec_timeParentLost_over⟩
  · have hbody := joinAcceptBody_binds hn hc hk hf (by rw [begun_net]; exact hr) hb hx
    rw [begun_net, begun_firn] at hbody
    exact exec_answers rfl h hbody
  · have hbody := joinRejectBody_forgets (s := begun s ch) hn (by rw [begun_net]; exact hr)
    rw [begun_net] at hbody
    exact exec_answers rfl h hbody

end Sys2Proof.Claims
end

section
namespace Sys2Proof.Claims
open Sys2Proof.Machine

/-! ## Timeslots (O31) -/

/-! ### What the start of a timeslot leaves alone

`SlotKept n s t` says that `t` has the parameters and the spans of `s`, and network `n` in the same timeslot. One lemma for each operation
of TIMESLOT_START; a proof follows the operation's body from the outside in. -/

/-- `t` has the parameters and the spans of `s`, and network `n` at the same ASN, begun and planned alike. -/
structure SlotKept (n : Net) (s t : State) : Prop where
  params : t.params = s.params
  spans : t.spans = s.spans
  asn : (t.net n).asn = (s.net n).asn
  begun : (t.net n).begun = (s.net n).begun
  plan : (t.net n).plan = (s.net n).plan

namespace SlotKept

theorem refl (n : Net) (s : State) : SlotKept n s s := ⟨rfl, rfl, rfl, rfl, rfl⟩

section
variable {n : Net} {s t u : State} (h : SlotKept n s t)
include h

theorem trans (h' : SlotKept n t u) : SlotKept n s u :=
  ⟨h'.params.trans h.params, h'.spans.trans h.spans, h'.asn.trans h.asn, h'.begun.trans h.begun, h'.plan.trans h.plan⟩

/-- A branch of which both sides go on from the same state. -/
theorem iteOn {v : State} {c : Prop} [Decidable c] (ht : SlotKept n s t → SlotKept n s u) (hu : SlotKept n s t → SlotKept n s v) :
    SlotKept n s (if c then u else v) := by
      split
      · exact ht h
      · exact hu h

theorem foldl {α : Type} {f : State → α → State} {l : List α} (hf : ∀ t a, SlotKept n s t → SlotKept n s (f t a)) :
    SlotKept n s (l.foldl f t) :=
  List.foldlRecOn (motive := SlotKept n s) l f h fun t ht a _ => hf t a ht

/-- An update that leaves the networks, the parameters and the spans. -/
theorem upd (hn : u.nets = t.nets := by rfl) (hp : u.params = t.params := by rfl) (hs : u.spans = t.spans := by rfl) : SlotKept n s u :=
  have hnet : u.net n = t.net n := congrArg (Duo.net · n) hn
  h.trans ⟨hp, hs, congrArg NetState.asn hnet, congrArg NetState.begun hnet, congrArg NetState.plan hnet⟩

/-- An update of the network that leaves its ASN and its plan. -/
theorem setNet {v : NetState} (ha : v.asn = (t.net n).asn := by rfl) (hb : v.begun = (t.net n).begun := by rfl)
    (hp : v.plan = (t.net n).plan := by rfl) : SlotKept n s (t.setNet n v) :=
  h.trans ⟨rfl, rfl, by rw [setNet_net, ha], by rw [setNet_net, hb], by rw [setNet_net, hp]⟩

theorem lanes (hl : LaneWork t u) : SlotKept n s u :=
  h.upd (congrArg State.nets hl.frame :) (congrArg State.params hl.frame :) (congrArg State.spans hl.frame :)

theorem raise {code : Nat} {fields : List Bytes} : SlotKept n s (t.raise code fields) := h.upd (by simp) (by simp) (by simp)

/-! ### The radio and its lanes (03 R58, 04 R104-R109) -/

theorem moveRadio {x : Radio} {st : RState} {ext : Bool} : SlotKept n s (t.moveRadio x st ext) := by
  obtain ⟨r, -, -, -, -, hl⟩ := moveRadio_lanes t x st ext
  exact .lanes (.upd h) hl

theorem tune {x : Radio} {khz : Nat} : SlotKept n s (t.tune x khz) :=
  h.iteOn id fun h => iteOn (.upd h) (fun h => .moveRadio h) id

theorem freeLanes {drop : Nat → Lane → Bool} : SlotKept n s (t.freeLanes drop) := h.foldl fun _ _ h => .lanes h (.freeLane _ _)

theorem installLane {x : Radio} {was : Tab Lane} {p : Nat × Lane} : SlotKept n s (t.installLane x was p) := by
  unfold State.installLane
  dsimp only
  split <;> exact .upd h

theorem installLanes {x : Radio} {lanes : Tab Lane} : SlotKept n s (t.installLanes x lanes) :=
  .foldl (.freeLanes h) fun _ _ h => .installLane h

theorem holdNear {x : Radio} : SlotKept n s (t.holdNear x) := h.iteOn (fun h => .freeLanes h) id

theorem setGain {m : Net} {p : SlotPlan} : SlotKept n s (t.setGain m p) := iteOn (.upd h) (fun h => .upd h) id

theorem resumeRadio {x : Radio} : SlotKept n s (t.resumeRadio x) :=
  h.iteOn (fun h => iteOn (.upd h) (fun h => .moveRadio h) id) fun h => h.iteOn (fun h => .moveRadio h) id

theorem loseSlot {m : Net} {p : SlotPlan} : SlotKept n s (t.loseSlot m p) := by
  unfold State.loseSlot
  dsimp only
  split
  · exact .upd h
  · exact h.iteOn id fun h => .upd h

theorem enterSlot {m : Net} {p : SlotPlan} : SlotKept n s (t.enterSlot m p) :=
  have htuned : SlotKept n s (((if p.served = 0 then t.loseSlot m p else (t.loseSlot m p).resumeRadio m.radio)).tune m.radio p.lo) :=
    .tune (iteOn (.loseSlot h) id fun h => .resumeRadio h)
  .upd (.setGain (iteOn htuned (fun h => .installLanes h) fun h => .holdNear (.installLanes h)))

/-! ### What is counted per slotframe (06 R182, R183) -/

theorem adapt {m : Net} : SlotKept n s (t.adapt m) := by
  refine h.iteOn id fun h => h.iteOn id fun h => .foldl (.upd h) fun _ _ h => ?_
  split
  · exact h.iteOn id fun h => .upd h
  · exact h

theorem newFrame : SlotKept n s (t.newFrame n) :=
  h.iteOn (fun h => iteOn (.adapt (.setNet h)) id fun h => .raise h) id

/-! ### The lookahead of Firn (09 R256, R257) -/

theorem modSlot {k : Nat} {f : FirnSlot → FirnSlot} : SlotKept n s (t.modSlot k f) := by
  unfold State.modSlot
  split
  · exact .upd h
  · exact h

theorem holdCtx {c asn : Nat} : SlotKept n s (t.holdCtx c asn) := by
  unfold State.holdCtx
  dsimp only
  split
  · exact .modSlot h
  · exact .upd h

theorem revive {c : Nat} {touch : Bool} (hr : t.revive c touch = some u) : SlotKept n s u := by
  unfold State.revive at hr
  split at hr
  · obtain rfl := Option.some.inj hr
    exact .modSlot h
  · cases hr

theorem holdPartner {c asn : Nat} : SlotKept n s (match (t.holdCtx c asn).slotOf c with
    | some k => (t.holdCtx c asn).modSlot k (fun v => { v with ref := v.ref || v.held.isSome })
    | none => t.holdCtx c asn) := by
  split
  · exact .modSlot (.holdCtx h)
  · exact .holdCtx h

end

theorem lookPartner {n : Net} {s : State} {r : Nat × State} (h : SlotKept n s r.2) {asn c : Nat} :
    SlotKept n s (State.lookPartner asn r c).2 := by
  unfold State.lookPartner
  dsimp only
  split
  · exact .holdPartner h
  · split
    · exact .upd h
    · split
      · rename_i hr
        exact .holdPartner (.revive h hr)
      · exact .upd h

theorem lookahead {n : Net} {s t : State} (h : SlotKept n s t) : SlotKept n s (t.lookahead n) := by
  have hpartners : ∀ l : List Nat, SlotKept n s (l.foldl (State.lookPartner (t.asnAfter n 4)) (0, t)).2 := fun l =>
    List.foldlRecOn (motive := fun r : Nat × State => SlotKept n s r.2) l _ h fun _ hr _ _ => .lookPartner hr
  exact iteOn (hpartners _) (fun h => .raise (.setNet h)) id

end SlotKept

/-! ### Plan and start (06 R173, R168) -/

section
variable {s : State} {n : Net}

theorem exec_timeslotPlan_due (ha : s.awake = true) (hr : (s.net n).running = true) (hp : (s.net n).plan = none)
    (hw : (s.net n).waitMark = false) (hd : s.slotAt n (if (s.net n).begun then 1 else 0) - 500000 ≤ s.now) :
    (let k := if (s.net n).begun then 1 else 0
     exec (.timeslotPlan n) s = .next (s.planAhead n (s.asnAfter n k) (s.slotAt n k))) :=
  congrArg Host.Outcome.next (if_neg (by simpa [ha, hr, hp, hw] using hd))

theorem exec_timeslot_waits (hw : (s.net n).waitMark = true) :
    exec (.timeslotPlan n) s = .next s ∧ exec (.timeslotStart n) s = .next s :=
  ⟨congrArg Host.Outcome.next (if_pos (by simp [hw])), congrArg Host.Outcome.next (if_pos (by simp [hw]))⟩

/-- The plan in force from the network's next timeslot on, without a plan an idle one. -/
def nextPlan (s : State) (n : Net) : SlotPlan :=
  (s.net n).plan.getD { asn := s.asnAfter n (if (s.net n).begun then 1 else 0), tx := false, lo := s.idleLo n, cells := [] }

/-- The state with network `n` at its next timeslot, before anything else of the start. -/
def slotBegun (s : State) (n : Net) : State :=
  let k := if (s.net n).begun then 1 else 0
  { s.setNet n { s.net n with
      asn := s.asnAfter n k, slotStart := s.slotAt n k, begun := true, plan := none, cur := some (nextPlan s n) } with
    cipher := { s.cipher with
      asnUsed := s.cipher.asnUsed.setNet n (s.cipher.asnNext.net n), asnNext := s.cipher.asnNext.setNet n [] } }

/-- The state after the start of network `n`'s next timeslot. -/
def slotStarted (s : State) (n : Net) : State :=
  let t := (((((slotBegun s n).dropCells n).endHolds n).newFrame n).enterSlot n (nextPlan s n)).lookahead n
  if t.asnHeld n (s.asnAfter n (if (s.net n).begun then 1 else 0)) then t.bump (.sched n) 16 else t

theorem slotStarted_kept (s : State) (n : Net) : SlotKept n (slotBegun s n) (slotStarted s n) :=
  have hheld : SlotKept n (slotBegun s n) (((slotBegun s n).dropCells n).endHolds n) := .upd (.refl n _)
  .iteOn (.lookahead (.enterSlot (.newFrame hheld))) (fun h => .upd h) id

theorem exec_timeslotStart_due (ha : s.awake = true) (hr : (s.net n).running = true) (hw : (s.net n).waitMark = false)
    (hd : s.slotAt n (if (s.net n).begun then 1 else 0) ≤ s.now)
    (he : (s.dueWrites (0x0100 + n.ix) (s.asnAfter n (if (s.net n).begun then 1 else 0))).isEmpty = true) :
    exec (.timeslotStart n) s = .next (slotStarted s n) :=
  congrArg Host.Outcome.next (if_neg (by simpa [ha, hr, hw, List.isEmpty_iff.1 he] using hd))

theorem timeslotStart_begins (ha : s.awake = true) (hr : (s.net n).running = true) (hw : (s.net n).waitMark = false)
    (hd : s.slotAt n (if (s.net n).begun then 1 else 0) ≤ s.now)
    (he : (s.dueWrites (0x0100 + n.ix) (s.asnAfter n (if (s.net n).begun then 1 else 0))).isEmpty = true) :
    ∃ t, exec (.timeslotStart n) s = .next t ∧ (t.net n).asn = s.asnAfter n (if (s.net n).begun then 1 else 0) ∧ (t.net n).begun = true
      ∧ (t.net n).plan = none ∧ t.params = s.params ∧ t.spans = s.spans := by
  obtain ⟨hparams, hspans, hasn, hbegun, hplan⟩ := slotStarted_kept s n
  have hnet : (slotBegun s n).net n = _ := setNet_net ..
  rw [hnet] at hasn hbegun hplan
  exact ⟨_, exec_timeslotStart_due ha hr hw hd he, hasn, hbegun, hplan, hparams, hspans⟩

/-! ### Clipping (04 R110) -/

theorem exec_clipLimitExceeded_counts {x : Radio} {c k : Nat} (ha : s.awake = true) (hx : x ≠ .hb)
    (h : (s.bbRadio x).clipped = true ∨ tget 0 (s.bbRadio x).clipCount c + k ≤ s.bbParam x 0x2014) :
    exec (.clipLimitExceeded ⟨x, c, k⟩) s
      = .next (s.setBb x { s.bbRadio x with clipCount := tset (s.bbRadio x).clipCount c (tget 0 (s.bbRadio x).clipCount c + k) }) :=
  congrArg Host.Outcome.next ((if_neg (by simp [ha, hx])).trans (if_pos (by simpa using h)))

theorem setBb_bbRadio (s : State) (x : Radio) (b : BbRadio) : (s.setBb x b).bbRadio x = b := by cases x <;> rfl

theorem bump_bbRadio (s : State) (b : CtrBank) (row : Nat) (x : Radio) : (s.bump b row).bbRadio x = s.bbRadio x := rfl

theorem exec_clipLimitExceeded_clips {x : Radio} {c k : Nat} (ha : s.awake = true) (hx : x ≠ .hb) (hc : (s.bbRadio x).clipped = false)
    (hk : s.bbParam x 0x2014 < tget 0 (s.bbRadio x).clipCount c + k) :
    ∃ t, exec (.clipLimitExceeded ⟨x, c, k⟩) s = .next t ∧ (t.bbRadio x).clipped = true ∧ (t.bbRadio x).clipHold = s.bbParam x 0x2016
      ∧ t.ctr (.bb x) 14 = min 0xFFFFFFFF (s.ctr (.bb x) 14 + 1) ∧ { t with bb := s.bb, ctrs := s.ctrs } = s := by
  refine ⟨_, congrArg Host.Outcome.next ((if_neg (by simp [ha, hx])).trans (if_neg (by simpa [hc] using hk))), ?_, ?_, ctr_bump_same .., rfl⟩
  · rw [bump_bbRadio, setBb_bbRadio]
  · rw [bump_bbRadio, setBb_bbRadio]

/-! ### The end of a period without a network (04 R121, R122) -/

theorem reportOverflow_frame (s : State) (x : Radio) (asn : Nat) :
    (s.reportOverflow x asn).nets = s.nets ∧ (s.reportOverflow x asn).params = s.params := by
  unfold State.reportOverflow
  dsimp only
  split
  · exact ⟨rfl, rfl⟩
  · simp

theorem timeslotEnd_hb {means peaks : Bytes} (ha : s.awake = true) (hr : 10000000 ≤ s.receiveNs .hb) :
    ∃ t, exec (.timeslotEnd .hb means peaks) s = .next t ∧ (t.bbRadio .hb).clipped = false
      ∧ (t.bbRadio .hb).last.isSome = true ∧ t.nets = s.nets ∧ t.params = s.params := by
  obtain ⟨hnets, hparams⟩ := reportOverflow_frame s .hb 0xFFFFFFFFFF
  exact ⟨_, congrArg Host.Outcome.next (if_neg (by simpa [ha, State.periodOver, Radio.net?] using hr)), rfl, rfl, hnets, hparams⟩

/-! ### CCA (06 R163, R164) -/

theorem exec_ccaMeasure_quiet {khz : Nat} {level : Int} (h : level + s.levelOffset n.radio ≤ 4 * s.schedInt n 0x3014) :
    exec (.ccaMeasure n khz level) s = .next s := congrArg Host.Outcome.next (if_pos (by simp [h]))

/-- The state with emission `e` deferred, and counted, before its backoff is drawn. -/
def deferred (s : State) (n : Net) (e : Emission) : State :=
  (s.setRadio n.radio { s.radio n.radio with pend := (s.radio n.radio).pend.filter (fun y => y.id != e.id) }).bump (.sched n) 7

theorem exec_ccaMeasure_busy {khz c k cell : Nat} {level : Int} {e : Emission} (ha : s.awake = true)
    (hd : (s.net n).slotStart + (1000 * (s.netParam n 0x3005 + s.netParam n 0x3006) : Nat) ≤ s.now ∨ s.isDsme n = true)
    (hl : 4 * s.schedInt n 0x3014 < level + s.levelOffset n.radio)
    (he : (s.radio n.radio).pend.find? (fun e => e.khz == khz && s.inSharedCell n e) = some e) (ho : e.owner = .client c k cell) :
    ∃ f, exec (.ccaMeasure n khz level) s = .next ((deferred s n e).draw.2.modCtx c f) := by
  have hearly : (decide (s.now < (s.net n).slotStart + (1000 * (s.netParam n 0x3005 + s.netParam n 0x3006) : Nat)) && !s.isDsme n) = false := by
    rcases hd with hd | hd
    · rw [decide_eq_false (Int.not_lt.2 hd), Bool.false_and]
    · rw [hd, Bool.not_true, Bool.and_false]
  have hbusy : ¬ (!s.awake || (decide (s.now < (s.net n).slotStart + (1000 * (s.netParam n 0x3005 + s.netParam n 0x3006) : Nat)) && !s.isDsme n)
      || decide (level + s.levelOffset n.radio ≤ 4 * s.schedInt n 0x3014)) = true := by
    rw [hearly]
    simp [ha, hl]
  have hx : exec (.ccaMeasure n khz level) s = .next _ := congrArg Host.Outcome.next (if_neg hbusy)
  simp only [he, ho] at hx
  exact ⟨_, hx⟩

theorem ccaMeasure_defers {khz c k cell : Nat} {level : Int} {e : Emission} (ha : s.awake = true)
    (hd : (s.net n).slotStart + (1000 * (s.netParam n 0x3005 + s.netParam n 0x3006) : Nat) ≤ s.now ∨ s.isDsme n = true)
    (hl : 4 * s.schedInt n 0x3014 < level + s.levelOffset n.radio)
    (he : (s.radio n.radio).pend.find? (fun e => e.khz == khz && s.inSharedCell n e) = some e) (ho : e.owner = .client c k cell) :
    ∃ t, exec (.ccaMeasure n khz level) s = .next t ∧ (t.radio n.radio).pend = (s.radio n.radio).pend.filter (fun y => y.id != e.id)
      ∧ t.ctr (.sched n) 7 = min 0xFFFFFFFF (s.ctr (.sched n) 7 + 1) ∧ t.mem = s.mem ∧ t.cells = s.cells := by
  obtain ⟨f, hx⟩ := exec_ccaMeasure_busy ha hd hl he ho
  have hf := modCtx_frame (deferred s n e).draw.2 c f
  refine ⟨_, hx, ?_, ?_, (congrArg State.mem hf :), (congrArg State.cells hf :)⟩
  · have hradio : (deferred s n e).radio n.radio = _ := setRadio_radio ..
    exact (congrArg (fun v : State => (v.radio n.radio).pend) hf).trans (congrArg RadioState.pend hradio)
  · exact (ctr_congr (congrArg State.ctrs hf :) _ _).trans (ctr_bump_same ..)

end

/-- Settles O31: each event by its rule; the start keeps what `SlotKept` names from the moment its ASN is set. -/
theorem timeslotsArePlannedStartedAndEnded : Obligations.TimeslotsArePlannedStartedAndEnded :=
  ⟨fun _ _ => exec_timeslotPlan_due, fun _ _ => timeslotStart_begins, fun _ _ => exec_timeslot_waits, fun _ _ _ => timeslotEnd_hb,
    fun _ _ _ _ => exec_clipLimitExceeded_counts, fun _ _ _ _ => exec_clipLimitExceeded_clips, fun _ _ _ _ => exec_ccaMeasure_quiet,
    fun _ _ _ _ _ _ _ _ => ccaMeasure_defers⟩

end Sys2Proof.Claims
end

section
namespace Sys2Proof.Claims
open Sys2Proof.Machine

/-! ## A member's channel (O37) -/

theorem mem_channels {m : Member} {n : Nat} : n ∈ m.channels ↔ n < 256 ∧ (m.map.getD (n / 8) 0).getLsbD (n % 8) = true := by
  simp only [Member.channels, List.mem_filter, List.mem_range]

theorem channels_pairwise (m : Member) : m.channels.Pairwise (· < ·) := List.pairwise_lt_range.filter _

theorem length_channels_pos {m : Member} (h : m.channels ≠ []) : 0 < m.channels.length := List.length_pos_iff.2 h

theorem hop_lt_channels {m : Member} (h : m.channels ≠ []) (e : Nat) : e * m.hop % m.channels.length < m.channels.length :=
  Nat.mod_lt _ (length_channels_pos h)

theorem khzAt_eq {m : Member} (h : m.channels ≠ []) (band e : Nat) :
    m.khzAt band e = m.chanKhz band (m.channels[e * m.hop % m.channels.length]'(hop_lt_channels h e)) := by
  have hmax : max 1 m.channels.length = m.channels.length := Nat.max_eq_right (length_channels_pos h)
  simp only [Member.khzAt, hmax, List.getD_eq_getElem?_getD, List.getElem?_eq_getElem (hop_lt_channels h e), Option.getD_some]

/-- Settles O37: a filter of 0 … 255 rises, and the index of an event lies within a list that is not empty. -/
theorem memberChannelFollowsTheEvent : Obligations.MemberChannelFollowsTheEvent := fun m band h =>
  ⟨channels_pairwise m, fun _ => mem_channels, fun e => ⟨hop_lt_channels h e, khzAt_eq h band e⟩,
    length_channels_pos h, by simpa only [Nat.zero_mul, Nat.zero_mod] using khzAt_eq h band 0⟩

end Sys2Proof.Claims
end

section
namespace Sys2Proof.Claims
open Sys2Proof.Machine

/-! ## A change of a member before the first burst (O36) -/

theorem refuseUnknown_spans (ch : Nat) : ∀ (fuel : Nat) (s : State), (State.refuseUnknown ch fuel s).spans = s.spans
  | 0, _ => rfl
  | fuel + 1, s => by
    unfold State.refuseUnknown
    split
    · rw [refuseUnknown_spans ch fuel, respond_spans]
      exact begun_spans s ch
    · rfl

theorem answered_span (s : State) (ch op st : Nat) (tl : List Tlv) (t : State) (n : Nat) : (answered s ch op st tl t).span n = t.span n := by
  simp only [State.span, answered, refuseUnknown_spans, respond_spans]

theorem modSpan_span (s : State) (n : Nat) (f : SpanState → SpanState) : (s.modSpan n f).span n = f (s.span n) := tget_tset_same ..

/-- A member of 3 ms on channel 1. -/
def plainMember : MemberState :=
  { rec_ := { mode := 0xC0, nss := 1, gi := 0, offUs := 0, lenUs := 3000, power := 0, hop := 1, lbBase := 0, lbSpacing := 0, map := [2#8] } }

/-- SPAN_MEMBER_DROP of band 2 on span 0. -/
def dropRequest : Req := ⟨0, 0x4004, 7, [tlvN 1 1 0, tlvN 2 1 2]⟩

/-- Span 0 has members on bands 1 and 2; its end R is in ACQUIRE and has heard no burst. The host asks for the second member's drop. -/
def scanningEnd : State :=
  { sys := { boot := 4 }
    spans := [(0, { phase := .acquire, peer := 9, members := [(1, plainMember), (2, plainMember)] })]
    mem := writeBytes [] winBase (u16 0x4004 ++ u16 7 ++ u16 (encodeTlvs dropRequest.tlvs).length ++ u16 0 ++ encodeTlvs dropRequest.tlvs)
    chans := [(0, { reqPi := 1 })] }

theorem scanningEnd_asked : Asked scanningEnd 0 0x4004 memberDropSpec dropRequest :=
  ⟨by decide +kernel, by decide +kernel, rfl⟩

/-- The drop holds at once, and no change waits. -/
theorem scanningEnd_drops : ∃ t, exec (.spanMemberDrop 0) scanningEnd = .next t ∧ (t.span (dropRequest.nat 1)).changes = [] :=
  ⟨_, rfl, by decide +kernel⟩

/-- Refutes O36 in its clause of SPAN_MEMBER_DROP: it says that the change always waits for the event that the response names, but at an end
R that has heard no burst, which knows of no event, it holds at once (07 R224, log entry 186), as in `scanningEnd`. -/
theorem not_spanCommandsOpenChangeAndClose : ¬ Obligations.SpanCommandsOpenChangeAndClose := by
  unfold Obligations.SpanCommandsOpenChangeAndClose
  rintro ⟨-, -, -, hdrop, -, -⟩
  have hwaits := hdrop scanningEnd 0 dropRequest scanningEnd_asked (by decide) (by decide) (by decide +kernel) (by decide +kernel) (by decide)
  obtain ⟨t, hexec, hnone⟩ := scanningEnd_drops
  obtain rfl := Host.Outcome.next.inj (hexec.symm.trans hwaits)
  rw [answered_span, modSpan_span] at hnone
  exact List.append_ne_nil_of_right_ne_nil _ (List.cons_ne_nil _ _) hnone

end Sys2Proof.Claims
end

section
namespace Sys2Proof.Claims
open Sys2Proof.Machine

/-! ## A span frame that finds no rime units (O38) -/

/-- A span frame without payload of the peer 9 for the device 1 on MB. -/
def peerFrame : Bytes := SpanHdr.bytes { ty := 0, sel := 0, band := 1, dir := 1, src := 9, dst := 1, counter := 0, event := 0 }

/-- Span 0 is UP with peer 9; the checks of sixteen long frames hold all 1024 rime units. -/
def rimeTaken : State :=
  { params := [(0x4001, .bytes (leBytes 5 1))]
    spans := [(0, { phase := .up, peer := 9, members := [(1, plainMember)], keys := [(0, 5)] })]
    cipher := { rimeUsed := (List.range 16).map fun i => ⟨rxInst i, 64, 0, []⟩ }
    bb := { rxSeq := 16 } }

/-- The frame's MIC graph waits for its units, which EV_CIPHER_RIME_FULL in the event ring reports (10 R296). -/
theorem rimeTaken_posts : ∃ t, exec (.spanFrameReceive .mb peerFrame ⟨0, 0, 0, 0⟩) rimeTaken = .next t
    ∧ readBytes t.mem (winBase + 0x20000) 2 = u16 0x7004 := ⟨_, rfl, by decide +kernel⟩

/-- Refutes O38 in its clause of a frame that is kept for its MIC graph: it says that the memory stays as it was, but where the rime units are
all taken, as in `rimeTaken`, the event that says so is written into the event ring (10 R296, 02 R38). -/
theorem not_spanEventsRunAndFramesAreTaken : ¬ Obligations.SpanEventsRunAndFramesAreTaken := by
  unfold Obligations.SpanEventsRunAndFramesAreTaken
  rintro ⟨-, -, -, -, -, -, hframe, -, -⟩
  obtain ⟨-, -, -, hkept⟩ := hframe rimeTaken .mb peerFrame ⟨0, 0, 0, 0⟩ (by decide)
  obtain ⟨t, r, hexec, -, -, -, -, -, -, hmem⟩ := hkept 0 plainMember (by decide +kernel) (by decide +kernel) (by decide +kernel)
    (by decide +kernel) (by decide +kernel) (by decide +kernel) (by decide +kernel) (by decide +kernel)
  obtain ⟨u, hexec', hposts⟩ := rimeTaken_posts
  obtain rfl := Host.Outcome.next.inj (hexec.symm.trans hexec')
  rw [hmem] at hposts
  exact absurd hposts (by decide +kernel)

end Sys2Proof.Claims
end

section
namespace Sys2Proof.Claims
open Sys2Proof.Machine

/-! ## Ablation's commands and the passing of its time (O33) -/

/-- A rounding draws on the free values alone. -/
theorem roundOpen_time (s : State) (num den : Nat) : (s.roundOpen num den).2.time = s.time := by
  unfold State.roundOpen
  split <;> rfl

section
variable {s : State} {q : Req}

/-! ### The profile and its lock (08 R231-R233) -/

theorem profileWriteBody_locked (h : s.regLocked = true) : profileWriteBody q s = (plain stLocked, s) := if_pos h

/-- A valid profile in a window area, before the lock, that the hold-up check lets through. -/
theorem profileWriteBody_writes (hl : s.regLocked = false) (ha : s.areaOk (q.nat 1) (q.nat 2) = true) (hn : q.nat 2 ≤ 1024)
    (hf : profileFault (s.winRead (q.nat 1) (q.nat 2)) = none)
    (hw : s.writeRefused (writeCost (s.winRead (q.nat 1) (q.nat 2)).length) = none) :
    (let b := s.winRead (q.nat 1) (q.nat 2)
     profileWriteBody q s = (.wait [tlvN 3 4 (profileId b)],
       s.pushNv { id := 0x0500, data := some (.bytes b), size := b.length, urgent := false, owners := [⟨some q.ch, .none⟩] })) := by
  simp [profileWriteBody, hl, ha, Nat.min_eq_left hn, Nat.not_lt.2 hn, hf, hw]

/-- The profile in force, named with the magic number, whose classes hold the one declared. -/
theorem profileLockBody_locks {b : Board} {p : Bytes} (hb : s.board = some b) (hl : s.regLocked = false) (hs : s.sys.siteOk = true)
    (hp : s.profileBytes = some p) (hid : profileId p = q.nat 1) (hmagic : q.nat 2 = 0x4C4F434B) (hc : s.site.cls < fieldAt p 3 1)
    (hw : s.writeRefused (writeCost 32) = none) :
    profileLockBody q s = (.wait [tlvN 3 8 s.wallNow],
      s.pushNv { id := 0x0501, data := some (.bytes (lockRecord p b.gains s.wallNow)), size := 32, urgent := false,
                 owners := [⟨some q.ch, .ablLocked (profileId p)⟩] }) := by
  simp [profileLockBody, hb, hl, hs, hp, hid, hmagic, Nat.not_le.2 hc, hw]

/-! ### Questions (08 R233, R237, R247) -/

theorem profileGetBody_some {p : Bytes} (hp : s.profileBytes = some p) (ha : s.areaOk (q.nat 1) p.length = true) :
    profileGetBody q s = (okReply [tlvN 2 4 p.length, ⟨3, boolByte s.lockBytes.isSome⟩, ⟨4, padTo 32 (s.lockBytes.getD [])⟩],
      s.winWrite (q.nat 1) p) := by
  simp [profileGetBody, hp, ha]

/-- The figures of a sub-band with a duty limit; the two roundings draw one after the other. -/
theorem budgetBody_duty {l : SubLimit} (hl : s.subLimit? (q.nat 1) = some l) (hd : l.dutyOn = true) :
    (let used := (s.subUse l).used
     let ord := s.roundOpen ((s.ordinary100 l).getD 0) 100
     let ms := ord.2.roundOpen (((s.subUse l).due - s.time.aon) * 1000) 32768
     budgetBody q s = (okReply [⟨2, u16 l.band.duty ++ u16 l.band.dwell ++ leInt 2 l.band.pcond ++ leInt 2 l.band.peirp⟩, tlvN 3 8 used,
       tlvN 4 4 (min 0xFFFFFFFF (s.pendingUs l.ix)), tlvN 5 8 ord.1, tlvN 6 8 (l.budget - used - s.pendingUs l.ix), tlvN 7 4 ms.1],
       ms.2)) := by
  simp only [budgetBody, hl, hd, if_true, roundOpen_time]

theorem dwellGetBody_inside {l : SubLimit} (hl : s.subLimit? (q.nat 1) = some l) (hlow : l.band.low ≤ q.nat 2)
    (hhigh : q.nat 2 ≤ l.band.high) :
    (let used := match s.dwellOf l.ix (q.nat 2) with | some d => d.used | none => 0
     let ms := s.roundOpen ((tget 0 s.abl.closures l.ix - s.time.aon) * 1000) 32768
     dwellGetBody q s = (okReply [tlvN 3 4 (min 0xFFFFFFFF used), tlvN 4 4 ms.1], ms.2)) := by
  have hin : ¬ (q.nat 2 < l.band.low ∨ l.band.high < q.nat 2) := by omega
  simp only [dwellGetBody, hl]
  exact if_neg hin

/-! ### The passing of time (08 R238, R242, R245, R247) -/

/-- An entry that is left holds some use, or waits for a charge. -/
theorem used_of_mem_ageDwells {d : DwellUse} (h : d ∈ s.ageDwells.abl.dwell) : d.used ≠ 0 ∨ s.dwellPending d.sub d.khz ≠ 0 := by
  simpa using (List.mem_filter.1 h).2

theorem mem_endClosures {p : Nat × Nat} : p ∈ s.endClosures.abl.closures ↔ p ∈ s.abl.closures ∧ s.time.aon < p.2 := by
  simp [State.endClosures]

theorem exec_bucketBoundary_awake (ha : s.awake = true) : exec .bucketBoundary s = .next s.ageSubs := congrArg Host.Outcome.next (if_pos ha)

theorem exec_dwellBucketBoundary_awake (ha : s.awake = true) : exec .dwellBucketBoundary s = .next s.ageDwells :=
  congrArg Host.Outcome.next (if_pos ha)

theorem exec_dwellClosureEnd_awake (ha : s.awake = true) : exec .dwellClosureEnd s = .next s.endClosures :=
  congrArg Host.Outcome.next (if_pos ha)

theorem exec_ablationSnapshotDue_due (ha : s.awake = true) (hm : s.abl.snapMin < s.time.aon / (60 * 32768)) :
    exec .ablationSnapshotDue s = .next
      (({ s with abl := { s.abl with snapMin := s.time.aon / (60 * 32768) } } : State).reportRefused.recordDue 0x0300 false) :=
  congrArg Host.Outcome.next (if_pos (by simp [ha, hm]))

end

/-- Settles O33: each command by its body in the case that the statement describes, each boundary by what an awake device does at it. -/
theorem ablationCommandsAnswerAndTimePasses : Obligations.AblationCommandsAnswerAndTimePasses := by
  refine ⟨fun s ch q a hl ha hn hf hw => ?_, fun s ch q a hl => exec_answers rfl a (profileWriteBody_locked hl),
    fun s ch q b p a hb hl hs hp hid hmagic hc hw => ?_, fun s ch p q a hp ha => exec_answers rfl a (profileGetBody_some hp ha),
    fun s ch l q a hl hd => ?_, fun s ch l q a hl hlow hhigh => ?_, fun s => exec_bucketBoundary_awake,
    fun s ha => ⟨_, exec_dwellBucketBoundary_awake ha, rfl, rfl, fun d => used_of_mem_ageDwells⟩,
    fun s ha => ⟨_, exec_dwellClosureEnd_awake ha, rfl, rfl, fun p => mem_endClosures⟩, fun s => exec_ablationSnapshotDue_due⟩
  · obtain rfl : q.ch = ch := checkedReq_ch a.2.2
    rw [← begun_winRead s q.ch] at hf hw ⊢
    exact exec_keeps rfl a (profileWriteBody_writes hl ha hn hf hw)
  · obtain rfl : q.ch = ch := checkedReq_ch a.2.2
    rw [← begun_board s q.ch] at hb
    rw [← begun_site s q.ch] at hc
    have hsite : (begun s q.ch).sys.siteOk = true := by rwa [begun_sys]
    exact exec_keeps rfl a (profileLockBody_locks hb hl hsite hp hid hmagic hc hw)
  · rw [← begun_time s ch]
    exact exec_answers rfl a (budgetBody_duty hl hd)
  · rw [← begun_time s ch]
    exact exec_answers rfl a (dwellGetBody_inside hl hlow hhigh)

end Sys2Proof.Claims
end

section
namespace Sys2Proof.Claims
open Sys2Proof.Machine

/-! ## The replay check (O56)

Acceptance moves the map of R254 up, the old high entering as its lowest bit, or sets a clear bit of it. -/

theorem add_two_pow_eq_or {m i : Nat} (h : m.testBit i = false) : m + 2 ^ i = m ||| 2 ^ i := by
  have hclear : m / 2 ^ i % 2 = 0 := by
    rw [Nat.testBit_eq_decide_div_mod_eq, decide_eq_false_iff_not] at h
    omega
  have hlow : m % 2 ^ (i + 1) < 2 ^ i := by
    rw [Nat.mod_pow_succ, hclear, Nat.mul_zero, Nat.add_zero]
    exact Nat.mod_lt _ (Nat.two_pow_pos i)
  have hlow' : m % 2 ^ (i + 1) + 2 ^ i < 2 ^ (i + 1) := Nat.lt_of_lt_of_eq (Nat.add_lt_add_right hlow _) (Nat.two_pow_succ i).symm
  calc m + 2 ^ i = 2 ^ (i + 1) * (m / 2 ^ (i + 1)) + (m % 2 ^ (i + 1) + 2 ^ i) := by rw [← Nat.add_assoc, Nat.div_add_mod]
    _ = 2 ^ (i + 1) * (m / 2 ^ (i + 1)) ||| (m % 2 ^ (i + 1) ||| 2 ^ i) := by
      rw [Nat.two_pow_add_eq_or_of_lt hlow', Nat.or_two_pow_eq_add_of_lt hlow]
    _ = m ||| 2 ^ i := by rw [← Nat.or_assoc, ← Nat.two_pow_add_eq_or_of_lt (Nat.mod_lt _ (Nat.two_pow_pos _)), Nat.div_add_mod]

section
variable {h c : Nat}

/-- A counter beyond the map's reach needs no case of its own: the move leaves no bit of 32. -/
theorem replayCheck_higher (map : Nat) (hc : h < c) :
    replayCheck (some h) map c = (.accept, some c, (2 * map + 1) * 2 ^ (c - h - 1) % 2 ^ 32) := by
  have hfar : 33 ≤ c - h → (2 * map + 1) * 2 ^ (c - h - 1) % 2 ^ 32 = 0 := fun hd =>
    Nat.mod_eq_zero_of_dvd (Nat.dvd_mul_left_of_dvd (Nat.pow_dvd_pow 2 (by omega)) _)
  simp only [replayCheck, if_pos hc]
  split
  · next hd => rw [hfar hd]
  · rfl

theorem replayCheck_high (h map : Nat) : replayCheck (some h) map h = (.dup, some h, map) := by simp [replayCheck]

theorem replayCheck_lower (map : Nat) (hc : c + 33 ≤ h) : replayCheck (some h) map c = (.reject, some h, map) := by
  simp [replayCheck, show ¬ h < c by omega, show c ≠ h by omega, hc]

theorem replayCheck_marked {map : Nat} (hc : c < h) (hn : h < c + 33) (hm : map.testBit (h - 1 - c) = true) :
    replayCheck (some h) map c = (.dup, some h, map) := by
  simp [replayCheck, show ¬ h < c by omega, show c ≠ h by omega, show ¬ c + 33 ≤ h by omega, hm]

theorem replayCheck_unmarked {map : Nat} (hc : c < h) (hn : h < c + 33) (hm : map.testBit (h - 1 - c) = false) :
    replayCheck (some h) map c = (.accept, some h, map ||| 2 ^ (h - 1 - c)) := by
  simp [replayCheck, show ¬ h < c by omega, show c ≠ h by omega, show ¬ c + 33 ≤ h by omega, hm, add_two_pow_eq_or hm]

/-- In the map moved up from high `h` to `c`, counter `k` is marked where it is the old high or was marked below it. -/
theorem testBit_movedMap {k : Nat} (map : Nat) (hc : h < c) (hk : k < c) (hn : c < k + 33) :
    ((2 * map + 1) * 2 ^ (c - h - 1) % 2 ^ 32).testBit (c - 1 - k) = true ↔ k = h ∨ (k < h ∧ map.testBit (h - 1 - k) = true) := by
  rw [Nat.testBit_mod_two_pow, Nat.testBit_mul_two_pow]
  obtain hkh | rfl | hkh := Nat.lt_trichotomy k h
  · have hplace : c - 1 - k - (c - h - 1) = h - 1 - k + 1 := by omega
    have hhalf : (2 * map + 1) / 2 = map := by omega
    rw [hplace, Nat.testBit_add_one, hhalf]
    simp [hkh, Nat.ne_of_lt hkh, show c - 1 - k < 32 by omega, show c - h - 1 ≤ c - 1 - k by omega]
  · simp [show c - 1 - k < 32 by omega, show c - k - 1 ≤ c - 1 - k by omega, show c - 1 - k - (c - k - 1) = 0 by omega]
  · simp [Nat.ne_of_gt hkh, Nat.lt_asymm hkh, show ¬ c - h - 1 ≤ c - 1 - k by omega]

theorem replayCheck_map_lt {map : Nat} (hmap : map < 2 ^ 32) : (replayCheck (some h) map c).2.2 < 2 ^ 32 := by
  obtain hc | rfl | hc := Nat.lt_trichotomy h c
  · rw [replayCheck_higher map hc]; exact Nat.mod_lt _ (Nat.two_pow_pos 32)
  · rw [replayCheck_high]; exact hmap
  · by_cases hn : c + 33 ≤ h
    · rw [replayCheck_lower map hn]; exact hmap
    cases hm : map.testBit (h - 1 - c) with
    | true => rw [replayCheck_marked hc (by omega) hm]; exact hmap
    | false =>
      rw [replayCheck_unmarked hc (by omega) hm]
      exact Nat.or_lt_two_pow hmap (Nat.pow_lt_pow_right (by decide) (by omega))

end

/-- Settles O56: the check case by case, the new map read bit by bit. -/
theorem replayCheckAcceptsACounterOnce : Obligations.ReplayCheckAcceptsACounterOnce := by
  refine fun h map c hmap => ⟨fun hc => ?_, fun hc hn hm => ?_, fun hd => ?_, replayCheck_lower map, replayCheck_map_lt hmap⟩
  · rw [replayCheck_higher map hc]
    exact ⟨rfl, rfl, fun k => testBit_movedMap map hc⟩
  · rw [replayCheck_unmarked hc hn hm]
    exact ⟨rfl, rfl, fun i => by rw [Nat.testBit_or, Nat.testBit_two_pow, Bool.or_eq_true, decide_eq_true_iff, or_comm, eq_comm (a := i)]⟩
  · obtain rfl | ⟨hc, hn, hm⟩ := hd
    · exact replayCheck_high c map
    · exact replayCheck_marked hc hn hm

end Sys2Proof.Claims
end

section
namespace Sys2Proof.Claims
open Sys2Proof.Machine

/-! ## Firn contexts and the pager (O39) -/

section
variable {s : State} {q : Req}

/-! ### The context commands (09 R249, R267-R269) -/

theorem begun_pnat (s : State) (ch id : Nat) : (begun s ch).pnat id = s.pnat id := pnat_congr id (begun_params s ch) (by simp [begun_sys])

theorem pinResident_inSlot {c k : Nat} {chans : List Nat} (hk : s.slotOf c = some k) : s.pinResident c chans = (some k, s) := by
  simp only [State.pinResident, hk]

theorem pinResident_absent {c : Nat} {chans : List Nat} (hk : s.slotOf c = none) (hr : s.revive c false = none) :
    s.pinResident c chans = (none, s.pinLoad c chans) := by
  simp only [State.pinResident, hk, hr]

/-- A context already pinned is not counted against the limit again. -/
theorem pinLimit_open {x : Ctx} (hroom : x.pinned = true ∨ s.pinnedCount < s.pnat 0x6001) :
    (!x.pinned && decide (s.pnat 0x6001 ≤ s.pinnedCount)) = false := by
  obtain hp | hp := hroom
  · simp [hp]
  · simp [Nat.not_le.2 hp]

section
variable {x : Ctx} (hd : s.ddrReady = true) (hx : s.ctx? (q.nat 1) = some x)
include hd hx

theorem withCtx_some (f : Nat → Ctx → Req → State → Reply × State) : withCtx f q s = f (q.nat 1) x q s := by simp [withCtx, hd, hx]

theorem ctxReadBody_copies (ha : s.areaOk (q.nat 2) 1024 = true) :
    (let b := s.ctxBytes (q.nat 1) x
     ctxReadBody q s = (okReply [⟨3, boolByte (b.2.resident (q.nat 1))⟩, tlvN 4 2 ((b.2.slotOf (q.nat 1)).getD 0xFFFF)],
       b.2.winWrite (q.nat 2) b.1)) := (withCtx_some hd hx _).trans (if_neg (by simp [ha]))

/-- The host area: two bytes of offset, then the data. -/
theorem ctxWriteBody_host {off : Nat} {d : Bytes} (hf : q.nat 2 = 0) (h3 : q.has 3 = true) (hv : q.bytes 3 = u16 off ++ d) (hne : d ≠ [])
    (hlen : d.length ≤ 496) (hend : off + d.length ≤ 512) :
    ctxWriteBody q s = (okReply [], s.modCtx (q.nat 1) (fun x =>
      { x with host := (padTo 512 x.host).take off ++ d ++ (padTo 512 x.host).drop (off + d.length) })) := by
  have hpos : 0 < d.length := List.length_pos_iff.2 hne
  have htake : (u16 off ++ d).take 2 = u16 off := List.take_left' (u16_length off)
  have hdrop : (u16 off ++ d).drop 2 = d := List.drop_left' (u16_length off)
  have hoff : leNat (u16 off) = off := leNat_u16 (by omega)
  refine (withCtx_some hd hx _).trans ?_
  simp [hf, h3, hv, htake, hdrop, hoff, show ¬ 2 + d.length < 3 by omega, show ¬ 498 < 2 + d.length by omega, Nat.not_lt.2 hend]

theorem ctxWriteBody_level (hf : q.nat 2 = 1) (h3 : q.has 3 = true) (hlen : (q.bytes 3).length = 2) :
    ctxWriteBody q s = (okReply [], s.modCtx (q.nat 1) (fun x => { x with level := some (q.int 3) })) := by
  refine (withCtx_some hd hx _).trans ?_
  simp [hf, h3, hlen]

theorem ctxWriteBody_offset (hf : q.nat 2 = 3) :
    ctxWriteBody q s = (okReply [], s.modCtx (q.nat 1) (fun x => { x with offset := none })) := by
  refine (withCtx_some hd hx _).trans ?_
  simp [hf]

section
variable {u : State} (hroom : x.pinned = true ∨ s.pinnedCount < s.pnat 0x6001)
  (hu : u = s.modCtx (q.nat 1) (fun x => { x with pinned := true }))
include hroom hu

theorem pinBody_resident {k : Nat} (hk : u.slotOf (q.nat 1) = some k) : pinBody q s = (okReply [tlvN 4 2 k], u) := by
  subst hu
  refine (withCtx_some hd hx _).trans ?_
  simp only [pinLimit_open hroom, pinResident_inSlot hk, Bool.false_eq_true, if_false]

theorem pinBody_loads (hk : u.slotOf (q.nat 1) = none) (hr : u.revive (q.nat 1) false = none) :
    pinBody q s = (.wait [], u.pinLoad (q.nat 1) [q.ch]) := by
  subst hu
  refine (withCtx_some hd hx _).trans ?_
  simp only [pinLimit_open hroom, pinResident_absent hk hr, Bool.false_eq_true, if_false]

end

theorem unpinBody_unpins : unpinBody q s = (okReply [], s.modCtx (q.nat 1) (fun x => { x with pinned := false })) := withCtx_some hd hx _

theorem releaseBody_drops (hc : s.ctxCells (q.nat 1) = []) :
    releaseBody q s = (okReply [], (((s.bumpBy .firn 17 (x.queues.map (fun p => p.2.length)).sum).bumpBy .firn 11
      (s.waitingFrames (q.nat 1))).dropWaiting (q.nat 1)).dropCtx (q.nat 1)) := (withCtx_some hd hx _).trans (if_neg (by simp [hc]))

end

theorem firnSyncBody_waits (hb : s.board.isSome = true) (hd : s.ddrReady = true) (hw : s.writeRefused (writeCost (recSize 0x0400)) = none) :
    (let recs := s.imageRecords s.imageStale
     firnSyncBody q s = (.wait [tlvN 1 2 recs.length],
       (recs.foldl (fun (s : State) r => s.recordFor r false [⟨some q.ch, .none⟩]) s).askFinalLast [⟨some q.ch, .none⟩])) := by
  have hn : s.board.isNone = false := Option.isNone_eq_false_iff.2 hb
  simp [firnSyncBody, hn, hd, hw]

theorem firnLookupBody_eui {c : Nat} (hd : s.ddrReady = true) (h1 : q.has 1 = true) (h2 : q.has 2 = false) (h3 : q.has 3 = false)
    (hn : q.nat 2 ≤ 1) (hc : s.ctxOfEui (q.nat 1) = some c) : firnLookupBody q s = (okReply [tlvN 4 2 c], s) := by
  simp [firnLookupBody, hd, h1, h2, h3, Nat.not_lt.2 hn, hc]

theorem firnStatusBody_tells (hd : s.ddrReady = true) :
    ∃ l, firnStatusBody q s = (okReply l, s.setFirn { s.firn with missPeak := s.missDepth }) ∧ l.length = 9
      ∧ l.take 6 = [tlvN 1 2 s.firn.ctxs.length, tlvN 2 2 (s.firn.slots.filter (fun p => !p.2.evicted)).length, tlvN 3 2 s.pinnedCount,
          tlvN 4 2 s.heldCount, tlvN 5 2 s.freeSlots.length, tlvN 6 2 s.missDepth] := ⟨_, if_neg (by simp [hd]), rfl, rfl⟩

/-! ### Loads (09 R258, R259, R263) -/

section
variable {l : FirnLoad} (ha : s.awake = true)
include ha

section
variable (hd : s.ddrReady = true) (hl : s.nextLoad = some l) (hfew : (s.firn.loads.filter (fun l => l.started.isSome)).length < 8)
include hd hl hfew

theorem exec_firnLoadStart_takes {k : Nat} {r : List Nat} (hk : s.freeSlots = k :: r) :
    exec .firnLoadStart s = .next ((s.setFirn { s.firn with slots := tdel s.firn.slots k }).modLoad l.ctx (fun l =>
      { l with started := some s.now, slot := some k })) := by
  show execFirnLoadStart s = _
  simp [execFirnLoadStart, hl, ha, hd, Nat.not_le.2 hfew, hk]

theorem exec_firnLoadStart_stalls (hk : s.freeSlots = []) (hs : l.stalled = false) :
    exec .firnLoadStart s = .next ((s.modLoad l.ctx (fun l => { l with stalled := true })).bump .firn 6) := by
  show execFirnLoadStart s = _
  simp [execFirnLoadStart, hl, ha, hd, Nat.not_le.2 hfew, hk, hs]

end

section
variable {c : Nat} {t : Int} (hl : s.firn.loads.find? (fun l => l.ctx == c && l.started.isSome) = some l) (ht : l.started = some t)
  (hin : s.now - t ≤ 4000)
include hl ht hin

/-- A load within its bound counts nothing. -/
theorem exec_firnLoadComplete_resident {k : Nat} (hk : l.slot = some k) :
    exec (.firnLoadComplete c false false) s = .next (((s.placeCtx c k l.held).releaseWaiting c).answerPins l.owners k) := by
  show execFirnLoadComplete c false false s = _
  simp [execFirnLoadComplete, ha, hl, ht, Int.not_lt.2 hin, hk]

theorem exec_firnLoadComplete_corrupt : exec (.firnLoadComplete c false true) s = .next (s.corruptCtx c) := by
  show execFirnLoadComplete c false true s = _
  simp [execFirnLoadComplete, ha, hl, ht, Int.not_lt.2 hin]

end

end

/-! ### Evictions and write-backs (09 R264, R265) -/

theorem modSlot_some {k : Nat} {x : FirnSlot} (hx : tfind s.firn.slots k = some x) (f : FirnSlot → FirnSlot) :
    s.modSlot k f = s.setFirn { s.firn with slots := tset s.firn.slots k (f x) } := by simp only [State.modSlot, hx]

/-- The hand evicts the context it stands at, where nothing keeps that and its reference bit is clear. -/
theorem evictOne_atHand {x : FirnSlot} (hx : tfind s.firn.slots (s.firn.hand % 512) = some x) (hkept : s.slotKept x = false)
    (href : x.ref = false) :
    s.evictOne = (s.setFirn { s.firn with
      hand := (s.firn.hand % 512 + 1) % 512
      slots := tset s.firn.slots (s.firn.hand % 512) { x with evicted := true, writing := x.dirty, ref := false } }).bump .firn 7 := by
  have hmoved : (s.setFirn { s.firn with hand := (s.firn.hand % 512 + 1) % 512 }).slotKept x = false := hkept
  unfold State.evictOne State.sweepHand
  simp only [setFirn_firn, hx, hmoved, href, Bool.false_eq_true, if_false]
  rw [modSlot_some (by rwa [setFirn_firn])]
  rfl

section
variable (ha : s.awake = true)
include ha

theorem firnEvict_evicts {x : FirnSlot} (hfree : s.freeSlots.length < s.pnat 0x6002)
    (hx : tfind s.firn.slots (s.firn.hand % 512) = some x) (hkept : s.slotKept x = false) (href : x.ref = false) :
    ∃ t, exec .firnEvict s = .next t ∧ t.ctr .firn 7 = min 0xFFFFFFFF (s.ctr .firn 7 + 1)
      ∧ t.firn.hand = (s.firn.hand % 512 + 1) % 512
      ∧ tfind t.firn.slots (s.firn.hand % 512) = some { x with evicted := true, writing := x.dirty, ref := false }
      ∧ t.firn.ctxs = s.firn.ctxs ∧ t.mem = s.mem := by
  have hexec : exec .firnEvict s = .next s.evictOne := congrArg Host.Outcome.next (if_pos (by simp [ha, hfree]))
  exact ⟨_, hexec.trans (congrArg _ (evictOne_atHand hx hkept href)), ctr_bump_same _ _ _, rfl, tfind_tset_same _ _ _, rfl, rfl⟩

theorem exec_writebackComplete_writing {k : Nat} {x : FirnSlot} (hx : tfind s.firn.slots k = some x) (hw : x.writing = true) :
    exec (.writebackComplete k) s = .next ((s.modSlot k (fun v => { v with writing := false, dirty := false })).bump .firn 8) := by
  have hdone : s.wroteBack k = (s.modSlot k (fun v => { v with writing := false, dirty := false })).bump .firn 8 := by
    simp only [State.wroteBack, hx, hw, if_true]
  exact congrArg Host.Outcome.next ((if_pos ha).trans hdone)

/-! ### Images (09 R271) -/

theorem exec_firnImageSweep_due (hran : s.ranMs s.firn.sweptAt (1000 * s.pnat 0x6003) = true) :
    exec .firnImageSweep s = .next ((s.imageRecords (fun c => s.imageStale c && !s.imageTaken c)).foldl
      (fun (s : State) r => s.recordDue r false) (s.setFirn { s.firn with sweptAt := s.time.aon })) :=
  congrArg Host.Outcome.next (if_neg (by simp [ha, hran]))

theorem exec_firnImageUrgent_awake :
    exec .firnImageUrgent s = .next ((s.imageRecords (fun c => s.imageUrgent c && !s.imageTaken c)).foldl
      (fun (s : State) r => s.recordDue r false) s) := congrArg Host.Outcome.next (if_neg (by simp [ha]))

end
end

/-- Settles O39: each command by its body in the case that the statement describes, each event of the pager past its guard. -/
theorem contextsAreCommandedLoadedAndImaged : Obligations.ContextsAreCommandedLoadedAndImaged := by
  refine ⟨fun s ch x q a hd hx harea => exec_answers rfl a (ctxReadBody_copies hd hx harea),
    fun s ch x q a hd hx => ⟨fun off d hf h3 hv hne hlen hend => exec_answers rfl a (ctxWriteBody_host hd hx hf h3 hv hne hlen hend),
      fun hf h3 hlen => exec_answers rfl a (ctxWriteBody_level hd hx hf h3 hlen),
      fun hf => exec_answers rfl a (ctxWriteBody_offset hd hx hf)⟩,
    fun s ch k x q a hd hx hroom hk => ?_, fun s ch x q a hd hx hroom hk hr => ?_,
    fun s ch x q a hd hx => exec_answers rfl a (unpinBody_unpins hd hx),
    fun s ch x q a hd hx hc => exec_answers rfl a (releaseBody_drops hd hx hc), fun s ch q a hb hd hw => ?_,
    fun s ch c q a hd h1 h2 h3 hn hc => exec_answers rfl a (firnLookupBody_eui hd h1 h2 h3 hn hc), fun s ch q a hd => ?_,
    fun s l ha hd hl hfew => ⟨fun k r => exec_firnLoadStart_takes ha hd hl hfew, exec_firnLoadStart_stalls ha hd hl hfew⟩,
    fun s c k l t ha hl ht hin hk => ⟨exec_firnLoadComplete_resident ha hl ht hin hk, exec_firnLoadComplete_corrupt ha hl ht hin⟩,
    fun s x ha hfree hx hkept href => firnEvict_evicts ha hfree hx hkept href, fun s k x ha hx hw => exec_writebackComplete_writing ha hx hw,
    fun s ha => exec_firnImageSweep_due ha, fun s ha => exec_firnImageUrgent_awake ha⟩
  · rw [← begun_pnat s ch] at hroom
    exact exec_answers rfl a (pinBody_resident hd hx hroom rfl hk)
  · obtain rfl : q.ch = ch := checkedReq_ch a.2.2
    rw [← begun_pnat s q.ch] at hroom
    exact exec_keeps rfl a (pinBody_loads hd hx hroom rfl hk hr)
  · obtain rfl : q.ch = ch := checkedReq_ch a.2.2
    exact exec_keeps rfl a (firnSyncBody_waits (by rwa [begun_board]) hd hw)
  · obtain ⟨l, hl, hlen, htake⟩ := firnStatusBody_tells (q := q) hd
    rw [begun_firn] at hl htake
    exact ⟨l, _, exec_answers rfl a hl, hlen, htake, rfl⟩

end Sys2Proof.Claims
end

section
namespace Sys2Proof.Claims
open Sys2Proof.Machine

/-! ## A CIPHER_OPEN whose rime units lie over its input (O40) -/

/-- A key for AEAD. -/
def aeadKey : KeySlot := { key := List.replicate 16 1#8, usage := 32 }

/-- The tag of 16 octets under that key of a message without octets and without header. -/
def emptyTag : Bytes := (ccmSeal aeadKey.key (List.replicate 13 0#8) [] [] 16).2

/-- CIPHER_OPEN of a message without octets, its tag at 0x30000 of the host area. -/
def openRequest : Req :=
  ⟨0, 0x7008, 7, [tlvN 1 2 5, tlvN 2 4 0x30000, tlvN 3 2 0, tlvN 4 4 0x30000, ⟨5, List.replicate 13 0#8⟩, tlvN 6 1 1, tlvN 7 2 0,
    tlvN 8 4 0x38000, tlvN 9 1 16]⟩

/-- That request waits at the front of channel 0, the right tag stands in the host area, and the channel's operation holds rime units whose
area, which is zeroed when they are freed, is the tag's place. -/
def unitsOverTag : State :=
  { sys := { boot := 4 }
    cipher := { keys := [(5, aeadKey)], rimeUsed := [⟨hostInst 0, 1, 0, [(sramWindows + 0x30000, 16)]⟩] }
    mem := writeBytes (writeBytes [] winBase
      (u16 0x7008 ++ u16 7 ++ u16 (encodeTlvs openRequest.tlvs).length ++ u16 0 ++ encodeTlvs openRequest.tlvs)) (winBase + 0x30000) emptyTag
    chans := [(0, { reqPi := 1 })] }

theorem unitsOverTag_asked : Asked unitsOverTag 0 0x7008 aeadSpec openRequest := ⟨by decide +kernel, by decide +kernel, by decide +kernel⟩

/-- The tag fits the message, as long as the units are held. -/
theorem unitsOverTag_fits :
    ccmOpen aeadKey.key (openRequest.bytes 5) (unitsOverTag.winRead (openRequest.nat 2) (openRequest.nat 3))
      (unitsOverTag.winRead (openRequest.nat 4) (openRequest.nat 7))
      (unitsOverTag.winRead (openRequest.nat 4 + openRequest.nat 7) (openRequest.nat 9)) = some [] := by decide +kernel

/-- The units are freed before the tag is read: the operation counts as a failed check. -/
theorem unitsOverTag_fails : ∃ t, exec (.cipherOpen 0) unitsOverTag = .next t ∧ t.ctr .cipher 3 = 1 := ⟨_, rfl, by decide +kernel⟩

/-- Refutes O40 in its clause of CIPHER_OPEN: it reads the message before the rime units are freed, but the operation frees them first and
so zeroes their areas (10 R295), which in `unitsOverTag` is where the tag stands. -/
theorem not_cipherCommandsKeepKeysAndTransform : ¬ Obligations.CipherCommandsKeepKeysAndTransform := by
  unfold Obligations.CipherCommandsKeepKeysAndTransform
  rintro ⟨-, -, -, -, -, -, -, -, hopen, -, -⟩
  obtain ⟨hopens, -⟩ := hopen unitsOverTag 0 aeadKey openRequest unitsOverTag_asked (by decide) (by decide +kernel) (by decide +kernel) rfl
    (.inl (by decide))
  obtain ⟨t, hexec, hfails⟩ := unitsOverTag_fails
  have hopened := hopens [] unitsOverTag_fits
  rw [Host.Outcome.next.inj (hexec.symm.trans hopened)] at hfails
  exact absurd hfails (by decide +kernel)

end Sys2Proof.Claims
end

section
namespace Sys2Proof.Claims
open Sys2Proof.Machine

/-! ## The cipher engine's own events (O41) -/

section
variable {s : State}

theorem retryNodes_none (h : s.cc.waitNodes = []) : s.retryNodes = s := by simp [State.retryNodes, h]

theorem serveHost_none (h : s.cipher.hostWait = []) : s.serveHost = s := by
  simp only [State.serveHost, h, List.foldl_nil]
  rw [← h]

/-- Whether the source may be used does not hang on the blocks counted for the mask generator. -/
theorem entropyOk_maskBlocks (n : Nat) (he : s.entropyOk = true) :
    ({ s with cipher := { s.cipher with maskBlocks := n } } : State).entropyOk = true := he

theorem rimeGrant_only {r : RimeUse} (hw : s.cipher.rimeWait = [r]) (hu : r.units ≤ s.rimeFree) :
    s.rimeGrant r.inst = { s with cipher := { s.cipher with rimeUsed := s.cipher.rimeUsed ++ [r], rimeWait := [] } } := by
  simp [State.rimeGrant, rimeOrder, hw, hu]

section
variable (ha : s.awake = true)
include ha

/-! ### Requests and rime units (10 R288, R292-R296) -/

theorem exec_cipherRequestComplete_other {queue use_ : Nat} {r : CipherReq} {rest : List CipherReq}
    (hq : tget [] s.cipher.queues queue = r :: rest) (hg : r.graph = .other use_) :
    (let u : State := { s with cipher := { s.cipher with queues := tset s.cipher.queues queue rest } }
     exec (.cipherRequestComplete queue) s
       = .next (((((u.pipeOut r).cipherDone r 0 r.blocks).countUse r.slot).useBlocks r.blocks).retryNodes.serveHost)) := by
  show execCipherRequestComplete queue s = _
  simp only [execCipherRequestComplete, ha, if_true, hq, hg]

section
variable {id : Nat} {k : RxCheck} (hk : s.bb.checks.find? (fun k => k.id == id) = some k) (hw : k.waits = false) (hv : k.voidWait = false)
  (hb : k.hdr.beacon = none) (hr : s.rimeHeld (rxInst id) = true)
include hk hw hv hb hr

theorem exec_tagCheckDone_clientFails (inst : Nat) (keyB : Bool) :
    exec (.tagCheckDone (.client id false keyB inst)) s
      = .next ((((s.modCheck id (fun c => { c with inst := some inst })).endCheck id).bump .cipher 3).ctxCount k.ctx kMicFail 1) := by
  show execTagCheckDone (.client id false keyB inst) s = _
  simp [execTagCheckDone, ha, hk, hw, hv, hb, hr]

theorem exec_tagCheckDone_clientPasses (inst : Nat) (keyB : Bool) :
    exec (.tagCheckDone (.client id true keyB inst)) s
      = .next ((s.modCheck id (fun c => { c with inst := some inst })).clientPassed { k with keyB := keyB, inst := some inst }) := by
  show execTagCheckDone (.client id true keyB inst) s = _
  simp [execTagCheckDone, ha, hk, hw, hv, hb, hr]

end

theorem exec_rimeUnitsReserved_only {r : RimeUse} (hh : s.cipher.hostWait = []) (hn : s.cc.waitNodes = []) (hw : s.cipher.rimeWait = [r])
    (hu : r.units ≤ s.rimeFree) : exec (.rimeUnitsReserved r.inst) s
      = .next { s with cipher := { s.cipher with rimeUsed := s.cipher.rimeUsed ++ [r], rimeWait := [] } } := by
  have hgrant : (s.rimeGrant r.inst).retryNodes.serveHost = s.rimeGrant r.inst := by
    rw [retryNodes_none, serveHost_none] <;> rwa [rimeGrant_only hw hu]
  exact congrArg Host.Outcome.next ((if_pos ha).trans (hgrant.trans (rimeGrant_only hw hu)))

/-! ### Masks and shares (10 R280, R281) -/

theorem exec_maskReseed_due (hm : 4096 ≤ s.cipher.maskBlocks) (he : s.entropyOk = true) :
    exec .maskReseed s = .next { s with cipher := { s.cipher with maskBlocks := s.cipher.maskBlocks - 4096 } } :=
  congrArg Host.Outcome.next ((if_neg (by simp [ha, hm])).trans (if_pos (entropyOk_maskBlocks _ he)))

theorem exec_keyShareRefresh_served {u : State} {slot : Nat} {k : KeySlot} (hk : tfind s.cipher.keys slot = some k)
    (hr : 65536 ≤ k.requests) (hd : s.drbgUse = (.served, u)) :
    exec (.keyShareRefresh slot) s = .next (u.setKey slot { k with requests := k.requests - 65536 }) := by
  show execKeyShareRefresh slot s = _
  simp [execKeyShareRefresh, ha, hk, Nat.not_lt.2 hr, hd]

/-! ### The entropy source and the DRBG (10 R307-R309) -/

section
variable (hf : s.cipher.entropyFailed = false)
include hf

theorem exec_entropyStartupPass_awake : exec .entropyStartupPass s
    = .next (({ s with cipher := { s.cipher with entropyReady := true, maskLate := false } } : State).serveDrbg) :=
  congrArg Host.Outcome.next (if_neg (by simp [ha, hf]))

/-- The failures of the last second, this one among them, decide whether the source is given up. -/
theorem exec_entropyTestFail_repetition :
    (let fails := s.time.aon :: s.cipher.entropyFails.filter (fun t => decide (s.time.aon < t + 32768))
     let u := s.bump .cipher 14
     let v : State := { u with cipher := { u.cipher with entropyReady := false, entropyFails := fails } }
     exec (.entropyTestFail .repetition) s = .next (if fails.length < 3 then v else
       ((({ v with cipher := { v.cipher with entropyFailed := true } } : State).serveDrbg).raise 0x7005
         [u8 EntropyTest.repetition.code, u8 (min 255 fails.length)]))) :=
  congrArg Host.Outcome.next (if_neg (by simp [ha, hf]))

end

theorem exec_drbgReseed_due (hd : s.reseedDue = true) (he : s.entropyOk = true) : exec .drbgReseed s = .next s.drbgSeed.serveDrbg :=
  congrArg Host.Outcome.next (if_pos (by simp [ha, hd, he]))

theorem exec_drbgReseedWaitExpiry_awake :
    (let late := fun (p : Nat × Req) => s.ranUs (some p.1) 10000
     exec .drbgReseedWaitExpiry s = .next ((s.cipher.drbgWait.filter late).foldl (fun (s : State) p => s.release p.2.ch stEntropy [])
       { s with cipher := { s.cipher with drbgWait := s.cipher.drbgWait.filter (fun p => !late p) } })) :=
  congrArg Host.Outcome.next (if_neg (by simp [ha]))

end
end

/-- Settles O41: each event past its guard, in the case that its premises name. -/
theorem cipherEngineEventsComplete : Obligations.CipherEngineEventsComplete :=
  ⟨fun _ _ _ _ _ ha hq hg => exec_cipherRequestComplete_other ha hq hg,
    fun _ _ inst keyB _ ha hk hw hv hb hr =>
      ⟨exec_tagCheckDone_clientFails ha hk hw hv hb hr inst keyB, exec_tagCheckDone_clientPasses ha hk hw hv hb hr inst keyB⟩,
    fun _ _ ha hh hn hw hu => exec_rimeUnitsReserved_only ha hh hn hw hu, fun _ ha hm he => exec_maskReseed_due ha hm he,
    fun _ _ _ _ ha hk hr hd => exec_keyShareRefresh_served ha hk hr hd, fun _ ha hf => exec_entropyStartupPass_awake ha hf,
    fun _ ha hf => ⟨fun hl => (exec_entropyTestFail_repetition ha hf).trans (congrArg _ (if_pos hl)),
      fun hl => (exec_entropyTestFail_repetition ha hf).trans (congrArg _ (if_neg (Nat.not_lt.2 hl)))⟩,
    fun _ ha hd he => exec_drbgReseed_due ha hd he, fun _ _ ha hlate => by subst hlate; exact exec_drbgReseedWaitExpiry_awake ha⟩

end Sys2Proof.Claims
end

section
namespace Sys2Proof.Claims
open Sys2Proof.Machine

/-! ## The event summary and the indices (O4) -/

section
variable {s : State}

/-! ### Writes of the event summary block (11 R332, R334) -/

/-- After an access, of the block only the line and the count held for it can have changed. -/
theorem hostRecheck_evs (s : State) : s.hostRecheck.evs = { s.evs with
    line := s.evs.line && s.causePresent, held := if s.evs.line && !s.causePresent then 0 else s.evs.held } := by
  by_cases h : (s.evs.line && !s.causePresent) = true
  · obtain ⟨hl, hc⟩ : s.evs.line = true ∧ s.causePresent = false := by simpa using h
    simp [State.hostRecheck, hl, hc]
  · have hl : (s.evs.line && s.causePresent) = s.evs.line := by simpa using h
    rw [State.hostRecheck, if_neg h, if_neg h, hl]

/-- Neither the line nor the count held for it is a cause. -/
theorem causePresent_hostRecheck (s : State) : s.hostRecheck.causePresent = s.causePresent := by
  unfold State.hostRecheck
  split <;> rfl

/-- What a write that puts `e` into the block leaves there, and what it leaves alone. -/
theorem exec_evsWrite {i : Instr} {f : State → State} {e : Evs} (ha : s.awake = true) (hx : exec i s = .next (s.access f))
    (hf : f s.leaveDoze = s.leaveDoze.setEvs e) :
    ∃ t, exec i s = .next t ∧ t.evs.ringRx = e.ringRx ∧ t.evs.ringTx = e.ringTx ∧ t.evs.enable = e.enable ∧ t.evs.boot = e.boot
      ∧ t.evs.line = (e.line && t.causePresent) ∧ t.hif = s.hif ∧ SameBut s t := by
  refine ⟨(s.leaveDoze.setEvs e).hostRecheck, by rw [hx, access_awake s f ha, hf], ?_⟩
  rw [causePresent_hostRecheck, hostRecheck_evs, hostRecheck_hif]
  exact ⟨rfl, rfl, rfl, rfl, rfl, leaveDoze_hif s, sameBut_access (by unfold SameBut; rfl)⟩

/-! ### The doorbell and freed responses (02 R33, R35) -/

/-- A channel whose next request, if it can be consumed, has a known opcode refuses nothing. -/
theorem refuseUnknown_none {ch : Nat} (h : (s.canServe ch && !knownOpcodes.contains (s.reqOpcode ch)) = false) :
    ∀ n, State.refuseUnknown ch n s = s
  | 0 => rfl
  | _ + 1 => if_neg (by rw [h]; exact Bool.false_ne_true)

theorem exec_mbxReqPiWrite (ha : s.awake = true) {v : Nat} (hv : v < 65536) (ch : Nat) :
    exec (.mbxReqPiWrite ch (BitVec.ofNat 32 v)) s = .next (s.leaveDoze.writeReqPi ch v).hostRecheck := by
  show Host.Outcome.next (s.access _) = _
  rw [access_awake s _ ha, word_low_half hv]

theorem exec_mbxRspCiWrite (ha : s.awake = true) {v : Nat} (hv : v < 65536) (ch : Nat) :
    exec (.mbxRspCiWrite ch (BitVec.ofNat 32 v)) s = .next (s.leaveDoze.writeRspCi ch v).hostRecheck := by
  show Host.Outcome.next (s.access _) = _
  rw [access_awake s _ ha, word_low_half hv]

/-- An index write beyond its bound is counted and does nothing else. -/
theorem exec_overrun {i : Instr} (hx : exec i s = .next s.leaveDoze.countOverrun.hostRecheck) :
    ∃ t, exec i s = .next t ∧ t.hif.mbxOverrun = min 255 (s.hif.mbxOverrun + 1) ∧ SameBut s t :=
  ⟨_, hx, by simp [State.countOverrun, satAdd], sameBut_access (sameBut_setHif _ _)⟩

section
variable {ch v : Nat} (hch : ch < 8)
include hch

theorem writeReqPi_taken (hb : (s.chan ch).outstanding + indexAdvance (s.chan ch).reqPi v ≤ 16) :
    s.writeReqPi ch v = State.refuseUnknown ch 16 { s with chans := tset s.chans ch { s.chan ch with reqPi := v } } :=
  (if_neg (Nat.not_le.2 hch)).trans (if_neg (Nat.not_lt.2 hb))

theorem writeReqPi_beyond (hb : 16 < (s.chan ch).outstanding + indexAdvance (s.chan ch).reqPi v) : s.writeReqPi ch v = s.countOverrun :=
  (if_neg (Nat.not_le.2 hch)).trans (if_pos hb)

theorem writeRspCi_taken (hb : indexAdvance (s.chan ch).rspCi v ≤ (s.chan ch).unread) :
    s.writeRspCi ch v = State.refuseUnknown ch 16 { s with chans := tset s.chans ch { s.chan ch with rspCi := v } } :=
  (if_neg (Nat.not_le.2 hch)).trans (if_neg (Nat.not_lt.2 hb))

theorem writeRspCi_beyond (hb : (s.chan ch).unread < indexAdvance (s.chan ch).rspCi v) : s.writeRspCi ch v = s.countOverrun :=
  (if_neg (Nat.not_le.2 hch)).trans (if_pos hb)

end

/-! ### Freed events (02 R38) -/

theorem tellLost_nothing (h : s.evt.dropped = 0) : s.tellLost = s := if_pos (.inl h)

@[simp] theorem leaveDoze_evtUsed (s : State) : s.leaveDoze.evtUsed = s.evtUsed := by simp [State.evtUsed]

theorem writeEvtCi_beyond {v : Nat} (h : s.evtUsed < indexAdvance s.evt.ci v) : s.writeEvtCi v = s.countOverrun := if_pos h

end

/-- Settles O4: each write by its register; an index by its bound. -/
theorem summaryAndIndexWritesKeepTheirRules : Obligations.SummaryAndIndexWritesKeepTheirRules := by
  refine ⟨fun v s ha => ?_, fun v s ha => ?_, fun s ha => ?_, fun v s ha => ?_, fun ch v s ha hch hv hb hk => ?_,
    fun ch v s ha hch hv hb => ?_, fun ch v s ha hch hv hb hk => ?_, fun ch v s ha hch hv hb => ?_, fun v s ha hv hd hb => ?_,
    fun v s ha hv hb => ?_⟩
  · exact exec_evsWrite ha rfl (e := { s.evs with ringRx := s.evs.ringRx &&& ~~~v }) (by rw [State.clearRingRx, leaveDoze_evs])
  · obtain ⟨t, ht, hrx, htx, hrest⟩ := exec_evsWrite ha rfl (i := .evsRingTxWrite v)
      (e := { s.evs with ringTx := s.evs.ringTx &&& ~~~v }) (by rw [State.clearRingTx, leaveDoze_evs])
    exact ⟨t, ht, htx, hrx, hrest⟩
  · obtain ⟨t, ht, hrx, htx, hen, hboot, hrest⟩ := exec_evsWrite ha rfl (i := .evsBootClear) (e := { s.evs with boot := false })
      (by rw [State.clearBoot, leaveDoze_evs])
    exact ⟨t, ht, hboot, hrx, htx, hen, hrest⟩
  · obtain ⟨t, ht, hrx, htx, hen, hrest⟩ := exec_evsWrite ha rfl (i := .evsEnableWrite v)
      (e := { s.evs with enable := v &&& 0x3FFF#32 }) (by rw [State.writeEnable, leaveDoze_evs])
    exact ⟨t, ht, hen, hrx, htx, hrest⟩
  · rw [exec_mbxReqPiWrite ha hv, writeReqPi_taken hch (by rw [leaveDoze_chan]; exact hb), leaveDoze_chans, leaveDoze_chan,
      refuseUnknown_none hk]
  · exact exec_overrun (by rw [exec_mbxReqPiWrite ha hv, writeReqPi_beyond hch (by rw [leaveDoze_chan]; exact hb)])
  · rw [exec_mbxRspCiWrite ha hv, writeRspCi_taken hch (by rw [leaveDoze_chan]; exact hb), leaveDoze_chans, leaveDoze_chan,
      refuseUnknown_none hk]
  · exact exec_overrun (by rw [exec_mbxRspCiWrite ha hv, writeRspCi_beyond hch (by rw [leaveDoze_chan]; exact hb)])
  · refine ⟨_, exec_evtCiWrite ha hv, ?_⟩
    have hadv : indexAdvance s.leaveDoze.evt.ci v ≤ s.leaveDoze.evtUsed := by rw [leaveDoze_evt, leaveDoze_evtUsed]; exact hb
    rw [writeEvtCi_taken hadv, tellLost_nothing (by simpa using hd)]
    exact ⟨by simp, by simp, by simp, by simp, by simp⟩
  · exact exec_overrun (by rw [exec_evtCiWrite ha hv, writeEvtCi_beyond (by rw [leaveDoze_evt, leaveDoze_evtUsed]; exact hb)])

end Sys2Proof.Claims
end

section
namespace Sys2Proof.Claims
open Sys2Proof.Machine

/-! ## Dataflow (O42) -/

section
variable {s : State}

/-! ### Triggers and the store (11 R316-R320) -/

@[simp] theorem pressure_waitTriggers (s : State) (kind : Nat) : (s.pressure kind).cc.waitTriggers = s.cc.waitTriggers := by
  simp only [State.pressure, apply_ite State.cc, apply_ite Cc.waitTriggers, raise_cc, ite_self]

@[simp] theorem storePut_waitTriggers (s : State) (o : Operand) : (s.storePut o).cc.waitTriggers = s.cc.waitTriggers := by
  show (if _ then _ else if _ then State.pressure _ _ else _).cc.waitTriggers = _
  split
  · rfl
  · split
    · rw [pressure_waitTriggers]
    · rfl

theorem foldl_storePut_waitTriggers (inst : Nat) (roots : List (Nat × Nat)) (s : State) :
    (roots.foldl (fun (s : State) r => s.storePut ⟨inst, r.1, r.2⟩) s).cc.waitTriggers = s.cc.waitTriggers := by
  induction roots generalizing s with
  | nil => rfl
  | cons r roots ih => rw [List.foldl_cons, ih, storePut_waitTriggers]

/-- An instance that starts takes no other trigger with it, and leaves none behind. -/
theorem startInst_waitTriggers (s : State) (t : WaitTrigger) : (s.startInst t).cc.waitTriggers = s.cc.waitTriggers := by
  unfold State.startInst
  split
  · dsimp only
    split
    · rw [pressure_waitTriggers, foldl_storePut_waitTriggers]
    · rw [foldl_storePut_waitTriggers]
  · rfl

/-- The only trigger that waits starts, if it can. -/
theorem startWaiting_only {t : WaitTrigger} (hw : s.cc.waitTriggers = [t]) (hc : s.canStart t = true) :
    State.startWaiting 1 s = ({ s with cc := { s.cc with waitTriggers := [] } } : State).startInst t := by
  simp only [State.startWaiting, hw, List.mergeSort_singleton, hc, if_true]

/-- The first time that the entry rule holds a node back, its firing counts as delayed (11 R318). -/
theorem holdEntry_first {inst node : Nat} (h : (s.seenRows inst node).contains 100 = false) (req : Option CipherReq) :
    s.holdEntry inst node req = (s.bump .cc 3).waitNode inst node req [100] := if_neg (by rw [h]; exact Bool.false_ne_true)

/-- With no operation of its own under way, an instance ends whole (11 R317). -/
theorem closeInst_idle {inst : Nat} (h : s.cc.running.any (fun o => o.inst == inst) = false) (i : DfsInst) :
    s.closeInst inst i = s.freeInst inst := if_neg (by rw [h]; exact Bool.false_ne_true)

section
variable (hl : s.live = true)
include hl

theorem exec_triggerStart_alone {tpl : Nat} {roots : List (Nat × Nat)} (hf : (s.firstNode tpl).isSome = true)
    (hw : s.cc.waitTriggers = []) (hc : s.canStart ⟨tpl, roots⟩ = true) :
    exec (.triggerStart tpl roots) s = .next (({ s with cc := { s.cc with waitTriggers := [] } } : State).startInst ⟨tpl, roots⟩) := by
  have hguard : ¬ (!s.live || (s.firstNode tpl).isNone) = true := by simp [hl, Option.isSome_iff_ne_none.1 hf]
  have hstart := startWaiting_only (s := { s with cc := { s.cc with waitTriggers := [⟨tpl, roots⟩] } }) (t := ⟨tpl, roots⟩) rfl hc
  show execTriggerStart tpl roots s = _
  simp only [execTriggerStart, if_neg hguard, hw, List.nil_append, List.length_singleton, hstart, startInst_waitTriggers,
    List.contains_nil, Bool.false_eq_true, if_false]

/-! ### Nodes fire, or wait (11 R318) -/

section
variable {inst node : Nat} {i : DfsInst} {n : TplNode} (hi : tfind s.cc.insts inst = some i) (hn : s.tplNode inst node = some n)
  (hc : i.cancelled = false)
include hi hn hc

theorem exec_nodeFire_ready (hr : s.isRunning inst node = false) (hk : n.kind ≠ .delay)
    (hp : s.inputsPresent inst node n.inputs = true) (req : Option CipherReq) :
    exec (.nodeFire inst node req) s = .next (if entryRule s.freeEntries n.outs.length n.prio n.completion
      then s.acceptOp inst node n req else s.holdEntry inst node req) := by
  show Host.Outcome.next (if s.live then s.fireNode inst node req else s) = _
  simp only [hl, if_true, State.fireNode, hi, hn]
  rw [if_neg (by simp [hc, hr, hk, hp])]

/-- A delay node whose list has an entry free (11 R323). -/
theorem exec_delayNodeFire_room {o : Nat × Nat} {l : List (Nat × Nat)} (hk : n.kind = .delay)
    (hp : s.inputsPresent inst node n.inputs = true) (ho : n.outs = o :: l) (hroom : s.delayRoom (n.prio / 4) = true) :
    exec (.delayNodeFire inst node) s = .next (s.takeDelay inst node n o).afterFree := by
  show Host.Outcome.next (if s.live then s.fireDelay inst node else s) = _
  simp only [hl, if_true, State.fireDelay, hi, hn]
  rw [if_neg (by simp [hc, hk, hp])]
  simp only [ho, List.getElem?_cons_zero, hroom, if_true]

end

/-! ### Operations complete, and instances are cancelled (11 R317, R319) -/

theorem exec_operationComplete_offCore {inst node : Nat} {o : RunningOp} {n : TplNode}
    (ho : s.cc.running.find? (fun o => o.inst == inst && o.node == node) = some o) (hn : s.tplNode inst node = some n)
    (hcore : o.core = none) :
    exec (.operationComplete (.op inst node)) s = .next (({ s with cc := { s.cc with
      ready := s.cc.ready.filter (fun x => ¬ (x.inst = inst ∧ x.node = node))
      quiet := if n.kind == UnitKind.core then 0 else s.cc.quiet } } : State).finishOp inst node n) := by
  show execOperationComplete (.op inst node) s = _
  simp only [execOperationComplete, hl, Bool.not_true, Bool.false_eq_true, if_false, State.completeOp, ho, hn, hcore]

theorem exec_instanceCancel_live {inst : Nat} {i : DfsInst} (hi : tfind s.cc.insts inst = some i) :
    exec (.instanceCancel inst) s = .next (((s.rimeFreeFor inst).closeInst inst i).afterFree) := by
  show Host.Outcome.next (if s.live then s.cancelInst inst else s) = _
  simp only [hl, if_true, State.cancelInst, hi]

end

/-! ### Delay lists (11 R324) -/

/-- A scan that finds one due entry delivers it if the store takes it. -/
theorem scanDelays_only {e : DelayEntry} (hd : s.cc.delays = [e]) (he : s.entryDue e = true) :
    s.scanDelays = (if entryRule s.freeEntries 1 (4 * e.list) false
      then ({ s with cc := { s.cc with scanned := s.time.raw, delays := [] } } : State).deliverOperand ⟨e.inst, e.node, e.input⟩
      else { s with cc := { s.cc with scanned := s.time.raw } }).afterFree := by
  have hdue : s.cc.delays.filter (fun e => s.entryDue e) = [e] := by rw [hd, List.filter_singleton, he]; rfl
  have hrest : s.cc.delays.filter (fun x => x != e) = [] := by simp [hd]
  simp only [State.scanDelays, hdue, List.mergeSort_singleton, List.foldl_cons, List.foldl_nil, hrest]
  rfl

theorem exec_delayEntryDue_scan (hl : s.live = true) (ht : 250 * (s.pnat 0x8001 : Int) ≤ 4 * sdiff 48 s.time.raw s.cc.scanned) :
    exec .delayEntryDue s = .next s.scanDelays := congrArg Host.Outcome.next (if_pos (by simp [hl, ht]))

/-! ### The watchdog (11 R322) -/

/-- The hung operation, alone on its core, starts afresh on the core that dispatch finds. -/
theorem withdrawOp_alone {inst node c k : Nat} {o : RunningOp} {n : TplNode} {i : DfsInst}
    (ho : s.cc.running.find? (fun o => o.inst == inst && o.node == node) = some o) (hn : s.tplNode inst node = some n)
    (hi : tfind s.cc.insts inst = some i) (hc : o.core = some c) (hj : (s.core c).jobs = [.op inst node n.prio]) :
    (let u := ((s.setCore c { s.core c with st := .reset, jobs := [], signal := none }).bump .cc 7).logFault 1 c
       (i.tpl % 256 + node % 256 * 256)
     let d := u.dispatch inst node n
     d.1 = some k → s.withdrawOp inst node 0 = (d.2.setOpCore inst node (some k)).raise 0x8001 [u8 c, u8 i.tpl, u16 node, u8 k]) := by
  intro u d hk
  have hd : u.dispatch inst node n = (some k, d.2) := Prod.ext hk rfl
  simp only [State.withdrawOp, ho, hn, hi, hc, hj, List.filterMap_cons, and_self, if_true, List.filterMap_nil, List.foldl_nil]
  show (match u.dispatch inst node n with | (some d, s) => _ | (none, s) => _) = _
  rw [hd]

end

/-- Settles O42: each event past its guard, in the case that its premises name. -/
theorem dataflowStartsFiresAndCompletes : Obligations.DataflowStartsFiresAndCompletes := by
  refine ⟨fun s tpl roots hl hf hw hc => exec_triggerStart_alone hl hf hw hc, fun s inst node req i n hl hi hn hc hr hk hp => ?_,
    fun s inst node o n hl ho hn hcore => exec_operationComplete_offCore hl ho hn hcore,
    fun s inst i hl hi => ⟨exec_instanceCancel_live hl hi, fun h => closeInst_idle h i⟩,
    fun s inst node i n o l hl hi hn hc hk hp ho hroom => exec_delayNodeFire_room hl hi hn hc hk hp ho hroom,
    fun s e hl ht hd he => ?_, fun s inst node c o n i hl hh ho hn hi hc hj k hk => ?_⟩
  · have hfire := exec_nodeFire_ready hl hi hn hc hr hk hp req
    exact ⟨fun h => by rw [hfire, if_pos h],
      fun h hs => by rw [hfire, if_neg (by rw [h]; exact Bool.false_ne_true), holdEntry_first hs]⟩
  · have hscan := exec_delayEntryDue_scan hl ht
    exact ⟨fun h => by rw [hscan, scanDelays_only hd he, if_pos h],
      fun h => by rw [hscan, scanDelays_only hd he, if_neg (by rw [h]; exact Bool.false_ne_true)]⟩
  · exact congrArg Host.Outcome.next ((if_pos (by simp [hl, hh])).trans (withdrawOp_alone ho hn hi hc hj hk))

end Sys2Proof.Claims
end

section
namespace Sys2Proof.Claims
open Sys2Proof.Machine

/-! ## Interrupts, cores and the cluster's answers (O43) -/

/-! ### What one core's signal is after an arbitration (11 R327) -/

@[simp] theorem setCore_core_same (s : State) (c : Nat) (v : Core) : (s.setCore c v).core c = v := tget_tset_same ..

theorem setCore_core_other (s : State) {c d : Nat} (v : Core) (h : d ≠ c) : (s.setCore c v).core d = s.core d := tget_tset_other _ _ _ h

@[simp] theorem bumpBy_core (s : State) (b : CtrBank) (row n c : Nat) : (s.bumpBy b row n).core c = s.core c := rfl

/-- A core takes the signal that an arbitration gives it. -/
def giveSignal (sig : Nat → Option Nat) (s : State) (c : Nat) : State :=
  if (s.core c).signal = sig c then s else s.setCore c { s.core c with signal := sig c }

theorem giveSignal_same (sig : Nat → Option Nat) (s : State) (c : Nat) : ((giveSignal sig s c).core c).signal = sig c := by
  unfold giveSignal
  split
  · assumption
  · rw [setCore_core_same]

theorem giveSignal_other (sig : Nat → Option Nat) (s : State) {c d : Nat} (h : d ≠ c) : (giveSignal sig s c).core d = s.core d := by
  unfold giveSignal
  split
  · rfl
  · exact setCore_core_other s _ h

/-- Every core of a list has the signal given to it, or keeps the one it was given before. -/
theorem foldl_giveSignal (sig : Nat → Option Nat) {c : Nat} :
    ∀ (l : List Nat) (s : State), c ∈ l ∨ (s.core c).signal = sig c → ((l.foldl (giveSignal sig) s).core c).signal = sig c
  | [], _, h => h.resolve_left List.not_mem_nil
  | d :: l, s, h => by
    refine foldl_giveSignal sig l _ ?_
    by_cases hd : c = d
    · subst hd
      exact .inr (giveSignal_same sig s c)
    · rw [giveSignal_other sig s hd]
      exact h.imp_left fun hm => (List.mem_cons.1 hm).resolve_left hd

theorem foldl_giveSignal_irqs (sig : Nat → Option Nat) :
    ∀ (l : List Nat) (s : State), (l.foldl (giveSignal sig) s).cc.irqs = s.cc.irqs
  | [], _ => rfl
  | c :: l, s => by
    rw [List.foldl_cons, foldl_giveSignal_irqs sig l, giveSignal]
    split <;> rfl

/-- With nothing to assign and no source known, an arbitration takes every core's signal away and does nothing else to the cores. -/
theorem arbitrate_none {s : State} (hi : s.cc.irqs = []) (ha : s.assignIrqs = []) :
    s.arbitrate = ((List.range 8).foldl (giveSignal fun _ => none) s).bumpBy .cc 10 0 := by
  have hirqs := (foldl_giveSignal_irqs (fun _ => none) (List.range 8) s).trans hi
  simp only [State.arbitrate, ha, List.find?_nil, Option.map_none, List.filter_nil, List.length_nil, List.any_nil, Bool.false_eq_true,
    if_false]
  have hfold : (fun (s : State) c => if (s.core c).signal = none then s else s.setCore c { s.core c with signal := none })
    = giveSignal fun _ => none := rfl
  rw [hfold, bumpBy_cc, hirqs, List.map_nil, List.foldl_nil]

section
variable {s : State}

/-! ### Sources held in groups (11 R331) -/

/-- The group of a source that asserts, with the source held in it. -/
theorem assertIrq_grouped {i g : Nat} (h : (s.irq i).group = some g) :
    (let gr := tget {} s.cc.groups g
     let u : State := { s with cc := { s.cc with groups := tset s.cc.groups g { gr with
       held := gr.held ++ [i], start := if gr.held = [] then s.time.raw else gr.start } } }
     s.assertIrq i = if gr.count ≤ gr.held.length + 1 then u.releaseGroup g 12 else u) := by
  simp only [State.assertIrq, h]

theorem assertIrq_single {i : Nat} (h : (s.irq i).group = none) : s.assertIrq i = s.setIrq i { s.irq i with pending := true } := by
  simp only [State.assertIrq, h]

theorem exec_irqSourceAssert_live (hl : s.live = true) {i : Nat} (hi : i < 512) : exec (.irqSourceAssert i) s = .next (s.assertIrq i) :=
  congrArg Host.Outcome.next (if_pos (by simp [hl, hi]))

theorem exec_coalesceTimerExpiry_due (ha : s.awake = true) {g : Nat} (hd : s.groupDue g = true) :
    exec (.coalesceTimerExpiry g) s = .next (if g = 63 then (s.bump .cc 13).releaseHost else s.releaseGroup g 13) :=
  congrArg Host.Outcome.next (if_neg (by simp [ha, hd]))

/-! ### Signals acknowledged and withdrawn (11 R328, R329) -/

theorem acknowledge_spurious {c : Nat} (h : (s.core c).signal = none) :
    s.acknowledge c = (s.setCore c { s.core c with ack := 2 ^ 31 }).bump .cc 9 := by
  simp only [State.acknowledge, h]

theorem acknowledge_takes {c i : Nat} (h : (s.core c).signal = some i) :
    s.acknowledge c = ((s.setIrq i { s.irq i with pending := false }).setCore c { (s.core c).take (.handler i (s.irq i).level) with
      signal := none, ack := ackWord i (s.irq i).level }).bump .cc 8 := by
  simp only [State.acknowledge, h]

section
variable (hl : s.live = true)
include hl

theorem exec_irqAcknowledge_live {c : Nat} (hc : c < 8) : exec (.irqAcknowledge c) s = .next (s.acknowledge c) :=
  congrArg Host.Outcome.next (if_pos (by simp [hl, hc]))

section
variable {i : Nat} (hi : i < 512)
include hi

theorem exec_irqSourceMask_unsignalled {mask : Bool} (h : (s.setIrq i { s.irq i with masked := mask }).signalledTo i = none) :
    exec (.irqSourceMask i mask) s = .next (s.setIrq i { s.irq i with masked := mask }) := by
  show execIrqSourceMask i mask s = _
  rw [execIrqSourceMask, if_neg (by simp [hl, hi])]
  simp only [h]

theorem exec_irqSourceMask_withdraws {c : Nat} (h : (s.setIrq i { s.irq i with masked := true }).signalledTo i = some c) :
    (let u := s.setIrq i { s.irq i with masked := true }
     exec (.irqSourceMask i true) s = .next (u.setCore c { u.core c with signal := none })) := by
  show execIrqSourceMask i true s = _
  rw [execIrqSourceMask, if_neg (by simp [hl, hi])]
  simp only [h, if_true]

end

/-! ### Cores (11 R312, R313, R330) -/

theorem exec_coreResetEnd_reset {c : Nat} (h : (s.core c).st = .reset) :
    exec (.coreResetEnd c) s = .next ((s.setCore c { s.core c with st := .idle }).takeReady c) :=
  congrArg Host.Outcome.next (if_pos (by simp [hl, h]))

section
variable {c : Nat} (hc : c < 8)
include hc

theorem exec_corePark_idle (hst : (s.core c).st = .idle) (hs : (s.core c).signal = none) (hu : s.pnat 0x8004 < s.unparked) :
    exec (.corePark c true) s = .next (s.setCore c { s.core c with st := .parked }) :=
  congrArg Host.Outcome.next ((if_neg (by simp [hl, hc])).trans ((if_pos rfl).trans (if_pos (by simp [hst, hs, hu]))))

theorem exec_corePark_parked (hst : (s.core c).st = .parked) :
    exec (.corePark c false) s = .next ((s.setCore c { s.core c with st := .idle }).takeReady c) :=
  congrArg Host.Outcome.next ((if_neg (by simp [hl, hc])).trans ((if_neg Bool.false_ne_true).trans (if_pos (by simp [hst]))))

end
end
end

/-- Settles O43: each event past its guard, by what the operation finds; the two questions by their bodies. -/
theorem interruptsAndCoresAreServed : Obligations.InterruptsAndCoresAreServed := by
  refine ⟨fun s i hl hi hg => ?_, fun s i g hl hi hg => ?_, fun s g ha hg hd => ?_, fun s ha hd => exec_coalesceTimerExpiry_due ha hd,
    fun s hl => ⟨congrArg _ (if_pos hl), fun hi ha c hc => ?_⟩, fun s c hl hc hs => ?_, fun s c i hl hc hs => ?_,
    fun s i mask hl hi hs => exec_irqSourceMask_unsignalled hl hi hs, fun s i c hl hi hs => exec_irqSourceMask_withdraws hl hi hs,
    fun s c hl hst => exec_coreResetEnd_reset hl hst,
    fun s c hl hc hst hs hu => exec_corePark_idle hl hc hst hs hu, fun s c hl hc hst => exec_corePark_parked hl hc hst,
    fun s ch q a => exec_answers rfl a rfl, fun s ch q a => exec_answers rfl a rfl⟩
  · rw [exec_irqSourceAssert_live hl hi, assertIrq_single hg]
  · have hassert := (exec_irqSourceAssert_live hl hi).trans (congrArg _ (assertIrq_grouped hg))
    exact ⟨fun h => hassert.trans (congrArg _ (if_neg (Nat.not_le.2 h))), fun h => hassert.trans (congrArg _ (if_pos h))⟩
  · rw [exec_coalesceTimerExpiry_due ha hd, if_neg hg]
  · rw [arbitrate_none hi ha, bumpBy_core]
    exact foldl_giveSignal (fun _ => none) _ s (.inl (List.mem_range.2 hc))
  · rw [exec_irqAcknowledge_live hl hc, acknowledge_spurious hs]
  · exact (exec_irqAcknowledge_live hl hc).trans (congrArg _ (acknowledge_takes hs))

end Sys2Proof.Claims
end

section
namespace Sys2Proof.Claims
open Sys2Proof.Machine

/-! ## The router's tables (O9, O10, O11) -/

/-! ### Buckets of the forwarding databases (12 R349) -/

theorem fdbFree_eq_none_iff (t : Tab FdbEntry) (b : Nat) : fdbFree t b = none ↔ ∀ k < 4, thas t (4 * b + k) = true := by
  simp [fdbFree]

theorem fdbFree_eq_some {t : Tab FdbEntry} {b i : Nat} (h : fdbFree t b = some i) : i / 4 = b ∧ thas t i = false := by
  obtain ⟨k, hk, rfl⟩ := List.mem_map.1 (List.mem_of_find?_eq_some h)
  have hfree : (!thas t (4 * b + k)) = true := List.find?_some (p := fun i => !thas t i) h
  exact ⟨by have := List.mem_range.1 hk; omega, by simpa using hfree⟩

@[simp] theorem setFdb_fdb (s : State) (p : Pipe) (t : Tab FdbEntry) : (s.setFdb p t).fdb p = t := Duo.pipe_setPipe_same _ _ _

/-- The entry that INSERT puts in: a dynamic one is stamped with the present age (12 R348). -/
def insertedEntry (s : State) (t : TblOp) : FdbEntry :=
  let e := FdbEntry.read t.data
  if e.flags.testBit 1 then e else { e with stamp := s.rt.age }

theorem insertedEntry_key (s : State) (t : TblOp) : (insertedEntry s t).vlan = (FdbEntry.read t.data).vlan
    ∧ (insertedEntry s t).mac = (FdbEntry.read t.data).mac ∧ (insertedEntry s t).flags = (FdbEntry.read t.data).flags := by
  unfold insertedEntry
  simp only
  split <;> exact ⟨rfl, rfl, rfl⟩

/-- INSERT of a key that a database with room does not hold yet: the key's bucket decides. -/
theorem fdbInsert_newKey {s : State} {t : TblOp} (hk : fdbFind (s.fdb (tblPipe t.table)) (FdbEntry.read t.data).vlan (FdbEntry.read t.data).mac = none)
    (hroom : (s.fdb (tblPipe t.table)).length < 32768) :
    s.fdbInsert t = match fdbFree (s.fdb (tblPipe t.table)) (fdbBucket (FdbEntry.read t.data).vlan (FdbEntry.read t.data).mac) with
      | none => ({ code := tBucketFull, index := 4 * fdbBucket (FdbEntry.read t.data).vlan (FdbEntry.read t.data).mac }, s)
      | some i => ({ code := tOk, index := i }, s.fdbPut (tblPipe t.table) i (insertedEntry s t)) := by
  obtain ⟨hv, hm, -⟩ := insertedEntry_key s t
  have hentry : s.fdbInsert t = match fdbFind (s.fdb (tblPipe t.table)) (insertedEntry s t).vlan (insertedEntry s t).mac with
      | some _ => ({ code := tExists }, s)
      | none => if 32768 ≤ (s.fdb (tblPipe t.table)).length then ({ code := tFull }, s) else
        match fdbFree (s.fdb (tblPipe t.table)) (fdbBucket (insertedEntry s t).vlan (insertedEntry s t).mac) with
        | none => ({ code := tBucketFull, index := 4 * fdbBucket (insertedEntry s t).vlan (insertedEntry s t).mac }, s)
        | some i => ({ code := tOk, index := i }, s.fdbPut (tblPipe t.table) i (insertedEntry s t)) := rfl
  rw [hentry, hv, hm, hk]
  exact if_neg (Nat.not_le.2 hroom)

theorem tblDo_fdbInsert {s : State} {t : TblOp} (ht : t.table < 2) (hop : t.op = 3) (hc : s.tblCheck t = tOk) :
    s.tblDo t = s.fdbInsert t := by
  simp [State.tblDo, hc, ht, hop]

/-- Learning of a key that a database with room does not hold yet: the key's bucket decides. -/
theorem learn_newKey {s : State} {p : Pipe} {vid mac port : Nat} (hk : fdbFind (s.fdb p) vid mac = none) (hroom : (s.fdb p).length < 32768) :
    s.learn p vid mac port = match fdbFree (s.fdb p) (fdbBucket vid mac) with
      | none => (true, s.bump (.rt p) 12)
      | some i => (true, (s.setFdb p (tset (s.fdb p) i ⟨mac, vid, port, 1, s.rt.age, 0xFFFF⟩)).bump (.rt p) 11) := by
  rw [State.learn, hk]
  exact if_neg (Nat.not_le.2 hroom)

/-- Settles O10: INSERT and learning both come down to what `fdbFree` finds in the key's bucket. -/
theorem fdbInsertionKeepsToItsBucket : Obligations.FdbInsertionKeepsToItsBucket := by
  refine ⟨fun _ _ => rfl, fun t b => ⟨fdbFree_eq_none_iff t b, fun i => fdbFree_eq_some⟩, fun s t ht hop hc => ?_,
    fun s p vid mac port hk hroom => ?_⟩
  · intro p e hk hroom
    rw [tblDo_fdbInsert ht hop hc, fdbInsert_newKey hk hroom]
    obtain ⟨hv, hm, hflags⟩ := insertedEntry_key s t
    refine ⟨fun hfull => ?_, fun i hfree hvalid => ?_⟩
    · rw [hfull]
      exact ⟨rfl, rfl⟩
    · have hput : s.fdbPut p i (insertedEntry s t) = s.setFdb p (tset (s.fdb p) i (insertedEntry s t)) := by
        rw [State.fdbPut, hflags, if_pos hvalid]
      rw [hfree]
      refine ⟨rfl, rfl, ⟨insertedEntry s t, ?_, hv, hm⟩, fun j hj => ?_⟩
      · show tfind ((s.fdbPut p i (insertedEntry s t)).fdb p) i = _
        rw [hput, setFdb_fdb, tfind_tset_same]
      · show tfind ((s.fdbPut p i (insertedEntry s t)).fdb p) j = _
        rw [hput, setFdb_fdb, tfind_tset_other _ _ hj]
  · rw [learn_newKey hk hroom]
    exact ⟨fun hfull => by rw [hfull], fun i hfree => by rw [hfree]⟩

/-! ### The longest match (12 R343, R354) -/

/-- The better of the route found so far and the next one that matches. -/
def longer : Option Route → Route → Option Route
  | none, r => some r
  | some b, r => if b.len < r.len then some r else some b

theorem longest_eq_foldl (s : State) (family addr : Nat) : s.longest family addr
    = (s.rt.routes.filter (fun r => r.family == family && r.pfx == addr / hostBits r.len * hostBits r.len)).foldl longer none :=
  congrArg (fun f => List.foldl f none _) (funext fun b => funext fun r => by cases b <;> rfl)

/-- From a route found, going on finds one of the routes, none of them longer. -/
theorem foldl_longer_some (l : List Route) (b : Route) :
    ∃ r, l.foldl longer (some b) = some r ∧ r ∈ b :: l ∧ ∀ x ∈ b :: l, x.len ≤ r.len := by
  induction l generalizing b with
  | nil => exact ⟨b, rfl, by simp, by simp⟩
  | cons c l ih =>
    rw [List.foldl_cons, longer]
    split
    · next hlt =>
      obtain ⟨r, hr, hmem, hmax⟩ := ih c
      have hc := hmax c List.mem_cons_self
      exact ⟨r, hr, List.mem_cons_of_mem b hmem, List.forall_mem_cons.2 ⟨by omega, hmax⟩⟩
    · next hge =>
      obtain ⟨r, hr, hmem, hmax⟩ := ih b
      obtain ⟨hb, hl⟩ := List.forall_mem_cons.1 hmax
      refine ⟨r, hr, ?_, List.forall_mem_cons.2 ⟨hb, List.forall_mem_cons.2 ⟨by omega, hl⟩⟩⟩
      exact (List.mem_cons.1 hmem).elim (fun h => h ▸ List.mem_cons_self) fun h => List.mem_cons_of_mem b (List.mem_cons_of_mem c h)

theorem foldl_longer_cases (l : List Route) : (l = [] ∧ l.foldl longer none = none)
    ∨ ∃ r, l.foldl longer none = some r ∧ r ∈ l ∧ ∀ x ∈ l, x.len ≤ r.len := by
  cases l with
  | nil => exact .inl ⟨rfl, rfl⟩
  | cons b l => exact .inr (foldl_longer_some l b)

/-- Settles O11: the search goes through the routes that match and keeps the longest one found so far. -/
theorem routeSearchFindsTheLongestPrefix : Obligations.RouteSearchFindsTheLongestPrefix := by
  intro s family addr
  have hmatch : ∀ x, x ∈ s.rt.routes.filter (fun r => r.family == family && r.pfx == addr / hostBits r.len * hostBits r.len)
      ↔ x ∈ s.rt.routes ∧ x.family = family ∧ x.pfx = addr / hostBits x.len * hostBits x.len := fun x => by simp
  rw [longest_eq_foldl]
  obtain ⟨hnil, hnone⟩ | ⟨r, hsome, hmem, hmax⟩ := foldl_longer_cases
    (s.rt.routes.filter (fun r => r.family == family && r.pfx == addr / hostBits r.len * hostBits r.len))
  · refine ⟨fun r hr => absurd (hnone.symm.trans hr) (by simp), fun _ x hx hf hp => ?_⟩
    exact List.eq_nil_iff_forall_not_mem.1 hnil x ((hmatch x).2 ⟨hx, hf, hp⟩)
  · refine ⟨fun r' hr' => ?_, fun hn => absurd (hsome.symm.trans hn) (by simp)⟩
    obtain rfl : r = r' := Option.some.inj (hsome.symm.trans hr')
    obtain ⟨hin, hf, hp⟩ := (hmatch r).1 hmem
    exact ⟨hin, hf, hp, fun x hx hxf hxp => hmax x ((hmatch x).2 ⟨hx, hxf, hxp⟩)⟩

/-! ### Table operations and the command block (12 R351-R357) -/

/-- An operation past its checks is one that its table has (12 R354). -/
theorem opDefined_of_tblCheck {s : State} {t : TblOp} (h : s.tblCheck t = tOk) : opDefined t = true := by
  by_contra hd
  rw [State.tblCheck, if_pos (by simpa using hd)] at h
  exact absurd h (by decide)

/-- The tables beside the databases and the routes have READ, WRITE and DELETE only. -/
theorem op_of_indexedTable {t : TblOp} (hd : opDefined t = true) (h2 : ¬ t.table < 2) (h3 : t.table ≠ 2) : t.op = 1 ∨ t.op = 2 ∨ t.op = 4 := by
  simp only [opDefined, if_neg h2, if_neg h3] at hd
  split at hd
  · simpa [or_assoc] using (Bool.and_eq_true_iff.1 hd).1
  · simp at hd

/-- What an operation leaves as it was: everything where it fails, or only looks. -/
def ChangesOnlyOnSuccess (s : State) (op : Nat) (r : TblRes × State) : Prop :=
  (r.1.code ≠ tOk → r.2 = s) ∧ (op = 1 ∨ op = 5 → r.2 = s)

namespace ChangesOnlyOnSuccess

variable {s : State} {op : Nat}

theorem same (r : TblRes) : ChangesOnlyOnSuccess s op (r, s) := ⟨fun _ => rfl, fun _ => rfl⟩

theorem done {r : TblRes} {u : State} (hc : r.code = tOk) (hop : ¬ (op = 1 ∨ op = 5)) : ChangesOnlyOnSuccess s op (r, u) :=
  ⟨fun h => absurd hc h, fun h => absurd h hop⟩

theorem ite {c : Prop} [Decidable c] {x y : TblRes × State} (hx : c → ChangesOnlyOnSuccess s op x) (hy : ¬ c → ChangesOnlyOnSuccess s op y) :
    ChangesOnlyOnSuccess s op (if c then x else y) := by
  split
  · next h => exact hx h
  · next h => exact hy h

theorem fdbRead (t : TblOp) : ChangesOnlyOnSuccess s op (s.fdbRead t) := by
  unfold State.fdbRead
  split <;> exact same _

section
variable (hop : ¬ (op = 1 ∨ op = 5)) (t : TblOp)
include hop

theorem fdbWrite : ChangesOnlyOnSuccess s op (s.fdbWrite t) := by
  unfold State.fdbWrite
  dsimp only
  split
  · exact same _
  · refine .ite (fun _ => same _) fun _ => ?_
    split
    · exact .ite (fun _ => done rfl hop) fun _ => same _
    · exact done rfl hop

theorem fdbInsert : ChangesOnlyOnSuccess s op (s.fdbInsert t) := by
  unfold State.fdbInsert
  dsimp only
  split
  · exact same _
  · refine .ite (fun _ => same _) fun _ => ?_
    split
    · exact same _
    · exact done rfl hop

theorem fdbDelete : ChangesOnlyOnSuccess s op (s.fdbDelete t) := by
  unfold State.fdbDelete
  dsimp only
  split
  · exact done rfl hop
  · exact same _

theorem fdbScan : ChangesOnlyOnSuccess s op (s.fdbScan t) := by
  unfold State.fdbScan
  dsimp only
  split
  · exact done rfl hop
  · exact same _
end

theorem routeOp (t : TblOp) : ChangesOnlyOnSuccess s t.op (s.routeOp t) :=
  .ite (fun _ => same _) fun _ =>
  .ite (fun _ => .ite (fun _ => same _) fun _ => done rfl (by omega)) fun _ =>
  .ite (fun _ => .ite (fun _ => same _) fun _ => .ite (fun _ => same _) fun _ => done rfl (by omega)) fun _ =>
  .ite (fun _ => .ite (fun _ => same _) fun _ => done rfl (by omega)) fun _ => same _

section
variable {t : TblOp} (hop : t.op = 1 ∨ t.op = 2 ∨ t.op = 4)
include hop

theorem hopOp : ChangesOnlyOnSuccess s t.op (s.hopOp t) :=
  .ite (fun _ => same _) fun _ => .ite (fun _ => same _) fun _ => done rfl (by omega)

theorem vlanOp : ChangesOnlyOnSuccess s t.op (s.vlanOp t) := .ite (fun _ => same _) fun _ => done rfl (by omega)

theorem portOp : ChangesOnlyOnSuccess s t.op (s.portOp t) := .ite (fun _ => same _) fun _ => done rfl (by omega)
end

theorem tblDo (t : TblOp) : ChangesOnlyOnSuccess s t.op (s.tblDo t) :=
  .ite (fun _ => same _) fun hc =>
  have hd := opDefined_of_tblCheck (not_not.1 hc)
  .ite (fun _ => .ite (fun _ => fdbRead t) fun _ => .ite (fun _ => fdbWrite (by omega) t) fun _ =>
    .ite (fun _ => fdbInsert (by omega) t) fun _ => .ite (fun _ => fdbDelete (by omega) t) fun _ =>
    .ite (fun _ => fdbRead _) fun _ => fdbScan (by omega) t) fun h2 =>
  .ite (fun _ => routeOp t) fun h3 =>
  have hop := op_of_indexedTable hd h2 h3
  .ite (fun _ => hopOp hop) fun _ => .ite (fun _ => vlanOp hop) fun _ => portOp hop

end ChangesOnlyOnSuccess

/-- The started operation acts in the row of its own number. -/
theorem tblAct_started {s : State} {t : TblOp} {op : Nat} (hb : s.rt.blk.busy = true) (hl : s.rt.blk.latched = some (t, none))
    (hn : s.rt.blk.answer = none) (hop : t.op = op) :
    s.tblAct op = (s.tblDo t).2.setBlk { (s.tblDo t).2.rt.blk with answer := some (s.tblDo t).1 } := by
  simp [State.tblAct, hb, hl, hn, hop]

/-- Settles O9: the rows by the operation that is latched, and the frames of each table's operations. -/
theorem tableCommandsRunOrChangeNothing : Obligations.TableCommandsRunOrChangeNothing := by
  refine ⟨fun s t ha hb hl hn => ?_, fun s ha hb => congrArg _ (if_pos (by simp [ha, hb])), fun s r ha hr => ?_,
    fun s t => (ChangesOnlyOnSuccess.tblDo t).1, fun s t => (ChangesOnlyOnSuccess.tblDo t).2⟩
  · have row : ∀ {i : Instr} {n : Nat}, exec i s = .next (if s.awake then s.tblAct n else s) → t.op = n →
        exec i s = .next ((s.tblDo t).2.setBlk { (s.tblDo t).2.rt.blk with answer := some (s.tblDo t).1 }) := fun hx hop => by
      rw [hx, if_pos ha, tblAct_started hb hl hn hop]
    exact ⟨row rfl, row rfl, row rfl, row rfl, row rfl, row rfl⟩
  · refine ⟨s.setBlk { s.rt.blk with
      data := r.data.getD s.rt.blk.data, index := r.cursor.getD s.rt.blk.index, code := r.code, resIndex := r.index,
      busy := false, latched := none, answer := none }, ?_, rfl, rfl, rfl, rfl, rfl, rfl⟩
    show execTblCmdCompletion s = _
    simp only [execTblCmdCompletion, ha, if_true, hr]

end Sys2Proof.Claims
end

section
namespace Sys2Proof.Claims
open Sys2Proof.Machine

/-! ## Steps and reset (O1, O2, O59) -/

/-- Settles O1: `step` reads the queue's front. -/
theorem stepRunsTheFrontCommand : Obligations.StepRunsTheFrontCommand := fun _ _ _ => rfl

/-! ### A tick (13 R375, 18 R485) -/

theorem romTick_keeps (x : Sys) : x.romTick.hold = x.hold ∧ x.romTick.pstate = x.pstate
    ∧ (x.romTick.boot == 3 || x.romTick.boot == 4) = (x.boot == 3 || x.boot == 4) := by
  unfold Sys.romTick
  split
  · exact ⟨rfl, rfl, rfl⟩
  · next h =>
    have hb : x.boot = 0 := not_not.1 h
    split <;> simp [hb]

section
variable {s : State}

theorem not_held_nor_off (ha : s.awake = true) : ¬ (s.sys.hold.held = true ∨ s.sys.pstate = .off) := by
  rintro (h | h) <;> simp [State.awake, h] at ha

theorem not_awake_of (h : s.sys.hold.held = true ∨ s.sys.pstate = .off) : s.awake = false :=
  Bool.eq_false_iff.2 fun ha => not_held_nor_off ha h

theorem tick_awake (ha : s.awake = true) : ∃ t, s.tick = { s with sys := s.sys.romTick, time := t }
    ∧ t.raw = (s.time.raw + 1) % 2 ^ 48
    ∧ (s.time.aonPhase + 32768 < 250000000 → t.aon = s.time.aon ∧ t.aonPhase = s.time.aonPhase + 32768)
    ∧ (250000000 ≤ s.time.aonPhase + 32768 → t.aon = (s.time.aon + 1) % 2 ^ 48 ∧ t.aonPhase = s.time.aonPhase + 32768 - 250000000) := by
  have hrun : (s.sys.hold.held || decide (s.sys.pstate = .off)) = true ↔ s.sys.hold.held = true ∨ s.sys.pstate = .off := by simp
  refine ⟨_, (if_neg (hrun.not.2 (not_held_nor_off ha))).trans (if_pos ha), ?_⟩
  by_cases hp : s.time.aonPhase + 32768 < 250000000
  · simp only [if_pos hp]
    exact ⟨trivial, fun _ => ⟨trivial, trivial⟩, fun h => absurd hp (Nat.not_lt.2 h)⟩
  · simp only [if_neg hp]
    exact ⟨trivial, fun h => absurd h hp, fun _ => ⟨trivial, trivial⟩⟩

theorem tick_stopped (h : s.sys.hold.held = true ∨ s.sys.pstate = .off) : s.tick = s := if_pos (by simpa using h)

/-- Operations run on and the system watchdog counts where Eotre runs; nothing else differs. -/
theorem countOps_eq (s : State) : ∃ r, s.countOps
    = { s with cc := { s.cc with running := r, quiet := s.cc.quiet + (if s.live then 1 else 0) } } := by
  unfold State.countOps
  cases hl : s.live
  · exact ⟨s.cc.running, rfl⟩
  · exact ⟨_, rfl⟩

theorem countOps_asleep (h : s.awake = false) : s.countOps = s := if_pos (by simp [State.live, h])

theorem reportThaw_none (h : s.pwr.thawPending = false) : s.reportThaw = s := if_neg (by simp [h])

theorem reportThaw_stopped (h : s.sys.hold.held = true ∨ s.sys.pstate = .off) : s.reportThaw = s :=
  if_neg (by rcases h with h | h <;> simp [h])

theorem watchIdle_stopped (h : s.sys.hold.held = true ∨ s.sys.pstate = .off) :
    s.watchIdle = { s with pwr := { s.pwr with dozeSince := none, napSince := none, hibSince := none } } := by
  have hl : s.live = false := by simp [State.live, not_awake_of h]
  have hh : (!s.sys.hold.held && s.eotre && s.sys.pstate != .hibernate && s.sys.pstate != .off && s.hibBlockers == 0) = false := by
    rcases h with h | h <;> simp [h]
  simp only [State.watchIdle, hl, hh, Bool.false_and, runSince, Bool.false_eq_true, if_false]

theorem step_empty (h : s.pending = []) : step s = .next s.pass := by simp [step, h]

end

/-- Settles O2: a tick, the operations and the idle timers, in the order of `pass`; held or OFF, only the idle timers start over. -/
theorem emptyQueuePassesOneTick : Obligations.EmptyQueuePassesOneTick := by
  refine ⟨fun s hp ha ht => ?_, fun s hp h => ?_⟩
  · obtain ⟨tm, htick, hraw, hsame, hnext⟩ := tick_awake ha
    obtain ⟨run, hops⟩ := countOps_eq s.tick
    obtain ⟨hhold, hpst, hboot⟩ := romTick_keeps s.sys
    have hlive : s.tick.live = s.live := by
      simp only [htick, State.live, State.awake, State.eotre, hhold, hpst, hboot]
    have hpass : s.pass = s.tick.countOps.watchIdle := by
      refine reportThaw_none (?_ : s.tick.countOps.pwr.thawPending = false)
      rw [hops, htick, ht]
    refine ⟨_, step_empty hp, ?_⟩
    rw [hpass, hops, hlive, htick]
    exact ⟨hraw, hsame, hnext, rfl, rfl, rfl⟩
  · rw [step_empty hp, State.pass, tick_stopped h, countOps_asleep (not_awake_of h), watchIdle_stopped h]
    exact congrArg _ (reportThaw_stopped (s := { s with pwr := { s.pwr with dozeSince := none, napSince := none, hibSince := none } }) h)

/-! ### The reset state (17 R467) -/

/-- With no raw tick since the reference, network time is its offset. -/
theorem now_at_reference {s : State} (h : s.time.raw = s.time.rawRef) (hr : s.time.rawRef < 2 ^ 48) : s.now = s.time.offset := by
  have hd : s.rawDelta = 0 := by
    rw [State.rawDelta, Machine.sdiff, h, Nat.mod_eq_of_lt hr, Nat.add_sub_cancel_left]
    rfl
  simp [State.now, hd]

/-- Settles O59: the fields of the reset state are their defaults but for the clock's rate and the factory image's slot. -/
theorem resetHoldsItsValues : Obligations.ResetHoldsItsValues := by
  have hnow : State.reset.now = 0 := now_at_reference rfl (by decide)
  exact ⟨rfl, rfl, rfl, rfl, rfl, rfl, rfl, hnow, rfl, rfl, rfl, rfl, rfl, rfl, fun _ => ⟨rfl, rfl, rfl, rfl⟩, rfl, rfl, rfl, rfl,
    fun _ => ⟨rfl, rfl, rfl, rfl⟩, fun _ _ => rfl, fun n => by cases n <;> rfl, rfl, rfl, rfl, rfl, rfl, rfl, rfl, rfl⟩

end Sys2Proof.Claims
end

section
namespace Sys2Proof.Claims
open Sys2Proof.Machine

/-! ## Network time (O46, O47) -/

/-- Settles O47: the three readings of the definition's one condition. -/
theorem holderReadsSourceFiveAsZero : Obligations.HolderReadsSourceFiveAsZero := fun s =>
  ⟨fun hh h5 => if_pos (by simp [hh, h5]), fun hh h5 => if_neg (by simp [hh, h5]), fun hh => if_neg (by simp [hh])⟩

/-! ### A lost source writes its events -/

theorem exec_timeSourceLoss_lost {s : State} (ha : s.awake = true) (hl : s.time.state = .locked) (hx : s.sourceLost = true) :
    exec .timeSourceLoss s = .next s.loseSource := congrArg Host.Outcome.next (if_pos (by simp [ha, hl, hx]))

/-- A clock locked to the cascade, with no measurement applied yet. -/
def lockedUnmeasured : State := { time := { state := .locked }, params := [(0xB001, .num 5)] }

theorem lockedUnmeasured_lost :
    lockedUnmeasured.awake = true ∧ lockedUnmeasured.time.state = .locked ∧ lockedUnmeasured.sourceLost = true :=
  ⟨rfl, rfl, rfl⟩

/-- EV_TIME_SOURCE lies in the first event slot. -/
theorem lockedUnmeasured_event : readBytes lockedUnmeasured.loseSource.mem 0x10020000 2 = u16 0xB001 := rfl

/-- Refutes O46: it says that a lost source leaves memory as it was, but EV_TIME_SOURCE and EV_TIME_HOLDOVER are written into the event ring
there (02 R38, 13 R379). -/
theorem not_networkTimeIsToldAndKept : ¬ Obligations.NetworkTimeIsToldAndKept := by
  unfold Obligations.NetworkTimeIsToldAndKept
  rintro ⟨-, -, -, -, -, hloss, -⟩
  obtain ⟨hawake, hlocked, hlost⟩ := lockedUnmeasured_lost
  obtain ⟨t, ht, -, -, -, -, -, hmem⟩ := hloss lockedUnmeasured hawake hlocked hlost
  obtain rfl : lockedUnmeasured.loseSource = t := Host.Outcome.next.inj ((exec_timeSourceLoss_lost hawake hlocked hlost).symm.trans ht)
  have hread := lockedUnmeasured_event
  rw [hmem] at hread
  exact absurd hread (by decide)

end Sys2Proof.Claims
end

section
namespace Sys2Proof.Claims
open Sys2Proof.Machine

/-! ## The router's events and commands (O44, O45) -/

section
variable {s : State}

/-! ### Frames that enter (14 R400, 12 R343) -/

section
variable {p : Nat} (hp : p < 4) (ha : s.awake = true) (hup : (s.ethPort p).up = true)
include hp ha hup

/-- A frame at a port that is up goes through the checks of its MAC. -/
theorem exec_frameIngress_up (b : Bytes) (ago : Nat) : exec (.frameIngress (.wire p b ago)) s
    = .next (if b.length < 64 then s.bump (.eth p) 4
      else if s.pnat (0xC014 + p) < b.length then s.bump (.eth p) 5
      else if u32 (crc32 (b.take (b.length - 4))) ≠ b.drop (b.length - 4) then s.bump (.eth p) 3
      else (((s.bump (.eth p) 1).bumpBy (.eth p) 2 b.length).wireFrame p (b.take (b.length - 4)) (unsigned 64
        (((s.bump (.eth p) 1).bumpBy (.eth p) 2 b.length).now - ago
          - ((s.bump (.eth p) 1).bumpBy (.eth p) 2 b.length).pnat (0xB030 + p)))).pauseCheck) :=
  congrArg Host.Outcome.next ((if_pos hp).trans (if_neg (by simp [ha, hup])))
end

theorem exec_frameIngress_air (ha : s.awake = true) {k : InPkt} {l : List InPkt} (hi : s.rt.inbox = k :: l) :
    exec (.frameIngress .air) s = .next ((({ s with rt := { s.rt with inbox := l } } : State).airIngress k).pauseCheck) := by
  show execFrameIngress .air s = _
  simp only [execFrameIngress, ha, hi, Bool.not_true, Bool.false_eq_true, if_false]

/-! ### Datagrams that stay incomplete (12 R361) -/

theorem ctr_bumpBy_same (s : State) (b : CtrBank) (row n : Nat) : (s.bumpBy b row n).ctr b row = min 0xFFFFFFFF (s.ctr b row + n) :=
  ctr_bumpCtr_same s s.ctrs b row n

theorem reasmTimeout_discards (ha : s.awake = true) : ∃ t, exec .reasmTimeout s = .next t ∧ t.rt = s.rt ∧ t.mem = s.mem
    ∧ (∀ p ∈ t.firn.ctxs, ∀ r ∈ p.2.reasm, s.time.aon < r.began + s.pnat 0x9020 * 32768)
    ∧ t.ctr (.rt .air) 19 = min 0xFFFFFFFF (s.ctr (.rt .air) 19 + (s.firn.ctxs.map (fun p =>
        (p.2.reasm.filter (fun r => decide (r.began + s.pnat 0x9020 * 32768 ≤ s.time.aon))).length)).sum) := by
  refine ⟨_, congrArg Host.Outcome.next (if_neg (by simp [ha])), rfl, rfl, fun p hp r hr => ?_, ctr_bumpBy_same ..⟩
  obtain ⟨v, -, rfl⟩ := List.mem_map.1 hp
  have hkept : (!decide (r.began + s.pnat 0x9020 * 32768 ≤ s.time.aon)) = true := (List.mem_filter.1 hr).2
  simpa using hkept

/-! ### Ageing and gates (12 R348, R370) -/

theorem exec_ageTick_due (ha : s.awake = true) (hd : s.ageStep ≤ s.rawSince s.rt.ageAt) :
    exec .ageTick s = .next { s.ageTick with rt := { s.ageTick.rt with ageAt := (s.rt.ageAt + s.ageStep) % 2 ^ 48 } } :=
  congrArg Host.Outcome.next (if_pos (by simp [ha, hd]))

theorem exec_gateEntry_awake (ha : s.awake = true) {p : Nat} (hp : p < 4) : exec (.gateEntry p) s = .next (s.dropHeads p) :=
  congrArg Host.Outcome.next (if_pos (by simp [ha, hp]))

/-! ### A port at its frame boundary (12 R364) -/

/-- A port that is its only active lane sends the frame picked, whatever its hash. -/
theorem sendWire_single {p q : Nat} {f : QFrame} {l : List QFrame} (hact : s.activePorts p = [p])
    (hq : (s.dropHeads p).pickQueue p = some (q, f, l)) (hfree : (s.dropHeads p).laneFree p = true) :
    (let u := ((s.dropHeads p).takeFrame p q f l).onLane p (withFcs f.octets)
     s.sendWire p = u.2.txStamp f.desc (some u.1) 0) := by
  have hlane : ∀ h : Nat, [p].getD (h % [p].length) p = p := fun h => by simp [Nat.mod_one]
  simp only [State.sendWire, hact, hq, hlane, hfree, Bool.not_true, Bool.false_eq_true, if_false]

theorem exec_egressSend_wired (ha : s.awake = true) {p : Nat} (hp : p < 4) : exec (.egressSend p) s = .next (s.sendWire p).pauseCheck :=
  congrArg Host.Outcome.next ((if_neg (by simp [ha])).trans (congrArg State.pauseCheck (if_pos hp)))

end

/-- Settles O44: each event past its guard, by the branch that its premises choose. -/
theorem routerEventsTakeAndSendFrames : Obligations.RouterEventsTakeAndSendFrames := by
  refine ⟨fun s p ago b hp ha hup => ?_, fun s k l ha hi => exec_frameIngress_air ha hi, fun s ha => reasmTimeout_discards ha,
    fun s ha hd => ⟨_, exec_ageTick_due ha hd, rfl, rfl, rfl, rfl, rfl, rfl, rfl⟩, fun s p ha hp => exec_gateEntry_awake ha hp,
    fun s p q f l ha hp hact hq hfree => ?_⟩
  · have hmac := exec_frameIngress_up hp ha hup b ago
    refine ⟨fun hs => ?_, fun hs hl => ?_, fun hs hl hc => ?_, fun hs hl hc => ?_⟩
    · rw [hmac, if_pos hs]
    · rw [hmac, if_neg (Nat.not_lt.2 hs), if_pos hl]
    · rw [hmac, if_neg (Nat.not_lt.2 hs), if_neg (Nat.not_lt.2 hl), if_pos hc]
    · rw [hmac, if_neg (Nat.not_lt.2 hs), if_neg (Nat.not_lt.2 hl), if_neg (not_not.2 hc)]
  · rw [exec_egressSend_wired ha hp, sendWire_single hact hq hfree]

/-! ### The router's commands (12 R359, R366-R371) -/

section
variable {s : State} {q : Req}

theorem lowpanCtxBody_sets {n : Net} (hn : Net.ofNat? (q.nat 1) = some n) (h2 : q.nat 2 ≤ 15) (h4 : q.nat 4 ≤ 128) (h5 : q.nat 5 ≤ 3) :
    (let c : LowCtx := ⟨beNat (q.bytes 3), q.nat 4, (q.nat 5).testBit 0, (q.nat 5).testBit 1⟩
     lowpanCtxBody q s
      = (okReply [], { s with rt := { s.rt with lowpan := s.rt.lowpan.setNet n (tset (s.rt.lowpan.net n) (q.nat 2) c) } })) := by
  simp only [lowpanCtxBody, hn, if_neg (Nat.not_lt.2 h2), if_neg (Nat.not_lt.2 h4), if_neg (Nat.not_lt.2 h5)]

theorem shaperBody_sets (ht : shaperTargetOk (q.nat 2) (q.nat 3) = true) (h4 : 8 ≤ q.nat 4) (h4' : q.nat 4 ≤ 10000000) (h5 : 1600 ≤ q.nat 5)
    (h5' : q.nat 5 ≤ 16777215) (h6 : q.nat 6 ≤ 1) (hfree : s.shaperTaken (q.nat 1) (q.nat 2) (q.nat 3) = false) (h7 : q.has 7 = false) :
    shaperBody q s = (okReply [], { s with rt := { s.rt with
      shapers := tset s.rt.shapers (q.nat 1)
        ⟨q.nat 2, q.nat 3, q.nat 4, q.nat 5, if q.nat 6 = 1 then (q.nat 5 * byteUnit : Nat) else 0, s.time.raw⟩ } }) := by
  simp only [shaperBody, ht, hfree, h7, Bool.not_true, Bool.false_eq_true, and_false, if_false]
  rw [if_neg (by omega), if_neg (by omega), if_neg (by omega)]
  simp only [State.setShaper, if_neg (show q.nat 4 ≠ 0 by omega), beq_iff_eq]

theorem meterBody_sets (h1 : q.nat 1 ≤ 1023) (h2 : q.nat 2 ≤ 1) (h3 : q.nat 3 ≤ 1) (hcir : rateOk (leNat ((q.bytes 4).take 4)) = true)
    (hpir : rateOk (leNat ((q.bytes 4).drop 4)) = true) (hcbs : sizeOk (leNat ((q.bytes 5).take 4)) = true)
    (hpbs : sizeOk (leNat ((q.bytes 5).drop 4)) = true) (h7 : q.has 7 = false)
    (hacts : ([0, 1, 2].map (fun i => (byteAt (q.bytes 6) (2 * i), byteAt (q.bytes 6) (2 * i + 1)))).all meterActOk = true) :
    meterBody q s = (okReply [], s.setMeter (q.nat 1) ⟨q.nat 2, q.nat 3 == 1, leNat ((q.bytes 4).take 4), leNat ((q.bytes 4).drop 4),
      leNat ((q.bytes 5).take 4), leNat ((q.bytes 5).drop 4),
      [0, 1, 2].map (fun i => (byteAt (q.bytes 6) (2 * i), byteAt (q.bytes 6) (2 * i + 1))), 0, 0, 0⟩) := by
  unfold meterBody
  dsimp only
  rw [if_neg (by omega), if_neg (by omega), if_neg (by omega), if_neg (by simp [hcir, hpir, hcbs, hpbs]), if_neg (by rw [hacts]; decide),
    if_neg (by simp [h7])]

theorem gateBody_sets {l : GateList} (h1 : q.nat 1 ≤ 3) (h3 : q.nat 3 ≤ 256) (harea : s.areaOk (q.nat 2) (8 * q.nat 3) = true)
    (hl : readGates (s.winRead (q.nat 2) (8 * q.nat 3)) (q.nat 3) (q.nat 4) (q.nat 5) = some l) (h6 : q.has 6 = false)
    (hoff : s.pbool (0xA010 + q.nat 1) = false) :
    gateBody q s = (okReply [tlvN 7 8 s.now64], { s with rt := { s.rt with gates := tset s.rt.gates (q.nat 1) l } }) := by
  simp only [gateBody, if_neg (Nat.not_lt.2 h1), if_neg (Nat.not_lt.2 h3), harea, hl, h6, hoff, Bool.not_true, Bool.false_eq_true,
    if_false, State.setGates]

/-- The status of a wired port without a gate list: every gate is open (12 R369, R373). -/
theorem tmStatusBody_ungated (h1 : q.nat 1 < 4) (hg : s.gateOf (q.nat 1) = none) :
    tmStatusBody q s = (okReply [⟨2, (List.range 8).flatMap (fun i => u32 (s.queueOctets (q.nat 1) i))⟩, tlvN 3 1 0xFF, tlvN 4 2 0,
      tlvN 5 4 s.sramFree], s) := by
  have hport : isPort (q.nat 1) = true :=
    Bool.or_eq_true_iff.2 (.inl (Bool.or_eq_true_iff.2 (.inl (decide_eq_true (by omega)))))
  simp only [tmStatusBody, hport, hg, Bool.not_true, Bool.false_eq_true, if_false, if_pos (show q.nat 1 < 6 by omega)]

end

/-- Settles O45: each command's body past its checks. -/
theorem routerCommandsSetAndTell : Obligations.RouterCommandsSetAndTell := by
  refine ⟨fun s ch n q a hn h2 h4 h5 => ?_, fun s ch q a ht h4 h4' h5 h5' h6 hfree h7 => ?_,
    fun s ch q a h1 h2 h3 hcir hpir hcbs hpbs h7 => ?_,
    fun s ch l q a h1 h3 harea hl h6 hoff => ?_, fun s ch q a h1 hg => exec_answers rfl a (tmStatusBody_ungated h1 hg)⟩
  · refine exec_answers rfl a ((lowpanCtxBody_sets hn h2 h4 h5).trans ?_)
    rw [begun_rt]
    rfl
  · refine exec_answers rfl a ((shaperBody_sets ht h4 h4' h5 h5' h6 hfree h7).trans ?_)
    rw [begun_rt, show (begun s ch).time.raw = s.time.raw by rw [begun_time]]
    rfl
  · intro acts hacts
    exact exec_answers rfl a (meterBody_sets h1 h2 h3 hcir hpir hcbs hpbs h7 hacts)
  · refine exec_answers rfl a ((gateBody_sets h1 h3 harea (by rw [begun_winRead, hl]) h6 hoff).trans ?_)
    rw [begun_rt]
    rfl

end Sys2Proof.Claims
end

section
namespace Sys2Proof.Claims
open Sys2Proof.Machine

/-! ## Serial lanes and Ethernet ports (O48) -/

section
variable {s : State} {q : Req}

/-! ### Bring-up and tests of a lane (14 R395-R398) -/

section
variable {i : Nat} (hon : s.serdesOn = true)
include hon

theorem exec_laneCdrLock_acquiring (hl : (s.serLane i).st = .acquire) :
    exec (.laneCdrLock i) s = .next (s.setSerLane i { s.serLane i with st := .align }) :=
  congrArg Host.Outcome.next (if_pos (by simp [hon, hl]))

theorem exec_laneCommaFound_aligning (hl : (s.serLane i).st = .align) (inv : Bool) :
    exec (.laneCommaFound i inv) s = .next (s.setSerLane i { s.serLane i with st := .sync, inverted := inv }) :=
  congrArg Host.Outcome.next (if_pos (by simp [hon, hl]))

theorem exec_laneSyncDone_syncing (hl : (s.serLane i).st = .sync) :
    exec (.laneSyncDone i) s = .next ((s.setSerLane i { s.serLane i with st := .up, markers := 0 }).raise 0xC001 [u8 i]) :=
  congrArg Host.Outcome.next (if_pos (by simp [hon, hl]))

/-- A lane that loses its lock is counted at its port, or at the cascade, and goes back to ACQUIRE. -/
theorem exec_laneSyncLoss_unlocked (hl : (s.serLane i).st = .up) (lost : Nat) : exec (.laneSyncLoss i true lost) s
    = .next ((if i < 4 then s.bump (.eth i) 8 else s.bump .casc 9).laneDrop i .acquire 0 lost (some 0)) :=
  congrArg Host.Outcome.next (if_pos (by simp [hon, hl]))

theorem exec_laneTestEnd_over (hl : (s.serLane i).st = .test) (ht : (s.serLane i).timed = true)
    (hr : s.ranMs (s.serLane i).testAt (s.serLane i).testMs = true) :
    exec (.laneTestEnd i) s = .next (s.setSerLane i { s.serLane i with st := .acquire, locked := false, timed := false }) :=
  congrArg Host.Outcome.next (if_pos ⟨hon, hl, ht, hr⟩)

theorem exec_prbsLock_checking (hc : (s.serLane i).checks = true) :
    exec (.prbsLock i) s = .next (s.setSerLane i { s.serLane i with locked := true }) :=
  congrArg Host.Outcome.next (if_pos (by simp [hon, hc]))

theorem exec_prbsLockLoss_on (bits errors : Nat) :
    exec (.prbsLockLoss i bits errors) s = .next (s.setSerLane i { (s.serLane i).count bits errors with locked := false }) :=
  congrArg Host.Outcome.next (if_pos hon)

theorem exec_ethLinkChange_rises {p : Nat} (hp : p < 4) (hrole : s.portRole p ≠ 0) (hl : (s.serLane p).st = .up)
    (hup : (s.ethPort p).up = false) (speed abilities : Nat) :
    exec (.ethLinkChange p true speed abilities false) s = .next ((s.setEth p { s.ethPort p with
      abilities := abilities % 65536, up := true, speed := s.ethSpeed p speed, active := s.portRole p == 2 }).raise 0xC003
        [u8 p, boolByte true, u16 (s.ethSpeed p speed)]) :=
  congrArg Host.Outcome.next ((if_neg (by simp [hrole, hon, Nat.not_le.2 hp])).trans
    ((if_neg Bool.false_ne_true).trans ((if_neg Bool.false_ne_true).trans (if_neg (by simp [hl, hup])))))
end

/-! ### The lane and port commands (14 R396-R401, R418) -/

theorem begun_serLane (s : State) (ch i : Nat) : (begun s ch).serLane i = s.serLane i := by simp [State.serLane]

theorem begun_ethPort (s : State) (ch p : Nat) : (begun s ch).ethPort p = s.ethPort p := by simp [State.ethPort]

theorem withLane_used {f : Nat → Body} (h : q.nat 1 ≤ 7) (hb : s.board.isSome = true) (hu : s.laneUsed (q.nat 1) = true) :
    withLane f q s = f (q.nat 1) q s := by
  rw [withLane, if_neg (Nat.not_lt.2 h), if_neg (by simp [Option.isNone_eq_false_iff.2 hb]), if_neg (by simp [hu])]

theorem laneStatusBody_lane (h : q.nat 1 ≤ 7) (invalid : Nat) :
    laneStatusBody invalid q s = (okReply [tlvN 2 1 (s.serLane (q.nat 1)).st.code, tlvN 3 2 (s.laneRate (q.nat 1)),
        ⟨4, boolByte (s.serLane (q.nat 1)).inverted⟩, tlvN 5 4 (min 0xFFFFFFFF ((s.serLane (q.nat 1)).invalid + invalid))],
      s.setSerLane (q.nat 1) { s.serLane (q.nat 1) with invalid := 0 }) := if_neg (Nat.not_lt.2 h)

theorem laneTestBody_starts (h : q.nat 1 ≤ 7) (hb : s.board.isSome = true) (hu : s.laneUsed (q.nat 1) = true) (h2 : 0 < q.nat 2)
    (h2' : q.nat 2 ≤ 4) (h3 : q.nat 3 ≤ 3) :
    (let u := s.laneDrop (q.nat 1) .test 2 0 none
     laneTestBody q s = (okReply [], u.setSerLane (q.nat 1)
       { u.serLane (q.nat 1) with mode := q.nat 2, pattern := q.nat 3, timed := q.nat 4 != 0, testAt := u.time.aon, testMs := q.nat 4 })) :=
  (withLane_used h hb hu).trans ((if_neg (Nat.not_lt.2 h2')).trans ((if_neg (Nat.not_lt.2 h3)).trans (if_neg (Nat.ne_of_gt h2))))

theorem lanePrbsBody_counts (h : q.nat 1 ≤ 7) (h2 : q.nat 2 ≤ 1) (bits errors : Nat) :
    (let l := (s.serLane (q.nat 1)).count bits errors
     lanePrbsBody bits errors q s = (okReply [⟨3, boolByte l.locked⟩, tlvN 4 4 l.errors, tlvN 5 8 l.bits],
       s.setSerLane (q.nat 1) (if q.nat 2 = 1 then { l with errors := 0, bits := 0 } else l))) :=
  (if_neg (Nat.not_lt.2 h)).trans (if_neg (Nat.not_lt.2 h2))

theorem retrain_down {i : Nat} (h : (s.serLane i).st ≠ .up) : s.retrain i = (s.laneDrop i .acquire 3 0 none).raise 0xC002 [u8 i, u8 3] :=
  if_neg h

theorem ethStatusBody_port (h : q.nat 1 ≤ 3) :
    (let x := s.ethPort (q.nat 1)
     ethStatusBody q s
      = (okReply [⟨2, boolByte x.up⟩, tlvN 3 2 x.speed, tlvN 4 2 x.abilities, ⟨5, boolByte (x.up && x.active)⟩], s)) :=
  if_neg (Nat.not_lt.2 h)

/-- A clause-22 access to the PHY of a declared port goes out on MDC and MDIO. -/
theorem mdioBody_clause22 {b : Board} {act : Req → State → Reply × State} (hb : s.board = some b) (h2 : q.nat 2 = 22) (h4 : q.nat 4 ≤ 31)
    (hphy : b.ports.any (fun p => p.phy == q.nat 1) = true) :
    mdioBody act q s = act q { s with pins := { s.pins with mdcDriven := true } } := by
  simp only [mdioBody, hb, h2]
  rw [if_neg (by decide), if_neg (by simp), if_neg (by simp), if_neg (by omega), if_neg (by rw [hphy]; decide)]

end

/-- Settles O48: the lane's own events past their guards, the commands by their bodies past the checks. -/
theorem lanesAndPortsAreBroughtUpAndServed : Obligations.LanesAndPortsAreBroughtUpAndServed := by
  refine ⟨fun s i hon => ⟨exec_laneCdrLock_acquiring hon, fun inv h => exec_laneCommaFound_aligning hon h inv,
      exec_laneSyncDone_syncing hon, fun lost h => exec_laneSyncLoss_unlocked hon h lost⟩,
    fun s i hon => exec_laneTestEnd_over hon, fun s i hon => exec_prbsLock_checking hon,
    fun s i bits errors hon => exec_prbsLockLoss_on hon bits errors, fun s ch invalid q a h => ?_,
    fun s ch q a h hb hu h2 h2' h3 => exec_answers rfl a (laneTestBody_starts h (by rwa [begun_board]) hu h2 h2' h3),
    fun s ch bits errors q a h h2 => ?_, fun s ch q a h hb hu hup => ?_, fun s ch q a h => ?_,
    fun s b hb => ⟨fun ch reply q a h2 h4 hphy => ?_, fun ch q a h2 h4 hphy => ?_⟩,
    fun s p speed abilities hp hrole hon hl hup => exec_ethLinkChange_rises hon hp hrole hl hup speed abilities⟩
  · refine exec_answers rfl a ((laneStatusBody_lane h invalid).trans ?_)
    rw [begun_serLane]
    rfl
  · refine exec_answers rfl a ((lanePrbsBody_counts h h2 bits errors).trans ?_)
    rw [begun_serLane]
    rfl
  · have hdown : ((begun s ch).serLane (q.nat 1)).st ≠ .up := by rwa [begun_serLane]
    refine exec_answers rfl a ((withLane_used h (by rwa [begun_board]) hu).trans ?_)
    rw [retrain_down hdown]
    rfl
  · refine exec_answers rfl a ((ethStatusBody_port h).trans ?_)
    rw [begun_ethPort]
    rfl
  · refine exec_answers rfl a ((mdioBody_clause22 ((begun_board s ch).trans hb) h2 h4 hphy).trans ?_)
    rw [begun_pins]
    rfl
  · refine exec_answers rfl a ((mdioBody_clause22 ((begun_board s ch).trans hb) h2 h4 hphy).trans ?_)
    rw [begun_pins]
    rfl

end Sys2Proof.Claims
end

section
namespace Sys2Proof.Claims
open Sys2Proof.Machine

/-! ## The cascade (O49) -/

section
variable {s u : State} {peer : Nat} {packet p : Bytes} {h : CascHdr}

/-! ### Links and packets (14 R405, R406, R408, R410) -/

/-- With its second marker a lane joins the receive direction of its link. -/
theorem exec_cascMarkerRx_second {i far p : Nat} (ha : s.awake = true) (hp : s.lanePeer i = some p) (hl : (s.serLane (i + 4)).st = .up)
    (hm : 0 < (s.serLane (i + 4)).markers) (hout : (s.link p).rx.testBit i = false) :
    (let u := s.setSerLane (i + 4) { s.serLane (i + 4) with markers := min 2 ((s.serLane (i + 4)).markers + 1), far := far % 4 }
     exec (.cascMarkerRx (i + 4) far) s
       = .next ((u.cascFresh.putLink p (u.link p).tx ((u.link p).rx + 2 ^ i)).sendLink p)) := by
  intro u
  have hout' : (u.link p).rx.testBit i = false := hout
  show execCascMarkerRx (i + 4) far s = _
  simp only [execCascMarkerRx, Nat.add_sub_cancel, if_pos (Nat.le_add_left 4 i), hp]
  rw [if_neg (by simp [hl, ha])]
  exact congrArg _ (if_neg (not_or.2 ⟨Nat.ne_of_gt hm, by simpa using hout'⟩))

theorem exec_cascLinkRx_changes {lost : Nat} (ht : s.cascTake peer 6 packet = (some (h, p), u)) :
    (let tx := byteAt p 0 &&& (List.range 4).foldl (fun m i => if u.lanePeer i = some peer then m + 2 ^ i else m) 0
     tx ≠ (u.link peer).tx →
     exec (.cascLinkRx peer packet lost) s = .next ((u.putLink peer tx (u.link peer).rx).bumpBy .casc 4 lost)) := by
  intro tx hne
  show execCascLinkRx peer packet lost s = _
  simp only [execCascLinkRx, ht]
  exact congrArg _ (if_neg hne)

theorem exec_cascDataRx_admitted {b : Bytes} {k : Pkt} (ht : s.cascTake peer 1 packet = (some (h, b), u))
    (hk : (u.bump .casc 2).admitPkt (Pkt.ofFrame .wire 4 (b.take (b.length - 4))) = .ok k) :
    exec (.cascDataRx peer packet) s = .next (((((u.bump .casc 2).peerLearn k.vid k.eth.src peer).pipeline
      (Pkt.ofFrame .wire 4 (b.take (b.length - 4)))).pauseCheck)) := by
  show execCascDataRx peer packet s = _
  simp only [execCascDataRx, ht, hk]

theorem exec_cascPauseRx_taken (ht : s.cascTake peer 5 packet = (some (h, p), u)) :
    exec (.cascPauseRx peer packet) s = .next (u.setLink peer { u.link peer with
      stopped := [4, 5, 6, 7].foldl (fun (t : Tab Int) q =>
        if (byteAt p 0).testBit q then tset t q (u.now + 100000) else tdel t q) (u.link peer).stopped }) := by
  show execCascPauseRx peer packet s = _
  simp only [execCascPauseRx, ht]

theorem exec_cascPauseTimeout_over {queue : Nat} {t : Int} (ha : s.awake = true) (hq : tfind (s.link peer).stopped queue = some t)
    (ht : t ≤ s.now) :
    exec (.cascPauseTimeout peer queue) s = .next (s.setLink peer { s.link peer with stopped := tdel (s.link peer).stopped queue }) := by
  show execCascPauseTimeout peer queue s = _
  simp only [execCascPauseTimeout, hq]
  exact congrArg _ (if_pos (by simp [ha, ht]))

/-! ### Time over the cascade (14 R411) -/

/-- The holder, where one is known and its link is up, asked for the time. -/
def askHolder (s : State) : State :=
  match s.casc.holderId with
  | none => s
  | some q => if s.linkUp q then s.cascFresh.cascSend q 3 0 0 (u64 s.now64) else s

theorem askHolder_up {q : Nat} (hh : s.casc.holderId = some q) (hup : s.linkUp q = true) :
    askHolder s = s.cascFresh.cascSend q 3 0 0 (u64 s.now64) := by
  simp only [askHolder, hh, hup, if_true]

/-- That a request has gone out does not make the source lost. -/
theorem sourceLost_asked (s : State) (t : Nat) : (s.setCasc { s.casc with asked := some t }).sourceLost = s.sourceLost := rfl

theorem exec_cascTimeSyncSend_asks {q : Nat} (h5 : s.source = 5) (ha : s.awake = true)
    (hd : s.dueUs s.casc.asked (1000 * s.pnat 0xC034) = true) (hh : s.casc.holderId = some q) (hup : s.linkUp q = true)
    (hkept : s.sourceLost = false ∨ s.time.state ≠ .locked) :
    exec .cascTimeSyncSend s
      = .next ((s.setCasc { s.casc with asked := some s.time.raw }).cascFresh.cascSend q 3 0 0 (u64 s.now64)) := by
  have hask : exec .cascTimeSyncSend s = .next (askHolder (
      if (s.setCasc { s.casc with asked := some s.time.raw }).sourceLost && s.time.state == .locked
        then (s.setCasc { s.casc with asked := some s.time.raw }).loseSource else s.setCasc { s.casc with asked := some s.time.raw })) :=
    congrArg Host.Outcome.next (if_neg (by simp [h5, ha, hd]))
  rw [hask, sourceLost_asked, if_neg (by rcases hkept with hk | hk <;> simp [hk])]
  exact congrArg _ (askHolder_up hh hup)

theorem exec_cascTimeSyncRx_answers {ago : Nat} (ht : s.cascTake peer 3 packet = (some (h, p), u)) (hh : u.casc.holder = true)
    (hd : u.casc.dispute = none) (hup : u.linkUp peer = true) :
    exec (.cascTimeSyncRx peer packet ago) s
      = .next (u.cascFresh.cascSend peer 4 0 0 (padTo 8 p ++ u64 (unsigned 64 (u.now - ago)) ++ u64 u.now64)) := by
  show execCascTimeSyncRx peer packet ago s = _
  simp only [execCascTimeSyncRx, ht]
  exact congrArg _ (if_neg (by simp [hh, hd, hup]))

theorem exec_cascTimeReplyRx_applied {ago : Nat} (ht : s.cascTake peer 4 packet = (some (h, p), u)) (hh : u.holderIs peer = true)
    (hup : u.linkUp peer = true) :
    (let t1 := signed 64 (leNat (p.take 8))
     let t2 := signed 64 (leNat ((p.drop 8).take 8))
     let t3 := signed 64 (leNat ((p.drop 16).take 8))
     let t4 := u.now - ago
     let r := u.roundOpenInt (t2 - t1 + (t3 - t4)) 2
     let v := r.2.setCasc { r.2.casc with applied := some r.2.now }
     t4 - t1 - (t3 - t2) ≤ (u.pnat 0xC035 : Int) →
     exec (.cascTimeReplyRx peer packet ago) s
       = .next (v.servo r.1 (2 ^ (v.casc.holderTq / 4) + 8 + v.pnat 0xC036))) := by
  intro t1 t2 t3 t4 r v hround
  show execCascTimeReplyRx peer packet ago s = _
  simp only [execCascTimeReplyRx, ht]
  exact congrArg _ ((if_neg (by simp [hh, hup])).trans (if_pos hround))

/-! ### The cap token (14 R412-R416) -/

theorem exec_cascAnnounceSend_due (hd : s.cascDecl.isSome = true) (ha : s.awake = true)
    (hdue : s.dueUs s.casc.announced (s.pnat 0xC031) = true) : exec .cascAnnounceSend s = .next s.announce :=
  congrArg Host.Outcome.next (if_pos (by simp [hd, ha, hdue]))

theorem exec_cascHoldSample_due (ha : s.awake = true) (hh : s.casc.holder = true) (hd : s.dueUs s.casc.sampled (s.pnat 0xC031) = true)
    (high : Bool) :
    (let u := s.setCasc { s.casc with sampled := some s.time.raw }
     exec (.cascHoldSample high) s = .next (if high then u else u.yieldToken none)) :=
  congrArg Host.Outcome.next (if_neg (by simp [ha, hh, hd]))

/-- An ANNOUNCE of a holder, by what this device is and whom it follows. -/
theorem exec_cascAnnounceRx_holder (ht : s.cascTake peer 2 packet = (some (h, p), u)) (hf : h.flags.testBit 0 = true) :
    (let v := u.setCasc { u.casc with heardHolder := some u.now, holderTq := byteAt p 1 }
     (u.casc.holder = true → exec (.cascAnnounceRx peer packet) s = .next (v.contest h))
     ∧ (u.casc.holder = false → u.casc.holderId = some peer → exec (.cascAnnounceRx peer packet) s = .next v)
     ∧ (u.casc.holder = false → u.casc.holderId = none →
       exec (.cascAnnounceRx peer packet) s = .next (v.setCasc { v.casc with holderId := some peer }))) := by
  intro v
  refine ⟨fun hh => ?_, fun hh hid => ?_, fun hh hid => ?_⟩ <;> show execCascAnnounceRx peer packet s = _ <;>
    simp only [execCascAnnounceRx, ht]
  · exact congrArg _ ((if_pos hf).trans (if_pos hh))
  · refine congrArg _ ((if_pos hf).trans ((if_neg (by simp [hh])).trans ?_))
    split
    · next q hq => exact if_pos (Option.some.inj (hq.symm.trans hid))
    · next hn => exact absurd (hid.symm.trans hn) (by simp)
  · refine congrArg _ ((if_pos hf).trans ((if_neg (by simp [hh])).trans ?_))
    split
    · next q hq => exact absurd (hid.symm.trans hq) (by simp)
    · rfl

theorem exec_disputeClear_quiet {d : Dispute} (ha : s.awake = true) (hd : s.casc.dispute = some d)
    (hq : d.heard + (s.pnat 0xC033 * s.pnat 0xC031 * 1000 : Nat) ≤ s.now) :
    exec .disputeClear s = .next (s.setCasc { s.casc with dispute := none }) := by
  show execDisputeClear s = _
  simp only [execDisputeClear, hd]
  exact congrArg _ (if_pos (by simpa [ha] using hq))

theorem exec_cascTakeWaitMet_starts (hd : s.cascDecl.isSome = true) (ha : s.awake = true) (hc : s.pbool 0xC030 = true)
    (hh : s.casc.holder = false) (ht : s.casc.taking = none) (hq : s.holderSilent = true) :
    exec .cascTakeWaitMet s = .next ((s.setCasc { s.casc with
      taking := some ((max s.storedEpoch s.casc.epoch + 1) % 2 ^ 32, false) }).recordFor 0x0600 false [deviceOwner]) :=
  congrArg Host.Outcome.next (if_neg (by simp [Option.isNone_eq_false_iff.2 hd, ha, hc, hh, ht, hq]))

/-- An attempt whose epoch is stored ends: with the line low without the token, with it high as its holder. -/
theorem exec_cascTakeDrive_stored {e : Nat} (ha : s.awake = true) (ht : s.casc.taking = some (e, true)) :
    exec (.cascTakeDrive false) s = .next (s.setCasc { s.casc with taking := none })
    ∧ (let u := s.setCasc { s.casc with
         taking := none, holder := true, driving := true, epoch := e, claim := e, holderId := some s.cascId }
       exec (.cascTakeDrive true) s = .next ((((u.bump .casc 10).raiseMaster).changeSource s.source).announce)) := by
  refine ⟨(?_ : execCascTakeDrive false s = _), (?_ : execCascTakeDrive true s = _)⟩
  · simp only [execCascTakeDrive, ha, if_true, ht]
    rfl
  · simp only [execCascTakeDrive, ha, if_true, ht]
    rfl

theorem begun_casc (s : State) (ch : Nat) : (begun s ch).casc = s.casc := by simp [State.casc]

theorem begun_link (s : State) (ch p : Nat) : (begun s ch).link p = s.link p := by simp [State.link, begun_casc]

end

/-- Settles O49: each packet by what `cascTake` hands on, each moment of the token past its guard. -/
theorem cascadePacketsAndTokenAct : Obligations.CascadePacketsAndTokenAct := by
  refine ⟨fun s i far p ha hp hl hm hout => exec_cascMarkerRx_second ha hp hl hm hout,
    fun s u peer lost packet p h ht => exec_cascLinkRx_changes ht,
    fun s u peer packet b h k _ ht hk => exec_cascDataRx_admitted ht hk,
    fun s u peer packet p h ht => exec_cascPauseRx_taken ht,
    fun s peer queue t ha hq ht => exec_cascPauseTimeout_over ha hq ht,
    fun s h h5 ha hd hh hup => exec_cascTimeSyncSend_asks h5 ha hd hh hup,
    fun s u peer ago packet p h ht hh hd hup => exec_cascTimeSyncRx_answers ht hh hd hup,
    fun s u peer ago packet p h ht hh hup => exec_cascTimeReplyRx_applied ht hh hup,
    fun s hd ha hdue => exec_cascAnnounceSend_due hd ha hdue,
    fun s ha hh hd => ⟨exec_cascHoldSample_due ha hh hd false, exec_cascHoldSample_due ha hh hd true⟩,
    fun s u peer packet p h ht hf => exec_cascAnnounceRx_holder ht hf,
    fun s d ha hd hq => exec_disputeClear_quiet ha hd hq,
    fun s hd ha hc hh ht hq => exec_cascTakeWaitMet_starts hd ha hc hh ht hq,
    fun s e ha ht => exec_cascTakeDrive_stored ha ht, fun s ch q a => ⟨fun hh => ?_, fun hh => ?_⟩, fun s ch q a => ?_⟩
  · exact exec_answers rfl a (if_pos (by rwa [begun_casc]))
  · exact exec_answers rfl a (if_neg (by simp [begun_casc, hh]))
  · refine exec_answers rfl a ?_
    simp only [cascStatusBody, begun_casc, begun_link]
    rfl

end Sys2Proof.Claims
end

section
namespace Sys2Proof.Claims
open Sys2Proof.Machine

/-! ## Non-volatile records (O22) -/

theorem tget_of_tfind_none {α : Type} {d : α} : ∀ {t : Tab α} {k : Nat}, tfind t k = none → tget d t k = d
  | [], _, _ => rfl
  | (j, v) :: t, k, h => by
    by_cases hj : j = k
    · simp [tfind, hj] at h
    · simp only [tfind, if_neg hj] at h
      simp only [tget, if_neg hj, tget_of_tfind_none h]

section
variable {s : State} {q : Req}

/-- A record that is new takes its place and waits for its write (15 R442). -/
theorem nvStoreBody_new {p : Nat} (hid : 0x8000 ≤ q.nat 1) (hlen : 0 < q.nat 3) (hmax : q.nat 3 ≤ 8192)
    (harea : s.areaOk (q.nat 2) (q.nat 3) = true) (hnew : tfind s.nv.recs (q.nat 1) = none) (hfit : s.userFit (q.nat 3) = some p)
    (hw : s.writeRefused (writeCost (q.nat 3)) = none) :
    nvStoreBody q s = (.wait [], ({ s with nv := { s.nv with
      recs := tset s.nv.recs (q.nat 1) { place := p, len := q.nat 3 } } } : State).pushNv
        { id := q.nat 1, data := some (.bytes (s.winRead (q.nat 2) (q.nat 3))), size := q.nat 3, urgent := false,
          owners := [⟨some q.ch, .stored⟩] }) := by
  have hrec : s.nvRec (q.nat 1) = {} := tget_of_tfind_none hnew
  simp only [nvStoreBody, if_neg (Nat.not_lt.2 hid), if_neg (Nat.not_lt.2 hmax), if_neg (Nat.ne_of_gt hlen), harea, hnew, hfit,
    Bool.not_true, Bool.false_eq_true, if_false, State.startStore, hw, hrec]

theorem nvReadBody_found {seq : Nat} {b : Bytes} (hid : 0x8000 ≤ q.nat 1) (hr : (s.nvRec (q.nat 1)).newest = some ⟨seq, .bytes b⟩)
    (harea : s.areaOk (q.nat 2) b.length = true) :
    nvReadBody q s = (okReply [tlvN 3 4 b.length, tlvN 4 4 seq], s.winWrite (q.nat 2) b) := by
  simp only [nvReadBody, if_neg (Nat.not_lt.2 hid), hr, harea, Bool.not_true, Bool.false_eq_true, if_false]

theorem nvDeleteBody_waits (hid : 0x8000 ≤ q.nat 1) (hr : (s.nvRec (q.nat 1)).newest.isSome = true)
    (hw : s.writeRefused (writeCost 0) = none) :
    nvDeleteBody q s = (.wait [], s.pushNv
      { id := q.nat 1, data := some (.bytes []), size := 0, urgent := false, owners := [⟨some q.ch, .invalidate⟩] }) := by
  simp only [nvDeleteBody, if_neg (Nat.not_lt.2 hid), Option.isNone_eq_false_iff.2 hr, Bool.false_eq_true, if_false, hw]

theorem begun_userGaps (s : State) (ch : Nat) : (begun s ch).userGaps = s.userGaps := by simp [State.userGaps, State.userUsed]

end

/-- Settles O22: each command's body past its checks; the new record has no copies yet. -/
theorem recordCommandsStoreReadAndDelete : Obligations.RecordCommandsStoreReadAndDelete := by
  refine ⟨fun s ch p q a hid hlen hmax harea hnew hfit hw => ?_, fun s ch seq b q a hid hr harea => ?_,
    fun s ch q a hid hr hw => ?_, fun s ch q a => exec_answers rfl a ?_⟩
  · refine exec_keeps rfl a ((nvStoreBody_new hid hlen hmax harea ((congrArg (tfind ·.recs _) (begun_nv s ch)).trans hnew) hfit hw).trans ?_)
    rw [checkedReq_ch a.2.2, begun_nv, begun_winRead]
  · exact exec_answers rfl a (nvReadBody_found hid (by rw [begun_nvRec, hr]) harea)
  · refine exec_keeps rfl a ((nvDeleteBody_waits hid (by rwa [begun_nvRec]) hw).trans ?_)
    rw [checkedReq_ch a.2.2]
  · simp only [nvStatusBody, begun_userGaps, begun_nv]
    rfl

end Sys2Proof.Claims
end

section
namespace Sys2Proof.Claims
open Sys2Proof.Machine

/-! ## The DRAM and its errors (O50) -/

section
variable {s : State} {chan : Nat}

section
variable (hs : s.ddrServes chan = true)
include hs

/-! ### Refresh (15 R428, R429) -/

theorem exec_dramRefresh_due (hsr : (s.ddrChan chan).selfRefresh = false)
    (hd : ((s.ddrChan chan).refreshWait : Int) ≤ 4 * sdiff 48 s.time.raw (s.ddrChan chan).refAt) :
    (let c := { s.ddrChan chan with refAt := s.time.raw, refreshWait := (s.ddrChan chan).refreshNs }
     exec (.dramRefresh chan) s = .next (if s.ddrPanic && decide (c.postponed < 8)
       then (s.setDdrChan chan { c with postponed := c.postponed + 1 }).bump .mem 9 else s.setDdrChan chan c)) :=
  congrArg Host.Outcome.next (if_neg (by simp [hs, hsr, hd]))

/-- The channel after its ranks have told the codes `a` and `b`. -/
def mr4Noted (s : State) (chan a b : Nat) : State :=
  s.setDdrChan chan { s.ddrChan chan with
    mr4 := tset (tset (s.ddrChan chan).mr4 0 a) 1 b
    mr4At := some s.time.raw
    refreshNs := if max a b ≤ 3 then 3904 else if max a b = 4 then 1952 else 976
    slowTimings := decide (6 ≤ max a b) }

/-- The hotter of two codes sets the interval; code 7 is counted, and told where the last telling is a minute ago. -/
theorem exec_mr4Read_due {a b : Nat} (hd : s.dueUs (s.ddrChan chan).mr4At 16000 = true) (ha : a < 8) (hb : b < 8) :
    (let v := (mr4Noted s chan a b).bump .mem 11
     let due := match (s.ddrChan chan).overtempAt with
       | none => true
       | some t => decide (t + 60 * 32768 ≤ s.time.aon)
     exec (.mr4Read chan [a, b]) s = .next (if max a b = 7
       then if due then (v.setDdrChan chan { v.ddrChan chan with overtempAt := some s.time.aon }).raise 0xD006 [u8 chan, u8 7] else v
       else mr4Noted s chan a b)) := by
  intro v due
  have hrun : exec (.mr4Read chan [a, b]) s = _ := congrArg Host.Outcome.next (if_neg (by simp [hs, hd]))
  have hhot : [a, b].foldl max 0 % 8 = max a b := by simp; omega
  have hmr4 : ∀ t : Tab Nat, ([a, b].zip (List.range [a, b].length)).foldl (fun t p => tset t p.2 (p.1 % 8)) t
      = tset (tset t 0 a) 1 b := fun t => by
    show tset (tset t 0 (a % 8)) 1 (b % 8) = _
    rw [Nat.mod_eq_of_lt ha, Nat.mod_eq_of_lt hb]
  rw [hrun, hhot]
  simp only [hmr4]
  rfl

/-! ### Row disturbance (15 R430) -/

theorem exec_rhThresholdRefresh_serves (bank row : Nat) :
    (let c := s.ddrChan chan
     let t := rhActivate (tget [] c.rh bank) row
     exec (.rhThresholdRefresh chan bank row) s = .next (
       if t.any (fun e => e.row == row && decide (s.pnat 0xD013 ≤ e.count)) then
         (s.setDdrChan chan { c with
           rh := tset c.rh bank (t.map (fun e => if e.row = row then { e with count := 0 } else e)) }).bump .mem 10
       else s.setDdrChan chan { c with rh := tset c.rh bank t })) :=
  congrArg Host.Outcome.next (if_neg (by simp [hs]))

theorem exec_rhTableClear_due (hr : s.ranUs (some (s.ddrChan chan).rhAt) 32000 = true) :
    exec (.rhTableClear chan) s = .next (s.setDdrChan chan { s.ddrChan chan with rh := [], rhAt := s.time.raw }) :=
  congrArg Host.Outcome.next (if_pos (by simp [hs, hr]))

/-! ### Self-refresh and drift (15 R432, R433, R438) -/

theorem exec_selfRefreshEntry_due (hd : s.srDue chan = true) : exec (.selfRefreshEntry chan) s
    = .next ((s.setDdrChan chan { s.ddrChan chan with selfRefresh := true }).bump .mem 12) :=
  congrArg Host.Outcome.next (if_pos (by simp [hs, hd]))

theorem exec_selfRefreshExit_entered (hsr : (s.ddrChan chan).selfRefresh = true) : exec (.selfRefreshExit chan false) s
    = .next ((s.setDdrChan chan { s.ddrChan chan with selfRefresh := false, busyAt := s.time.raw }).bump .mem 14) :=
  congrArg Host.Outcome.next (if_neg (by simp [hs, hsr]))

theorem exec_selfRefreshExit_beforeSre (hd : s.srDue chan = true) : exec (.selfRefreshExit chan true) s
    = .next ((s.setDdrChan chan { s.ddrChan chan with selfRefresh := false, busyAt := s.time.raw }).bump .mem 13) :=
  congrArg Host.Outcome.next (if_neg (by simp [hs, hd]))

theorem exec_dqsOscCheck_due {rank : Nat} (hd : s.dueUs (tfind (s.ddrChan chan).dqsAt rank) (1000 * s.pnat 0xD015) = true) (drift : Int) :
    exec (.dqsOscCheck chan rank drift) s = .next (s.dqsCheck chan rank drift) := congrArg Host.Outcome.next (if_pos (by simp [hs, hd]))

end

theorem srDue_idle (h0 : s.pnat 0xD014 ≠ 0) (hp : s.ddrPanic = false) (hsr : (s.ddrChan chan).selfRefresh = false)
    (hr : s.ranUs (some (s.ddrChan chan).busyAt) (s.pnat 0xD014) = true) : s.srDue chan = true := by
  simp [State.srDue, h0, hp, hsr, hr]

/-- A drift within the range that is not told moves the delays only by more than 2. -/
theorem dqsCheck_quiet {rank : Nat} {drift : Int} (hq : drift.natAbs ≤ 16) :
    (let c := { s.ddrChan chan with
        dqsAt := tset (s.ddrChan chan).dqsAt rank s.time.raw, drift := tset (s.ddrChan chan).drift rank drift }
     ((drift - tget 0 (s.ddrChan chan).driftMoved rank).natAbs ≤ 2 → s.dqsCheck chan rank drift = s.setDdrChan chan c)
     ∧ (2 < (drift - tget 0 (s.ddrChan chan).driftMoved rank).natAbs → s.dqsCheck chan rank drift
         = (s.setDdrChan chan { c with driftMoved := tset (s.ddrChan chan).driftMoved rank drift }).bump .mem 15)) := by
  have htold : ¬ (16 < drift.natAbs ∧ (tget 0 (s.ddrChan chan).drift rank).natAbs ≤ 16) := fun h => absurd h.1 (Nat.not_lt.2 hq)
  refine ⟨fun hm => ?_, fun hm => ?_⟩
  · simp only [State.dqsCheck, if_neg htold, decide_eq_false (Nat.not_lt.2 hm), Bool.false_eq_true, if_false]
  · simp only [State.dqsCheck, if_neg htold, decide_eq_true hm, if_true]

/-! ### Panic (15 R428) -/

/-- The counter of a port's panics. -/
def panicRow : RtPort → Nat
  | .firn => 7
  | .txf => 8

section
variable (ha : s.awake = true)
include ha

theorem exec_panicEntry_over {port : RtPort} {level : Nat} (hr : s.ddrReady = true) (hp : s.inPanic port = false)
    (hl : s.panicThreshold port ≤ level) : exec (.panicEntry port level) s
      = .next ((s.wakeDram.setPanic port true).bump .mem (panicRow port)) := by
  have hguard : (s.awake && s.ddrReady && !s.inPanic port && decide (s.panicThreshold port ≤ level)) = true := by simp [ha, hr, hp, hl]
  cases port <;> exact congrArg Host.Outcome.next (if_pos hguard)

/-- The last panic ends: the refreshes owed are issued on every channel. -/
theorem exec_panicExit_last {level : Nat} (hf : s.ddr.panicFirn = true) (ht : s.ddr.panicTxf = false)
    (hl : 2 * level < s.panicThreshold .firn) : exec (.panicExit .firn level) s = .next { s with ddr := { s.ddr with
      panicFirn := false, chans := s.ddr.chans.map (fun p => (p.1, { p.2 with postponed := 0 })) } } := by
  have hend : (s.setPanic .firn false).ddrPanic = false := ht
  have hguard : (s.awake && s.inPanic .firn && decide (2 * level < s.panicThreshold .firn)) = true := by simp [ha, State.inPanic, hf, hl]
  exact congrArg Host.Outcome.next ((if_pos hguard).trans (if_neg (by rw [hend]; decide)))

/-! ### Scrubs (15 R422, R435) -/

theorem exec_scrubPass_due (hr : s.ddrReady = true) (he : s.dramEcc = true) (h0 : s.pnat 0xD016 ≠ 0)
    (hran : s.ranMs s.ddr.scrubAt (3600000 * s.pnat 0xD016) = true) :
    exec .scrubPass s = .next (({ s with ddr := { s.ddr with scrubAt := s.time.aon } } : State).bump .mem 16) :=
  congrArg Host.Outcome.next (if_pos (by simp [ha, hr, he, h0, hran]))

theorem exec_sramScrub_corrects {bank n : Nat} (hb : bank < 32) (hran : s.ranMs (tget 0 s.ddr.bankAt bank) 3600000 = true) (hn : 0 < n) :
    exec (.sramScrub bank n) s = .next (((({ s with ddr := { s.ddr with
      bankAt := tset s.ddr.bankAt bank s.time.aon } } : State)).bumpBy .mem 1 n).logCe 0 bank 0) :=
  congrArg Host.Outcome.next ((if_neg (by simp [ha, Nat.not_le.2 hb, hran])).trans (if_neg (Nat.ne_of_gt hn)))

/-! ### Training (15 R436, R437) -/

/-- A training step of a channel that passes, with no eyes told. -/
theorem exec_trainingStepDone_passes {b : Board} (hb : s.board = some b) (hph : s.ddr.phase = .training) (hc : chan < s.ddrChans) :
    exec (.trainingStepDone true chan []) s = .next (
      if s.ddr.trainStep < 4 then { s with ddr := { s.ddr with trainStep := s.ddr.trainStep + 1 } }
      else if s.ddr.trainRank + 1 < b.ddr.ranks then
        { s with ddr := { s.ddr with trainStep := 0, trainRank := s.ddr.trainRank + 1 } }
      else if s.sys.boot = 3 then ((({ s with ddr := { s.ddr with
        phase := .ready, scrubAt := s.time.aon, rate := s.ddr.trainRate, trainStep := 0, trainRank := 0 } } : State).setBoot 4).raise
          0x0002 [u8 4])
      else { s with ddr := { s.ddr with
        phase := .ready, scrubAt := s.time.aon, rate := s.ddr.trainRate, trainStep := 0, trainRank := 0 } }) := by
  show execTrainingStepDone true chan [] s = _
  simp only [execTrainingStepDone, hb, if_true]
  exact congrArg _ (if_neg (by simp [hph, ha, Nat.not_le.2 hc]))

/-- A step that fails is told, and training goes on at the next lower rate or fails. -/
theorem exec_trainingStepDone_fails {b : Board} (hb : s.board = some b) (hph : s.ddr.phase = .training) (hc : chan < s.ddrChans) :
    (let u := s.raise 0xD004 [u16 s.ddr.trainRate, u8 s.ddr.trainStep, u8 chan, u8 s.ddr.trainRank]
     (∀ r : Nat, lowerRate s.ddr.trainRate = some r → exec (.trainingStepDone false chan []) s
       = .next { u with ddr := { s.ddr with trainRate := r, trainRank := 0, trainStep := 0 } })
     ∧ (lowerRate s.ddr.trainRate = none → exec (.trainingStepDone false chan []) s
       = .next { u with ddr := { s.ddr with phase := .failed } })) := by
  refine ⟨fun r hr => ?_, fun hr => ?_⟩ <;> show execTrainingStepDone false chan [] s = _ <;>
    simp only [execTrainingStepDone, hb, raise_ddr, hr] <;>
    exact congrArg _ ((if_neg (by simp [hph, ha, Nat.not_le.2 hc])).trans (if_neg Bool.false_ne_true))

/-! ### Errors in the SRAM (15 R422, 17 R463) -/

theorem exec_eccErrorDetected_sram {e : EccError} (hm : e.mem = .sram) : exec (.eccErrorDetected e) s
    = .next (if e.double then ((s.bump .mem 2).raise 0xD005 [u8 e.mem.code, u32 e.addr, u8 e.unit]).eccLost e
      else (s.bump .mem 1).logCe 0 e.bank 0) := by
  have hrun : exec (.eccErrorDetected e) s = .next (if e.double then s.eccUncorrected e else s.eccCorrected e) :=
    congrArg Host.Outcome.next (if_neg (by simp [ha, hm]))
  rw [hrun, State.eccUncorrected, State.eccCorrected]
  simp only [hm]

end
end

theorem ddrStatusBody_channel {s : State} {q : Req} (h : q.nat 1 < partChannels) :
    (let c := s.ddrChan (q.nat 1)
     ddrStatusBody q s = (okReply [tlvN 2 1 s.ddr.phase.code, tlvN 3 2 s.ddr.rate, ⟨4, u8 (tget 0 c.mr4 0) ++ u8 (tget 0 c.mr4 1)⟩,
       tlvN 5 2 c.refreshNs, tlvN 6 1 c.postponed, ⟨7, c.eyes⟩, ⟨8, leInt 1 (tget 0 c.drift 0) ++ leInt 1 (tget 0 c.drift 1)⟩], s)) :=
  if_neg (Nat.not_le.2 h)

/-- Settles O50: each event past its guard, by the branch that its premises choose. -/
theorem dramIsKeptTrainedAndReported : Obligations.DramIsKeptTrainedAndReported := by
  refine ⟨fun s chan hs hsr hd => ⟨fun hp h8 => ?_, fun hp => ?_⟩, fun s chan a b hs hd ha hb => ?_, fun s chan bank row hs => ?_,
    fun s chan hs hr => exec_rhTableClear_due hs hr, fun s level ha hr hp hl => exec_panicEntry_over (port := .firn) ha hr hp hl,
    fun s level ha hr hp hl => exec_panicEntry_over (port := .txf) ha hr hp hl,
    fun s level ha hf ht hl => ⟨_, exec_panicExit_last ha hf ht hl, rfl, fun p hp => ?_, rfl⟩,
    fun s chan hs h0 hp hsr hr => exec_selfRefreshEntry_due hs (srDue_idle h0 hp hsr hr),
    fun s chan hs hsr => exec_selfRefreshExit_entered hs hsr, fun s chan hs hd => exec_selfRefreshExit_beforeSre hs hd,
    fun s chan rank drift hs hd hq => ?_, fun s ha hr he h0 hran => exec_scrubPass_due ha hr he h0 hran,
    fun s bank n ha hb hran hn => exec_sramScrub_corrects ha hb hran hn, fun s b chan ha hb hph hc => ?_,
    fun s e ha hm => ?_, fun s ch q a h => ?_⟩
  · rw [exec_dramRefresh_due hs hsr hd, if_pos (by simp [hp, h8])]
  · rw [exec_dramRefresh_due hs hsr hd, if_neg (by rcases hp with hp | hp <;> simp [hp])]
  · have hread := exec_mr4Read_due hs hd ha hb
    refine ⟨fun hcool => hread.trans (congrArg _ (if_neg hcool)), fun hhot hnew => ?_, fun t hhot htold hrecent => ?_⟩
    · rw [hread, if_pos hhot, hnew]
      rfl
    · rw [hread, if_pos hhot, htold]
      exact congrArg _ (if_neg (by simpa using hrecent))
  · have hactivate := exec_rhThresholdRefresh_serves hs bank row
    refine ⟨fun hbelow => ?_, fun ⟨e, hmem, hrow, hcount⟩ => ?_⟩
    · rw [hactivate, if_neg]
      simpa using hbelow
    · rw [hactivate, if_pos]
      exact List.any_eq_true.2 ⟨e, hmem, by simp [hrow, hcount]⟩
  · obtain ⟨v, -, rfl⟩ := List.mem_map.1 hp
    rfl
  · obtain ⟨hkept, hmoved⟩ := dqsCheck_quiet (s := s) (chan := chan) (rank := rank) hq
    have hcheck := exec_dqsOscCheck_due hs hd drift
    exact ⟨fun hm => hcheck.trans (congrArg _ (hkept hm)), fun hm => hcheck.trans (congrArg _ (hmoved hm))⟩
  · have hpass := exec_trainingStepDone_passes ha hb hph hc
    refine ⟨fun h4 => ?_, fun h4 hrank => ?_, fun h4 hrank hboot => ?_, exec_trainingStepDone_fails ha hb hph hc⟩
    · rw [hpass, if_pos h4]
    · rw [hpass, if_neg (Nat.not_lt.2 h4), if_pos hrank]
    · rw [hpass, if_neg (Nat.not_lt.2 h4), if_neg (Nat.not_lt.2 hrank), if_pos hboot]
  · have hecc := exec_eccErrorDetected_sram ha hm
    exact ⟨fun hd => hecc.trans (congrArg _ (if_neg (by simp [hd]))), fun hd => hecc.trans (congrArg _ (if_pos hd))⟩
  · refine exec_answers rfl a ((ddrStatusBody_channel h).trans ?_)
    rw [begun_ddr]
    rfl

end Sys2Proof.Claims
end

section
namespace Sys2Proof.Claims
open Sys2Proof.Machine

/-! ## Power states (O51) -/

/-! ### DOZE gates every idle core (16 R446) -/

theorem tget_foldl_tset {α : Type} (d : α) (p : Nat → Prop) [DecidablePred p] (v : Nat → α) {c : Nat} (hp : p c) :
    ∀ (l : List Nat) (t : Tab α), c ∈ l ∨ tget d t c = v c →
      tget d (l.foldl (fun t i => if p i then tset t i (v i) else t) t) c = v c
  | [], _, h => h.resolve_left List.not_mem_nil
  | i :: l, t, h => by
    refine tget_foldl_tset d p v hp l _ ?_
    by_cases hi : c = i
    · subst hi
      exact .inr ((congrArg (tget d · c) (if_pos hp)).trans (tget_tset_same ..))
    · refine h.imp (fun hm => (List.mem_cons.1 hm).resolve_left hi) fun ht => ?_
      by_cases hq : p i
      · exact (congrArg (tget d · c) (if_pos hq)).trans ((tget_tset_other d t _ hi).trans ht)
      · exact (congrArg (tget d · c) (if_neg hq)).trans ht

/-- The cores of a machine in which every idle one has its clock stopped. -/
def gateIdle (s : State) : Tab Core :=
  (List.range 8).foldl (fun (t : Tab Core) i => if (s.core i).st = .idle then tset t i { s.core i with st := .gated } else t) s.cc.cores

theorem gateIdle_idle {s : State} {i : Nat} (hi : i < 8) (h : (s.core i).st = .idle) : (tget {} (gateIdle s) i).st = .gated :=
  congrArg Core.st (tget_foldl_tset {} (fun i => (s.core i).st = .idle) (fun i => { s.core i with st := .gated }) h _ _
    (.inl (List.mem_range.2 hi)))

theorem exec_dozeEntry_idle {s : State} (hl : s.live = true) (hp : s.sys.pstate = .active)
    (hc : ∀ i < 8, (s.core i).st = .idle ∨ (s.core i).st = .parked) (ht : s.ranUs s.pwr.dozeSince (s.pnat 0xE001) = true) :
    exec .dozeEntry s
      = .next (({ s with sys := { s.sys with pstate := .doze }, cc := { s.cc with cores := gateIdle s } } : State).bump .pwr 1) := by
  have hidle : s.coresIdle = true := by simpa [State.coresIdle] using hc
  exact congrArg Host.Outcome.next (if_pos (by simp [hl, hp, hidle, ht]))

/-! ### NAP, HIBERNATE and the always-on timer (16 R447-R452) -/

theorem exec_napEntry_quiet {s : State} (hl : s.live = true) (hp : s.sys.pstate = .doze) (hb : s.napBlockers = 0)
    (ht : s.ranUs s.pwr.napSince (s.pnat 0xE003) = true) : exec (.napEntry []) s = .next ((s.sleep .nap).bump .pwr 2) :=
  congrArg Host.Outcome.next (if_neg (by simp [hl, hp, hb, ht]))

theorem exec_napExit_wakes {s : State} {w : WakeSource} (hh : s.sys.hold.held = false) (hp : s.sys.pstate = .nap)
    (hl : s.latched w = true) (hw : s.wakes w true = true) (hs : w ≠ .scheduled) : exec (.napExit w) s = .next (s.endNap w) := by
  refine congrArg Host.Outcome.next ((if_neg (by simp [hh, hp, hl, hw])).trans ?_)
  rw [if_neg hs]

theorem exec_hibernatePrepare_due {s : State} (hl : s.live = true) (hp : s.sys.pstate = .doze) (hr : s.hibRun = true) {ok : Bool}
    {u : State} (h : State.prepRecords (s.imageRecords s.imageStale ++ [0x0400, 0x0300]) s = (ok, u)) :
    exec (.hibernatePrepare []) s = .next (if ok = true then u.enterHibernate
      else ({ u with pwr := { u.pwr with hibSince := some u.time.aon } } : State).bump .pwr 4) := by
  refine congrArg Host.Outcome.next ((if_neg (by simp [hl, hp, hr])).trans ?_)
  rw [h]
  cases ok <;> rfl

theorem exec_hibernateExit_wakes {s : State} {w : WakeSource} (hh : s.sys.hold.held = false) (hp : s.sys.pstate = .hibernate)
    (hl : s.latched w = true) (hw : s.wakes w false = true) : exec (.hibernateExit w) s = .next (s.endHibernate w) :=
  congrArg Host.Outcome.next (if_neg (by simp [hh, hp, hl, hw]))

theorem powered_of_not_off {s : State} (h : s.sys.pstate ≠ .off) : s.powered = true := by simpa [State.powered] using h

theorem exec_aonTimerFire_due {s : State} {t : Nat} (hh : s.sys.hold.held = false) (hp : s.sys.pstate ≠ .off)
    (hd : s.pwr.aonDue = some t) (ht : sdiff 48 t s.time.aon ≤ 0) :
    exec .aonTimerFire s = .next (({ s with pwr := { s.pwr with
      aonDue := some ((t + 32768 * s.pnat 0xE008) % 2 ^ 48) } } : State).latchWake 0) := by
  refine congrArg Host.Outcome.next ((if_neg (by simp [hh, powered_of_not_off hp])).trans ?_)
  rw [hd]
  exact if_neg (Int.not_lt.2 ht)

theorem pwrStatusBody_told {q : Req} (s : State) (hq : q.nat 1 ≤ 1) :
    pwrStatusBody q s = (okReply [tlvN 2 1 s.reportedEvent.2.sys.pstate.code, tlvN 3 4 s.reportedEvent.2.napBlockers,
        tlvN 4 4 s.reportedEvent.2.hibBlockers, tlvN 5 8 s.reportedEvent.1, tlvN 6 1 s.reportedEvent.2.pwr.latch,
        ⟨7, u16 s.reportedEvent.2.pwr.thawAddr ++ u8 s.reportedEvent.2.pwr.thawCmd⟩, tlvN 8 4 s.reportedEvent.2.pwr.lastExitUs,
        tlvN 9 2 (min 65535 s.reportedEvent.2.supplyMv), ⟨10, boolByte s.reportedEvent.2.pins.mains⟩],
      if q.nat 1 = 1 then { s.reportedEvent.2 with pwr := { s.reportedEvent.2.pwr with
        latch := 0, latchState := none, thawAddr := 0, thawCmd := 0 } } else s.reportedEvent.2) := by
  rw [pwrStatusBody, if_neg (Nat.not_lt.2 hq)]

/-- Settles O51: each row by its own equation, and the status by what its body answers. -/
theorem powerStatesAreEnteredAndLeft : Obligations.PowerStatesAreEnteredAndLeft := by
  unfold Obligations.PowerStatesAreEnteredAndLeft
  refine ⟨fun s hl hp hc ht => ⟨_, exec_dozeEntry_idle hl hp hc ht, rfl, ctr_bump_same .., fun i hi h => gateIdle_idle hi h, rfl, rfl, rfl⟩,
    fun _ => exec_napEntry_quiet, fun _ _ => exec_napExit_wakes,
    fun s u hl hp hr => ⟨fun h => (exec_hibernatePrepare_due hl hp hr h).trans (congrArg _ (if_pos rfl)),
      fun h => (exec_hibernatePrepare_due hl hp hr h).trans (congrArg _ (if_neg Bool.false_ne_true))⟩,
    fun _ _ => exec_hibernateExit_wakes, fun _ _ => exec_aonTimerFire_due,
    fun s ch q a hq => exec_answers rfl a (pwrStatusBody_told _ hq)⟩

end Sys2Proof.Claims
end

section
namespace Sys2Proof.Claims
open Sys2Proof.Machine

/-! ## Resets and boot (O52) -/

/-! ### The causes of a reset (17 R467, 18 R484, R485) -/

theorem exec_powerOnReset_off {s : State} (h : s.sys.pstate = .off) : exec .powerOnReset s = .next (s.deviceReset rcPowerOn) :=
  congrArg Host.Outcome.next (if_neg (by simp [State.powered, h]))

theorem exec_jtagReset_powered {s : State} (h : s.sys.pstate ≠ .off) : exec .jtagReset s = .next (s.deviceReset rcJtag) :=
  congrArg Host.Outcome.next (if_pos (powered_of_not_off h))

theorem exec_sysResetTakesEffect_due {s : State} (h : s.sys.pstate ≠ .off) (hp : s.sys.resetPending = true)
    (ht : 0 ≤ sdiff 48 s.time.aon s.sys.resetAt) : exec .sysResetTakesEffect s = .next (s.deviceReset rcHost) :=
  congrArg Host.Outcome.next (if_pos (by simp [powered_of_not_off h, hp, ht]))

theorem exec_resetPin_long {s : State} {n : Nat} (h : s.sys.pstate ≠ .off) (hn : 1000 ≤ n) :
    exec (.resetPin n) s = .next (s.deviceReset rcPin) := by
  have hguard : ¬ (!s.powered || decide (n < 100)) = true := by
    simp only [powered_of_not_off h, Bool.not_true, Bool.false_or, decide_eq_true_eq]
    omega
  exact congrArg Host.Outcome.next ((if_neg hguard).trans (if_pos hn))

theorem exec_resetPin_short {s : State} {n : Nat} (hn : n < 100) : exec (.resetPin n) s = .next s :=
  congrArg Host.Outcome.next (if_pos (by simp [hn]))

theorem exec_brownoutReset_powered {s : State} (h : s.sys.pstate ≠ .off) :
    exec .brownoutReset s = .next { s.deviceReset rcBrownout with sys := { (s.deviceReset rcBrownout).sys with
      hold := { (s.deviceReset rcBrownout).sys.hold with coreLow := true } } } :=
  congrArg Host.Outcome.next (if_neg (by simp [powered_of_not_off h]))

theorem exec_vddAonLoss_powered {s : State} (h : s.sys.pstate ≠ .off) :
    exec .vddAonLoss s = .next { s.deviceReset rcPowerOn with sys := { (s.deviceReset rcPowerOn).sys with
      pstate := .off, hold := { (s.deviceReset rcPowerOn).sys.hold with aonLost := true } } } :=
  congrArg Host.Outcome.next (if_neg (by simp [powered_of_not_off h]))

theorem exec_vddIo18_powered {s : State} (h : s.sys.pstate ≠ .off) :
    exec .vddIo18BelowThreshold s = .next { (s.deviceReset rcPin).draw.2 with sys := { (s.deviceReset rcPin).sys with
      cause := (s.deviceReset rcPin).draw.1 % 256, hold := { (s.deviceReset rcPin).sys.hold with io18Low := true } } } :=
  congrArg Host.Outcome.next (if_neg (by simp [powered_of_not_off h]))

theorem exec_sysWatchdogExpiry_due {s : State} (hl : s.live = true) (ht : 1000000 * s.pnat 0xF001 ≤ 4 * s.cc.quiet) :
    exec .sysWatchdogExpiry s = .next ((s.logFault 8 0 0).faultReset rcWatchdog) :=
  congrArg Host.Outcome.next (if_pos (by simp [hl, ht]))

/-- With no write in progress there is nothing for a reset to settle. -/
theorem settleNv_idle {s : State} (h : s.nv.busy = none) (cause : Nat) : s.settleNv cause = s := by rw [State.settleNv, h]

theorem deviceReset_pwr (s : State) (cause : Nat) :
    (s.deviceReset cause).pwr.latch = if cause = 1 then 0 else (s.settleNv cause).pwr.latch := by
  by_cases h : cause = 1
  · subst h
    rfl
  · rw [if_neg h]
    have hcause : ¬ (cause == rcPowerOn) = true := by simpa [rcPowerOn] using h
    exact (congrArg Pwr.latch (if_neg hcause)).trans rfl

theorem deviceReset_count (s : State) (cause : Nat) :
    (s.deviceReset cause).sys.count = if cause = 1 then 0 else min 65535 ((s.settleNv cause).sys.count + 1) := by
  by_cases h : cause = 1
  · subst h
    rfl
  · rw [if_neg h]
    exact if_neg (by simpa [rcPowerOn] using h)

/-! ### The start (17 R471, 18 R482, R485) -/

theorem exec_resetRelease_held {s : State} (x : Straps) (hp : s.sys.pstate ≠ .off) (hh : s.sys.hold.held = true) :
    exec (.resetRelease x) s = .next (if x.boot = 3
      then ({ s with sys := { s.sys with hold := {}, straps := x } } : State).setBoot 0xF
      else { s with sys := { s.sys with hold := {}, straps := x } }) :=
  congrArg Host.Outcome.next (if_neg (by simp [powered_of_not_off hp, hh]))

/-- Whether the image of a slot is there and passed its check. -/
def imageGood (a b : Bool) (s : State) (k : Nat) : Bool := (if k = 0 then a else b) && (s.slot k).state != .empty

section
variable {s : State} (hh : s.sys.hold.held = false) (hp : s.sys.pstate ≠ .off)
include hh hp

theorem exec_bootImageCheckDone_rom (hb : s.sys.boot ≤ 1) (a b : Bool) :
    exec (.bootImageCheckDone a b) s = .next (match s.bootOrder.find? (imageGood a b s) with
      | none => s.setBoot 0xF
      | some k => { s with
          sys := { s.sys with boot := 2, fwSlot := k, fwVersion := (s.slot k).version, rollback := s.rollsBack k }
          pins := { s.pins with ppsDriven := true } }) :=
  congrArg Host.Outcome.next (if_neg (by simp [hh, powered_of_not_off hp, hb]))

theorem exec_bootImageCheckDone_first (hb : s.sys.boot ≤ 1) {a b : Bool} {k : Nat} {l : List Nat} (ho : s.bootOrder = k :: l)
    (hk : (if k = 0 then a else b) = true) (hs : (s.slot k).state ≠ .empty) :
    exec (.bootImageCheckDone a b) s = .next { s with
      sys := { s.sys with boot := 2, fwSlot := k, fwVersion := (s.slot k).version, rollback := s.rollsBack k }
      pins := { s.pins with ppsDriven := true } } := by
  have hgood : imageGood a b s k = true := by simp [imageGood, hk, hs]
  rw [exec_bootImageCheckDone_rom hh hp hb, ho, List.find?_cons_of_pos hgood]

theorem exec_bootImageCheckDone_none (hb : s.sys.boot ≤ 1) : exec (.bootImageCheckDone false false) s = .next (s.setBoot 0xF) := by
  have hnone : s.bootOrder.find? (imageGood false false s) = none := List.find?_eq_none.2 fun k _ => by simp [imageGood]
  rw [exec_bootImageCheckDone_rom hh hp hb, hnone]

end

/-! ### Eotre's start (17 R471) -/

theorem releaseHost_eq (s : State) : ∃ n h e c, s.releaseHost = { s with freeCtr := n, hif := h, evs := e, ctrs := c } := by
  unfold State.releaseHost State.assertLine State.notify
  simp only
  split
  · split <;> exact ⟨_, _, _, _, rfl⟩
  · exact ⟨_, _, _, _, rfl⟩

/-- BOOT 3 is a cause of the host line; it changes nothing beside. -/
theorem setBoot_three_eq (s : State) :
    ∃ n h e c, s.setBoot 3 = { s with sys := { s.sys with boot := 3 }, freeCtr := n, hif := h, evs := e, ctrs := c } := by
  rw [State.setBoot, if_pos (.inl rfl), State.hostCauseNow]
  split
  · exact ⟨_, _, _, _, rfl⟩
  · obtain ⟨n, h, e, c, heq⟩ := releaseHost_eq
      { s with sys := { s.sys with boot := 3 }, evs := { s.evs with boot := true } }
    exact ⟨n, h, e, c, heq.trans rfl⟩

theorem setBoot_three_sys (s : State) : (s.setBoot 3).sys = { s.sys with boot := 3 } := by
  obtain ⟨n, h, e, c, heq⟩ := setBoot_three_eq s
  rw [heq]

theorem setBoot_three_flt (s : State) : (s.setBoot 3).flt = s.flt := by
  obtain ⟨n, h, e, c, heq⟩ := setBoot_three_eq s
  rw [heq]

/-- The machine that EOTRE_READY leaves before its later reports: the image's tables, BOOT 3 and EV_READY. -/
def eotreStarted (image : EotreImage) (s : State) : State :=
  ((({ s with cc := { s.cc with templates := image.templates, irqs := image.sources, groups := image.coalescers } } : State).setBoot 3).raise
    0x0002 [u8 3])

theorem eotreStarted_sys (image : EotreImage) (s : State) : (eotreStarted image s).sys = { s.sys with boot := 3 } := by
  rw [eotreStarted, raise_sys, setBoot_three_sys]

theorem eotreStarted_flt (image : EotreImage) (s : State) : (eotreStarted image s).flt = s.flt := by
  rw [eotreStarted, raise_flt, setBoot_three_flt]

theorem exec_eotreReady_plain {s : State} (image : EotreImage) (hh : s.sys.hold.held = false) (hp : s.sys.pstate ≠ .off)
    (hb : s.sys.boot = 2) (hr : s.sys.rollback = false) (hw : s.flt.waiting = []) (hl : (eotreStarted image s).lockBytes = none) :
    exec (.eotreReady image) s
      = .next ((List.range 8).foldl (fun (s : State) ch => State.refuseUnknown ch 16 s) (eotreStarted image s).reportThaw) := by
  have hrun : exec (.eotreReady image) s = .next (
      let s := eotreStarted image s
      let s := if s.sys.rollback then s.raise 0xF004 [u8 s.sys.fwSlot, u32 s.sys.fwVersion] else s
      let s := match s.lockBytes with
        | some l => if s.lockedProfile.isNone then s.raise 0x5002 [u32 (fieldAt l 0 4)] else s
        | none => s
      let s := if s.flt.waiting.isEmpty then s else s.recordDue 0x0700 false
      (List.range 8).foldl (fun (s : State) ch => State.refuseUnknown ch 16 s) s.reportThaw) :=
    congrArg Host.Outcome.next (if_neg (by simp [hh, powered_of_not_off hp, hb]))
  have hrollback : (eotreStarted image s).sys.rollback = false := by rw [eotreStarted_sys, hr]
  have hwaiting : (eotreStarted image s).flt.waiting.isEmpty = true := by rw [eotreStarted_flt, hw, List.isEmpty_nil]
  rw [hrun]
  simp only [hrollback, hl, hwaiting, Bool.false_eq_true, if_false, if_true]

/-- Settles O52: each cause by its own equation, the fields of a reset from its definition, and each step of the start by its guard. -/
theorem resetsAndBootFollowTheirCause : Obligations.ResetsAndBootFollowTheirCause := by
  unfold Obligations.ResetsAndBootFollowTheirCause
  refine ⟨fun s => ⟨exec_powerOnReset_off, exec_jtagReset_powered, exec_sysResetTakesEffect_due, fun n => exec_resetPin_long,
      fun n => exec_resetPin_short, fun h => ⟨_, exec_brownoutReset_powered h, rfl, rfl, rfl⟩,
      fun h => ⟨_, exec_vddAonLoss_powered h, rfl, rfl, rfl⟩, fun h => ⟨_, exec_vddIo18_powered h, rfl, rfl, rfl⟩,
      exec_sysWatchdogExpiry_due⟩,
    fun s cause => ⟨rfl, rfl, rfl, rfl, rfl, rfl, rfl, rfl, rfl, rfl, rfl, rfl, fun hb => ?_⟩,
    fun s x => exec_resetRelease_held x,
    fun s a b k l hh hp hb => exec_bootImageCheckDone_first hh hp hb,
    fun s => exec_bootImageCheckDone_none,
    fun s image hh hp hb hr hw hl => ⟨exec_eotreReady_plain image hh hp hb hr hw hl, congrArg Sys.boot (eotreStarted_sys image s)⟩,
    fun s ch q a => exec_answers rfl a ?_⟩
  · have hsettled := settleNv_idle hb cause
    refine ⟨(congrArg State.pending hsettled :), (deviceReset_count s cause).trans ?_, (deviceReset_pwr s cause).trans ?_,
      (congrArg State.startSlots hsettled :), (congrArg State.startRecs hsettled :)⟩ <;> rw [hsettled]
  · rw [← begun_time s ch]
    rfl

end Sys2Proof.Claims
end

section
namespace Sys2Proof.Claims
open Sys2Proof.Machine

/-! ## Faults and firmware (O53) -/

/-- Eotre runs and the cores are taking over the other slot's image. -/
def activatingImage : State := { sys := { boot := 3 }, fw := { activating := true } }

theorem activatingImage_live : activatingImage.fw.activating = true ∧ activatingImage.live = true := ⟨rfl, rfl⟩

/-- What ACTIVATION_COMPLETED without changed templates leaves there. -/
def activatedImage : State :=
  ((({ activatingImage with
    fw := { activatingImage.fw with
      activating := false
      slots := tmod {} activatingImage.fw.slots activatingImage.otherSlot (fun x => { x with state := .trial }) }
    sys := { activatingImage.sys with
      fwSlot := activatingImage.otherSlot
      fwVersion := (activatingImage.slot activatingImage.otherSlot).version } } : State).bump .flt 6).raise
    0xF003 [u32 (activatingImage.slot activatingImage.otherSlot).version, u8 0])

theorem exec_activationCompleted_activating : exec (.activationCompleted []) activatingImage = .next activatedImage :=
  congrArg Host.Outcome.next (if_neg (by decide))

/-- EV_FW_ACTIVATED lies in the first event slot. -/
theorem activatedImage_event : readBytes activatedImage.mem 0x10020000 2 = u16 0xF003 := rfl

/-- Refutes O53: it says that a completed activation leaves memory as it was, but its event is written into the event ring there
(02 R38, 17 R470). -/
theorem not_faultsAndFirmwareAreHandled : ¬ Obligations.FaultsAndFirmwareAreHandled := by
  unfold Obligations.FaultsAndFirmwareAreHandled
  rintro ⟨-, -, -, -, -, -, hcompleted, -⟩
  obtain ⟨hactivating, hlive⟩ := activatingImage_live
  obtain ⟨t, ht, -, -, -, -, hmem, -⟩ := hcompleted activatingImage hactivating hlive
  obtain rfl : activatedImage = t := Host.Outcome.next.inj (exec_activationCompleted_activating.symm.trans ht)
  have hread := activatedImage_event
  rw [hmem] at hread
  exact absurd hread (by decide)

end Sys2Proof.Claims
end
